-- ==== Sys2Proof/Word.lean ====
section
/-! DEFINITION. The word types of the block, its plainest arithmetic, and the banks that hold its numbered units. -/

namespace Sys2Proof

/-- A register word (R12). -/
abbrev Word := BitVec 32
/-- A byte of a record in host memory (R19). -/
abbrev Byte := BitVec 8
/-- A mark number, 40 bits (R10). -/
abbrev Mark := BitVec 40
/-- A ridge count, 48 bits (R10). -/
abbrev Ridge := BitVec 48
/-- A sequence number of a commit set or a descriptor (R114, R178). -/
abbrev Seq := BitVec 32

/-- How far mark `t` lies ahead of mark `c`, modulo 2^40 (R86). -/
def Mark.dist (t c : Mark) : Nat := (t - c).toNat

/-- `t` lies ahead of the current mark `c` (R86). -/
def Mark.ahead (t c : Mark) : Bool := 1 ≤ Mark.dist t c && Mark.dist t c < 2 ^ 39

/-- `t` has passed at the current mark `c` (R86). -/
def Mark.passed (t c : Mark) : Bool := 2 ^ 39 ≤ Mark.dist t c

/-- The mark number of a ridge count (R10). -/
def Ridge.mark (r : Ridge) : Mark := (r >>> 8).setWidth 40

/-- The ridge tick within its mark (R10). -/
def Ridge.tick (r : Ridge) : Nat := (r.setWidth 8 : BitVec 8).toNat

/-- The ridge count of tick 0 of a mark. -/
def Ridge.ofMark (m : Mark) : Ridge := (m.setWidth 48) <<< 8

/-- Bits `[hi:lo]` of a word, as a number. -/
def Word.bits (w : Word) (hi lo : Nat) : Nat := (w.toNat / 2 ^ lo) % 2 ^ (hi + 1 - lo)

/-- Bit `i` of a word. -/
def Word.bit (w : Word) (i : Nat) : Bool := w.getLsbD i

/-- The word whose bits `[hi:lo]` are ones. -/
def Word.mask (hi lo : Nat) : Word := BitVec.ofNat 32 ((2 ^ (hi + 1 - lo) - 1) * 2 ^ lo)

/-- The word with bits `[hi:lo]` replaced by `v`. -/
def Word.put (w : Word) (hi lo v : Nat) : Word :=
  (w &&& ~~~ Word.mask hi lo) ||| (BitVec.ofNat 32 (v % 2 ^ (hi + 1 - lo) * 2 ^ lo))

/-- One field of a register read: the value `v`, cut to `n` bits, at bit `lo`. -/
def Word.fld (n lo v : Nat) : Word := BitVec.ofNat 32 (v % 2 ^ n * 2 ^ lo)

/-- A flag at bit `lo`. -/
def Word.flag (lo : Nat) (b : Bool) : Word := if b then BitVec.ofNat 32 (2 ^ lo) else 0

/-- A signed number in `n` bits of two's complement, as the natural number of those bits. -/
def twos (n : Nat) (v : Int) : Nat := (v % (2 ^ n : Int)).toNat

/-- The signed number that `n` bits of two's complement spell. -/
def fromTwos (n v : Nat) : Int := if v % 2 ^ n < 2 ^ (n - 1) then (v % 2 ^ n : Nat) else (v % 2 ^ n : Nat) - (2 ^ n : Int)

/-- A signed number held inside `[-b, b]`. -/
def satInt (b v : Int) : Int := max (-b) (min b v)

/-- The `n` bytes of a number, lowest first (R19). -/
def le : Nat → Nat → List Byte
  | 0, _ => []
  | n + 1, v => BitVec.ofNat 8 v :: le n (v / 256)

/-- The number that bytes spell, lowest first (R19). -/
def unle : List Byte → Nat
  | [] => 0
  | b :: bs => b.toNat + 256 * unle bs

/-- `n` bytes of a record from offset `k`, as a number; bytes past the end read 0. -/
def field (bs : List Byte) (k n : Nat) : Nat := unle ((bs.drop k).take n)

/-- The smallest whole number not below `a / b`. -/
def ceilDiv (a b : Nat) : Nat := (a + b - 1) / b

/-- The whole number nearest to `a / b`, halves upward (R146). -/
def roundDiv (a : Int) (b : Nat) : Int := (2 * a + b) / (2 * b)

/-- One bit of the CRC of IEEE 802.3, least significant bit first. -/
def crcBit (c : Word) : Word := if c.getLsbD 0 then (c >>> 1) ^^^ 0xEDB88320#32 else c >>> 1

/-- One byte of the CRC. -/
def crcByte (c : Word) (b : Byte) : Word :=
  crcBit (crcBit (crcBit (crcBit (crcBit (crcBit (crcBit (crcBit (c ^^^ b.setWidth 32))))))))

/-- CRC-32 of IEEE 802.3 (R302, R415). -/
def crc32 (bs : List Byte) : Word := ~~~ (bs.foldl crcByte 0xFFFFFFFF#32)

/-- Unit `i` of a bank, or `d` where the bank has no such unit. -/
def bget {α : Type} {n : Nat} (v : Vector α n) (d : α) (i : Nat) : α := if h : i < n then v[i] else d

/-- The bank with unit `i` changed by `f`. -/
def bmod {α : Type} {n : Nat} (v : Vector α n) (i : Nat) (f : α → α) : Vector α n :=
  if h : i < n then v.set i (f v[i]) else v

/-- The list with element `i + k` replaced by `f (i + k)` of it. -/
def mapFrom {α : Type} (f : Nat → α → α) : Nat → List α → List α
  | _, [] => []
  | k, a :: as => f k a :: mapFrom f (k + 1) as

theorem mapFrom_length {α : Type} (f : Nat → α → α) (as : List α) (k : Nat) :
    (mapFrom f k as).length = as.length := by
  induction as generalizing k with
  | nil => rfl
  | cons a as ih => simp [mapFrom, ih]

/-- The bank with every unit changed by `f` of its number. -/
def bmap {α : Type} {n : Nat} (v : Vector α n) (f : Nat → α → α) : Vector α n :=
  ⟨⟨mapFrom f 0 v.toList⟩, by simp [mapFrom_length]⟩

/-- Element `i` of a list of numbers, 0 past its end. -/
def nth (l : List Nat) (i : Nat) : Nat := l.getD i 0

/-- The list with element `i` replaced by `v`. -/
def setNth {α : Type} (l : List α) (i : Nat) (v : α) : List α := l.set i v

/-- Bits `[0..]` of a number from a list of flags, the first at bit 0. -/
def flagsNat : List Bool → Nat
  | [] => 0
  | b :: bs => (if b then 1 else 0) + 2 * flagsNat bs

end Sys2Proof
end

