-- ==== Sys2Proof/Config.lean ====
section
/-! DEFINITION. What one implementation fixes, and the values that the spec leaves open. Each is a constant with no body: nothing can be proved about its value, so a claim holds whatever it is. -/

namespace Sys2Proof.Config

/-- VGL_VER.STEPPING, per stepping (R529). -/
opaque stepping : Byte

/-- COL_ID.REV, per stepping and the same in all 25 Cols (R494). -/
opaque colRev : BitVec 4

/-- The design DCO code of an FCODE, used where no bin and no bank F gives one (R360, R381, R485): the spec names it and gives no value. DESIGN CHOICE, notes/assumptions/8.md. -/
opaque designCode : Nat → BitVec 16

/-- A design trim (offset, threshold, monitor or delay line) by its item number, used under the design defaults (R381, R385): the spec gives no value. -/
opaque designTrim : Nat → Byte

/-- The factory seed of the self-test pattern generator, built into the design (R416): the spec names it and gives no value. -/
opaque factorySeed : BitVec 64

/-- The design revision of a unit that enters the configuration hash (R415), by unit kind: the spec gives no value. -/
opaque unitRev : Nat → Byte

/-- The density that the board's flash device gives in its SFDP, bytes (R371, R372): it belongs to the device. -/
opaque flashDensity : Nat

/-- The read modes that its SFDP advertises (R372). -/
opaque flashMode : Nat → Bool

/-- The offset of Lookout's temperature sensor, 0.25 degC, as its record holds it (R376): no rule sets it. -/
opaque lookoutSensor : Byte

/-- The factory section of bank F as the test equipment loads it through IEEE 1687 (R380): the spec gives its length and who uses it, not its layout. -/
opaque factorySection : List Byte

/-- The HMAC-SHA-256 of some bytes with the device-unique key, which only the security block holds (R377). -/
opaque deviceMac : List Byte → List Byte

/-- The integrator of the loop filter after a comparison (R102): by SPR_LOOPCFG.BW, the integrator before it and the phase error in 1/16 phase. R102 gives the bandwidth and the damping and not the gains. -/
opaque filterInteg : Bool → BitVec 22 → Int → BitVec 22

/-- The output of the loop filter after a comparison, integral and proportional part (R102): by SPR_LOOPCFG.BW, the integrator after it and the phase error. -/
opaque filterOut : Bool → BitVec 22 → Int → BitVec 22

/-- The `k`-th free value of a run: a value that the spec says the block produces without saying which (a signature over a part of a test, an unstated result). -/
opaque freeWord : Nat → BitVec 32

end Sys2Proof.Config
end

