-- ==== Sys2Proof/Syntax.lean ====
section
/-! DEFINITION. The commands of the block: one constructor of `Instr` for each row of spec/opcode_table.json, with the operands that reach the block from outside in that step. The table gives its rows no operands; those below name the unit that acts and what the block's surroundings measured or sent. -/

namespace Sys2Proof

/-- The contents of one stage command for one domain: the two slots of R114, with the fence operations by Spur. -/
structure StageCmd where
  /-- sequence number -/
  seq : Seq
  /-- target mark -/
  target : Mark
  /-- conditional group, 0 for none -/
  group : Nat
  /-- FCODE after the commit -/
  fcode : Nat
  /-- ladder step after the commit -/
  step : Nat
  /-- 1 when FCODE rises -/
  up : Bool
  /-- format class -/
  fmt : Nat
  /-- format ceiling FCODE after the commit -/
  ceil : Nat
  /-- Spurs with a FENCE_OP: 1 fence, 2 unfence -/
  fences : List (Nat × Nat)
  /-- applies the RWS shadows -/
  regs : Bool
  deriving DecidableEq, Repr

/-- What a DCO excursion slot measured (R347): the two frequencies of the gain slot, or the frequency of the entry that is due, in Hz. -/
inductive Excursion where
  | gain (fMinus fPlus : Nat)
  | entry (hz : Nat)
  deriving DecidableEq, Repr

/-- A unit with a Cairn record (R340). -/
inductive CalUnit where
  | spur (n : Fin 425)
  | saddle (s : Fin 760)
  | lookout
  deriving DecidableEq, Repr

/-- The items of a native window that the plausibility check judges (R357), each with its measured result. -/
inductive CalItem where
  /-- DCO gain, 0.1 ppm per LSB -/
  | gain (v : Nat)
  /-- the code of one FCODE, as measured from the locked loop or by an excursion -/
  | code (fcode : Nat) (v : BitVec 16)
  /-- a detector: raw comparator offset and offset DAC in 0.25 mV, residual in 0.25 mV, three threshold trims -/
  | detector (q : Fin 4) (raw dac resid : Int) (thr : List Nat)
  /-- a margin monitor's delay line -/
  | monitor (q : Fin 8) (v : Nat)
  /-- an edge timer: tap widths less 1 phase, in 1/256 phase -/
  | timer (q : Fin 8) (widths : List Int)
  /-- a temperature sensor's offset, 0.25 degC -/
  | sensor (q : Fin 2) (v : Int)
  /-- a Saddle's leaf-side skew, ps, and the residual after trimming, ps -/
  | skew (ps resid : Int)
  /-- a borrow path's delay line, toward the higher region or the lower -/
  | borrow (toHigher : Bool) (v : Nat)
  deriving DecidableEq, Repr

/-- One result of a native window: the unit, and what was measured. -/
structure CalResult where
  /-- the unit measured -/
  unit : CalUnit
  /-- what was measured -/
  item : CalItem
  deriving DecidableEq, Repr

/-- How far the flash device has come with a save (R382): begun, the first n records of R374's order taken (Spurs 0 to 424, Saddles 0 to 759, Lookout), done, or failed in a step at an address with the cause of R388 byte 21 (0 compare, 1 timeout, 2 verify). -/
inductive FlashResult where
  | started
  | taken (n : Nat)
  | done
  | failed (step : Nat) (addr : Nat) (cause : Fin 3)
  deriving DecidableEq, Repr

/-- The readings of an interpolator at an arm, in 1/2 code (R393): over one root period and over two. -/
structure Readings where
  /-- over one root period -/
  one : Nat
  /-- over two root periods -/
  two : Nat
  deriving DecidableEq, Repr

/-- A regulator's answer (R461, R462). -/
inductive AvsReply where
  /-- a voltage write completed -/
  | written
  /-- a status read: VDone and the alert -/
  | status (vdone alert : Bool)
  /-- a rail voltage reading, mV -/
  | rail (mv : Nat) (alert : Bool)
  /-- a rail current reading, in LSBs of the board table -/
  | current (lsb : Nat) (alert : Bool)
  deriving DecidableEq, Repr

/-- The wake sources of R473. -/
inductive WakeCause where
  | evt (i : Fin 4) (falling : Bool)
  | host
  | rail
  | thermal
  deriving DecidableEq, Repr

/-- The life-cycle states (R495). -/
inductive LifeCycle where
  | blank
  | provisioned
  | deployed
  | service
  | returned
  deriving DecidableEq, Repr

/-- The factory section of bank F as read at boot (R380): guard-rated ceilings of each Spur, one per format class, the expected signatures of each Spur for p from 12 to 20, those of each Col instance (primary then standby), and the trim of the local oscillator. -/
structure Factory where
  /-- guard-rated ceilings, by Spur -/
  guards : List (List Nat)
  /-- expected signatures, by Spur, for p from 12 to 20 -/
  spurSigs : List (List (BitVec 64))
  /-- expected signatures, by Col and copy (2f + i) -/
  colSigs : List (List (BitVec 64))
  /-- the trim of the local oscillator, of its Lookout record -/
  oscTrim : Nat
  deriving DecidableEq, Repr

/-- How a write reaches the window (R12, R17, R506). -/
structure WritePath where
  /-- bytes written -/
  width : Nat
  /-- through IEEE 1687, and not through the register window -/
  tap : Bool
  /-- in the control cycle of the commands since the last ridge tick or the last write without this mark -/
  same : Bool
  deriving DecidableEq, Repr

/-- A read of an offset of the window (R12, R14). -/
structure Load where
  /-- the offset -/
  addr : Nat
  /-- bytes read -/
  width : Nat
  deriving DecidableEq, Repr

/-- A read of LKO_SNAP_FRAC or LKO_PPSIN_FRAC (R12, R405). -/
structure FracLoad where
  /-- of the PPS_IN capture, and not of the snapshot -/
  pps : Bool
  /-- bytes read -/
  width : Nat
  deriving DecidableEq, Repr

/-- The time of an edge as a channel's interpolator finds it (R392, R393): the root period of the present ridge tick that holds the second root edge after it, and the raw code measured to that edge. -/
structure EdgeTime where
  /-- the root period -/
  root : Fin 10
  /-- the raw code -/
  code : Nat
  deriving DecidableEq, Repr

/-- The Col copies whose power-on run ended in FAIL (R421, R422). -/
structure PorCols where
  /-- fields whose primary Col copy failed -/
  colPFail : List Nat
  /-- fields whose standby Col copy failed -/
  colSFail : List Nat
  deriving DecidableEq, Repr

/-- The commands of the block, one per row of spec/opcode_table.json. -/
inductive Instr where
  /-- REGISTER_WRITE (R16): A write to a register that has no row of its own takes effect according to its access code, or is ignored with CFG_RANGE, CFG_BUSY or CFG_LOCKED. -/
  | registerWrite (addr : Nat) (value : Word) (how : WritePath)
  /-- WIDE_LOW_WORD_READ (R14): A read of the low word of a quantity wider than 32 bits latches its high word. -/
  | wideLowWordRead (load : Load)
  /-- SNAPSHOT_FRAC_READ (R405): A read of LKO_SNAP_FRAC or LKO_PPSIN_FRAC latches the other words of that snapshot. -/
  | snapshotFracRead (load : FracLoad)
  /-- LAST_EVENT_READ (R532): A read of VGL_LAST_A latches VGL_LAST_B, VGL_LAST_TLO and VGL_LAST_THI. -/
  | lastEventRead
  /-- MARK_BEACON (R43): At ridge tick 0 of every mark, the active Summit sends the mark beacon on both spines. -/
  | markBeacon
  /-- BEACON_ARRIVAL (R84): A Col receives the beacon, checks both of its ridge counters against it and accepts its sender as the commanding instance. -/
  | beaconArrival (f : Fin 25) (m : Mark) (sender : Bool) (driftA driftB : Ridge) (skew : Int)
  /-- RIDGE_COUNTER_RELOAD (R84): At the next mark, a failed ridge counter is loaded from the counter of the healthy spine. -/
  | ridgeCounterReload (f : Fin 25)
  /-- RIDGE_COUNT_WRAP (R83): The ridge count wraps modulo 2^48 and EPOCH is incremented. -/
  | ridgeCountWrap
  /-- COMMAND_RECEIVE (R42): A Col acts on a command from its selected spine and compares it with the copy from the other spine. -/
  | commandReceive (f : Fin 25) (a b : Word)
  /-- FIELD_REPORT (R44): In its report slot, a Col sends its 40-byte field report with its state as it stood at the first tick of the slot. -/
  | fieldReport (f : Fin 25)
  /-- MIRROR_RECORD (R54): The standby Summit receives the mirror record of a mark and keeps the two latest complete records. -/
  | mirrorRecord
  /-- MIRROR_LATE (R55): A mirror record is not complete by the end of mark m+1, so it replaces nothing and MIRROR_OK becomes 0. -/
  | mirrorLate
  /-- SELF_CHECK_FAILURE (R56): The active Summit asserts its self-check failure signal and sends nothing more on the command lane. -/
  | selfCheckFailure
  /-- SUMMIT_TAKEOVER (R57): At the takeover mark, the standby sends its beacon, rebuilds its state from the mirror record and the reports, and sends a discard command. -/
  | summitTakeover
  /-- SWAP (R59): A write of 1 to SUM_ROLE.SWAP makes the active instance assert self-check failure at the end of the current mark. -/
  | swap
  /-- STANDBY_LOST (R434): The standby Summit fails its self-check or has no complete mirror record for 16 marks, and STANDBY_LOST is raised. -/
  | standbyLost (selfCheck : Bool)
  /-- SUMMIT_LOST (R444): A Col that has accepted no beacon for 16 marks, with no standby left, drives the fatal signal and logs SUMMIT_LOST. -/
  | summitLost (f : Fin 25)
  /-- COL_FAILOVER (R58): At a mark, the standby Col instance takes over from the state of the failed primary at the preceding mark. -/
  | colFailover (f : Fin 25)
  /-- REF_EDGE_LOSS (R64): The missing-edge detector declares a REFCLK input lost when no edge has arrived for 25 ns. -/
  | refEdgeLoss (b : Bool)
  /-- FREQ_GATE (R65): A frequency counter gate of 2,048 marks ends, and the input is judged off-frequency or qualified. -/
  | freqGate (b : Bool) (count : Nat)
  /-- SAFE_CAP_LIFT (R76): At the first mark after the loop reports lock, the holdover SAFE cap is lifted. -/
  | safeCapLift
  /-- HOLDOVER_EXPIRED (R75): Holdover reaches 15,625 marks, the loop enters FAILED and HOLDOVER_EXPIRED (FATAL) is raised. -/
  | holdoverExpired
  /-- ROOT_UNLOCK (R72): The root loop's phase error exceeds 2 ns for 4 reference periods, and the selected input is treated as lost. -/
  | rootUnlock
  /-- REVERT_SWITCH (R70): With REVERT set, the loop switches back to the preferred input at the first mark after that input qualifies. -/
  | revertSwitch
  /-- REF_SWITCH_REQUEST (R71): A write of 1 to RDG_REFCFG.SWITCH requests a switch to the other input at the next mark. -/
  | refSwitchRequest
  /-- REQUESTED_SWITCH (R71): At the next mark the requested switch is made if the other input is qualified, and otherwise REF_NOT_QUAL is raised. -/
  | requestedSwitch
  /-- SPINE_FAULT (R80): A Col declares a spine faulty on a missing ridge edge, repeated parity errors or a failed count check. -/
  | spineFault (f : Fin 25) (b : Bool) (cause : Fin 3)
  /-- SPINE_SWITCH (R79): A Col switches to the other spine at the next mark. -/
  | spineSwitch (f : Fin 25)
  /-- SPINE_RECOVER (R80): A faulty spine becomes healthy again after 16 consecutive marks with no fault. -/
  | spineRecover (f : Fin 25) (b : Bool)
  /-- SPINE_REQUEST (R98): A write of 1 to COL_SPINE.REQ_OTHER requests a spine switch, or raises SPINE_NOT_OK. -/
  | spineRequest (f : Fin 25)
  /-- LOOP_COMPARE (R100): Every 16 ridge ticks a Spur loop compares ring phase with reference-ideal phase and updates its DCO code. -/
  | loopCompare (n : Fin 425) (e : Int) (ppm : Int)
  /-- ACQ_TIMEOUT (R104): A loop that has not reached LOCKED within 8 marks of a commit cycle raises ACQ_TIMEOUT. -/
  | acqTimeout (n : Fin 425)
  /-- SPUR_EDGE (R137): At each output edge, a Spur stretches, shortens or leaves the edge, updates its debt and estimates and sends its notice. -/
  | spurEdge (n : Fin 425) (slacks : List Int)
  /-- NOTICE_DELIVERY (R145): A notice code delivered through a Saddle updates the receiver's lead estimate, or the relay estimate of a borrow. -/
  | noticeDelivery (s : Fin 760) (toHigher : Bool) (flip : BitVec 3)
  /-- DROOP_CROSSING (R140): A droop detector reports a crossing of a level, and the level enters the droop demand of the next edge. -/
  | droopCrossing (n : Fin 425) (q : Fin 4) (rail : Nat)
  /-- TALLY_MARK (R110): A Spur's tally begins a new tally mark and drives TALLY_SYNC, and per-mark updates and expiry of staged entries take place. -/
  | tallyMark (n : Fin 425)
  /-- COMMIT (R120): At the first cycle of the target tally mark, the Spur switches to the new FCODE, restates its debt and applies its settings slot. -/
  | commit (n : Fin 425)
  /-- STAGE (R115): The stage command writes a commit entry in every Spur of the domain, or is refused with an event. -/
  | stage (d : Fin 8) (c : StageCmd)
  /-- ARM (R115): The arm command arms the STAGED entry of a sequence number, or is refused with ARM_LATE. -/
  | arm (d : Fin 8) (seq : Seq)
  /-- CANCEL (R115): The cancel command empties the STAGED entry of a sequence number, or raises CANCEL_REFUSED. -/
  | cancel (d : Fin 8) (seq : Seq)
  /-- DISCARD (R115): The discard command empties every STAGED entry. -/
  | discard
  /-- DISCARD_GROUP (R115): The discard group command empties every STAGED entry of one conditional group. -/
  | discardGroup (g : Nat)
  /-- STAGE_SET (R316): Summit stages a formed set, retargeting it or building a raise series where needed. -/
  | stageSet
  /-- LAST_REEVALUATION (R179): At T-3 Summit recomputes a staged set, restaging it lower or cancelling it. -/
  | lastReevaluation
  /-- ARM_DECISION (R179): At T-2 Summit arms an allowed set, or defers or abandons it. -/
  | armDecision
  /-- ARM_REFUSED_ALL (R555): An arm refused by every Spur is restaged for T+2, and after 16 retries the set completes with ARM_FAILED. -/
  | armRefusedAll
  /-- SET_APPLIED_REPORT (R61): Once every field has reported a set applied, Summit writes the completions of its descriptors. -/
  | setAppliedReport
  /-- BULK_WORD (R197): A Saddle captures a bulk-data word and delivers it one or two cycles later, with its tag checked. -/
  | bulkWord (s : Fin 760) (toHigher : Bool) (k rc : Nat) (data : Word)
  /-- SADDLE_MEASURE (R204): A Saddle's edge timer measures the edge difference every 16 cycles and resynchronises the estimates at cycle 8. -/
  | saddleMeasure (s : Fin 760) (m : Int) (number : Nat) (interval : Nat)
  /-- SADDLE_DISABLE (R222): A write of SAD_CTRL.DISABLE makes the Saddle unusable at the next mark, or returns it to use. -/
  | saddleDisable (s : Fin 760) (v : Bool)
  /-- SPARE_TRACK (R126): The Col sets the field spare to track a region, following that region's debt and tally. -/
  | spareTrack (f : Fin 25) (region : Fin 400)
  /-- SPARE_ALIGNED (R126): After 16 consecutive cycles within 1 phase, the Col sets SPR_SPARE.ALIGNED. -/
  | spareAligned (f : Fin 25)
  /-- SPARE_HANDOVER (R126): At the next tally mark after ALIGNED, both tree roots switch between the Spur and the spare. -/
  | spareHandover (f : Fin 25)
  /-- SPARE_FORCED (R437): Tracking has not reached ALIGNED within 4 marks, so the Col makes a forced handover and records SLIP. -/
  | spareForced (f : Fin 25) (region : Fin 400)
  /-- SPUR_FAILED (R436): Summit handles a failed Spur by spare handover, borrow or dark region, and raises SPUR_FAILED. -/
  | spurFailed (n : Fin 425)
  /-- FAULT_FENCE (R124): At the first mark after the report, the block fences a failed region's compute tree. -/
  | faultFence (region : Fin 400)
  /-- BORROW_QUIET_MARK (R216): A quiet mark is found, or 64 marks pass with BORROW_FORCED, and the borrow path is set to connect. -/
  | borrowQuietMark (f : Fin 25)
  /-- BORROW_START (R216): At the lender's next tally mark, the borrow path connects the lender to the region's transit root. -/
  | borrowStart (f : Fin 25) (region : Fin 400)
  /-- BORROW_RELEASE (R218): The Col releases a borrow at a mark by handing the transit root to the region's own Spur or to the spare. -/
  | borrowRelease (f : Fin 25)
  /-- INTENT_ANNOUNCE (R239): An INTENT announcement is sampled, sets the hold class and may open a pre-stretch window. -/
  | intentAnnounce (region : Fin 400) (c : Fin 4)
  /-- HOLD_EXPIRY (R239): The hold timer expires and the hold class returns to 0. -/
  | holdExpiry (n : Fin 425)
  /-- CHECKSUM_FRAME (R247): A CHK_MISMATCH frame opens a checksum window and is counted towards the mismatch and rate counts. The operands are the bits after its start bit, the parity bit as it stands on the line included. -/
  | checksumFrame (region : Fin 400) (array : Fin 8) (column parity : Bool)
  /-- RATE_WINDOW_END (R251): A rate window ends and the Spur examines its counts for a sparing candidate. -/
  | rateWindowEnd (n : Fin 425)
  /-- CHK_HOLD_EXPIRY (R250): 2^(HOLD+10) marks after the last CHK_RATE, Summit clears SRC_CHK. -/
  | chkHoldExpiry (n : Fin 425)
  /-- SPARING_NOTICE (R245): A sparing notice from the die is checked and sets SRC_SPARE, or raises SPARE_NOTE_BAD. -/
  | sparingNotice (region array kind spare : Nat)
  /-- GRADE_COMPUTE (R256): After the last report slot, Summit computes every region's grade and sends it at the next mark. -/
  | gradeCompute
  /-- CEILING_WRITE (R234): A write to a ceiling register is checked against the guard-rated values and lowers the domain at once. -/
  | ceilingWrite (n : Fin 425) (hi : Bool) (value : Word)
  /-- NUDGE (R273): A write to HRI_NUDGE starts a control block read. -/
  | nudge
  /-- POLL (R273): The poll period expires and a control block read starts. -/
  | poll
  /-- CONTROL_BLOCK_READ (R274): The control block read completes and the host words are checked, raising DOORBELL_BAD for a word out of range. -/
  | controlBlockRead (prod cmplCons evtCons : Word)
  /-- DESCRIPTOR_FETCH (R314): The host ring interface fetches the next descriptor into the fetch buffer and advances PLAN_CONS. -/
  | descriptorFetch (bytes : List Byte)
  /-- HOST_READ_ERR (R306): A host read fails twice, fetching stops and Summit acts as at disable. -/
  | hostReadErr (addr : BitVec 64) (errorCompletion : Bool)
  /-- COMPLETION_WRITE (R296): The block writes a completion entry, or holds it while the completion ring is full. -/
  | completionWrite
  /-- EVENT_RECORD (R530): A raised event updates the event summary and is written, dropped or filtered. -/
  | eventRecord
  /-- RING_ENABLE (R281): A write of 1 to HRI_CTRL.ENABLE enables the rings and ends basic control. -/
  | ringEnable
  /-- RING_DISABLE (R282): A write of 0 to HRI_CTRL.ENABLE stops fetching, discards unarmed sets and completes their descriptors with CANCELLED. -/
  | ringDisable
  /-- RING_DISABLE_DONE (R282): Once the disable actions have finished, the block writes its final indices and sets IDLE. -/
  | ringDisableDone
  /-- BDT_LOAD (R303): A write of 1 to HRI_CTRL.BDT_LOAD starts a read of the board description table. -/
  | bdtLoad
  /-- BDT_READ_DONE (R303): The table has been read, and it is accepted whole or rejected with BOARD_RANGE. -/
  | bdtReadDone (bytes : List Byte)
  /-- SET_STEP (R175): A SET_STEP descriptor is checked and sets the base request, joining a commit set. -/
  | setStep
  /-- SET_LADDER (R171): A SET_LADDER descriptor is checked and joins a commit set with a new ladder and named steps. -/
  | setLadder
  /-- FORMAT_PHASE (R235): A FORMAT_PHASE descriptor sets the domain's format class at its commit. -/
  | formatPhase
  /-- WAIT_SYNC (R319): A WAIT_SYNC descriptor holds processing until its object condition holds. -/
  | waitSync
  /-- COND_BEGIN (R320): A COND_BEGIN descriptor opens a conditional group on a synchronisation object. -/
  | condBegin
  /-- COND_END (R320): A COND_END descriptor closes the open conditional group. -/
  | condEnd
  /-- BUDGET (R290): A BUDGET descriptor replaces the power cap, thermal cap and sprint class at its target mark. -/
  | budget
  /-- CAL_WINDOW (R341): A CAL_WINDOW descriptor sets the calibration window length and interval, or schedules one extra window. -/
  | calWindow
  /-- MEASURE (R398): A MEASURE descriptor starts an edge measurement, a frequency count or a quality snapshot at its target mark. -/
  | measure
  /-- FENCE (R124): A FENCE descriptor fences a region's compute tree through the settings slot. -/
  | fence
  /-- UNFENCE (R290): An UNFENCE descriptor lifts a descriptor fence, or completes with FAULT_FENCED. -/
  | unfence
  /-- DOMAIN_MAP (R172): A DOMAIN_MAP descriptor moves fields between domains at its target mark. -/
  | domainMap
  /-- MARKER (R290): A MARKER descriptor completes once every earlier set has been applied, discarded or cancelled. -/
  | marker
  /-- NOP (R290): A NOP descriptor completes once checked, or when its group resolves. -/
  | nop
  /-- UNDEFINED_DESCRIPTOR (R288): A descriptor of an undefined type completes with DESC_TYPE. -/
  | undefinedDescriptor
  /-- PLAN_IDLE (R306): The plan watchdog expires, and Summit lowers requests above NOMINAL and raises PLAN_IDLE. -/
  | planIdle
  /-- PROFILE_WRITE (R304): A write to SUM_PROFILE under basic control changes the profile, format class or budgets. -/
  | profileWrite (value : Word)
  /-- BASIC_RAISE (R304): Under basic control, Summit raises the base on its own by a raise series when its inputs allow. -/
  | basicRaise
  /-- SYNC_READ (R317): At ridge tick 16, Summit sends reads of the synchronisation objects it watches. -/
  | syncRead
  /-- SYNC_REPLY (R321): A synchronisation reply arrives in time and may satisfy a wait or resolve a group. -/
  | syncReply (obj : Nat) (value : Word)
  /-- WAIT_TIMEOUT (R319): A WAIT_SYNC's timeout expires, and it completes with WAIT_TIMEOUT. -/
  | waitTimeout
  /-- GROUP_DEADLINE (R325): At a group's deadline, Summit acts on its outcome or skips it with COND_LATE. -/
  | groupDeadline (slot : Fin 4)
  /-- WINDOW_COMMAND (R343): At W-16, Summit fixes a native window by sending the window command. -/
  | windowCommand
  /-- CAL_WINDOW_OPEN (R344): At W the leaf gates close, debt is frozen and measurement begins. -/
  | calWindowOpen
  /-- CAL_EXCURSION (R347): A 5-mark DCO excursion slot measures the DCO gain or one code-table entry. -/
  | calExcursion (n : Fin 425) (r : Excursion)
  /-- CAL_LOOP_RESTORE (R344): At W+N-13, the ring returns to the code in force and the loop reacquires. -/
  | calLoopRestore
  /-- CAL_PLAUSIBILITY (R357): At W+N-2, the engine checks every result and raises CAL_REJECT for failures. -/
  | calPlausibility (rs : List CalResult)
  /-- CAL_APPLY (R361): At W+N-1, the window's trims are applied and the skew residual is measured. -/
  | calApply
  /-- CAL_WINDOW_CLOSE (R346): At W+N, the leaf gates open, stretching resumes and CAL_WARN falls. -/
  | calWindowClose
  /-- CAL_RECOMPUTE (R360): Every 1,024 marks, the engine interpolates each unit's values for its present temperature. -/
  | calRecompute
  /-- TRIM_APPLY (R361): Staged trims are applied together at the first cycle of the application mark. -/
  | trimApply (u : CalUnit)
  /-- CAL_HOLD_RISE (R363): CAL_HOLD rises at an idle gap, and gap steps may start. -/
  | calHoldRise (region : Fin 400)
  /-- GAP_STEP_DONE (R364): A gap step completes, and its item is checked when all of its samples are complete. -/
  | gapStepDone (n : Fin 425) (item : CalItem)
  /-- GAP_STEP_ABORT (R364): CAL_HOLD falls or INTENT rises during a gap step, so the step is aborted and counted. -/
  | gapStepAbort (n : Fin 425)
  /-- CALREF_GATE (R355): A background CALREF gate ends, giving ε and the traced state. -/
  | calrefGate (ppb : Int)
  /-- CALREF_LOST (R538): CALREF shows no rising edge for 200 ns and is declared lost. -/
  | calrefLost
  /-- CAL_WINCFG_WRITE (R342): A write to CAL_WINCFG reschedules the next window that is not yet fixed. -/
  | calWincfgWrite (value : Word)
  /-- NATIVE_ENABLE (R342): CAL_CTRL.NATIVE_EN returning to 1 restarts the count to the next window. -/
  | nativeEnable
  /-- SENSOR_CONVERSION (R352): Every 16 marks, each temperature sensor converts and is corrected by its offset. -/
  | sensorConversion (n : Fin 425) (which : Fin 2) (raw : Int)
  /-- SAVE (R383): A write of 1 to CRN_CTRL.SAVE requests a save at once. -/
  | save
  /-- CAIRN_SAVE (R382): A save starts after its spacing and writes, verifies and commits a new bank image. -/
  | cairnSave (r : FlashResult)
  /-- SAVE_F (R379): A write of 1 to CRN_CTRL.SAVE_F writes bank F in PROVISIONED, or raises CFG_LOCKED. -/
  | saveF (r : FlashResult)
  /-- LOOKOUT_EDGE (R391): An edge accepted on a Lookout channel is timestamped and fed to the channel's measurement. -/
  | lookoutEdge (c : Fin 6) (time : EdgeTime) (falling : Bool)
  /-- DISARM (R398): A write of 1 to LKO_CHc_CTRL.DISARM ends a register-armed measurement with its result so far. -/
  | disarm (c : Fin 6)
  /-- MEASURE_TIMEOUT (R398): A measurement's timeout or gate limit expires, and the measurement ends. -/
  | measureTimeout (c : Fin 6)
  /-- TOD_TICK (R402): Each tick of the time base advances time of day by INC and places PPS_OUT. -/
  | todTick (roundUp : Bool)
  /-- TOD_SNAPSHOT (R405): At each mark, Lookout interpolates time of day to the ridge edge, sends it out and applies any pending set or step. -/
  | todSnapshot (ns16 : Nat)
  /-- SET (R404): A write of LKO_TOD_CTRL.SET sets time of day at the next mark. -/
  | set
  /-- STEP (R404): A write of LKO_TOD_CTRL.STEP steps time of day by LKO_ADJ_PHASE at the next mark. -/
  | step
  /-- SLEW (R404): A write of LKO_TOD_CTRL.SLEW starts a slew by LKO_ADJ_PHASE. -/
  | slew
  /-- PPS_IN_MISSING (R406): No PPS_IN edge arrives within 1.5 s, and PPS_IN_MISSING is raised. -/
  | ppsInMissing
  /-- LO_ERROR_MEASURE (R403): Every 2,048 marks, Lookout measures δ of its local oscillator. -/
  | loErrorMeasure (ppb : Int)
  /-- LOOKOUT_DENSITY (R354): A background code density of the Lookout timer completes. -/
  | lookoutDensity (widths : List Int) (temp : Int)
  /-- TIMER_UNLOCK (R407): The Lookout timer loses lock, so armed channels end and TIMER_UNLOCK is raised. -/
  | timerUnlock
  /-- LOOKOUT_LOST (R434): Lookout sends no status word for 4 marks or fails its self-check, and LOOKOUT_LOST (FATAL) is raised. -/
  | lookoutLost
  /-- START (R423): A write of 1 to BST_CTRL.START starts the on-demand test in BST_REQ, or refuses it. -/
  | start
  /-- ABORT (R431): A write of 1 to BST_CTRL.ABORT ends the running test with ABORTED_STOP. -/
  | abort
  /-- BIST_PATTERNS_DONE (R417): The last response is unloaded, the signature is finished and the test result is judged. -/
  | bistPatternsDone (signature : BitVec 64)
  /-- BIST_ENV_ABORT (R420): The clock or supply leaves its range, and the test ends with ABORTED_ENV. -/
  | bistEnvAbort (f : Fin 25) (source : Fin 5) (lo hi : Word)
  /-- BIST_RETURN (R424): The restored Spur reaches LOCKED and ALIGNED and takes the roots back, and BIST_DONE is raised. -/
  | bistReturn
  /-- BIST_POR_REPEAT (R422): After the rail has been in band for 16 marks, an aborted field repeats its power-on run. -/
  | bistPorRepeat (f : Fin 25)
  /-- INCIDENT_OPEN (R449): Summit opens a queued incident of a class at the next mark, or preempts a lower-severity one. -/
  | incidentOpen (c : Fin 8)
  /-- ERROR_STORM (R451): An incident finds the queue full, and ERROR_STORM (FATAL) is raised. -/
  | errorStorm
  /-- FATAL_EVENT (R452): A FATAL event drives the fatal signal, forces SAFE and stops plan processing. -/
  | fatalEvent
  /-- CLEAR (R452): A write of 1 to SUM_FATAL.CLEAR lifts the forced SAFE after an error storm with the queue empty. -/
  | clear
  /-- SPUR (R458): A write of 1 to COL_RELEASE.SPUR releases the failed Spur named in POS. -/
  | spur (f : Fin 25) (pos : Fin 17)
  /-- INST (R458): A write of 1 to COL_RELEASE.INST releases the failed Col instance. -/
  | inst (f : Fin 25)
  /-- AVS_SLOT (R461): An AVSBus slot begins and the Col sends a voltage write, a status read or a telemetry read. -/
  | avsSlot (f : Fin 25)
  /-- AVS_REPLY (R462): An AVSBus reply arrives, acknowledging a rise, updating telemetry or raising RAIL_BAND. -/
  | avsReply (f : Fin 25) (r : AvsReply)
  /-- REG_LINK_FAIL (R445): AVSBus transactions fail repeatedly, the link is failed and the grant is capped. -/
  | regLinkFail (f : Fin 25)
  /-- GOVERNOR_EVAL (R466): Every 16 marks, the governor evaluates power and moves the power grant. -/
  | governorEval
  /-- THERMAL_EVAL (R466): Every 64 marks, the governor evaluates temperature and moves each thermal grant. -/
  | thermalEval
  /-- TRIP1 (R468): A diode reaches TRIP1, and every thermal grant is set to SAFE. -/
  | trip1
  /-- TRIP2 (R468): A diode reaches TRIP2, and the block enters V1. -/
  | trip2
  /-- TRIP3 (R468): A diode reaches TRIP3, and Lookout drives the fatal signal with THERM_CRIT. -/
  | trip3
  /-- TRIP_RELEASE (R468): A trip releases 5 °C below its level. -/
  | tripRelease (level : Fin 3)
  /-- GOVERNOR_RESUME (R468): 1,024 marks after TRIP1 releases, the governor resumes. -/
  | governorResume
  /-- SUP0 (R468): The always-on rail falls below 90 %, and Lookout holds itself in reset (V3). -/
  | sup0
  /-- SUP1 (R468): The field 1 core rail crosses 85 % of BOOT, raising SUPPLY_LOST or waking from V2. -/
  | sup1 (above : Bool)
  /-- HOLD_ENTRY (R470): A write of 1 to SUM_PSTATE.REQ takes every domain to step 0 and closes every root gate (V1). -/
  | holdEntry
  /-- HOLD_EXIT (R471): A write of 0 to SUM_PSTATE.REQ in V1 opens every root gate at least 2 marks later. -/
  | holdExit
  /-- PARK_ENTRY (R472): A write of 2 to SUM_PSTATE.REQ in V1 abandons saves and measurements and requests the park voltage. -/
  | parkEntry
  /-- PARK_READY (R472): At the 16th mark after the park request, the block signals park-ready and stops the root loop. -/
  | parkReady
  /-- WAKE (R473): An enabled wake source in V2 wakes the die and starts the block. -/
  | wake (cause : WakeCause)
  /-- POWER_UP (R480): The always-on rail rises through SUP0, and Lookout and the start sequence begin. -/
  | powerUp
  /-- BLOCK_RESET (R480): The release of BLK_RESET_N starts a block reset. -/
  | blockReset
  /-- OSCILLATOR_SETTLED (R481): Lookout's local oscillator settles and stage 0 ends. -/
  | oscillatorSettled
  /-- STAGE1_DONE (R481): REFCLK_A is qualified and the die's reset is released, so the root loop starts to lock. -/
  | stage1Done
  /-- ROOT_LOCKED (R481): The root loop locks at start-up, the dividers are released and pre-start work begins. -/
  | rootLocked (field1Ok field23Ok : Bool) (st : LifeCycle) (flashOk : Bool)
  /-- BANK_F_VERIFIED (R381): Bank F is verified or rejected, and the power-on run and bank selection begin. -/
  | bankFVerified (reason : Fin 8) (fact : Factory)
  /-- TEST_SELECT_DONE (R481): The power-on run and bank selection both complete, and the Cols load every unit. -/
  | testSelectDone (a b : Fin 8) (spurs : List Nat) (cols : PorCols)
  /-- START_PULSE (R486): The start pulse loads every ridge counter and tally, and the Spur loops acquire. -/
  | startPulse
  /-- FIRST_MARK_OF_SERVICE (R487): At mark S, the gates open, the Saddles become usable and READY is set. -/
  | firstMarkOfService
  /-- RESET (R491): A write of 1 to SUM_INSTRST.RESET resets the instance that is not active and runs its self-check. -/
  | reset
  /-- INSTANCE_SELF_CHECK_DONE (R491): After 64 marks, the reset instance passes and becomes standby, or stays failed. -/
  | instanceSelfCheckDone (pass : Bool)
  /-- LCS_CHANGE (R495): A life-cycle change from the security block is applied at the next mark. -/
  | lcsChange (st : LifeCycle)
  /-- REQ (R501): A write of 1 to PRT_UNLOCK.REQ requests an unlock challenge from the security block. -/
  | req
  /-- CHALLENGE_ISSUED (R501): The security block returns a challenge, and USTAT becomes 1. -/
  | challengeIssued (c : BitVec 64)
  /-- SUBMIT (R501): A write of 1 to PRT_UNLOCK.SUBMIT submits the response for verification. -/
  | submit
  /-- UNLOCK_VERDICT (R502): The security block's verdict enters SERVICE or raises UNLOCK_FAIL and counts toward lockout. -/
  | unlockVerdict (pass : Bool)
  /-- CHALLENGE_EXPIRED (R501): 30 s after issue, the challenge expires. -/
  | challengeExpired
  /-- RELOCK (R503): A write of 1 to PRT_UNLOCK.RELOCK returns SERVICE to DEPLOYED at the next mark. -/
  | relock
  /-- TAP_SEGMENT_SET (R505): An attempt to set a segment insertion bit opens the segment, or raises TAP_DENIED in DEPLOYED. -/
  | tapSegmentSet (seg : Fin 5)
  /-- STRETCH_INJECTION (R507): A write to PRT_INJ configures stretch injection bursts. -/
  | stretchInjection (value : Word)
  /-- INJECTION_BURST (R507): Every PERIOD marks, a programmed injection burst begins. -/
  | injectionBurst
  /-- FALSE_DROOP (R507): A write to PRT_DROOP forces detectors to a level for a number of edges. -/
  | falseDroop (value : Word)
  /-- EXTRA_SADDLE_DELAY (R507): A write to PRT_SADDLY adds delay to one direction of a Saddle. -/
  | extraSaddleDelay (value : Word)
  /-- TEMPERATURE_OVERRIDE (R507): A write to PRT_SENS replaces a unit's temperature readings. -/
  | temperatureOverride (value : Word)
  /-- FIELD_POWER_OVERRIDE (R507): A write to PRT_PWR replaces a field's P_f. -/
  | fieldPowerOverride (value : Word)
  /-- RING_FLOW (R507): A write to PRT_HRIFLOW limits fetches and holds completions. -/
  | ringFlow (value : Word)
  /-- DOORBELL_DELAY (R507): A write to PRT_HRIDLY delays every control block read. -/
  | doorbellDelay (value : Word)
  /-- NOPATH (R534): No Summit instance answers the host ring interface for 16 marks, and NOPATH is set. -/
  | nopath
  /-- REF_EDGE_RETURN (R66): Edges return on a REFCLK input that was lost, so it reads present again, its qualification starts from that first edge and, in V2, the time base may return to REFCLK. -/
  | refEdgeReturn (b : Bool)
  /-- CALREF_RETURN (R538): CALREF shows a rising edge again after being declared lost and counts as showing edges, which bears on CALREF_OK and the traced state. -/
  | calrefReturn
  /-- TIMER_RELOCK (R408): The Lookout timer regains lock after losing it, TIMER_LOCK becomes 1 and arms and edge timestamping succeed again. -/
  | timerRelock
  /-- REGISTER_ARM (R398): A write of 1 to LKO_CHc_CTRL.ARM arms a free or paired measurement within 4 control cycles, or refuses it with CFG_BUSY or a reason. -/
  | registerArm (c : Fin 6) (own stop : Readings)
  /-- BLK_RESET_ASSERT (R545): The die drives BLK_RESET_N to 0, which holds every unit except Lookout in reset while BLK_FATAL and BLK_PARKRDY keep their values. -/
  | blkResetAssert
  deriving DecidableEq, Repr

end Sys2Proof
end

