-- ==== Sys2Proof/WellFormed.lean ====
section
/-! DEFINITION. Which commands are well formed: every operand inside the range that the spec gives it. -/

namespace Sys2Proof

/-- A stage command is well formed (R114, R115): every field inside its entry's field. -/
def StageCmd.wf (c : StageCmd) : Bool :=
  decide (c.group < 65536) && decide (8 ≤ c.fcode) && decide (c.fcode ≤ 96) && decide (c.step < 16) && decide (c.fmt < 8) &&
    decide (8 ≤ c.ceil) && decide (c.ceil ≤ 96) && c.fences.all fun p => decide (p.1 < 425) && decide (1 ≤ p.2) && decide (p.2 ≤ 2)

/-- A result of a window is well formed: 16 tap widths (R351), 3 threshold trims (R349). -/
def CalItem.wf (i : CalItem) : Bool :=
  match i with
  | .code fcode _ => decide (8 ≤ fcode) && decide (fcode ≤ 96)
  | .detector _ _ _ _ thr => decide (thr.length = 3)
  | .timer _ widths => decide (widths.length = 16)
  | _ => true

/-- A flash result is well formed (R382, R388): at most 1,186 records, a failing step from 3 to 8, an address of 32 bits. -/
def FlashResult.wf (r : FlashResult) : Bool :=
  match r with
  | .taken n => decide (n ≤ 1186)
  | .failed step addr _ => decide (3 ≤ step) && decide (step ≤ 8) && decide (addr < 2 ^ 32)
  | _ => true

/-- A command is well formed. -/
def Instr.wf (i : Instr) : Bool :=
  match i with
  | .registerWrite addr _ how => decide (addr < 0x100000) && [1, 2, 4, 8].contains how.width
  | .wideLowWordRead load => decide (load.addr < 0x100000) && [1, 2, 4, 8].contains load.width
  | .snapshotFracRead load => [1, 2, 4, 8].contains load.width
  | .stage _ c => c.wf
  | .discardGroup g => decide (1 ≤ g) && decide (g < 65536)
  | .spurEdge _ slacks => decide (slacks.length = 8)
  | .bulkWord _ _ k rc _ => decide (k < 1536) && decide (rc < 1536)
  | .saddleMeasure _ m number interval => decide (-512 ≤ m) && decide (m ≤ 512) && decide (number < 96) && decide (interval < 256)
  | .sparingNotice region array kind spare =>
    decide (region < 512) && decide (array < 16) && decide (kind < 2) && decide (spare < 2)
  | .descriptorFetch bytes => decide (bytes.length = 32) || decide (bytes.length = 64)
  | .bdtReadDone bytes => decide (bytes.length = 512)
  | .syncReply obj _ => decide (obj < 32768)
  | .todSnapshot ns16 => decide (ns16 < 655360)
  | .lookoutDensity widths _ => decide (widths.length = 32)
  | .gapStepDone _ item => item.wf
  | .cairnSave r => r.wf
  | .saveF r => r.wf
  | .calPlausibility rs => rs.all fun r => r.item.wf
  | .bankFVerified _ fact => decide (fact.guards.all fun g => decide (g.length = 8))
  | .testSelectDone _ _ spurs _ => spurs.all fun n => decide (n < 425)
  | _ => true

end Sys2Proof
end

