-- ==== Sys2Proof/Decode.lean ====
section
/-! DEFINITION. The command that a word of spec/opcode_table.json spells. The block takes commands from outside and reads no instruction words: the table gives no row any bits, so no word spells a command. -/

namespace Sys2Proof

/-- The command that an instruction word of `nbits` bits spells by the table's bits: none, since no row of the table gives bits. -/
def decodeTableWord (_nbits _w : Nat) : Option Instr := none

end Sys2Proof
end

