-- ==== Sys2Proof/Machine/State.lean ====
section
/-! DEFINITION. The state of the block as plain data: every register, counter, queue, mode and pin that the spec names, the queue of waiting commands, and the state right after reset. -/

namespace Sys2Proof.Machine

/-- The reasons for which the block's machine could stop. There are none: the spec gives every command of the table an effect, so no meaning raises a fault. Safe: a type with no member adds no behaviour. -/
inductive Fault where
  deriving DecidableEq, Repr

/-- The reasons for which a command has no meaning. -/
inductive Refusal where
  /-- Raised by an arm of exec that has no meaning yet; safe, since nothing can be proved of such a command but that it is refused. No arm of this model raises it. -/
  | notModelled (mnemonic : String)
  deriving DecidableEq, Repr

/-! ## Sparse register files -/

/-- A sparse file of words, keyed by offset in the register window (R512), keys strictly rising. -/
abbrev RegFile := List (Nat × Word)

/-- The word listed at an offset. -/
def RegFile.find : RegFile → Nat → Option Word
  | [], _ => none
  | (k, v) :: r, a => if k = a then some v else RegFile.find r a

/-- The file with a word listed at an offset. -/
def RegFile.insert : RegFile → Nat → Word → RegFile
  | [], a, w => [(a, w)]
  | (k, v) :: r, a, w =>
    if a < k then (a, w) :: (k, v) :: r else if a = k then (a, w) :: r else (k, v) :: RegFile.insert r a w

/-- The file with nothing listed at an offset. -/
def RegFile.erase : RegFile → Nat → RegFile
  | [], _ => []
  | (k, v) :: r, a => if k = a then r else (k, v) :: RegFile.erase r a

/-- Keys strictly rising, all above `b`. -/
def RegFile.sortedFrom : Option Nat → RegFile → Bool
  | _, [] => true
  | b, (k, _) :: r => (match b with | none => true | some x => decide (x < k)) && RegFile.sortedFrom (some k) r

/-! ## Events, sources, messages -/

/-- The severities of an event record (R298). -/
inductive Sev where
  | info
  | corrected
  | degraded
  | fatal
  deriving DecidableEq, Repr

/-- The severity as an event record encodes it (R298). -/
def Sev.code : Sev → Nat
  | .info => 0
  | .corrected => 1
  | .degraded => 2
  | .fatal => 3

/-- The events, by name (R300 and the events table of each chapter). -/
inductive Ev where
  | doorbellBad
  | hostReadErr
  | cmplFull
  | planIdle
  | cfgRange
  | cfgBusy
  | cfgLocked
  | boardRange
  | refLost
  | refSwitch
  | refAbsent
  | refNotQual
  | rootUnlock
  | holdover
  | holdoverEnd
  | holdoverExpired
  | spineMismatch
  | spineLost
  | spineNotOk
  | ridgeMismatch
  | ridgeLost
  | loopUnlock
  | acqTimeout
  | dcoResidual
  | slotFull
  | slotConflict
  | slotRange
  | stageLate
  | armLate
  | cancelRefused
  | slotExpired
  | debtLimit
  | debtSaturated
  | noticeSlip
  | noticeBad
  | changeDeferred
  | voltLate
  | calDeferred
  | baseDrop
  | windowExceeded
  | elasticSlip
  | skewRange
  | ratioDrop
  | saddleFail
  | borrowStart
  | borrowForced
  | chkMargin
  | chkRate
  | chkFrameBad
  | spareCandidate
  | spareChanged
  | spareNoteBad
  | condLate
  | waitTimeout
  | syncReadLate
  | planResume
  | calReject
  | calRefBand
  | calVoid
  | calClamp
  | calTempRange
  | calTrace
  | crnBoot
  | crnBankBad
  | crnNone
  | crnSaved
  | crnSaveAbort
  | crnFlashErr
  | strayStop
  | edgeMissed
  | timerUnlock
  | todSource
  | todStep
  | ppsInMissing
  | measureDone
  | bistDone
  | bistFail
  | bistAborted
  | bistBusy
  | bistRefused
  | bistPor
  | spurFailed
  | spareTakeover
  | spareForced
  | fieldDegraded
  | colFailover
  | colLost
  | summitTakeover
  | standbyLost
  | summitLost
  | lookoutLost
  | regLinkFail
  | sensorBad
  | escalated
  | errorStorm
  | incidentPreempted
  | thermTrip
  | thermCrit
  | supplyLost
  | govLimit
  | budgetClamp
  | railBand
  | pstate
  | lcsChange
  | unlockFail
  | perturbOn
  | perturbCleared
  | tapDenied
  deriving DecidableEq, Repr

/-- The code of an event (R300 and the chapters). -/
def Ev.code : Ev → Nat
  | .doorbellBad => 0x0001
  | .hostReadErr => 0x0002
  | .cmplFull => 0x0003
  | .planIdle => 0x0004
  | .cfgRange => 0x0101
  | .cfgBusy => 0x0102
  | .cfgLocked => 0x0103
  | .boardRange => 0x0104
  | .refLost => 0x0201
  | .refSwitch => 0x0202
  | .refAbsent => 0x0203
  | .refNotQual => 0x0204
  | .rootUnlock => 0x0205
  | .holdover => 0x0206
  | .holdoverEnd => 0x0207
  | .holdoverExpired => 0x0208
  | .spineMismatch => 0x0209
  | .spineLost => 0x020A
  | .spineNotOk => 0x020B
  | .ridgeMismatch => 0x020C
  | .ridgeLost => 0x020D
  | .loopUnlock => 0x0301
  | .acqTimeout => 0x0302
  | .dcoResidual => 0x0303
  | .slotFull => 0x0304
  | .slotConflict => 0x0305
  | .slotRange => 0x0306
  | .stageLate => 0x0307
  | .armLate => 0x0308
  | .cancelRefused => 0x0309
  | .slotExpired => 0x030A
  | .debtLimit => 0x0401
  | .debtSaturated => 0x0402
  | .noticeSlip => 0x0403
  | .noticeBad => 0x0404
  | .changeDeferred => 0x0501
  | .voltLate => 0x0502
  | .calDeferred => 0x0503
  | .baseDrop => 0x0504
  | .windowExceeded => 0x0601
  | .elasticSlip => 0x0602
  | .skewRange => 0x0603
  | .ratioDrop => 0x0604
  | .saddleFail => 0x0605
  | .borrowStart => 0x0606
  | .borrowForced => 0x0607
  | .chkMargin => 0x0701
  | .chkRate => 0x0702
  | .chkFrameBad => 0x0703
  | .spareCandidate => 0x0704
  | .spareChanged => 0x0705
  | .spareNoteBad => 0x0706
  | .condLate => 0x0801
  | .waitTimeout => 0x0802
  | .syncReadLate => 0x0803
  | .planResume => 0x0804
  | .calReject => 0x0901
  | .calRefBand => 0x0902
  | .calVoid => 0x0903
  | .calClamp => 0x0904
  | .calTempRange => 0x0905
  | .calTrace => 0x0906
  | .crnBoot => 0x0A01
  | .crnBankBad => 0x0A02
  | .crnNone => 0x0A03
  | .crnSaved => 0x0A04
  | .crnSaveAbort => 0x0A05
  | .crnFlashErr => 0x0A06
  | .strayStop => 0x0B01
  | .edgeMissed => 0x0B02
  | .timerUnlock => 0x0B03
  | .todSource => 0x0B04
  | .todStep => 0x0B05
  | .ppsInMissing => 0x0B06
  | .measureDone => 0x0B07
  | .bistDone => 0x0C01
  | .bistFail => 0x0C02
  | .bistAborted => 0x0C03
  | .bistBusy => 0x0C04
  | .bistRefused => 0x0C05
  | .bistPor => 0x0C06
  | .spurFailed => 0x0D01
  | .spareTakeover => 0x0D02
  | .spareForced => 0x0D03
  | .fieldDegraded => 0x0D04
  | .colFailover => 0x0D05
  | .colLost => 0x0D06
  | .summitTakeover => 0x0D07
  | .standbyLost => 0x0D08
  | .summitLost => 0x0D09
  | .lookoutLost => 0x0D0A
  | .regLinkFail => 0x0D0B
  | .sensorBad => 0x0D0C
  | .escalated => 0x0D0D
  | .errorStorm => 0x0D0E
  | .incidentPreempted => 0x0D0F
  | .thermTrip => 0x0E01
  | .thermCrit => 0x0E02
  | .supplyLost => 0x0E03
  | .govLimit => 0x0E04
  | .budgetClamp => 0x0E05
  | .railBand => 0x0E06
  | .pstate => 0x0E07
  | .lcsChange => 0x0F01
  | .unlockFail => 0x0F02
  | .perturbOn => 0x0F03
  | .perturbCleared => 0x0F04
  | .tapDenied => 0x0F05

/-- The severity of an event, apart from the cases that its chapter raises to DEGRADED or lowers to INFO. -/
def Ev.sev : Ev → Sev
  | .doorbellBad => .degraded
  | .hostReadErr => .degraded
  | .cmplFull => .degraded
  | .planIdle => .info
  | .cfgRange => .info
  | .cfgBusy => .info
  | .cfgLocked => .info
  | .boardRange => .degraded
  | .refLost => .corrected
  | .refSwitch => .info
  | .refAbsent => .info
  | .refNotQual => .info
  | .rootUnlock => .degraded
  | .holdover => .degraded
  | .holdoverEnd => .corrected
  | .holdoverExpired => .fatal
  | .spineMismatch => .corrected
  | .spineLost => .corrected
  | .spineNotOk => .info
  | .ridgeMismatch => .corrected
  | .ridgeLost => .fatal
  | .loopUnlock => .degraded
  | .acqTimeout => .degraded
  | .dcoResidual => .corrected
  | .slotFull => .degraded
  | .slotConflict => .degraded
  | .slotRange => .degraded
  | .stageLate => .degraded
  | .armLate => .degraded
  | .cancelRefused => .info
  | .slotExpired => .info
  | .debtLimit => .corrected
  | .debtSaturated => .degraded
  | .noticeSlip => .corrected
  | .noticeBad => .degraded
  | .changeDeferred => .info
  | .voltLate => .degraded
  | .calDeferred => .info
  | .baseDrop => .info
  | .windowExceeded => .degraded
  | .elasticSlip => .degraded
  | .skewRange => .degraded
  | .ratioDrop => .degraded
  | .saddleFail => .degraded
  | .borrowStart => .corrected
  | .borrowForced => .degraded
  | .chkMargin => .info
  | .chkRate => .corrected
  | .chkFrameBad => .degraded
  | .spareCandidate => .info
  | .spareChanged => .corrected
  | .spareNoteBad => .degraded
  | .condLate => .info
  | .waitTimeout => .info
  | .syncReadLate => .degraded
  | .planResume => .info
  | .calReject => .corrected
  | .calRefBand => .degraded
  | .calVoid => .info
  | .calClamp => .info
  | .calTempRange => .info
  | .calTrace => .info
  | .crnBoot => .info
  | .crnBankBad => .corrected
  | .crnNone => .degraded
  | .crnSaved => .info
  | .crnSaveAbort => .info
  | .crnFlashErr => .degraded
  | .strayStop => .info
  | .edgeMissed => .info
  | .timerUnlock => .degraded
  | .todSource => .info
  | .todStep => .info
  | .ppsInMissing => .degraded
  | .measureDone => .info
  | .bistDone => .info
  | .bistFail => .degraded
  | .bistAborted => .info
  | .bistBusy => .info
  | .bistRefused => .info
  | .bistPor => .info
  | .spurFailed => .degraded
  | .spareTakeover => .corrected
  | .spareForced => .degraded
  | .fieldDegraded => .degraded
  | .colFailover => .corrected
  | .colLost => .fatal
  | .summitTakeover => .corrected
  | .standbyLost => .degraded
  | .summitLost => .fatal
  | .lookoutLost => .fatal
  | .regLinkFail => .degraded
  | .sensorBad => .degraded
  | .escalated => .degraded
  | .errorStorm => .fatal
  | .incidentPreempted => .info
  | .thermTrip => .degraded
  | .thermCrit => .fatal
  | .supplyLost => .fatal
  | .govLimit => .info
  | .budgetClamp => .info
  | .railBand => .degraded
  | .pstate => .info
  | .lcsChange => .info
  | .unlockFail => .degraded
  | .perturbOn => .info
  | .perturbCleared => .info
  | .tapDenied => .info

/-- An event as it is raised: its code, severity, source (R299), detection time (R298) and detail bytes from byte 16 on, trailing zeros left out. -/
structure EventRec where
  /-- the event -/
  ev : Ev
  /-- its severity -/
  sev : Sev
  /-- source kind -/
  kind : Nat
  /-- source index -/
  idx : Nat
  /-- ridge count at detection -/
  time : Ridge
  /-- RDG_COUNT_HI.EPOCH at detection -/
  epoch : Nat
  /-- detail bytes from byte 16 on -/
  detail : List Byte
  deriving DecidableEq, Repr

/-- The completion statuses (R297). -/
inductive Status where
  | applied
  | appliedLower
  | appliedLate
  | voltLate
  | tooLate
  | ratioUnsafe
  | ratioBad
  | ladderRange
  | mapFcode
  | faultFenced
  | armFailed
  | descType
  | versionBad
  | seqBad
  | descRange
  | targetPassed
  | cancelled
  | condDiscarded
  | condLate
  | waitTimeout
  | measureErr
  deriving DecidableEq, Repr

/-- The code of a completion status (R297). -/
def Status.code : Status → Nat
  | .applied => 0x00
  | .appliedLower => 0x01
  | .appliedLate => 0x02
  | .voltLate => 0x03
  | .tooLate => 0x04
  | .ratioUnsafe => 0x05
  | .ratioBad => 0x06
  | .ladderRange => 0x07
  | .mapFcode => 0x08
  | .faultFenced => 0x09
  | .armFailed => 0x0A
  | .descType => 0x10
  | .versionBad => 0x11
  | .seqBad => 0x12
  | .descRange => 0x13
  | .targetPassed => 0x14
  | .cancelled => 0x15
  | .condDiscarded => 0x20
  | .condLate => 0x21
  | .waitTimeout => 0x22
  | .measureErr => 0x23

/-- A completion as Summit makes it, before it is written (R296), with the mark in which it was made. -/
structure Completion where
  /-- sequence number of the descriptor -/
  seq : Seq
  /-- type -/
  ty : Nat
  /-- status -/
  status : Status
  /-- group -/
  group : Nat
  /-- mark field -/
  mark : Mark
  /-- byte 13 -/
  detail : Nat
  /-- byte 14 [2:0] -/
  domain : Nat
  /-- byte 14 [7] -/
  merged : Bool
  /-- the descriptor carried NOTIFY -/
  notify : Bool
  /-- the mark in which the completion was made -/
  born : Mark
  /-- ring index of the descriptor, whose buffer entry the completion frees (R313) -/
  ringIdx : Nat
  deriving DecidableEq, Repr

/-- The commands that Summit puts on the command lane for the Cols (R41, R60, R115, R343): `register` is the register traffic for Cols, Spurs and Saddles. -/
inductive LaneCmd where
  | beacon (m : Mark) (field : Nat)
  | register (addr : Nat) (value : Word)
  | stage (d : Nat) (c : StageCmd)
  | arm (seq : Seq)
  | cancel (seq : Seq)
  | discard
  | discardGroup (g : Nat)
  | window (w : Mark) (n : Nat)
  | cancelWindow
  | grades
  | fatal (code : Nat)
  deriving DecidableEq, Repr

/-- A field report (R44). Bytes 4 to 7 and 24 to 39 have no bit layout in the spec: the model holds what they carry. DESIGN CHOICE, notes/assumptions/65.md. -/
structure Report where
  /-- the field -/
  field : Nat
  /-- bytes 0 to 3: sequence number last applied by every Spur of the field -/
  seq : Seq
  /-- active Col instance: false primary, true standby -/
  copy : Bool
  /-- selected spine: false A, true B -/
  spine : Bool
  /-- sequence numbers in STAGED entries -/
  staged : List Seq
  /-- sequence numbers in ARMED entries not applied -/
  armed : List Seq
  /-- every rise written has been acknowledged -/
  acked : Bool
  /-- alarms: event and unit -/
  alarms : List (Ev × Nat)
  /-- bytes 8 to 23: grade inputs -/
  grades : List Nat
  /-- bytes 24 to 39: the telemetry slice of one unit, by its register offset, four words -/
  unit : Nat
  /-- its words -/
  telem : List Word
  deriving DecidableEq, Repr

/-- What the block sends across its boundary, in the order sent. -/
inductive Message where
  /-- a command on both spines -/
  | lane (c : LaneCmd)
  /-- a field report -/
  | report (r : Report)
  /-- a posted write to host memory -/
  | hostWrite (addr : Nat) (bytes : List Byte)
  /-- a PCIe read request -/
  | hostRead (addr : Nat) (len : Nat)
  /-- an MSI-X message -/
  | msix (vec : Nat)
  /-- an AVSBus voltage write, mV -/
  | avsWrite (f : Nat) (mv : Nat)
  /-- an AVSBus status read -/
  | avsStatus (f : Nat)
  /-- an AVSBus telemetry read: 0 rail voltage, 1 rail current -/
  | avsTelem (f : Nat) (what : Nat)
  /-- a read of a synchronisation object -/
  | syncRead (obj : Nat)
  /-- a request to the security block: a challenge -/
  | secChallenge
  /-- a response for the security block to verify -/
  | secVerify (response : BitVec 64)
  /-- time of day at a mark, with the low 16 bits of the mark number, to the MAC timestamp units (R405) -/
  | todSnap (secs : Nat) (ns : Nat) (frac : Nat) (mark16 : Nat)
  /-- GRADE of a region changes (R256) -/
  | grade (region : Nat) (g : Nat)
  /-- erase and program of one bank of the flash (R373, R382): the address of the image and its bytes, that of the commit sector and the commit record -/
  | flash (addr : Nat) (image : List Byte) (commitAddr : Nat) (commit : List Byte)
  deriving DecidableEq, Repr

/-! ## The Spur -/

/-- The states of a Spur's loop (R103). -/
inductive Loop where
  | acquire
  | locked
  | frozen
  | failed
  deriving DecidableEq, Repr

/-- The states of a commit entry (R114). -/
inductive EntryState where
  | empty
  | staged
  | armed
  deriving DecidableEq, Repr

/-- A commit entry: both slots of R114, and whether it has been applied and waits for its report (R116). -/
structure Entry where
  /-- EMPTY, STAGED or ARMED -/
  st : EntryState
  /-- applied, and held through the mark after its target -/
  applied : Bool
  /-- the Col's report has sent SEQ as applied (R116) -/
  reported : Bool
  /-- TARGET -/
  target : Mark
  /-- SEQ -/
  seq : Seq
  /-- GROUP -/
  group : Nat
  /-- FCODE -/
  fcode : Nat
  /-- STEP -/
  step : Nat
  /-- UP -/
  up : Bool
  /-- FMT -/
  fmt : Nat
  /-- CEIL -/
  ceil : Nat
  /-- FENCE_OP -/
  fenceOp : Nat
  /-- REGS -/
  regs : Bool
  deriving DecidableEq, Repr

/-- An EMPTY entry. -/
def Entry.none : Entry :=
  { st := .empty, applied := false, reported := false, target := 0, seq := 0, group := 0, fcode := 0, step := 0, up := false, fmt := 0,
    ceil := 0, fenceOp := 0, regs := false }

/-- The generator of a Spur: its loop, DCO, tally and commit entries (R99 to R122). -/
structure Gen where
  /-- loop state (R103) -/
  loop : Loop
  /-- in ACQUIRE after a commit cycle (SPR_STAT.REACQ) -/
  reacq : Bool
  /-- mark of the last commit cycle or start of acquisition (R104) -/
  acqMark : Mark
  /-- ridge tick of the last comparison (R100) -/
  cmpAt : Option Ridge
  /-- consecutive comparisons with |e| of 1/16 phase or less (R103) -/
  lockRun : Nat
  /-- consecutive comparisons with |e| above 2 phases in LOCKED (R104) -/
  lossRun : Nat
  /-- the DCO code that drives the ring, the dither of R102 included (R105) -/
  dcoCode : BitVec 16
  /-- the integrator of the loop filter: a code with 6 fractional bits below FINE (R102, R119) -/
  integ : BitVec 22
  /-- the output of the loop filter, with the same 6 fractional bits -/
  fcw : BitVec 22
  /-- the remainder of the first-order sigma-delta dither, in 1/64 of a fine code -/
  dither : BitVec 6
  /-- e at the last comparison, 1/16 phase (R132) -/
  loopErr : Int
  /-- comparisons since the last commit cycle, up to 4 (R107) -/
  residCount : Nat
  /-- DCO residual of the last commit, ppm (R107) -/
  resid : Int
  /-- SPR_STAT.RESID_HI (R107) -/
  residHi : Bool
  /-- FCODE in force -/
  fcode : Nat
  /-- ladder step in force -/
  step : Nat
  /-- FMT of the settings slot in force (R114) -/
  fmt : Nat
  /-- format ceiling of the settings slot in force (R114) -/
  ceil : Nat
  /-- TALLY_MARK (R110) -/
  tallyMark : Mark
  /-- TALLY_CYC (R110) -/
  tallyCyc : Nat
  /-- the edge after the last cycle of the mark has come: TALLY_MARK is due (R110) -/
  wrap : Bool
  /-- TALLY_SYNC (R112) -/
  tallySync : Bool
  /-- the 8 commit entries (R114) -/
  entries : List Entry
  /-- SPR_SLOTSTAT.EXPIRED (R134) -/
  expired : Nat
  deriving DecidableEq, Repr

/-- The lead estimates toward the four neighbours, in phases (R145). -/
structure Leads where
  /-- neighbour at y - 1 -/
  north : Int
  /-- neighbour at x + 1 -/
  east : Int
  /-- neighbour at y + 1 -/
  south : Int
  /-- neighbour at x - 1 -/
  west : Int
  deriving DecidableEq, Repr

/-- The stretching state of a Spur (R137 to R165). -/
structure Str where
  /-- phase debt (R108) -/
  debt : Nat
  /-- debt frozen by a native calibration window (R157) -/
  frozen : Bool
  /-- stretch cap of 2 phases (R153) -/
  cap2 : Bool
  /-- the cap is to be lifted at the first mark after a release (R153) -/
  cap2End : Bool
  /-- highest debt of the previous tally mark (R161) -/
  peak : Nat
  /-- highest debt so far in this tally mark -/
  peakNow : Nat
  /-- lowest reading that the debt-limit episode needs: highest debt of this tally mark stays at 8 or below (R154) -/
  episode : Bool
  /-- an open saturation episode (R155) -/
  satOpen : Bool
  /-- the lead estimates (R145) -/
  leads : Leads
  /-- level at which each droop detector stands (R139) -/
  droop : List Nat
  /-- the highest level that each detector has reported since the last edge (R140) -/
  droopSeen : List Nat
  /-- edges since any detector stood above level 0, up to 8 (R150) -/
  droopAge : Nat
  /-- slack of each monitor over the last cycle, quarter phases (R142) -/
  slacks : List Int
  /-- edges since the last short cycle, up to 8 (R150) -/
  sinceShort : Nat
  /-- SPR_STRCNT.FOLLOWED -/
  followed : BitVec 16
  /-- SPR_STRCNT.STRETCHED -/
  stretched : BitVec 16
  /-- SPR_REPAYCNT.CAPPED -/
  capped : BitVec 16
  /-- SPR_REPAYCNT.SHORT -/
  short : BitVec 16
  /-- highest detector level so far in this tally mark -/
  droopNow : Nat
  /-- SPR_MONSLACK.DROOP_MAX of the previous tally mark -/
  droopMax : Nat
  /-- lowest active slack so far in this tally mark -/
  slackNow : Int
  /-- its monitor -/
  monNow : Nat
  /-- SPR_MONSLACK.MIN_SLACK of the previous tally mark -/
  minSlack : Int
  /-- SPR_MONSLACK.MON -/
  mon : Nat
  /-- the notice code sent at the last edge (R143) -/
  notice : BitVec 3
  /-- edges left of a stretch injection, and its amount (R507) -/
  injLeft : Nat
  /-- phases per edge of the injection -/
  injAmount : Nat
  /-- an injection starts at the next tally mark: its edges -/
  injNext : Nat
  /-- edges left of a false droop (R507) -/
  fdLeft : Nat
  /-- its level -/
  fdLevel : Nat
  /-- its quadrants -/
  fdQuad : Nat
  /-- a false droop starts at the next tally mark: its edges -/
  fdNext : Nat
  deriving DecidableEq, Repr

/-- The workload state of a Spur: hold class, windows, checksum counters (R231, R239 to R251). -/
structure Wl where
  /-- hold class A (R239) -/
  hold : Nat
  /-- cycles until the hold timer expires -/
  holdLeft : Nat
  /-- pre-stretch demand of the coming edges: bit i for the edge i + 1 edges from now (R240, R241) -/
  preMask : BitVec 16
  /-- edges left in the open pre-stretch window (R261) -/
  preLeft : Nat
  /-- SPR_INTSTAT.IGNORED -/
  ignored : BitVec 16
  /-- SPR_INTCNT.WINDOWS -/
  windows : BitVec 16
  /-- SPR_INTCNT.ANNOUNCED -/
  announced : BitVec 16
  /-- activity count so far in this tally mark (R253) -/
  actNow : Nat
  /-- SPR_ACT.COUNT -/
  act : Nat
  /-- SPR_ACT.LEVEL -/
  level : Nat
  /-- edges left in the checksum window (R248) -/
  chkLeft : Nat
  /-- SPR_CHKSTAT.TOTAL -/
  chkTotal : BitVec 16
  /-- a CHK_MISMATCH frame whose start bit has been sampled and whose parity bit has not: its five bits after the start bit as the die sends them, array, kind and parity, and the edges left to the parity bit (R247, R252) -/
  frame : Option (BitVec 5 × Nat)
  /-- an announcement has been sampled at the last edge (R237) -/
  heard : Bool
  /-- count of the current rate window (R250) -/
  winCount : Nat
  /-- the tally mark at which the last rate window ended (R250, R251) -/
  winAt : Mark
  /-- SPR_CHKARR, by array (R265) -/
  arrays : List Nat
  /-- mismatches of kind checksum row since the last examination, by array -/
  rows : List Nat
  /-- mismatches of kind checksum column since the last examination, by array -/
  cols : List Nat
  /-- a frame of the window failed its parity (R251) -/
  winBad : Bool
  /-- mismatches of this tally mark (R249) -/
  markMis : Nat
  /-- arrays named in this tally mark (R249) -/
  markMap : Nat
  /-- CHK_FRAME_BAD already raised in this tally mark (R247) -/
  markBad : Bool
  /-- mark of the last CHK_RATE (R250) -/
  lastRate : Mark
  deriving DecidableEq, Repr

/-- The sources of SPR_LIMIT, each with its FCODE while set (R133, R246). -/
structure Limits where
  /-- SRC_DEBT -/
  debt : Option Nat
  /-- the ladder step of SRC_DEBT (R154) -/
  debtStep : Nat
  /-- SRC_SPARE -/
  spare : Option Nat
  /-- SRC_CAL -/
  cal : Option Nat
  /-- SRC_CHK -/
  chk : Option Nat
  /-- the ladder step of SRC_CHK (R250) -/
  chkStep : Nat
  deriving DecidableEq, Repr

/-- What drives the trees of a region (R52, R436 to R440). -/
inductive Driver where
  | own
  | spare
  | borrow (lender : Nat)
  | dark
  deriving DecidableEq, Repr

/-- The gates, the fault state and the grade of a Spur and its region (R51, R123, R255, R434). -/
structure Gates where
  /-- compute root gate closed -/
  comp : Bool
  /-- transit root gate closed -/
  tran : Bool
  /-- leaf gates closed -/
  leaf : Bool
  /-- in block state V1: both root gates have closed for it and have not opened again (R123, R157) -/
  v1 : Bool
  /-- a fence that the block set on a fault is in force, or closes the gate at the coming tally mark (R53, R124) -/
  faultFence : Bool
  /-- the region goes dark at the first cycle of the coming tally mark of the Spur that clocks it (R53, R440) -/
  darkDue : Bool
  /-- what drives the region's trees -/
  driver : Driver
  /-- target mark of a split arm that this Spur refused (R442) -/
  splitAt : Option Mark
  /-- the Spur counts as failed (R434) -/
  failed : Bool
  /-- cause of SPUR_FAILED (R454) -/
  cause : Nat
  /-- an on-demand test passed since the unit failed (R453) -/
  testPassed : Bool
  /-- GRADE in force -/
  grade : Nat
  /-- GRADEs delivered, each with the tally mark from which it is driven (R256) -/
  gradeNext : List (Mark × Nat)
  /-- the region's temperature band as its last complete tally mark ended (R253) -/
  band : Nat
  /-- SPR_GRADE.INPUT -/
  input : Nat
  /-- the last 16 grade inputs' DROOP_MAX (R255) -/
  droopHist : List Nat
  /-- pT, pP, pD as Summit last computed them -/
  pT : Nat
  /-- pP -/
  pP : Nat
  /-- pD -/
  pD : Nat
  /-- SPR_GRADE.ZERO -/
  zero : Bool
  /-- SPR_GRADE.CAPPED -/
  cap3 : Bool
  /-- CAL_WARN (R343) -/
  calWarn : Bool
  /-- CAL_HOLD (R363) -/
  calHold : Bool
  /-- ridge count at which CAL_HOLD rose (R364) -/
  holdAt : Ridge
  deriving DecidableEq, Repr

/-- One temperature bin of a Spur's Cairn record (R376). -/
structure SpurBin where
  /-- T_b, 1/16 degC -/
  tb : Int
  /-- DCO gain, 0.1 ppm per LSB -/
  gain : Nat
  /-- DCO codes of FCODE 8 to 96 -/
  codes : List (BitVec 16)
  /-- detector offsets -/
  offs : List Int
  /-- detector thresholds, detector-major -/
  thr : List Nat
  /-- monitor trims -/
  mon : List Nat
  deriving DecidableEq, Repr

/-- The record of a Spur (R376). -/
structure SpurRec where
  /-- the bins, `none` while not filled -/
  bins : List (Option SpurBin)
  /-- last result traced -/
  traced : Bool
  /-- last result from gap mode -/
  gap : Bool
  /-- consecutive rejects -/
  rejects : Nat
  /-- mark of the last accepted result -/
  mark : Mark
  /-- tap tables -/
  taps : List (List Int)
  /-- sensor offsets, 0.25 degC -/
  sens : List Int
  deriving DecidableEq, Repr

/-- The trims of a Spur in force (R135, R370). -/
structure Trims where
  /-- the code table, FCODE 8 to 96 (R106) -/
  codes : List (BitVec 16)
  /-- SPR_DETTRIM -/
  offs : List Int
  /-- detector threshold trims -/
  thr : List Nat
  /-- SPR_MONTRIM -/
  mon : List Nat
  /-- SPR_TSOFF -/
  sens : List Int
  deriving DecidableEq, Repr

/-- The trims that RWL registers write (R135, R370). -/
inductive TrimField where
  /-- the code-table entry of an FCODE -/
  | code (fcode : Nat)
  /-- SPR_DETTRIM.OFFq -/
  | off (q : Nat)
  /-- SPR_MONTRIM.TRIMq -/
  | mon (q : Nat)
  /-- SPR_TSOFF.Sq -/
  | sens (q : Nat)
  deriving DecidableEq, Repr

/-- The calibration state of a Spur (R340 to R370). -/
structure Cal where
  /-- trims in force -/
  trims : Trims
  /-- trims staged, with the mark of their application (R361) -/
  staged : Option (Mark × Trims)
  /-- RWL trim writes staged, oldest first: the mark of application, the trim, the bits written (R361, R497) -/
  writes : List (Mark × TrimField × Nat)
  /-- the Cairn record -/
  record : SpurRec
  /-- SPR_TEMP.S0, 1/16 degC -/
  s0 : Int
  /-- SPR_TEMP.S1 -/
  s1 : Int
  /-- sensor 0 failed (R446) -/
  bad0 : Bool
  /-- sensor 1 failed -/
  bad1 : Bool
  /-- DCO gain of the last accepted measurement, 0.1 ppm per LSB; SPR_CALQ.GAIN gives it in ppm -/
  gain : Nat
  /-- SPR_CALQ.DNL -/
  dnl : Nat
  /-- SPR_CALQ.DET -/
  det : Int
  /-- residual of each detector, 0.25 mV (R349, R366) -/
  resids : List Int
  /-- bin of the last accepted result (R366) -/
  lastBin : Nat
  /-- the temperature at W + 2 of the window in progress, 1/16 degC (R359) -/
  winTemp : Option Int
  /-- SPR_CALQ.DCO_PPM -/
  ppm : Int
  /-- SPR_CALSTAT.CLAMPED -/
  clamped : Bool
  /-- SPR_CALSTAT.HI_BIN -/
  hiBin : Nat
  /-- SPR_CALSTAT.LO_BIN -/
  loBin : Nat
  /-- accepted results of the window or sweep, waiting to be applied -/
  results : List CalItem
  /-- a result of the window or sweep was rejected -/
  rejected : Bool
  /-- FCODEs marked for measurement, with the code to drive where it is not the entry's (R107, R347, R348) -/
  marked : List (Nat × Option (BitVec 16))
  /-- FCODEs marked in the window in progress for the next one (R348) -/
  retry : List (Nat × Option (BitVec 16))
  /-- rotating pointer of the excursions (R347) -/
  pointer : Nat
  /-- the code that drove the ring before the excursions (R347) -/
  heldCode : Option (BitVec 16)
  /-- gap items completed in the sweep: timers 0 to 7, detectors 8 to 11, sensors 12 and 13 (R364) -/
  sweep : List Nat
  /-- sensor 0 has converted (R446) -/
  had0 : Bool
  /-- sensor 1 has converted -/
  had1 : Bool
  /-- samples steps done of each gap timer item (R364) -/
  gapSteps : List Nat
  /-- sum of the loop's integrator over the comparisons of W + 10 and W + 11, with its fractional bits (R347) -/
  sumInteg : Nat
  /-- how many they were -/
  cntInteg : Nat
  /-- excursion slots done in the window (R347) -/
  slot : Nat
  /-- mark in which the present gap sweep began (R363) -/
  sweepAt : Option Mark
  /-- ridge count at which the last gap step ended (R363) -/
  stepAt : Option Ridge
  /-- mark of the last conversion of sensor 0 (R352) -/
  conv0 : Mark
  /-- the same, sensor 1 -/
  conv1 : Mark
  /-- guard-rated ceilings, by format class (R234) -/
  guards : List Nat
  /-- the mark in which a write of a ceiling last reached the Spur: Summit takes the shadow into account from the next one (R234) -/
  ceilAt : Option Mark
  /-- the ceiling shadows as they stood before the writes of that mark, by format class -/
  ceilOld : List Nat
  deriving DecidableEq, Repr

/-- A Spur: SPR[n], regions 0 to 399 and field spares 400 to 424 (R7). -/
structure Spur where
  /-- generator -/
  gen : Gen
  /-- stretching -/
  str : Str
  /-- workload -/
  wl : Wl
  /-- limit sources -/
  lim : Limits
  /-- gates and fault state -/
  gates : Gates
  /-- calibration -/
  cal : Cal
  deriving DecidableEq, Repr

/-! ## The Saddle -/

/-- One temperature bin of a Saddle's Cairn record (R376). -/
structure SaddleBin where
  /-- T_b, 1/16 degC -/
  tb : Int
  /-- DLY_TRIM -/
  dly : Nat
  /-- BDLY toward the higher region -/
  bhi : Nat
  /-- BDLY toward the lower region -/
  blo : Nat
  deriving DecidableEq, Repr

/-- The record of a Saddle (R376). -/
structure SaddleRec where
  /-- the bins -/
  bins : List (Option SaddleBin)
  /-- residual skew at the save, 1/16 phase -/
  rbar : Int
  /-- last result traced -/
  traced : Bool
  /-- consecutive rejects -/
  rejects : Nat
  /-- mark of the last accepted result -/
  mark : Mark
  deriving DecidableEq, Repr

/-- A notice code on its way through a Saddle (R143, R144, R148). -/
structure Notice where
  /-- the code as the sending Spur put it on the wires -/
  code : BitVec 3
  /-- the ratio of the seam when it was sent (R214) -/
  ratio : Nat
  /-- the receiver was the faster side -/
  toFaster : Bool
  /-- the last code of a cycle of the slower side: what the sum holds is delivered with it (R148) -/
  last : Bool
  /-- sent at the edge that begins the cycle whose difference the resynchronisation measures (R147) -/
  atRef : Bool
  /-- edges that the receiver has yet to make before the code counts for its next decision (R144) -/
  wait : Nat
  deriving DecidableEq, Repr

/-- One direction of a Saddle: the capture of bulk words and the notice conversion. -/
structure Lane where
  /-- retiming register or the entries of the elastic stage: tag and word, by entry number (R201, R208) -/
  entries : List (Nat × Word)
  /-- the word last presented to the receiving router, none when presented invalid (R210) -/
  out : Option Word
  /-- faster phases carried toward the slower side (R148) -/
  carry : Int
  /-- the relay estimate of the outer neighbour's debt less the lender's (R217) -/
  relay : Int
  /-- notices sent and not yet delivered, oldest first (R144) -/
  flight : List Notice
  /-- what notices sent after the reference cycle have brought the receiver in this mark (R147) -/
  got : Int
  /-- what the receiver's own edges after its reference cycle have changed its debt by (R147) -/
  own : Int
  /-- extra delay added by the perturbation unit, quarter phases (R507) -/
  extra : Nat
  deriving DecidableEq, Repr

/-- A Saddle: SAD[s] (R8, R197 to R230). -/
structure Saddle where
  /-- SAD_STAT.USABLE -/
  usable : Bool
  /-- SAD_STAT.FAILED -/
  failed : Bool
  /-- unusable from the next mark (R220, R222) -/
  disableNext : Bool
  /-- returns to use at the next mark (R220) -/
  enableNext : Bool
  /-- lanes held invalid and notices stopped until a resynchronisation at cycle 8 (R216, R220, R440, R453) -/
  held : Bool
  /-- SAD_CTRL.DISABLE -/
  disable : Bool
  /-- SAD_CTRL.HOLD_TRACK -/
  holdTrack : Bool
  /-- SAD_STAT.BORROW: 0 none, 1 lower lends to higher, 2 higher lends to lower -/
  borrow : Nat
  /-- ratio mode of the lower side: 1, 2 or 4 (R212) -/
  ratio : Nat
  /-- the higher region is the faster side -/
  fastHigh : Bool
  /-- ratio mode of the higher side, which switches at its own commit (R214) -/
  ratioHi : Nat
  /-- the same for the higher side -/
  fastHighHi : Bool
  /-- tally mark at which the lower side last changed its mode (R214) -/
  modeLo : Option Mark
  /-- the same, higher side -/
  modeHi : Option Mark
  /-- the tally mark and the number of the last measurement in it (R204) -/
  meas : Option (Mark × Nat)
  /-- largest |measurement - r| of the previous tally mark, 1/16 phase -/
  peak : Nat
  /-- the same, so far in this mark -/
  peakNow : Nat
  /-- m at the last resynchronisation, 1/16 phase -/
  diff : Int
  /-- residual skew, 1/16 phase (R202) -/
  rbar : Int
  /-- remainder of the tracker's sixteenth (R205), in 1/16 of 1/16 phase -/
  rfrac : Int
  /-- capture phase toward the higher region, quarter phases -/
  capHi : Nat
  /-- capture phase toward the lower region -/
  capLo : Nat
  /-- SAD_QUAL.DLY_TRIM -/
  dly : Nat
  /-- SAD_QUAL.RESID_PS -/
  residPs : Int
  /-- borrow-path trim toward the higher region -/
  bdlyHi : Nat
  /-- borrow-path trim toward the lower region -/
  bdlyLo : Nat
  /-- trims staged, with the mark of application -/
  staged : Option (Mark × SaddleBin)
  /-- RWL trim writes staged, oldest first: the mark of application, 0 DLY_TRIM, 1 BDLY toward the higher region, 2 toward the lower, the value -/
  writes : List (Mark × Nat × Nat)
  /-- SAD_ELASTIC.MIN_INT -/
  minInt : Nat
  /-- the same, so far in this mark -/
  minNow : Nat
  /-- SAD_BORROW.SLIP -/
  slip : Int
  /-- SAD_BORROW.ACTIVE -/
  active : Bool
  /-- SAD_CNT.TAG_ERR -/
  tagErr : BitVec 16
  /-- SAD_CNT.DROPPED -/
  dropped : BitVec 16
  /-- mark of the last WINDOW_EXCEEDED or ELASTIC_SLIP (R220) -/
  lastErr : Option Mark
  /-- consecutive marks with |r| above the failure bound (R220) -/
  skewBad : Nat
  /-- an open SKEW_RANGE episode (R206) -/
  skewOpen : Bool
  /-- marks inside the limit in the open episode -/
  skewOk : Nat
  /-- events already raised in this mark (R221) -/
  raisedNow : List Ev
  /-- the calibration engine is to re-trim its delay lines (R206) -/
  retrim : Bool
  /-- lane toward the higher region -/
  toHi : Lane
  /-- lane toward the lower region -/
  toLo : Lane
  /-- the bins, `none` while not filled (R376) -/
  bins : List (Option SaddleBin)
  /-- consecutive rejects -/
  rejects : Nat
  /-- a result of the window was rejected -/
  rejected : Bool
  /-- accepted results of the window -/
  results : List CalItem
  /-- values clamped (R360) -/
  clamped : Bool
  /-- last result traced -/
  traced : Bool
  /-- mark of the last accepted result -/
  calMark : Mark
  /-- bin of the last accepted result (R366) -/
  lastBin : Nat
  deriving DecidableEq, Repr

/-! ## The Col -/

/-- A field spare's tracking (R126, R136). -/
structure Spare where
  /-- SPR_SPARE.TRACK -/
  track : Bool
  /-- SPR_SPARE.ALIGNED -/
  aligned : Bool
  /-- SPR_SPARE.DRIVING -/
  driving : Bool
  /-- SPR_SPARE.TARGET -/
  target : Nat
  /-- mark in which tracking began (R437) -/
  since : Mark
  /-- the region's own Spur tracks the spare for the return (R126, R424, R453) -/
  returning : Bool
  /-- consecutive cycles with the two outputs within 1 phase, up to 16 (R126) -/
  run : Nat
  /-- the tracked Spur's debt at its last edges, newest first, for the lag of 2 cycles (R126) -/
  trail : List Nat
  deriving DecidableEq, Repr

/-- A field's borrow (R215, R216). -/
structure Borrow where
  /-- the borrowed region -/
  region : Nat
  /-- its lender -/
  lender : Nat
  /-- first mark of the wait for a quiet mark -/
  since : Mark
  /-- a quiet mark was found, or 64 marks passed: the switch mark is fixed -/
  ready : Bool
  /-- the lender's tally mark at which it was fixed: the path connects at the next one -/
  quietAt : Mark
  /-- the path is connected -/
  connected : Bool
  deriving DecidableEq, Repr

/-- The regulator link of a field (R459 to R463, R478). -/
structure Avs where
  /-- LINK_FAIL -/
  failed : Bool
  /-- consecutive failed transactions -/
  bad : Nat
  /-- consecutive good transactions since the link failed -/
  good : Nat
  /-- the request, mV (R460) -/
  req : Nat
  /-- voltage of the step in force, mV -/
  inForce : Nat
  /-- the value last written -/
  written : Nat
  /-- the value last acknowledged, or written downward (R463) -/
  acked : Nat
  /-- a written rise waits for its acknowledgement -/
  waiting : Bool
  /-- ridge count before which no status slot may end: end of the expected slew (R461) -/
  slewEnd : Ridge
  /-- the highest voltage acknowledged and carried in a report (R44, R462) -/
  reported : Nat
  /-- the next telemetry read takes the current -/
  turn : Bool
  /-- latest rail voltage, mV -/
  rail : Nat
  /-- latest rail current, LSB -/
  amps : Nat
  /-- consecutive readings out of band (R463) -/
  outBand : Nat
  /-- consecutive readings in band since the cap -/
  inBand : Nat
  /-- the grant is capped for RAIL_BAND -/
  capped : Bool
  /-- the FCODE of the cap, set when the link failed or the rail left its band -/
  capFcode : Nat
  /-- the lower request due after a downward commit is held until ridge tick 16 of this mark (R183) -/
  lowerDue : Option Mark
  /-- the voltage of the step in force before a downward commit, below which the request may not fall until the lower one is taken, mV; 0 with none (R183) -/
  hold : Nat
  /-- the transaction whose reply has not come: 0 none, 1 voltage write, 2 status read, 3 rail voltage read, 4 rail current read (R461) -/
  openTx : Nat
  /-- frames for which it has waited, its one retry included (R445) -/
  frames : Nat
  /-- the ridge count at which the last slot began (R461) -/
  slotAt : Option Ridge
  deriving DecidableEq, Repr

/-- A Col: COL[f] (R98, R456 to R458, R478, R535). -/
structure Col where
  /-- active copy: false primary, true standby -/
  active : Bool
  /-- primary copy failed -/
  pFailed : Bool
  /-- standby copy failed -/
  sFailed : Bool
  /-- a test passed since the copy failed (R453) -/
  testPassed : Bool
  /-- selected spine: false A, true B -/
  sel : Bool
  /-- spine A healthy -/
  aOk : Bool
  /-- spine B healthy -/
  bOk : Bool
  /-- marks without a fault on spine A since it became faulty (R80) -/
  aRun : Nat
  /-- the same, spine B -/
  bRun : Nat
  /-- a fault on spine A in the present mark (R80) -/
  aHit : Bool
  /-- the same, spine B -/
  bHit : Bool
  /-- spine A stays faulty until reset (R450) -/
  aStuck : Bool
  /-- the same, spine B -/
  bStuck : Bool
  /-- a switch of spine is due at the next mark -/
  switchDue : Bool
  /-- the due switch was asked for by firmware (R98) -/
  switchAsked : Bool
  /-- spine B minus spine A, ps (R78) -/
  skew : Int
  /-- COL_SPINE.MISMATCHES -/
  mismatches : Nat
  /-- how far the ridge counter that spine A clocks stands from the true count, modulo 2^48: 0 for a right counter (R82, R84) -/
  errA : Ridge
  /-- the same, spine B -/
  errB : Ridge
  /-- counter A is to be reloaded at the next mark -/
  reloadA : Bool
  /-- counter B is to be reloaded -/
  reloadB : Bool
  /-- the Summit copy whose beacon was last accepted (R43) -/
  commander : Bool
  /-- the last command word acted on (R42) -/
  lastCmd : Word
  /-- COL_EVSUM.BEACON_AGE -/
  beaconAge : Nat
  /-- COL_EVSUM: a fatal record is held -/
  recValid : Bool
  /-- COL_EVSUM.SUMMIT_LOST -/
  recSummit : Bool
  /-- COL_EVSUM.RIDGE_LOST -/
  recRidge : Bool
  /-- COL_EVSUM.DROVE -/
  recDrove : Bool
  /-- COL_EVSUM.CODE -/
  recCode : Nat
  /-- COL_FAULT.SLIP -/
  slip : Int
  /-- the field spare's tracking -/
  spare : Spare
  /-- the field's borrow -/
  borrow : Option Borrow
  /-- regulator link -/
  avs : Avs
  /-- sequence number last applied by every Spur of the field, as reported (R44) -/
  repSeq : Seq
  /-- mark of the last report (R44) -/
  repMark : Option Mark
  /-- which of the field's units the next telemetry slice is of (R44) -/
  telem : Nat
  /-- the staged, unapplied sequence numbers that the report showed armed -/
  repArmed : List Seq
  /-- alarms waiting to reach Summit in the report: event and Spur or Saddle -/
  alarms : List (Ev × Nat)
  /-- the report showed every root gate of the field closed and every debt at 0 (R470) -/
  repHeld : Bool
  /-- COL_RELEASE.POS as last written -/
  relPos : Nat
  deriving DecidableEq, Repr

/-! ## Ridgeline and Lookout -/

/-- The states of the root loop (R62). -/
inductive Root where
  | selA
  | selB
  | holdover
  | failed
  deriving DecidableEq, Repr

/-- One reference input (R64 to R67, R94). -/
structure RefIn where
  /-- marked present by the table in force (R67, R90) -/
  declared : Bool
  /-- not lost (R64) -/
  present : Bool
  /-- qualified (R66) -/
  qual : Bool
  /-- the running gate started with the input present and counting toward qualification, and no edge has been lost since -/
  clean : Bool
  /-- the running gate counts toward qualification: it began after the table that declares the input and after its last unlock (R67, R72) -/
  counts : Bool
  /-- the running gate began after the oscillator trim was loaded (R482) -/
  strict : Bool
  /-- RDG_GATE.COUNT -/
  count : Nat
  /-- RDG_GATE.VALID -/
  valid : Bool
  /-- REF_ABSENT raised in this qualification attempt -/
  absentRaised : Bool
  deriving DecidableEq, Repr

/-- Ridgeline: root loop, ridge count, reference configuration (R62 to R98). -/
structure Ridgeline where
  /-- RDG_REFSTAT.STATE -/
  root : Root
  /-- RDG_REFSTAT.LOCK -/
  lock : Bool
  /-- the frequency word is frozen (R68, R73) -/
  wordFrozen : Bool
  /-- fan-out driven from root / 40 -/
  fanHold : Bool
  /-- REFCLK_A -/
  a : RefIn
  /-- REFCLK_B -/
  b : RefIn
  /-- a requested switch waits for the next mark (R71) -/
  reqSwitch : Bool
  /-- a revertive or table-driven switch waits for the next mark (R70, R90) -/
  revertDue : Bool
  /-- mark in which HOLDOVER began -/
  holdStart : Mark
  /-- mark in which HOLDOVER was last left (R77) -/
  holdLeft : Option Mark
  /-- the SAFE cap of holdover is in force (R74, R76) -/
  safeCap : Bool
  /-- the ridge count -/
  ridge : Ridge
  /-- RDG_COUNT_HI.EPOCH -/
  epoch : Nat
  /-- the start pulse has been given: marks exist (R484) -/
  started : Bool
  /-- Summit's tick 0 of this mark has passed (R43) -/
  tick0 : Bool
  deriving DecidableEq, Repr

/-- Who owns a channel (R412). -/
inductive Owner where
  | none
  | register
  | descriptor (ringIdx : Nat)
  | claimed
  deriving DecidableEq, Repr

/-- The time of day, with 32 bits below the nanosecond (R402). -/
structure Tod where
  /-- seconds, 48 bits -/
  secs : Nat
  /-- nanoseconds -/
  ns : Nat
  /-- 2^-32 ns -/
  sub : Nat
  deriving DecidableEq, Repr

/-- A Lookout channel (R390 to R401, R412). -/
structure Channel where
  /-- ARMED -/
  armed : Bool
  /-- OWNER -/
  owner : Owner
  /-- FREQ -/
  freq : Bool
  /-- DONE -/
  done : Bool
  /-- REASON -/
  reason : Nat
  /-- CAL_OK -/
  calOk : Bool
  /-- paired mode in the running measurement -/
  paired : Bool
  /-- stop channel of the running measurement -/
  stopCh : Nat
  /-- edges or pairs that end it -/
  count : Nat
  /-- mark in which arming completed -/
  armMark : Mark
  /-- timeout or gate, marks -/
  limit : Nat
  /-- accepted edges since arming (EDGES, saturating) -/
  edges : Nat
  /-- edges or pairs taken -/
  taken : Nat
  /-- open start timestamp of a pair -/
  openTs : Option (BitVec 64)
  /-- timestamp of a stop with no start open, which a start within 1 LSB after it makes a pair (R396) -/
  strayTs : Option (BitVec 64)
  /-- arming is complete from this time on, fine units (R393, R394) -/
  readyAt : Nat
  /-- first and last timestamps of the result -/
  firstTs : BitVec 64
  /-- last timestamp of the result -/
  lastResTs : BitVec 64
  /-- smallest, largest and summed intervals, fine units (R392) -/
  minIv : Int
  /-- largest interval -/
  maxIv : Int
  /-- sum of intervals -/
  sumIv : Int
  /-- TIE count -/
  ties : Nat
  /-- STRAY_STOP count -/
  strays : Nat
  /-- missed count -/
  missed : Nat
  /-- time base was held over in the measurement -/
  heldSeen : Bool
  /-- a reference switchover fell into the measurement (R407) -/
  untraced : Bool
  /-- time of day of the first edge (R401) -/
  firstTod : Tod
  /-- CAL.SCALE, 1/16 code -/
  scale : Nat
  /-- CAL.OFFSET, 1/16 code -/
  offset : Int
  /-- LAST timestamp -/
  lastTs : BitVec 64
  /-- 64 bytes of the last result -/
  res : List Byte
  /-- result address of the descriptor -/
  addr : Nat
  deriving DecidableEq, Repr

/-- Lookout: time, channels, comparators, presence of CALREF (R390 to R412, R468, R479). -/
structure Lookout where
  /-- LKO_STAT.TIMER_LOCK -/
  timerLock : Bool
  /-- LKO_STAT.TOD_SET -/
  todSet : Bool
  /-- LKO_STAT.TOD_SRC: 0 REFCLK_A, 1 REFCLK_B, 2 local oscillator -/
  todSrc : Nat
  /-- time of day -/
  tod : Tod
  /-- slew remaining, 2^-8 ns (LKO_ADJ_LEFT) -/
  slewLeft : Int
  /-- remaining slew below 2^-8 ns, 2^-32 ns -/
  slewSub : Int
  /-- ticks since the rate inputs were last sampled in V2 (R402) -/
  v2Ticks : Nat
  /-- mark at which the last background code density began (R354) -/
  lastDens : Option Mark
  /-- a set is pending for the next mark -/
  setDue : Bool
  /-- a step is pending for the next mark -/
  stepDue : Bool
  /-- the rate inputs sampled for this mark: a (2^-16 ppm), e (ppb) (R402) -/
  rateA : Int
  /-- e in force, ppb -/
  rateE : Int
  /-- the slew rate in force, ppm, signed -/
  rateS : Int
  /-- snapshot at the last mark -/
  snap : Tod
  /-- its mark -/
  snapMark : Mark
  /-- time of day of the last PPS_IN edge -/
  pps : Tod
  /-- LKO_PPSIN_S_HI.COUNT -/
  ppsCount : BitVec 16
  /-- PPS_IN_MISSING raised in this episode -/
  ppsMissing : Bool
  /-- mark of the last PPS_IN edge captured (R406) -/
  ppsAt : Option Mark
  /-- mark at which the error of the local oscillator was last measured (R403) -/
  loAt : Option Mark
  /-- mark of the last snapshot (R405) -/
  snapAt : Option Mark
  /-- PPS_OUT level, and ticks left of its high time -/
  ppsOut : Bool
  /-- ticks (10 ns) left of the high time -/
  ppsLeft : Nat
  /-- LKO_BG.PPS_SKIP -/
  ppsSkip : BitVec 8
  /-- LKO_BG.DENS_ABORT -/
  densAbort : BitVec 8
  /-- LKO_BG.REF_SKIP -/
  refSkip : BitVec 16
  /-- background REFCLK gate running -/
  bgRef : Bool
  /-- background code density running -/
  density : Bool
  /-- delta of the local oscillator, ppb, once measured (R403) -/
  loErr : Option Int
  /-- phase widths in use, 1/256 LSB (R354) -/
  widths : List Int
  /-- Lookout's bins: stored temperature and widths, `none` while not filled (R376) -/
  bins : List (Option (Int × List Int))
  /-- Lookout's temperature as its sensor last gave it, 1/16 degC (R359) -/
  temp : Int
  /-- widths staged, with the mark of application (R361) -/
  staged : Option (Mark × List Int)
  /-- values clamped (R360) -/
  clamped : Bool
  /-- last result traced -/
  traced : Bool
  /-- mark of the last accepted result -/
  calMark : Mark
  /-- consecutive rejects of the Lookout unit -/
  rejects : Nat
  /-- the six channels -/
  ch : Vector Channel 6
  /-- CALREF shows edges (R538) -/
  calref : Bool
  /-- CALREF declared present (R90) -/
  calrefDeclared : Bool
  /-- declared REFCLK tolerance, ppm (R90) -/
  tolerance : Nat
  /-- the oscillator trim of bank F is loaded (R482) -/
  trimLoaded : Bool
  /-- the trim of the local oscillator as bank F gives it (R65, R376) -/
  oscTrim : Nat
  /-- the board table's reference and trip sections are held (R480) -/
  tableKept : Bool
  /-- the preferred input of the kept reference section is B (R90, R480) -/
  tabPrefer : Bool
  /-- its revertive flag -/
  tabRevert : Bool
  /-- its stack fan-out enables -/
  tabStk : Word
  /-- its Ethernet fan-out enables -/
  tabEth : Word
  /-- trip levels, degC -/
  tripLevels : List Nat
  /-- trips in force -/
  trips : List Bool
  /-- TRIP1 released: mark from which the governor's 1,024 marks count -/
  trip1Rel : Option Mark
  /-- SUP0 -/
  sup0 : Bool
  /-- SUP1 -/
  sup1 : Bool
  /-- a save was pending at park (R384) -/
  savePending : Bool
  /-- the oscillator has settled (R481) -/
  oscOk : Bool
  /-- Lookout lost (R434) -/
  lost : Bool
  deriving DecidableEq, Repr

/-! ## Summit: domains, sets, plan -/

/-- A domain's configuration (R167 to R173, R192 to R194). -/
structure Dom where
  /-- ratio exponent -/
  k : Nat
  /-- ladder: FCODE of steps 0 to 15 -/
  ladder : List Nat
  /-- SAFE step -/
  safe : Nat
  /-- NOMINAL step -/
  nominal : Nat
  /-- format class in force -/
  fmt : Nat
  /-- step requested -/
  req : Nat
  /-- step in force -/
  step : Nat
  deriving DecidableEq, Repr

/-- The domains, their map and the base: in force, or as a set will leave them (R167, R172, R175). -/
structure Fabric where
  /-- the 8 domains -/
  doms : List Dom
  /-- domain of each field -/
  map : List Nat
  /-- base B -/
  base : Nat
  /-- base request B_r -/
  baseReq : Nat
  deriving DecidableEq, Repr

/-- Where a buffered descriptor stands (R312, R313); `done` once its completion is made and waits to be written. -/
inductive Stage where
  | fetched
  | formed
  | staged
  | action
  | waiting
  | done
  deriving DecidableEq, Repr

/-- An entry of the fetch buffer (R313). -/
structure FbEntry where
  /-- ring index -/
  idx : Nat
  /-- the descriptor, 64 bytes -/
  bytes : List Byte
  /-- disposition: the stage -/
  stage : Stage
  /-- disposition: sequence number of the set it joined -/
  set : Option Seq
  /-- carried later than its target (R180) -/
  late : Bool
  /-- group slot it waits for -/
  slot : Option Nat
  deriving DecidableEq, Repr

/-- Where a commit set comes from (R176 to R178, R184, R185, R304): host descriptors, a drop of Summit's own, a set of basic control, an intermediate set of a raise series with its head's number and its base, or the raise after a format change. -/
inductive SetKind where
  | host
  | drop
  | basic
  | series (head : Seq) (base : Nat)
  | fmtRaise
  deriving DecidableEq, Repr

/-- A commit set (R176 to R188). -/
structure CommitSet where
  /-- where it comes from -/
  kind : SetKind
  /-- sequence number -/
  seq : Seq
  /-- target mark -/
  target : Mark
  /-- ring indices of its descriptors, in ring order -/
  members : List Nat
  /-- what the set leaves in force -/
  result : Fabric
  /-- FCODE that each domain's Spurs commit -/
  fcodes : List Nat
  /-- STEP that each domain's Spurs commit -/
  steps : List Nat
  /-- fence operations by Spur -/
  fences : List (Nat × Nat)
  /-- a field's voltage rises (R179) -/
  up : Bool
  /-- FCODE whose voltage the set requests, by domain (R184, R324) -/
  volt : List Nat
  /-- deferrals for voltage, or arm retries (R182, R555) -/
  defers : Nat
  /-- CHANGE_DEFERRED raised -/
  deferRaised : Bool
  /-- retargeted later than its descriptors asked (R180) -/
  late : Bool
  /-- group slots unresolved in it (R323) -/
  slots : List Nat
  /-- staged in the Spurs -/
  staged : Bool
  /-- armed -/
  armed : Bool
  /-- applied, waiting for its reports -/
  applied : Bool
  /-- cancelled because it changes nothing; its descriptors complete at T + 1 (R179) -/
  isNull : Bool
  /-- its contents changed after staging: restaged at the next ridge tick 0 (R177, R186, R326) -/
  restage : Bool
  /-- the first mark in which it may be staged, or staged again with a descriptor that joined it: the one after that in which its last descriptor was processed (R180, R186) -/
  ready : Mark
  /-- the raise that its new format class allows has been formed as a set of its own (R185) -/
  raiseFormed : Bool
  /-- fields that have reported it applied (R61) -/
  reported : List Nat
  deriving DecidableEq, Repr

/-- States of a group slot (R337). -/
inductive GroupState where
  | free
  | opened
  | closed
  | applies
  | loses
  | late
  deriving DecidableEq, Repr

/-- A group slot (R320 to R328, R337). -/
structure Group where
  /-- STATE -/
  st : GroupState
  /-- group number -/
  num : Nat
  /-- object watched -/
  obj : Nat
  /-- condition -/
  cond : Nat
  /-- value -/
  value : Word
  /-- sense -/
  sense : Bool
  /-- members accepted -/
  members : Nat
  /-- the COND_BEGIN's mark of processing -/
  since : Mark
  /-- mark of the resolving reading, or the deadline mark -/
  mark : Mark
  /-- last value read -/
  last : Word
  /-- marks without a reading -/
  silent : Nat
  /-- SYNC_READ_LATE raised -/
  lateRaised : Bool
  /-- ring index of its COND_BEGIN -/
  beginIdx : Nat
  /-- a COND_END has been processed: its ring index -/
  endIdx : Option Nat
  /-- what follows from its outcome has been done, in the mark after the resolving reading (R326, R328) -/
  settled : Bool
  /-- the ring index of its COND_END, where one had been processed before a takeover that takes the group up again (R332) -/
  lastEnd : Option Nat
  deriving DecidableEq, Repr

/-- A WAIT_SYNC at the head of processing (R319, R338). -/
structure Wait where
  /-- ring index of the descriptor -/
  idx : Nat
  /-- object -/
  obj : Nat
  /-- condition -/
  cond : Nat
  /-- value -/
  value : Word
  /-- timeout, marks -/
  timeout : Nat
  /-- first watched mark -/
  since : Mark
  /-- last value read -/
  last : Word
  /-- marks without a reading -/
  silent : Nat
  /-- SYNC_READ_LATE raised -/
  lateRaised : Bool
  deriving DecidableEq, Repr

/-- What waits for a target mark without a commit set (R290, R312, R554). -/
structure Action where
  /-- ring index -/
  idx : Nat
  /-- target mark -/
  target : Mark
  /-- completes APPLIED_LATE -/
  late : Bool
  /-- waits for its group first: the slot -/
  slot : Option Nat
  deriving DecidableEq, Repr

/-- Summit's plan state (R312 to R339). -/
structure Plan where
  /-- fetch buffer, in ring order -/
  buf : List FbEntry
  /-- sets formed, staged and armed, in the order formed -/
  sets : List CommitSet
  /-- pending actions -/
  actions : List Action
  /-- group slots 0 to 3 -/
  groups : List Group
  /-- the WAIT_SYNC that holds processing -/
  wait : Option Wait
  /-- processing resumes at this mark -/
  resumeAt : Option Mark
  /-- expected sequence number -/
  nextSeq : Nat
  /-- Summit's own sequence counter (R178) -/
  ownSeq : Nat
  /-- MARKERs not completed, by ring index (R290) -/
  markers : List Nat
  /-- SUM_RESUME.SEQ, once a takeover has reprocessed -/
  resume : Option Nat
  /-- SUM_RESUMECNT.APPLIED -/
  resApplied : Nat
  /-- SUM_RESUMECNT.COUNT -/
  resCount : Nat
  /-- mark of the last descriptor fetch (R306) -/
  lastFetch : Mark
  /-- reads of objects sent in this mark (R317) -/
  readSent : List Nat
  /-- the mark in which they were sent -/
  readMark : Option Mark
  /-- mark of the last raise staged under basic control (R304) -/
  lastRaise : Option Mark
  deriving DecidableEq, Repr

/-- The host ring interface (R269 to R283, R307 to R310). -/
structure Hri where
  /-- STOPPED -/
  stopped : Bool
  /-- IDLE -/
  idle : Bool
  /-- disable actions are running (R282) -/
  disabling : Bool
  /-- HRI_STAT.BDT -/
  bdt : Nat
  /-- AGREED in force since the last enable (R292) -/
  agreed : Nat
  /-- PLAN_PROD -/
  planProd : Word
  /-- PLAN_CONS -/
  planCons : Word
  /-- CMPL_PROD -/
  cmplProd : Word
  /-- CMPL_CONS -/
  cmplCons : Word
  /-- EVT_PROD -/
  evtProd : Word
  /-- EVT_CONS -/
  evtCons : Word
  /-- EVT_LOST -/
  evtLost : Nat
  /-- the next event record carries LOST -/
  lostFlag : Bool
  /-- a control block read is in flight -/
  reading : Bool
  /-- a further read follows it (R273) -/
  readAgain : Bool
  /-- completions not yet written -/
  cmplQ : List Completion
  /-- an open CMPL_FULL episode (R278) -/
  fullOpen : Bool
  /-- completions found the ring full and are held -/
  held : Nat
  /-- vectors that sent a message in this mark (R280) -/
  msiSent : List Nat
  /-- board description table in force: regulator, cooling sections -/
  curve : List Nat
  /-- O_f -/
  offs : List Int
  /-- slew rate, mV/us -/
  slew : List Nat
  /-- rail select -/
  rails : List Nat
  /-- park voltage -/
  park : Nat
  /-- rail current LSB, mA -/
  ampLsb : Nat
  /-- cooling class -/
  cooling : Nat
  /-- highest thermal cap -/
  maxTcap : Nat
  /-- read mode of the flash section -/
  flashMode : Nat
  /-- erase timeout of the flash section, us -/
  eraseTmo : Nat
  /-- program timeout, us -/
  progTmo : Nat
  deriving DecidableEq, Repr

/-- The governor and the budgets (R465 to R468, R477). -/
structure Gov where
  /-- G -/
  g : Nat
  /-- g_d -/
  gd : List Nat
  /-- REASON -/
  reason : Nat
  /-- HOLD -/
  hold : Nat
  /-- power of the last marks, microwatts, newest first, up to 1,024 -/
  hist : List Nat
  /-- P16 -/
  p16 : Nat
  /-- Pw -/
  pw : Nat
  /-- die power cap in force -/
  cap : Nat
  /-- thermal cap in force -/
  tcap : Nat
  /-- sprint class in force -/
  sprint : Nat
  /-- a cap and thermal cap written under basic control, taken at the next evaluation (R304) -/
  capDue : Bool
  /-- per domain, mark at which g_d last changed -/
  changed : List Mark
  /-- per domain, mark of the last evaluation whose Tmax was above the cap less 5 degC -/
  hot : List Mark
  /-- mark of the last evaluation of G (R466) -/
  evalAt : Option Mark
  /-- mark of the last evaluation of the thermal grants (R466) -/
  thermAt : Option Mark
  deriving DecidableEq, Repr

/-- An incident (R448, R449). -/
structure Incident where
  /-- class 0 to 7 -/
  cls : Nat
  /-- severity -/
  sev : Sev
  /-- event -/
  ev : Ev
  /-- the unit concerned -/
  unit : Nat
  /-- its place in the order of arrival (R449, R451) -/
  no : Nat := 0
  deriving DecidableEq, Repr

/-- Faults: incidents, FATAL state (R448 to R455). -/
structure Faults where
  /-- open incident of each class -/
  opened : List (Option Incident)
  /-- the queue, in order -/
  queue : List Incident
  /-- incidents that have arrived -/
  arrived : Nat
  /-- mark in which the storm last took an incident (R451) -/
  takenAt : Option Mark
  /-- an incident that found the queue full -/
  overflow : List Incident
  /-- SUM_FATAL.FATAL -/
  fatal : Bool
  /-- SUM_FATAL.CODE -/
  code : Nat
  /-- FATAL events raised and not yet acted on -/
  pending : List EventRec
  /-- an error storm lasts -/
  storm : Bool
  /-- SAFE forced by a FATAL event -/
  forceSafe : Bool
  /-- no change can be staged any more (R452) -/
  noStage : Bool
  /-- VGL_FATAL.SRC -/
  src : Nat
  /-- VGL_FATAL.CODE -/
  vglCode : Nat
  /-- VGL_PRIORFATAL.COLS -/
  prior : Nat
  /-- the last time of each repeated event: code, kind, index, mark (R450) -/
  seen : List (Ev × Nat × Nat × Mark)
  /-- a FATAL event other than ERROR_STORM has been acted on: CLEAR lifts nothing (R452) -/
  otherFatal : Bool
  /-- regions made dark in the storm, which stay dark until reset (R451) -/
  stormDark : List Nat
  deriving DecidableEq, Repr

/-- The event summary of the host ring interface (R530 to R532). -/
structure EvSum where
  /-- VGL_EVSUM severity bits, LOST and FILTERED -/
  bits : Word
  /-- VGL_EVGRP -/
  groups : Word
  /-- counts by severity -/
  counts : List Word
  /-- VGL_LAST -/
  last : Option EventRec
  deriving DecidableEq, Repr

/-- Mirror record (R54). -/
structure Mirror where
  /-- its mark -/
  mark : Mark
  /-- ring indices: producer and consumer of the plan, completion and event rings, in that order -/
  idx : List Word
  /-- ring version -/
  agreed : Nat
  /-- domains and base in force -/
  fab : Fabric
  /-- sequence number of each domain's last commit -/
  lastSeq : List Seq
  /-- armed sets -/
  armed : List CommitSet
  /-- governor and budgets -/
  gov : Gov
  /-- SUM_PROFILE -/
  profile : Word
  /-- open incidents -/
  opened : List (Option Incident)
  /-- incident queue -/
  queue : List Incident
  /-- imposed limits, by Spur -/
  limits : List Limits
  /-- ceilings, by Spur: SPR_CEIL_LO and SPR_CEIL_HI -/
  ceils : List (Word × Word)
  deriving DecidableEq, Repr

/-- The role of the Summit copies (R54 to R59, R491). -/
structure Role where
  /-- ACTIVE: false field 1, true field 23 -/
  active : Bool
  /-- the active copy is silent: self-check failed or failed outright -/
  silent : Bool
  /-- the active copy will assert self-check failure at the end of the mark (R59) -/
  swap : Bool
  /-- the standby copy is healthy -/
  standbyOk : Bool
  /-- the two latest complete mirror records, newest first -/
  mirrors : List Mirror
  /-- the records on their way, oldest first: of the mark before and of the current mark (R41) -/
  mirrorNext : List Mirror
  /-- MIRROR_OK was cleared by a late record (R55) -/
  mirrorLate : Bool
  /-- mark of the last complete record, or from which the standby has waited for one (R434) -/
  mirrorAt : Mark
  /-- mark of the last beacon sent -/
  lastBeacon : Option Mark
  /-- TAKEOVERS -/
  takeovers : Nat
  /-- sequence number of each domain's last commit -/
  lastSeq : List Seq
  /-- SUM_INSTRST.RESULT -/
  rstResult : Nat
  /-- mark at which the reset began -/
  rstMark : Mark
  /-- marks for which none has answered (R534) -/
  noAnswer : Nat
  /-- VGL_FATAL.NOPATH -/
  nopath : Bool
  /-- last valid sparing notice (R268): region, array, kind, spare -/
  spareLog : Option (Nat × Nat × Nat × Nat)
  /-- last re-computed BIND of each domain (R194) -/
  bind : List Nat
  /-- limits, ceilings moved: a recomputation of the base is due (R176) -/
  baseDue : Bool
  /-- a takeover has happened in this mark: the fetch buffer is taken up in the next, once the reports show which armed sets were applied (R57, R330) -/
  resumeDue : Bool
  /-- the grades of the 400 regions that Summit has computed and sends at ridge tick 0 of the next mark; empty where it has none to send (R256) -/
  grades : List Nat
  /-- the mark in which the grades were last computed (R256) -/
  gradeAt : Option Mark
  deriving DecidableEq, Repr

/-! ## Engines -/

/-- A native window (R341 to R346, R369). -/
structure Window where
  /-- first mark W -/
  w : Mark
  /-- N marks -/
  n : Nat
  /-- the ONCE flag: outside the periodic schedule -/
  once : Bool
  /-- the window command has been sent -/
  fixed : Bool
  deriving DecidableEq, Repr

/-- The calibration engine (R340 to R370). -/
structure CalEng where
  /-- the next window, if scheduled -/
  next : Option Window
  /-- extra windows waiting (ONCE) -/
  extras : List Window
  /-- the window that a CAL_WINDOW asked for while the next one was fixed (R365) -/
  queued : Option Window
  /-- the window in progress -/
  cur : Option Window
  /-- results of the window are void (R365) -/
  voided : Bool
  /-- first mark of the previous window -/
  prev : Option Mark
  /-- first mark after the previous window -/
  prevEnd : Option Mark
  /-- interval in force, ms -/
  interval : Nat
  /-- length in force, us -/
  length : Nat
  /-- parity of the window: borrow direction (R353) -/
  odd : Bool
  /-- WINDOWS -/
  windows : BitVec 16
  /-- GAP_ABORTS -/
  gapAborts : BitVec 8
  /-- epsilon of the last gate, ppb -/
  refErr : Option Int
  /-- IN_BAND -/
  inBand : Bool
  /-- mark at which the last gate ended -/
  gateMark : Option Mark
  /-- TRACED -/
  traced : Bool
  /-- REJECTS -/
  rejects : BitVec 16
  /-- windows with an accepted result since the last save request (R362) -/
  sinceSave : Nat
  /-- a reference switchover fell into the window (R365) -/
  switched : Bool
  /-- what the window in progress has come to: 0 measuring, 1 loops restored, 2 results judged, 3 results applied (R344) -/
  phase : Nat
  /-- the mark at which a new active engine judges and applies the results after a takeover in the window's last marks (R365) -/
  lateAt : Option Mark
  /-- mark of the last recomputation (R360) -/
  recompAt : Option Mark
  deriving DecidableEq, Repr

/-- The record of Lookout (R376). -/
structure LookoutRec where
  /-- the bins: stored temperature and widths -/
  bins : List (Option (Int × List Int))
  /-- last result traced -/
  traced : Bool
  /-- consecutive rejects -/
  rejects : Nat
  /-- mark of the last accepted result -/
  mark : Mark
  /-- local oscillator trim, copied from bank F (R65) -/
  oscTrim : Nat
  deriving DecidableEq, Repr

/-- One bank of the flash as the store last knows it (R373 to R378). -/
structure BankImg where
  /-- sequence of its commit record, none without a valid one -/
  commit : Option Nat
  /-- erase count of its header -/
  erase : Nat
  /-- mark at which its save began, in its header (R375) -/
  began : Mark
  /-- mark at which its last record was taken (R375) -/
  took : Mark
  /-- Spur records -/
  spurs : List SpurRec
  /-- Saddle records -/
  saddles : List SaddleRec
  /-- Lookout's record -/
  lookout : LookoutRec
  deriving DecidableEq, Repr

/-- The Cairn store (R371 to R389). -/
structure Cairn where
  /-- bank A -/
  a : BankImg
  /-- bank B -/
  b : BankImg
  /-- bank F -/
  f : BankImg
  /-- source in use: 0 A, 1 B, 2 F, 3 design defaults -/
  bank : Nat
  /-- SEQ -/
  seq : Nat
  /-- CRN_BOOTRES: A, B, F -/
  bootres : List Nat
  /-- SAVES -/
  saves : BitVec 16
  /-- FAILS -/
  fails : Nat
  /-- PENDING -/
  pending : Bool
  /-- the pending save starts at once, whatever the spacing (R383) -/
  urgent : Bool
  /-- SAVING -/
  saving : Bool
  /-- bank that the running save writes -/
  goal : Nat
  /-- records that the running save has taken (R382 step 5): of the Spurs, in index order -/
  recSpurs : List SpurRec
  /-- of the Saddles, in index order -/
  recSaddles : List SaddleRec
  /-- of Lookout -/
  recLookout : Option LookoutRec
  /-- mark at which the running save began (R375) -/
  began : Mark
  /-- mark at which it last took a record (R375) -/
  took : Mark
  /-- mark at which the last save started -/
  lastSave : Option Mark
  /-- a save left pending through V2 starts no earlier than this mark (R488) -/
  holdUntil : Option Mark
  /-- SAVE_F waits -/
  saveF : Bool
  /-- the device is unusable (R371) -/
  unusable : Bool
  /-- bank F verified at boot -/
  fOk : Bool
  /-- expected signatures of the Spurs -/
  spurSigs : List (List (BitVec 64))
  /-- expected signatures of the Col copies -/
  colSigs : List (List (BitVec 64))
  deriving DecidableEq, Repr

/-- The self-test controller (R413 to R433). -/
structure Bist where
  /-- KIND, UNIT, INST of the running or last test -/
  kind : Nat
  /-- UNIT -/
  unit : Nat
  /-- INST -/
  copy : Nat
  /-- F_CAP -/
  fcap : Nat
  /-- RESULT -/
  result : Nat
  /-- DONE -/
  done : Bool
  /-- PHASE -/
  phase : Nat
  /-- mark in which the phase began -/
  since : Mark
  /-- PATTERNS -/
  patterns : Nat
  /-- p of the test -/
  pow : Nat
  /-- signature -/
  misr : BitVec 64
  /-- expected signature -/
  exp : BitVec 64
  /-- configuration hash -/
  hash : Word
  /-- source of the last ABORTED_ENV -/
  src : Nat
  /-- the tested Spur drove its region: the spare stands in -/
  handover : Bool
  /-- entry to V1 waits for the return (R429) -/
  holdWaits : Bool
  /-- MAX_STEP as the start of the test read it (R418, R431) -/
  maxStep : Nat
  /-- the restored Spur's loop is LOCKED, and the entries were copied to it (R424, step 7) -/
  locked : Bool
  /-- BST_PORFAIL, by Spur -/
  porFail : List Nat
  /-- BST_PORCOL_P -/
  porP : Nat
  /-- BST_PORCOL_S -/
  porS : Nat
  /-- BST_PORSTAT -/
  porStat : Word
  /-- fields whose power-on run aborted and waits for its repeat, or aborted on it (R422) -/
  aborted : List Nat
  /-- fields that repeat their power-on run -/
  repeated : List Nat
  deriving DecidableEq, Repr

/-- Life cycle, unlock and test access (R495 to R510). -/
structure Lcs where
  /-- the state -/
  st : LifeCycle
  /-- a relock waits for the next mark -/
  relock : Bool
  /-- changes that the security block has reported and the next mark applies, in order (R495) -/
  due : List LifeCycle
  /-- FAILS -/
  fails : Nat
  /-- LOCKOUT -/
  lockout : Bool
  /-- USTAT -/
  ustat : Nat
  /-- a challenge has been asked for -/
  asked : Bool
  /-- the challenge -/
  chal : BitVec 64
  /-- mark at which it was issued -/
  issued : Mark
  /-- the challenge has expired (R501) -/
  expired : Bool
  /-- the mark of the last TAP_DENIED -/
  denied : Option Mark
  /-- segments open -/
  segs : List Bool
  /-- the mark in which the next injection burst is due, to begin at each Spur's next tally mark (R507) -/
  injNext : Option Mark
  deriving DecidableEq, Repr

/-- Block power states (R469). -/
inductive PState where
  | v0
  | v1
  | v2
  | v3
  deriving DecidableEq, Repr

/-- Start, power states and pins of the block (R469 to R493, R545). -/
structure Boot where
  /-- STAGE -/
  stage : Nat
  /-- READY -/
  ready : Bool
  /-- KIND -/
  kind : Nat
  /-- SMARK -/
  smark : Nat
  /-- SUM_BOOTTIME -/
  us : Word
  /-- the power state -/
  pst : PState
  /-- SUM_PSTATE.REQ -/
  req : Nat
  /-- SUM_PSTATE.STATE -/
  state : Nat
  /-- SUM_PSTATE.WAKE -/
  wake : Nat
  /-- an entry or exit is under way -/
  moving : Bool
  /-- mark at which the root gates close or open -/
  gateAt : Option Mark
  /-- mark of the park request -/
  parkAt : Option Mark
  /-- a wake event came during V2 entry -/
  wakeDue : Option Nat
  /-- BLK_RESET_N -/
  resetN : Bool
  /-- the die has driven BLK_RESET_N low again since the last start began: its release is a block reset (R480) -/
  reasserted : Bool
  /-- BLK_FATAL -/
  pinFatal : Bool
  /-- BLK_PARKRDY -/
  pinPark : Bool
  /-- BLK_WAKE -/
  pinWake : Bool
  /-- Col fields not acknowledged in stage 3 (R485) -/
  noBist : List Nat
  deriving DecidableEq, Repr

/-- What the block has done within the present control cycle, where the order of two writes in it counts (R17, R506). -/
structure CtlCycle where
  /-- W1C bits that the block has set, by register -/
  sets : RegFile
  /-- values written through IEEE 1687, by register -/
  tap : RegFile
  deriving DecidableEq, Repr

/-- The state of the block, with the queue of waiting commands. -/
structure State where
  /-- config words that firmware writes and the block holds (R512), sparse -/
  words : RegFile
  /-- RWS shadows with a write pending (R16, R18) -/
  shadows : RegFile
  /-- writes to the windows of failed Spurs whose region is borrowed or dark, oldest first, apart from RWS fields: offset, word, the bits that take effect after release (R443) -/
  held : List (Nat × Word × Word)
  /-- latched high words (R14, R405, R532) -/
  latches : RegFile
  /-- the present control cycle -/
  cyc : CtlCycle
  /-- the Spurs -/
  spurs : Vector Spur 425
  /-- the Saddles -/
  saddles : Vector Saddle 760
  /-- the Cols -/
  cols : Vector Col 25
  /-- the Cols as they stood at the present mark, which the standby instances hold (R58) -/
  colsMark : Vector Col 25
  /-- the Cols as they stood at the preceding mark -/
  colsPrev : Vector Col 25
  /-- Ridgeline -/
  rdg : Ridgeline
  /-- Lookout -/
  lko : Lookout
  /-- domains in force -/
  fab : Fabric
  /-- plan -/
  plan : Plan
  /-- host ring interface -/
  hri : Hri
  /-- governor -/
  gov : Gov
  /-- incidents and FATAL state -/
  faults : Faults
  /-- event summary -/
  evs : EvSum
  /-- Summit's copies -/
  role : Role
  /-- calibration engine -/
  cal : CalEng
  /-- Cairn store -/
  crn : Cairn
  /-- self-test controller -/
  bist : Bist
  /-- life cycle -/
  lcs : Lcs
  /-- start, power state, pins -/
  boot : Boot
  /-- events raised and not yet recorded -/
  raised : List EventRec
  /-- messages sent across the boundary, oldest first -/
  out : List Message
  /-- the model's own: how many free values the run has taken -/
  freeCtr : Nat
  /-- commands waiting, first in, first out -/
  pending : List Instr
  deriving DecidableEq, Repr

/-! ## Reset -/

/-- The default ladder (R170). -/
def defaultLadder : List Nat := [16, 20, 24, 32, 40, 44, 48, 52, 58, 64, 72, 76, 80, 86, 92, 96]

/-- The default voltage curve, V_1 to V_12 in mV (R459). -/
def defaultCurve : List Nat := [600, 620, 640, 660, 690, 720, 750, 780, 810, 850, 895, 945]

/-- The code table under the design defaults (R385). -/
def designCodes : List (BitVec 16) := (List.range 89).map fun i => Config.designCode (i + 8)

/-- Trims under the design defaults (R385). -/
def designTrims : Trims :=
  { codes := designCodes
    offs := (List.range 4).map fun i => fromTwos 8 (Config.designTrim i).toNat
    thr := (List.range 12).map fun i => (Config.designTrim (4 + i)).toNat
    mon := (List.range 8).map fun i => (Config.designTrim (16 + i)).toNat
    sens := (List.range 2).map fun i => fromTwos 8 (Config.designTrim (24 + i)).toNat }

/-- A Spur record with no bin filled. -/
def SpurRec.empty : SpurRec :=
  { bins := List.replicate 6 none, traced := false, gap := false, rejects := 0, mark := 0, taps := List.replicate 8 [],
    sens := [0, 0] }

/-- A generator after reset (R129 to R134). -/
def Gen.reset : Gen :=
  { loop := .acquire, reacq := false, acqMark := 0, cmpAt := none, lockRun := 0, lossRun := 0, dcoCode := 0, integ := 0, fcw := 0, dither := 0, loopErr := 0,
    residCount := 4, resid := 0, residHi := false, fcode := 0, step := 0, fmt := 0, ceil := 96,
    tallyMark := 0, tallyCyc := 0, wrap := false, tallySync := false, entries := List.replicate 8 Entry.none, expired := 0 }

/-- Stretching after reset: every debt and every estimate is 0 (R145, R161 to R165). -/
def Str.reset : Str :=
  { debt := 0, frozen := false, cap2 := false, cap2End := false, peak := 0, peakNow := 0, episode := false,
    satOpen := false, leads := ⟨0, 0, 0, 0⟩, droop := [0, 0, 0, 0], droopSeen := [0, 0, 0, 0], droopAge := 8, slacks := List.replicate 8 127,
    sinceShort := 8, followed := 0, stretched := 0, capped := 0, short := 0, droopNow := 0, droopMax := 0,
    slackNow := 127, monNow := 0, minSlack := 127, mon := 0, notice := 0, injLeft := 0, injAmount := 0, injNext := 0,
    fdLeft := 0, fdLevel := 0, fdQuad := 0, fdNext := 0 }

/-- Workload state after reset (R239, R261 to R265). -/
def Wl.reset : Wl :=
  { hold := 0, holdLeft := 0, preMask := 0, preLeft := 0, ignored := 0, windows := 0, announced := 0, actNow := 0,
    act := 0, level := 0, chkLeft := 0, chkTotal := 0, frame := none, heard := false, winCount := 0, winAt := 0, arrays := List.replicate 8 0,
    rows := List.replicate 8 0, cols := List.replicate 8 0, winBad := false, markMis := 0, markMap := 0,
    markBad := false, lastRate := 0 }

/-- No limit source set (R133). -/
def Limits.none : Limits := { debt := Option.none, debtStep := 0, spare := Option.none, cal := Option.none, chk := Option.none, chkStep := 0 }

/-- Gates after reset: the reset value of SPR_STAT shows every gate bit 0 (R129); the gates close when the start loads the units (R486). -/
def Gates.reset : Gates :=
  { comp := false, tran := false, leaf := false, v1 := false, faultFence := false, darkDue := false, driver := .own, splitAt := none, failed := false, cause := 0,
    testPassed := false, grade := 0, gradeNext := [], band := 0, input := 0, droopHist := [], pT := 0, pP := 0, pD := 0,
    zero := false, cap3 := false, calWarn := false, calHold := false, holdAt := 0 }

/-- Calibration state after reset (R370). -/
def Cal.reset : Cal :=
  { trims := designTrims, staged := none, writes := [], record := SpurRec.empty, s0 := 0, s1 := 0,
    bad0 := false, bad1 := false, gain := 1000, dnl := 0, det := 0, resids := [0, 0, 0, 0], lastBin := 0,
    winTemp := none, ppm := 0, clamped := false, hiBin := 0, loBin := 0,
    results := [], rejected := false, marked := [], retry := [], pointer := 8, heldCode := none, sweep := [], had0 := false, had1 := false,
    gapSteps := List.replicate 8 0, sumInteg := 0, cntInteg := 0, slot := 0, sweepAt := none, stepAt := none, conv0 := 0, conv1 := 0, guards := List.replicate 8 64, ceilAt := none, ceilOld := List.replicate 8 96 }

/-- A Spur after reset (R522). -/
def Spur.reset : Spur :=
  { gen := Gen.reset, str := Str.reset, wl := Wl.reset, lim := Limits.none, gates := Gates.reset, cal := Cal.reset }

/-- An empty lane. -/
def Lane.reset : Lane := { entries := [(0, 0), (0, 0)], out := none, carry := 0, relay := 0, flight := [], got := 0, own := 0, extra := 0 }

/-- A Saddle after reset (R523). -/
def Saddle.reset : Saddle :=
  { usable := false, failed := false, disableNext := false, enableNext := false, held := false, disable := false, holdTrack := false,
    borrow := 0, ratio := 1, fastHigh := false, ratioHi := 1, fastHighHi := false, modeLo := none, modeHi := none, meas := none, peak := 0, peakNow := 0, diff := 0, rbar := 0, rfrac := 0,
    capHi := 32, capLo := 32, dly := (Config.designTrim 32).toNat, residPs := 0, bdlyHi := (Config.designTrim 33).toNat,
    bdlyLo := (Config.designTrim 34).toNat, staged := none, writes := [], minInt := 255, minNow := 255, slip := 0, active := false,
    tagErr := 0, dropped := 0, lastErr := none, skewBad := 0, skewOpen := false, skewOk := 0, raisedNow := [],
    retrim := false, toHi := Lane.reset, toLo := Lane.reset, bins := List.replicate 6 none, rejects := 0,
    rejected := false, results := [], clamped := false, traced := false, calMark := 0, lastBin := 0 }

/-- A regulator link after reset (R478). -/
def Avs.reset : Avs :=
  { failed := false, bad := 0, good := 0, req := 0, inForce := 0, written := 0, acked := 0, waiting := false,
    slewEnd := 0, reported := 0, turn := false, rail := 0, amps := 0, outBand := 0, inBand := 0, capped := false,
    capFcode := 96, lowerDue := none, hold := 0, openTx := 0, frames := 0, slotAt := none }

/-- A Col after reset (R521). -/
def Col.reset : Col :=
  { active := false, pFailed := false, sFailed := false, testPassed := false, sel := false, aOk := false, bOk := false,
    aRun := 0, bRun := 0, aHit := false, bHit := false, aStuck := false, bStuck := false, switchDue := false, switchAsked := false, skew := 0,
    mismatches := 0, errA := 0, errB := 0, reloadA := false, reloadB := false, commander := false, lastCmd := 0,
    beaconAge := 0, recValid := false, recSummit := false, recRidge := false, recDrove := false, recCode := 0,
    slip := 0, spare := { track := false, aligned := false, driving := false, target := 0, since := 0, returning := false, run := 0, trail := [] }, borrow := none, avs := Avs.reset, repSeq := 0,
    repMark := none, telem := 0, repArmed := [], alarms := [], repHeld := false, relPos := 0 }

/-- A reference input after reset; until a table is accepted, only REFCLK_A is present (R90). -/
def RefIn.reset (declared : Bool) : RefIn :=
  { declared := declared, present := false, qual := false, clean := false, counts := declared, strict := false, count := 0, valid := false,
    absentRaised := false }

/-- Ridgeline after reset (R92 to R97). -/
def Ridgeline.reset : Ridgeline :=
  { root := .selA, lock := false, wordFrozen := false, fanHold := false, a := RefIn.reset true, b := RefIn.reset false,
    reqSwitch := false, revertDue := false, holdStart := 0, holdLeft := none, safeCap := false,
    ridge := 0, epoch := 0, started := false, tick0 := false }

/-- A channel after reset (R412). -/
def Channel.reset : Channel :=
  { armed := false, owner := .none, freq := false, done := false, reason := 0, calOk := false, paired := false,
    stopCh := 0, count := 0, armMark := 0, limit := 0, edges := 0, taken := 0, openTs := none, strayTs := none, readyAt := 0, firstTs := 0,
    lastResTs := 0, minIv := 0, maxIv := 0, sumIv := 0, ties := 0, strays := 0, missed := 0, heldSeen := false, untraced := false, firstTod := ⟨0, 0, 0⟩,
    scale := 0, offset := 0, lastTs := 0, res := List.replicate 64 0, addr := 0 }

/-- Lookout after power-up (R410 to R412, R464, R479). -/
def Lookout.reset : Lookout :=
  { timerLock := false, todSet := false, todSrc := 0, tod := ⟨0, 0, 0⟩, slewLeft := 0, slewSub := 0, v2Ticks := 0, lastDens := none, setDue := false,
    stepDue := false, rateA := 0, rateE := 0, rateS := 0, snap := ⟨0, 0, 0⟩, snapMark := 0, pps := ⟨0, 0, 0⟩,
    ppsCount := 0, ppsMissing := false, ppsAt := none, loAt := none, snapAt := none, ppsOut := false, ppsLeft := 0, ppsSkip := 0, densAbort := 0, refSkip := 0,
    bgRef := false, density := false, loErr := none, widths := List.replicate 32 0, bins := List.replicate 6 none, temp := 0, staged := none, clamped := false, traced := false, calMark := 0, rejects := 0,
    ch := Vector.replicate 6 Channel.reset, calref := false, calrefDeclared := false, tolerance := 50,
    trimLoaded := false, oscTrim := 0, tableKept := false, tabPrefer := false, tabRevert := false, tabStk := 0, tabEth := 0, tripLevels := [105, 110, 120], trips := [false, false, false],
    trip1Rel := none, sup0 := true, sup1 := false, savePending := false, oscOk := false, lost := false }

/-- A domain after reset (R170, R172, R193, R194). -/
def Dom.reset : Dom := { k := 0, ladder := defaultLadder, safe := 4, nominal := 9, fmt := 0, req := 0, step := 0 }

/-- Domain 0 holds all fields at base 16 (R172, R191, R196). -/
def Fabric.reset : Fabric :=
  { doms := List.replicate 8 Dom.reset, map := List.replicate 25 0, base := 16, baseReq := 16 }

/-- A free group slot (R337). -/
def Group.free : Group :=
  { st := .free, num := 0, obj := 0, cond := 0, value := 0, sense := false, members := 0, since := 0, mark := 0,
    last := 0, silent := 0, lateRaised := false, beginIdx := 0, endIdx := none, settled := false, lastEnd := none }

/-- Plan state after reset (R335 to R339). -/
def Plan.reset : Plan :=
  { buf := [], sets := [], actions := [], groups := List.replicate 4 Group.free, wait := none, resumeAt := none,
    nextSeq := 0, ownSeq := 0, markers := [], resume := none, resApplied := 0, resCount := 0, 
    lastFetch := 0, readSent := [], readMark := none, lastRaise := none }

/-- The host ring interface after reset (R307, R459, R464). -/
def Hri.reset : Hri :=
  { stopped := false, idle := true, disabling := false, bdt := 0, agreed := 1, planProd := 0, planCons := 0,
    cmplProd := 0, cmplCons := 0, evtProd := 0, evtCons := 0, evtLost := 0, lostFlag := false, reading := false,
    readAgain := false, cmplQ := [], fullOpen := false, held := 0, msiSent := [], curve := defaultCurve,
    offs := List.replicate 25 0, slew := List.replicate 25 10, rails := List.replicate 25 0, park := 0, ampLsb := 100,
    cooling := 0, maxTcap := 95, flashMode := 0, eraseTmo := 0, progTmo := 0 }

/-- The governor after reset (R466, R477). -/
def Gov.reset : Gov :=
  { g := 96, gd := List.replicate 8 96, reason := 0, hold := 0, hist := [], p16 := 0, pw := 0, cap := 24000, tcap := 95,
    sprint := 0, capDue := false, changed := List.replicate 8 0, hot := List.replicate 8 0, evalAt := none, thermAt := none }

/-- No fault (R455, R534). -/
def Faults.reset : Faults :=
  { opened := List.replicate 8 none, queue := [], arrived := 0, takenAt := none, overflow := [], fatal := false, code := 0, pending := [],
    storm := false, forceSafe := false, noStage := false, src := 0, vglCode := 0, prior := 0, seen := [],
    otherFatal := false, stormDark := [] }

/-- The event summary after reset (R531, R532). -/
def EvSum.reset : EvSum := { bits := 0, groups := 0, counts := [0, 0, 0, 0], last := none }

/-- The Summit copies after reset: the one in field 1 is active (R3, R59). -/
def Role.reset : Role :=
  { active := false, silent := false, swap := false, standbyOk := true, mirrors := [], mirrorNext := [],
    mirrorLate := false, mirrorAt := 0, lastBeacon := none, takeovers := 0, lastSeq := List.replicate 8 0, rstResult := 0, rstMark := 0,
    noAnswer := 0, nopath := false, spareLog := none, bind := List.replicate 8 0, baseDue := false, resumeDue := false, grades := [], gradeAt := none }

/-- The calibration engine after reset (R368, R369). -/
def CalEng.reset : CalEng :=
  { next := none, extras := [], queued := none, cur := none, voided := false, prev := none, prevEnd := none, interval := 2000,
    length := 48, odd := false, windows := 0, gapAborts := 0, refErr := none, inBand := false,
    gateMark := none, traced := false, rejects := 0, sinceSave := 0, switched := false, phase := 0, lateAt := none, recompAt := none }

/-- A bank of a blank flash device. -/
def BankImg.empty : BankImg := { commit := none, erase := 0, began := 0, took := 0, spurs := [], saddles := [], lookout := ⟨[], false, 0, 0, 0⟩ }

/-- The store after reset (R389). -/
def Cairn.reset : Cairn :=
  { a := BankImg.empty, b := BankImg.empty, f := BankImg.empty, bank := 3, seq := 0, bootres := [0, 0, 0], saves := 0,
    fails := 0, pending := false, urgent := false, saving := false, goal := 0, recSpurs := [], recSaddles := [], recLookout := none, began := 0, took := 0, lastSave := none, holdUntil := none, saveF := false,
    unusable := false, fOk := false, spurSigs := [], colSigs := [] }

/-- The self-test controller after reset (R432, R433). -/
def Bist.reset : Bist :=
  { kind := 0, unit := 0, copy := 0, fcap := 0, result := 0, done := false, phase := 0, since := 0, patterns := 0, pow := 12,
    misr := 0, exp := 0, hash := 0, src := 0, handover := false, holdWaits := false, maxStep := 9, locked := false, porFail := [],
    porP := 0, porS := 0, porStat := 0, aborted := [], repeated := [] }

/-- Life cycle after reset. The state comes from the security block in stage 3 of a start (R481, R495); before that the model holds BLANK. DESIGN CHOICE, notes/assumptions/9.md. -/
def Lcs.reset : Lcs :=
  { st := .blank, relock := false, due := [], fails := 0, lockout := false, ustat := 0, asked := false, chal := 0, issued := 0, expired := false,
    denied := none, segs := List.replicate 5 false, injNext := none }

/-- The block held in reset, before any stage has ended (R481, R493, R545). -/
def Boot.reset : Boot :=
  { stage := 0, ready := false, kind := 0, smark := 0, us := 0, pst := .v0, req := 0, state := 0, wake := 0,
    moving := false, gateAt := none, parkAt := none, wakeDue := none, 
    resetN := false, reasserted := false, pinFatal := false, pinPark := false, pinWake := false, noBist := [] }

/-- The block right after power-up reset: every register at the value its Reset column gives (R515), no command waiting. -/
def State.reset : State :=
  { words := [], shadows := [], held := [], latches := [], cyc := ⟨[], []⟩, spurs := Vector.replicate 425 Spur.reset,
    saddles := Vector.replicate 760 Saddle.reset, cols := Vector.replicate 25 Col.reset, colsMark := Vector.replicate 25 Col.reset, colsPrev := Vector.replicate 25 Col.reset, rdg := Ridgeline.reset,
    lko := Lookout.reset, fab := Fabric.reset, plan := Plan.reset, hri := Hri.reset, gov := Gov.reset,
    faults := Faults.reset, evs := EvSum.reset, role := Role.reset, cal := CalEng.reset, crn := Cairn.reset,
    bist := Bist.reset, lcs := Lcs.reset, boot := Boot.reset, raised := [], out := [], freeCtr := 0, pending := [] }

end Sys2Proof.Machine
end

