-- ==== Sys2Proof/Machine/Ops.lean ====
section
/-! DEFINITION. The operations that the commands share: the geometry of the die, the current mark, changing one unit, the sparse register files, raising events, incidents, completions and messages. -/

namespace Sys2Proof.Machine

/-! ## Geometry (R5 to R8) -/

/-- Column of a region (R5). -/
def regX (n : Nat) : Nat := n % 20

/-- Row of a region (R5). -/
def regY (n : Nat) : Nat := n / 20

/-- Field of a Spur: of its region (R5), or of the field spare (R7). -/
def fieldOf (n : Nat) : Nat := if n < 400 then 5 * (regY n / 4) + regX n / 4 else n - 400

/-- Local position ly * 4 + lx of a region, 16 for a field spare (R5, R458). -/
def localPos (n : Nat) : Nat := if n < 400 then regY n % 4 * 4 + regX n % 4 else 16

/-- The region at a local position of a field, or the field spare at 16 (R5, R458). -/
def spurAt (f p : Nat) : Nat := if p < 16 then 20 * (4 * (f / 5) + p / 4) + (4 * (f % 5) + p % 4) else 400 + f

/-- The regions of a field, in order of local position. -/
def fieldRegions (f : Nat) : List Nat := (List.range 16).map (spurAt f)

/-- The 17 Spurs of a field, the field spare last (R4). -/
def fieldSpurs (f : Nat) : List Nat := fieldRegions f ++ [400 + f]

/-- The lower-numbered region of a Saddle (R8). -/
def sadLow (s : Nat) : Nat := if s < 380 then 20 * (s / 19) + s % 19 else s - 380

/-- The higher-numbered region of a Saddle (R8). -/
def sadHigh (s : Nat) : Nat := if s < 380 then sadLow s + 1 else sadLow s + 20

/-- A seam Saddle (R8). -/
def sadSeam (s : Nat) : Bool := if s < 380 then s % 19 % 4 == 3 else (s - 380) / 20 % 4 == 3

/-- The field of the Col that owns a Saddle (R4). -/
def sadField (s : Nat) : Nat := fieldOf (sadLow s)

/-- The Saddle of a region toward north, east, south or west (0 to 3), none at the die edge (R8). -/
def sadToward (n dir : Nat) : Option Nat :=
  let x := regX n
  let y := regY n
  match dir with
  | 0 => if y = 0 then none else some (380 + 20 * (y - 1) + x)
  | 1 => if x = 19 then none else some (19 * y + x)
  | 2 => if y = 19 then none else some (380 + 20 * y + x)
  | _ => if x = 0 then none else some (19 * y + x - 1)

/-- The region at the other end of a Saddle. -/
def sadOther (s n : Nat) : Nat := if sadLow s = n then sadHigh s else sadLow s

/-- The direction in which a region sees a Saddle. -/
def sadDir (s n : Nat) : Nat :=
  if s < 380 then (if sadLow s = n then 1 else 3) else (if sadLow s = n then 2 else 0)

/-- The Saddles of a region. -/
def sadsOf (n : Nat) : List Nat := (List.range 4).filterMap (sadToward n)

/-- The kind of a region (R6): 0 compute, 1 a memory port region, 2 an Ethernet or host port region. -/
def portKind (n : Nat) : Nat :=
  let f := fieldOf n
  let lx := regX n % 4
  let ly := regY n % 4
  if f = 1 ∨ f = 3 then (if ly < 2 then 2 else 0)
  else if f = 21 ∨ f = 23 then (if 2 ≤ ly then 2 else 0)
  else if f = 2 then (if ly = 0 then 1 else 0)
  else if f = 22 then (if ly = 3 then 1 else 0)
  else if f % 5 = 0 then (if lx = 0 then 1 else 0)
  else if f % 5 = 4 then (if lx = 3 then 1 else 0)
  else 0

/-! ## Time -/

/-- The current mark (R10, R86). -/
def State.mark (s : State) : Mark := s.rdg.ridge.mark

/-- The current ridge tick (R10). -/
def State.tick (s : State) : Nat := s.rdg.ridge.tick

/-- Mark `a` is mark `b` or has passed at mark `b` (R86): it does not lie ahead of it. -/
def notAfter (a b : Mark) : Bool := !Mark.ahead a b

/-- The block is at ridge tick 0 of a mark. What the spec places "at the next mark" for Summit, Ridgeline and the Cols happens there; a request made at that tick itself counts for the same mark. DESIGN CHOICE, notes/assumptions/66.md. -/
def State.atMark (s : State) : Bool := s.rdg.started && s.tick == 0

/-- How many marks have passed since mark `m`. -/
def State.since (s : State) (m : Mark) : Nat := (s.mark - m).toNat

/-- One ridge tick passes with no command waiting: ridge tick 255 is the last of a mark, and MARK_BEACON begins the next. DESIGN CHOICE, notes/assumptions/3.md. -/
def State.idleTick (s : State) : State :=
  if s.rdg.started ∧ s.rdg.ridge.tick < 255 then { s with rdg := { s.rdg with ridge := s.rdg.ridge + 1 }, cyc := ⟨[], []⟩ } else s

/-! ## One unit at a time -/

/-- Spur `n`. -/
def State.spur (s : State) (n : Nat) : Spur := bget s.spurs Spur.reset n

/-- Saddle `k`. -/
def State.sad (s : State) (k : Nat) : Saddle := bget s.saddles Saddle.reset k

/-- Col `f`. -/
def State.col (s : State) (f : Nat) : Col := bget s.cols Col.reset f

/-- Lookout channel `c`. -/
def State.chan (s : State) (c : Nat) : Channel := bget s.lko.ch Channel.reset c

/-- The state with Spur `n` changed. -/
def State.modSpur (s : State) (n : Nat) (f : Spur → Spur) : State := { s with spurs := bmod s.spurs n f }

/-- The state with every Spur changed by `f` of its number. -/
def State.mapSpurs (s : State) (f : Nat → Spur → Spur) : State := { s with spurs := bmap s.spurs f }

/-- The state with Saddle `k` changed. -/
def State.modSad (s : State) (k : Nat) (f : Saddle → Saddle) : State := { s with saddles := bmod s.saddles k f }

/-- The state with every Saddle changed by `f` of its number. -/
def State.mapSads (s : State) (f : Nat → Saddle → Saddle) : State := { s with saddles := bmap s.saddles f }

/-- The state with Col `f` changed. -/
def State.modCol (s : State) (f : Nat) (g : Col → Col) : State := { s with cols := bmod s.cols f g }

/-- The state with every Col changed by `g` of its number. -/
def State.mapCols (s : State) (g : Nat → Col → Col) : State := { s with cols := bmap s.cols g }

/-- The state with Lookout channel `c` changed. -/
def State.modChan (s : State) (c : Nat) (g : Channel → Channel) : State :=
  { s with lko := { s.lko with ch := bmod s.lko.ch c g } }

/-- The state after `f` for each element of a list in turn. -/
def State.each {α : Type} (s : State) (l : List α) (f : State → α → State) : State := l.foldl f s

/-! ## Free values -/

/-- The next free value. -/
def State.free (s : State) : BitVec 32 := Config.freeWord s.freeCtr

/-- The state after a free value has been taken. -/
def State.tookFree (s : State) : State := { s with freeCtr := s.freeCtr + 1 }

/-! ## Life cycle -/

/-- The code of a life-cycle state (R510). -/
def lcsCode : LifeCycle → Nat
  | .blank => 0
  | .provisioned => 1
  | .deployed => 2
  | .service => 3
  | .returned => 4

/-- RWL fields are open in every state but DEPLOYED (R16, R496). -/
def State.locked (s : State) : Bool := s.lcs.st == .deployed

/-- On-demand self-tests and releases are open (R423, R453, R496). -/
def State.testOpen (s : State) : Bool := s.lcs.st == .provisioned || s.lcs.st == .service || s.lcs.st == .returned

/-! ## Messages and events -/

/-- The state after a message has left the block. -/
def State.send (s : State) (m : Message) : State := { s with out := s.out ++ [m] }

/-- An event at the present ridge count (R298). -/
def State.event (s : State) (ev : Ev) (sev : Sev) (kind idx : Nat) (detail : List Byte) : EventRec :=
  { ev := ev, sev := sev, kind := kind, idx := idx, time := s.rdg.ridge, epoch := s.rdg.epoch, detail := detail }

/-- The state after an event is raised. A FATAL event also waits for the actions of R452. -/
def State.raiseAs (s : State) (ev : Ev) (sev : Sev) (kind idx : Nat) (detail : List Byte) : State :=
  { s with
    raised := s.raised ++ [s.event ev sev kind idx detail]
    faults := if sev = .fatal then { s.faults with pending := s.faults.pending ++ [s.event ev sev kind idx detail] } else s.faults }

/-- The state after the active Summit has put a command on the lane of both spines (R42). A silent instance sends nothing on it (R56). -/
def State.sendLane (s : State) (c : LaneCmd) : State := if s.role.silent then s else s.send (.lane c)

/-- The state after an event of its usual severity is raised. -/
def State.raise (s : State) (ev : Ev) (kind idx : Nat) (detail : List Byte) : State :=
  s.raiseAs ev ev.sev kind idx detail

/-- The state after `f` where `b` holds. -/
def State.when (s : State) (b : Bool) (f : State → State) : State := if b then f s else s

/-- The source index of Summit: the active instance (R299). -/
def State.summitIdx (s : State) : Nat := if s.role.active then 1 else 0

/-! ## Register words -/

/-- The state with a word of the register window put in place; an entry equal to `d`, the reset value, is not listed. -/
def RegFile.set (r : RegFile) (a : Nat) (d w : Word) : RegFile := if w = d then r.erase a else r.insert a w

/-! ## Incidents (R448, R449) -/

/-- How severe a severity is, for the order of the queue (R449). -/
def sevRank (v : Sev) : Nat := v.code

/-- The queue with an incident put in order: by severity, then by arrival (R449). -/
def queueIn : List Incident → Incident → List Incident
  | [], i => [i]
  | j :: q, i => if sevRank j.sev < sevRank i.sev then i :: j :: q else j :: queueIn q i

/-- The state after an incident has arrived (R448, R449): it opens where its class is free, joins the queue where the class is open or an error storm lasts, and where the queue is full it waits for ERROR_STORM (R451). -/
def State.incident (s : State) (i : Incident) : State :=
  let i := { i with no := s.faults.arrived }
  let s := { s with faults := { s.faults with arrived := s.faults.arrived + 1 } }
  if s.faults.storm = false ∧ s.faults.opened.getD i.cls none = none ∧ (s.faults.queue.any fun j => j.cls == i.cls) = false then
    { s with faults := { s.faults with opened := setNth s.faults.opened i.cls (some i) } }
  else if s.faults.queue.length < 32 then { s with faults := { s.faults with queue := queueIn s.faults.queue i } }
  else { s with faults := { s.faults with overflow := s.faults.overflow ++ [i] } }

/-- The state after the open incident of a class has closed (R448), where it concerns unit `u`. -/
def State.closeIncident (s : State) (c u : Nat) : State :=
  match s.faults.opened.getD c none with
  | some i => if i.unit = u then { s with faults := { s.faults with opened := setNth s.faults.opened c none } } else s
  | none => s

/-! ## Completions (R296) -/

/-- The state after a completion has been made; COMPLETION_WRITE writes it. -/
def State.complete (s : State) (c : Completion) : State := { s with hri := { s.hri with cmplQ := s.hri.cmplQ ++ [c] } }

/-- The outcome of a command that runs to its end. -/
abbrev Result := Host.Outcome State Fault Refusal

end Sys2Proof.Machine
end

