-- ==== Sys2Proof/Machine/Operands.lean ====
section
/-! DEFINITION. The operand forms: the register that an offset of the register window names (R512 to R529), the fields of each register with their access codes and undefined encodings (R13 to R18), and the word a register holds. -/

namespace Sys2Proof.Machine

/-! ## Windows (R512) -/

/-- The register window that holds an offset, with the unit and the offset inside the window (R512). -/
inductive Win where
  | sum (o : Nat)
  | lko (o : Nat)
  | chan (c o : Nat)
  | rdg (o : Nat)
  | col (f o : Nat)
  | spr (n o : Nat)
  | sad (k o : Nat)
  | cal (o : Nat)
  | crn (o : Nat)
  | bst (o : Nat)
  | prt (o : Nat)
  | hri (o : Nat)
  | vgl (o : Nat)
  | none
  deriving DecidableEq, Repr

/-- The window of an offset (R512). -/
def winOf (a : Nat) : Win :=
  if a < 0xC00 then .sum a
  else if a < 0x10000 then .none
  else if a < 0x10200 then .lko (a - 0x10000)
  else if a < 0x10500 then .chan ((a - 0x10200) / 0x80) ((a - 0x10200) % 0x80)
  else if a < 0x18000 then .none
  else if a < 0x18058 then .rdg (a - 0x18000)
  else if a < 0x20000 then .none
  else if a < 0x2C800 then .col ((a - 0x20000) / 0x800) ((a - 0x20000) % 0x800)
  else if a < 0x40000 then .none
  else if a < 0x75200 then .spr ((a - 0x40000) / 0x200) ((a - 0x40000) % 0x200)
  else if a < 0x80000 then .none
  else if a < 0x97C00 then .sad ((a - 0x80000) / 0x80) ((a - 0x80000) % 0x80)
  else if a < 0xA0000 then .none
  else if a < 0xA0800 then .cal (a - 0xA0000)
  else if a < 0xA081C then .crn (a - 0xA0800)
  else if a < 0xB0000 then .none
  else if a < 0xB014C then .bst (a - 0xB0000)
  else if a < 0xC0000 then .none
  else if a < 0xC004C then .prt (a - 0xC0000)
  else if a < 0xD0000 then .none
  else if a < 0xD0054 then .hri (a - 0xD0000)
  else if a < 0xF0000 then .none
  else if a < 0xF0048 then .vgl (a - 0xF0000)
  else .none

/-- The offset of a register of a Spur's window (R522). -/
def sprAddr (n o : Nat) : Nat := 0x40000 + 0x200 * n + o

/-- The offset of a register of a Saddle's window (R523). -/
def sadAddr (k o : Nat) : Nat := 0x80000 + 0x80 * k + o

/-- The offset of a register of a Col's window (R521). -/
def colAddr (f o : Nat) : Nat := 0x20000 + 0x800 * f + o

/-- The offset of a register of a channel's window (R412). -/
def chanAddr (c o : Nat) : Nat := 0x10200 + 0x80 * c + o

/-! ## Reset words (R515 to R529) -/

/-- The reset value of a word that firmware writes and the block holds; every other register's value is computed from the units. -/
def resetWord (a : Nat) : Word :=
  match winOf a with
  | .sum o => if o = 0x300 then 0x80F05F70#32 else if o = 0x600 then 0x00200080#32 else 0#32
  | .lko o => if o = 0x010 then 0x64000100#32 else if o = 0x050 then 0x00640000#32 else if o = 0x108 then 0x00000020#32 else 0#32
  | .chan _ o => if o = 0 then 0x00010010#32 else if o = 8 then 0x00000400#32 else 0#32
  | .spr _ o =>
    if o = 0x040 then 0x00000008#32 else if o = 0x060 then 0x0F201810#32 else if o = 0x064 then 0x0000FF08#32
    else if o = 0x080 then 0x00001100#32 else if o = 0x090 then 0x585C6060#32 else if o = 0x094 then 0x40484C58#32
    else if o = 0x0A0 then 0x10041304#32 else 0#32
  | .cal o => if o = 0 then 7#32 else if o = 4 then 0x07D00030#32 else if o = 8 then 2#32 else 0#32
  | .crn o => if o = 4 then 0x18#32 else 0#32
  | .bst o => if o = 4 then 0x00060000#32 else if o = 0x10 then 9#32 else 0#32
  | .prt o => if o = 0x20 then 0x20001000#32 else if o = 0x24 then 0x200F0001#32 else 0#32
  | .hri o =>
    if o = 8 then 1#32 else if o = 0x10 then 8#32 else if o = 0x14 then 0x00060606#32 else if o = 0x48 then 0x20010000#32
    else if o = 0x4C then 0x00001000#32 else if o = 0x50 then 0x00000400#32 else 0#32
  | .vgl o => if o = 0x10 then 0x00002000#32 else 0#32
  | _ => 0#32

/-- The word held at an offset. -/
def State.word (s : State) (a : Nat) : Word := (s.words.find a).getD (resetWord a)

/-- The state with the word at an offset replaced. -/
def State.setWord (s : State) (a : Nat) (w : Word) : State := { s with words := s.words.set a (resetWord a) w }

/-- The state with bits `[hi:lo]` of the word at an offset replaced. -/
def State.setField (s : State) (a hi lo v : Nat) : State := s.setWord a ((s.word a).put hi lo v)

/-- The state that remembers, for the present control cycle, a W1C bit that the block has set (R17). -/
def State.noteSet (s : State) (a i : Nat) : State :=
  { s with cyc := { s.cyc with sets := s.cyc.sets.insert a ((s.cyc.sets.find a).getD 0 ||| BitVec.ofNat 32 (2 ^ i)) } }

/-- The state with a bit of a W1C register set by the block (R17). -/
def State.setBit (s : State) (a i : Nat) : State := (s.setWord a (s.word a ||| BitVec.ofNat 32 (2 ^ i))).noteSet a i

/-- The bits of a write that may clear bits of a W1C register: a bit that the block has set in the same control cycle stays set (R17). -/
def State.clearing (s : State) (a : Nat) (v : Word) : Word := v &&& ~~~ ((s.cyc.sets.find a).getD 0)

/-- The state with a pending shadow at an offset. -/
def State.setShadow (s : State) (a : Nat) (w : Word) : State := { s with shadows := s.shadows.insert a w }

/-- The state with no shadow pending at an offset. -/
def State.dropShadow (s : State) (a : Nat) : State := { s with shadows := s.shadows.erase a }

/-! ## Registers that other chapters read -/

/-- HRI_CTRL.ENABLE (R307). -/
def State.ringsOn (s : State) : Bool := (s.word 0xD0000).bit 0

/-- The host ring interface is quiesced (R281). -/
def State.hriQuiet (s : State) : Bool := !s.ringsOn && s.hri.idle

/-- SUM_PROFILE.BASIC (R311). -/
def State.basicBit (s : State) : Bool := (s.word 0x300).bit 31

/-- Basic control is in force (R304). -/
def State.basic (s : State) : Bool := s.basicBit && !s.ringsOn

/-- A Spur drives a tree (R128, R136): its region's trees where it is their own driver, or a region as field spare, or a borrowed region. -/
def State.drives (s : State) (n : Nat) : Bool :=
  if n < 400 then
    (s.spur n).gates.driver == .own || ((s.col (fieldOf n)).borrow.any fun b => b.connected && b.lender == n)
  else (s.col (n - 400)).spare.driving

/-- A Spur is quiesced for RWQ fields: it drives no tree, or the block is in V1 (R128). -/
def State.spurQuiet (s : State) (n : Nat) : Bool := s.boot.pst == .v1 || !s.drives n

/-- A channel is quiesced: neither armed nor claimed as a stop channel (R412). -/
def State.chanQuiet (s : State) (c : Nat) : Bool := !(s.chan c).armed && (s.chan c).owner != .claimed

/-- A test runs in the self-test controller (R431, R432). -/
def State.testRuns (s : State) : Bool := s.bist.phase != 0

/-! ## Fields -/

/-- The access codes of writable fields (R16). -/
inductive Acc where
  | rw
  | rws
  | rwq
  | rwl
  | w1c
  deriving DecidableEq, Repr

/-- A writable field of a register: its bits, its access code, and which of its encodings are defined (R15). -/
structure Fld where
  /-- highest bit -/
  hi : Nat
  /-- lowest bit -/
  lo : Nat
  /-- access code -/
  acc : Acc
  /-- lowest defined encoding -/
  least : Nat
  /-- highest defined encoding; below `least` where the defined encodings run through 0 (a signed range) -/
  most : Nat
  deriving DecidableEq, Repr

/-- A field all of whose encodings are defined. -/
def fldAll (hi lo : Nat) (acc : Acc) : Fld := ⟨hi, lo, acc, 0, 2 ^ (hi + 1 - lo) - 1⟩

/-- The W1C bits `0` to `n - 1`. -/
def fldsW1C (n : Nat) : List Fld := (List.range n).map fun i => fldAll i i .w1c

/-- The writable fields of the registers that have no row of their own, by the field maps of the chapters. Fields with a row of their own are left out: COL_RELEASE.SPUR and INST, SAD_CTRL.DISABLE, CAL_CTRL.NATIVE_EN (its return to 1), the bits of HRI_CTRL, CRN_CTRL, BST_CTRL, PRT_UNLOCK and the like, and the whole of SPR_CEIL, SUM_PROFILE, CAL_WINCFG and the perturbation registers. `v` is the word written: which UNIT encodings of BST_REQ are defined follows from its KIND (R431). -/
def fieldsOf (w : Win) (v : Word) : List Fld :=
  match w with
  | .sum o =>
    if o = 0x600 then [⟨23, 16, .rw, 4, 255⟩, ⟨7, 0, .rw, 1, 128⟩]
    else if 0x400 ≤ o ∧ o < 0x600 ∧ o % 4 = 0 then
      if o % 0x40 < 0x20 then [⟨22, 16, .rws, 8, 96⟩, ⟨6, 0, .rws, 8, 96⟩]
      else if o % 0x40 = 0x20 then [fldAll 11 8 .rws, fldAll 3 0 .rws] else []
    else []
  | .lko o =>
    if o = 0x010 then [⟨31, 24, .rw, 1, 255⟩, fldAll 8 8 .rw]
    else if o = 0x014 then [fldAll 15 0 .rw]
    else if o = 0x018 then [⟨29, 0, .rw, 0, 999999999⟩]
    else if o = 0x01C then [fldAll 31 0 .rw]
    else if o = 0x020 then [fldAll 15 0 .rw]
    else if o = 0x024 then [fldAll 31 0 .rw]
    else if o = 0x028 then [⟨31, 0, .rw, 4262199296, 32768000⟩]
    else if o = 0x050 then [fldAll 31 31 .rw, fldAll 30 30 .rw, ⟨23, 16, .rw, 1, 255⟩]
    else if o = 0x108 then [fldAll 7 7 .rw, fldAll 6 6 .rw, fldAll 5 5 .rw, fldAll 3 0 .rw]
    else []
  | .chan _ o =>
    if o = 0 then
      [⟨31, 16, .rwq, 1, 65535⟩, ⟨14, 12, .rwq, 0, 5⟩, fldAll 10 10 .rwq, fldAll 8 8 .rwq, ⟨5, 4, .rwq, 0, 2⟩, ⟨1, 0, .rwq, 0, 2⟩]
    else if o = 4 then [⟨15, 0, .rwq, 0, 64000⟩]
    else if o = 8 then [⟨24, 0, .rw, 1, 16777216⟩]
    else []
  | .rdg o =>
    if o = 0 then [fldAll 9 8 .rw, fldAll 1 1 .rw, fldAll 0 0 .rw]
    else if o = 8 then fldsW1C 7
    else if o = 0x50 then [fldAll 23 0 .rwl]
    else if o = 0x54 then [fldAll 29 0 .rwl]
    else []
  | .col _ o => if o = 0x048 then [⟨4, 0, .rwl, 0, 16⟩] else if o = 0xC0 then [fldAll 31 31 .w1c] else []
  | .spr _ o =>
    if o = 0 then [fldAll 0 0 .rws]
    else if o = 8 then [fldAll 0 0 .rwq]
    else if o = 0x28 then [fldAll 2 0 .rw]
    else if o = 0x40 then [⟨6, 0, .rw, 8, 96⟩]
    else if o = 0x44 then [fldAll 15 10 .rwl, fldAll 9 0 .rwl]
    else if o = 0x60 then [fldAll 27 24 .rwl, ⟨23, 16, .rws, 8, 48⟩, ⟨15, 8, .rws, 8, 48⟩, ⟨7, 0, .rws, 8, 48⟩]
    else if o = 0x64 then [fldAll 15 8 .rwl, ⟨4, 0, .rws, 4, 12⟩]
    else if o = 0x78 then fldsW1C 5
    else if o = 0x80 then [fldAll 12 12 .rwl, ⟨9, 0, .rws, 16, 1023⟩]
    else if o = 0xA0 then
      [⟨28, 24, .rws, 8, 24⟩, ⟨19, 16, .rws, 1, 15⟩, fldAll 13 12 .rws, ⟨11, 8, .rws, 2, 15⟩, ⟨3, 0, .rws, 0, 10⟩]
    else if o = 0xAC then fldsW1C 5
    else if o = 0xCC ∨ o = 0xD0 ∨ o = 0xD4 then [fldAll 31 24 .rwl, fldAll 23 16 .rwl, fldAll 15 8 .rwl, fldAll 7 0 .rwl]
    else if o = 0xD8 then [fldAll 15 8 .rwl, fldAll 7 0 .rwl]
    else []
  | .sad k o =>
    if o = 0 then [fldAll 1 1 .rwl]
    else if o = 0x10 then [fldAll 15 8 .rwl]
    else if o = 0x18 ∧ !sadSeam k then [fldAll 15 8 .rwl]
    else if o = 0x1C then fldsW1C 6
    else []
  | .cal o =>
    if o = 0 then [fldAll 2 2 .rwl, fldAll 1 1 .rwl, fldAll 0 0 .rwl]
    else if o = 8 then [⟨6, 0, .rwq, 2, 64⟩]
    else []
  | .crn o => if o = 4 then [⟨7, 0, .rw, 1, 255⟩] else []
  | .bst o =>
    if o = 4 then [⟨31, 30, .rwq, 0, 1⟩, fldAll 21 21 .rwq, fldAll 20 20 .rwq, ⟨19, 15, .rwq, 12, 20⟩, fldAll 14 14 .rwq, ⟨8, 0, .rwq, 0, if v.bits 31 30 = 1 then 24 else 424⟩]
    else if o = 8 then [fldAll 31 0 .rwq]
    else if o = 0xC then [fldAll 31 0 .rwq]
    else if o = 0x10 then [fldAll 3 0 .rwl]
    else []
  | .prt o => if o = 0x10 ∨ o = 0x14 then [fldAll 31 0 .rw] else []
  | .hri o =>
    if o = 8 then [⟨3, 0, .rwq, 1, 15⟩]
    else if o = 0x10 then [⟨9, 0, .rw, 1, 1023⟩]
    else if o = 0x14 then [⟨20, 16, .rwq, 6, 16⟩, ⟨12, 8, .rwq, 6, 16⟩, ⟨4, 0, .rwq, 6, 16⟩]
    else if o = 0x18 then [fldAll 30 0 .rwq]
    else if o = 0x20 ∨ o = 0x40 then [fldAll 31 6 .rwq]
    else if o = 0x28 ∨ o = 0x30 ∨ o = 0x38 then [fldAll 31 12 .rwq]
    else if o = 0x24 ∨ o = 0x2C ∨ o = 0x34 ∨ o = 0x3C ∨ o = 0x44 then [fldAll 31 0 .rwq]
    else if o = 0x48 then [fldAll 31 31 .rw, fldAll 29 28 .rw, fldAll 20 16 .rw, fldAll 15 15 .rw, fldAll 12 8 .rw]
    else if o = 0x4C then [fldAll 15 8 .rw, fldAll 1 0 .rw]
    else if o = 0x50 then [fldAll 31 31 .rw, ⟨15, 0, .rw, 1, 65535⟩]
    else []
  | .vgl o => if o = 0x10 then [fldAll 13 12 .rw, fldAll 9 9 .w1c, fldAll 8 8 .w1c] ++ fldsW1C 4 else if o = 0x14 then fldsW1C 16 else []
  | .none => []

/-- The unit that owns an RWQ field is quiesced (R16). -/
def State.quiet (s : State) (w : Win) : Bool :=
  match w with
  | .chan c _ => s.chanQuiet c
  | .spr n _ => s.spurQuiet n
  | .sad k _ => !(s.sad k).usable
  | .cal _ => !s.ringsOn
  | .bst _ => !s.testRuns
  | .hri _ => s.hriQuiet
  | _ => true

/-- The test segment that reaches an offset of the window (R504): 0 the self-test registers, 1 the trims and code tables of the Spurs, 2 SAD_QUAL and SAD_BORROW, 4 the perturbation registers. Segment 3 reaches no register of the window. -/
def tapSegment (a : Nat) : Option Nat :=
  match winOf a with
  | .bst _ => some 0
  | .spr _ o => if o = 0x40 ∨ o = 0x44 ∨ (0xC0 ≤ o ∧ o < 0xDC) then some 1 else none
  | .sad _ o => if o = 0x10 ∨ o = 0x18 then some 2 else none
  | .prt _ => some 4
  | _ => none

/-- An access through IEEE 1687 reaches an offset: the segment that holds it is open (R504, R505). -/
def State.tapReaches (s : State) (a : Nat) : Bool := (tapSegment a).any fun g => s.lcs.segs.getD g false

/-- The source kind and index of the owner of a register (R301). -/
def State.ownerOf (s : State) (a : Nat) : Nat × Nat :=
  match winOf a with
  | .sum _ => (0, s.summitIdx)
  | .lko _ => (4, 0xFFFF)
  | .chan c _ => (4, c)
  | .rdg _ => (5, 0xFFFF)
  | .col f _ => (1, f)
  | .spr n _ => (2, n)
  | .sad k _ => (3, k)
  | .cal _ => (6, 0xFFFF)
  | .crn _ => (7, 0xFFFF)
  | .bst _ => (8, 0xFFFF)
  | .prt o => (9, o)
  | _ => (10, 0xFFFF)

/-- CFG_RANGE, CFG_BUSY or CFG_LOCKED for a write (R301). -/
def State.cfgEvent (s : State) (ev : Ev) (a : Nat) (v : Word) : State :=
  s.raise ev (s.ownerOf a).1 (s.ownerOf a).2 (le 4 a ++ le 4 v.toNat)

/-- An encoding of a field is defined (R15). -/
def Fld.defined (g : Fld) (x : Nat) : Bool := if g.least ≤ g.most then g.least ≤ x && x ≤ g.most else g.least ≤ x || x ≤ g.most

/-- What one field of a write does (R15, R16): `none` where it takes effect, or the event that tells why it does not. Where a field is locked, or its unit busy, and the encoding is undefined as well, the spec gives no order of the events: CFG_LOCKED or CFG_BUSY is raised and CFG_RANGE is not. DESIGN CHOICE, notes/assumptions/67.md. -/
def Fld.check (locked quiet : Bool) (v : Word) (g : Fld) : Option Ev :=
  if g.acc = .rwl ∧ locked then some .cfgLocked
  else if g.acc = .rwq ∧ !quiet then some .cfgBusy
  else if g.defined (v.bits g.hi g.lo) = false then some .cfgRange
  else none

/-- The word after the fields of a write that take effect. -/
def putFields (ok : Fld → Bool) (v : Word) (gs : List Fld) (w : Word) : Word :=
  gs.foldl (fun w g =>
    if ok g then
      (if g.acc = .w1c then w &&& ~~~ (v &&& Word.mask g.hi g.lo) else w.put g.hi g.lo (v.bits g.hi g.lo))
    else w) w

/-- The window answers a write (R483, R514): never before the end of stage 2; nothing that can be written until READY; only HRI_ and VGL_ while no Summit answers; not a window that a Col with both copies failed serves; nothing once the block parks. -/
def State.answers (s : State) (a : Nat) : Bool :=
  if !s.boot.ready then false
  else if s.boot.pst == .v2 || s.boot.pst == .v3 || s.boot.pinPark then false
  else match winOf a with
    | .hri _ => true
    | .vgl _ => true
    | .col f _ => !s.role.nopath && !((s.col f).pFailed && (s.col f).sFailed)
    | .spr n _ => !s.role.nopath && !((s.col (fieldOf n)).pFailed && (s.col (fieldOf n)).sFailed)
    | .sad k _ => !s.role.nopath && !((s.col (sadField k)).pFailed && (s.col (sadField k)).sFailed)
    | _ => !s.role.nopath

/-- A write of a field with a row of its own: `f` takes effect where the window answers and the access code allows it (R16, R483, R514). -/
def State.take (s : State) (a : Nat) (v : Word) (acc : Acc) (f : State → State) : State :=
  if !s.answers a then s
  else if acc = .rwl ∧ s.locked then s.cfgEvent .cfgLocked a v
  else if acc = .rwq ∧ !s.quiet (winOf a) then s.cfgEvent .cfgBusy a v
  else f s

end Sys2Proof.Machine
end

