-- ==== Sys2Proof/Machine/Select.lean ====
section
/-! DEFINITION. Ladders, domains and the choice of the base: R167 to R175, with the ceiling, grant and limit of each domain (R233, R234, R466, R556). -/

namespace Sys2Proof.Machine

/-! ## A fabric: domains, map and base -/

/-- Domain `d` of a fabric. -/
def Fabric.dom (fb : Fabric) (d : Nat) : Dom := fb.doms.getD d Dom.reset

/-- The domain of a field (R172). -/
def Fabric.domOf (fb : Fabric) (f : Nat) : Nat := nth fb.map f

/-- The fields of a domain (R196). -/
def Fabric.fields (fb : Fabric) (d : Nat) : List Nat := (List.range 25).filter fun f => fb.domOf f == d

/-- A domain is in use when it holds at least one field (R167). -/
def Fabric.inUse (fb : Fabric) (d : Nat) : Bool := (List.range 25).any fun f => fb.domOf f == d

/-- The domains in use. -/
def Fabric.used (fb : Fabric) : List Nat := (List.range 8).filter fb.inUse

/-- The fabric with domain `d` changed. -/
def Fabric.modDom (fb : Fabric) (d : Nat) (g : Dom → Dom) : Fabric := { fb with doms := mapFrom (fun i x => if i = d then g x else x) 0 fb.doms }

/-- FCODE of step `n` of a domain's ladder (R169). -/
def Dom.fcode (x : Dom) (n : Nat) : Nat := nth x.ladder n

/-- The FCODE of a base in a domain with exponent `k`. -/
def Dom.ofBase (x : Dom) (b : Nat) : Nat := b / 2 ^ x.k

/-- The FCODE in force in a domain: of the base where the domain is in use (R167), else of its step. -/
def Fabric.fcodeOf (fb : Fabric) (d : Nat) : Nat :=
  if fb.inUse d then (fb.dom d).ofBase fb.base else (fb.dom d).fcode (fb.dom d).step

/-- The highest of the steps 0 to `n` of a ladder whose FCODE is `fc`. -/
def stepUpTo (l : List Nat) (fc : Nat) : Nat → Option Nat
  | 0 => if nth l 0 = fc then some 0 else none
  | n + 1 => if nth l (n + 1) = fc then some (n + 1) else stepUpTo l fc n

/-- The highest step whose FCODE is `fc` (R175). -/
def Dom.stepOf (x : Dom) (fc : Nat) : Option Nat := stepUpTo x.ladder fc 15

/-- The highest of the steps 0 to `n` whose FCODE does not exceed `fc` (R184). -/
def stepBelow (l : List Nat) (fc : Nat) : Nat → Nat
  | 0 => 0
  | n + 1 => if nth l (n + 1) ≤ fc then n + 1 else stepBelow l fc n

/-- The domain's highest step for a base, where its ladder has one (R175). -/
def Dom.stepFor (x : Dom) (b : Nat) : Option Nat := if b % 2 ^ x.k = 0 then x.stepOf (x.ofBase b) else none

/-- The base that a domain's step names. -/
def Dom.baseOf (x : Dom) (n : Nat) : Nat := x.fcode n * 2 ^ x.k

/-- A ladder with its named steps is accepted (R169). -/
def ladderOk (l : List Nat) (safe nominal : Nat) : Bool :=
  l.length == 16 && l.all (fun x => 8 ≤ x && x ≤ 96) && (List.range 15).all (fun i => nth l i ≤ nth l (i + 1)) &&
    nth l 0 ≤ 16 && safe ≤ nominal && nominal < 16 && nth l safe ≤ 40 && nth l nominal ≤ 64

/-- The SAFE base condition: FCODE(SAFE) × 2^k has one value over the domains in use (R171). -/
def Fabric.safeOk (fb : Fabric) : Bool :=
  match fb.used with
  | [] => true
  | d :: ds => ds.all fun e => (fb.dom e).baseOf (fb.dom e).safe == (fb.dom d).baseOf (fb.dom d).safe

/-- The SAFE base (R171), of the lowest-numbered domain in use. -/
def Fabric.safeBase (fb : Fabric) : Nat := (fb.dom (fb.used.headD 0)).baseOf (fb.dom (fb.used.headD 0)).safe

/-- Every domain in use has a step for this base (R175). -/
def Fabric.hasSteps (fb : Fabric) (b : Nat) : Bool := fb.used.all fun d => ((fb.dom d).stepFor b).isSome

/-- The highest base from `n` down for which every domain in use has a step, or the SAFE base where there is none (R175). -/
def Fabric.baseDown (fb : Fabric) : Nat → Nat
  | 0 => fb.safeBase
  | n + 1 => if fb.hasSteps (n + 1) then n + 1 else fb.baseDown n

/-- The fabric with every request derived from the base request, which is lowered where some domain has no step for it (R175). -/
def Fabric.derive (fb : Fabric) : Fabric :=
  let b := fb.baseDown fb.baseReq
  { fb with
    baseReq := b
    doms := mapFrom (fun d x => if fb.inUse d then { x with req := (x.stepFor b).getD x.req } else x) 0 fb.doms }

/-- A domain left with no field has exponent 0 (R173). -/
def Fabric.clearUnused (fb : Fabric) : Fabric :=
  { fb with doms := mapFrom (fun d x => if fb.inUse d then x else { x with k := 0 }) 0 fb.doms }

/-- Two fields touch across a seam: neighbours in the 5 × 5 grid (R5, R168). -/
def fieldsTouch (f g : Nat) : Bool := (f / 5 == g / 5 && (f % 5 + 1 == g % 5 || g % 5 + 1 == f % 5)) || (f % 5 == g % 5 && (f + 5 == g || g + 5 == f))

/-- The exponents of neighbouring fields differ by at most 2 (R168). -/
def Fabric.ratiosOk (fb : Fabric) : Bool :=
  (List.range 25).all fun f => (List.range 25).all fun g =>
    !fieldsTouch f g || ((fb.dom (fb.domOf f)).k ≤ (fb.dom (fb.domOf g)).k + 2 && (fb.dom (fb.domOf g)).k ≤ (fb.dom (fb.domOf f)).k + 2)

/-! ## Inputs of the choice -/

/-- The Spur that drives a region's trees: its own, or the field spare (R126, R231). -/
def State.driverSpur (s : State) (n : Nat) : Nat := if (s.spur n).gates.driver = .spare then 400 + fieldOf n else n

/-- The ceiling register fields of a Spur in a word pair: class `c` (R263). -/
def ceilField (lo hi : Word) (c : Nat) : Nat := if c < 4 then lo.bits (8 * c + 6) (8 * c) else hi.bits (8 * (c - 4) + 6) (8 * (c - 4))

/-- A ceiling in force (R263). -/
def State.ceilNow (s : State) (n c : Nat) : Nat := ceilField (s.word (sprAddr n 0x90)) (s.word (sprAddr n 0x94)) c

/-- A ceiling as its shadow readback gives it (R516). -/
def State.ceilShadow (s : State) (n c : Nat) : Nat :=
  ceilField ((s.shadows.find (sprAddr n 0x90)).getD (s.word (sprAddr n 0x90))) ((s.shadows.find (sprAddr n 0x94)).getD (s.word (sprAddr n 0x94))) c

/-- The ceiling shadow of a Spur that Summit takes into account: that of the writes which reached the Spur before the present mark (R234). -/
def State.ceilSeen (s : State) (n c : Nat) : Nat :=
  if (s.spur n).cal.ceilAt = some s.mark then nth (s.spur n).cal.ceilOld c else s.ceilShadow n c

/-- The ceiling that Summit takes: the lower of the value in force and its shadow (R234), and in DEPLOYED no more than the guard-rated value (R497). -/
def State.ceilUsed (s : State) (n c : Nat) : Nat :=
  let v := min (s.ceilNow n c) (s.ceilSeen n c)
  if s.locked then min v (nth (s.spur n).cal.guards c) else v

/-- HRI_VER.AGREED (R283): what the next enable puts in force (R292). -/
def State.agreedNow (s : State) : Nat := min 2 ((s.word 0xD0008).bits 3 0)

/-- A region's compute tree is fenced: its compute root gate is closed (R124, R129). -/
def State.fenced (s : State) (n : Nat) : Bool := (s.spur (s.driverSpur n)).gates.comp

/-- The contribution of a region to its domain's ceiling for a format class (R25, R233). -/
def State.regionCeil (s : State) (n fmt : Nat) : Nat :=
  s.ceilUsed (s.driverSpur n) (if portKind n ≠ 0 || s.fenced n then 0 else fmt)

/-- The lowest of a list of FCODEs, at most 96. -/
def lowest (l : List Nat) : Nat := l.foldl min 96

/-- The regions of a domain. -/
def Fabric.regions (fb : Fabric) (d : Nat) : List Nat := (fb.fields d).flatMap fieldRegions

/-- The ceiling of a domain (R174, R233). -/
def State.ceilOf (s : State) (fb : Fabric) (d : Nat) : Nat := lowest ((fb.regions d).map fun n => s.regionCeil n (fb.dom d).fmt)

/-- SPR_LIMIT.LIMIT: the lowest of the sources that are set (R133). -/
def Limits.limit (l : Limits) : Nat := lowest ([l.debt, l.spare, l.cal, l.chk].filterMap id)

/-- The limit of a domain, over the Spurs that drive its regions' trees (R556). -/
def State.limitOf (s : State) (fb : Fabric) (d : Nat) : Nat :=
  lowest ((fb.regions d).filterMap fun n =>
    match (s.spur n).gates.driver with
    | .own => some (s.spur n).lim.limit
    | .spare => some (s.spur (400 + fieldOf n)).lim.limit
    | _ => none)

/-- The highest ladder entry not above a value; the lowest entry where there is none. -/
def entryBelow (l : List Nat) (v : Nat) : Nat := nth l (stepBelow l v 15)

/-- The caps of failed links and rails out of band in a domain (R445, R463). -/
def State.linkCap (s : State) (fb : Fabric) (d : Nat) : Nat :=
  lowest ((fb.fields d).filterMap fun f => if (s.col f).avs.failed || (s.col f).avs.capped then some (s.col f).avs.capFcode else none)

/-- The grant of a domain (R466), with the caps of R445 and R463. -/
def State.grantOf (s : State) (fb : Fabric) (d : Nat) : Nat :=
  min (min (entryBelow (fb.dom d).ladder (s.gov.g / 2 ^ (fb.dom d).k)) (nth s.gov.gd d)) (s.linkCap fb d)

/-- SAFE is forced (R74, R452). -/
def State.safeForced (s : State) : Bool := s.rdg.safeCap || s.faults.forceSafe

/-- lim[d] of choose_base (R174). -/
def State.limFor (s : State) (fb : Fabric) (d : Nat) : Nat :=
  let safe := (fb.dom d).fcode (fb.dom d).safe
  if s.safeForced then safe else max (min (s.ceilOf fb d) (min (s.grantOf fb d) (s.limitOf fb d))) safe

/-- cap[d] of choose_base (R174). -/
def State.capFor (s : State) (fb : Fabric) (d : Nat) : Nat := min ((fb.dom d).fcode (fb.dom d).req) (s.limFor fb d)

/-- A base qualifies under caps given by domain (R174). -/
def Fabric.qualifies (fb : Fabric) (caps : List (Nat × Nat)) (b : Nat) : Bool :=
  caps.all fun p => b % 2 ^ (fb.dom p.1).k == 0 && (fb.dom p.1).ofBase b ≤ p.2 && (fb.dom p.1).ladder.contains ((fb.dom p.1).ofBase b)

/-- The highest qualifying base from `n` down to 8; the SAFE base where none does, which R174 shows cannot happen. -/
def Fabric.searchBase (fb : Fabric) (caps : List (Nat × Nat)) : Nat → Nat
  | 0 => fb.safeBase
  | n + 1 => if n + 1 < 8 then fb.safeBase else if fb.qualifies caps (n + 1) then n + 1 else fb.searchBase caps n

/-- choose_base() of R174, for the domains, map and requests of a fabric under the present inputs. -/
def State.chooseBase (s : State) (fb : Fabric) : Nat := fb.searchBase (fb.used.map fun d => (d, s.capFor fb d)) 768

/-- The fabric at a base, every domain in use at step(d) of R174; at the highest step whose FCODE does not exceed an FCODE that is no ladder entry (R184). -/
def Fabric.atBase (fb : Fabric) (b : Nat) : Fabric :=
  { fb with
    base := b
    doms := mapFrom (fun d x => if fb.inUse d then { x with step := (stepUpTo x.ladder (x.ofBase b) x.req).getD (stepBelow x.ladder (x.ofBase b) 15) } else x) 0 fb.doms }

/-- The fabric that the present inputs allow (R174). -/
def State.settle (s : State) (fb : Fabric) : Fabric := fb.atBase (s.chooseBase fb)

/-- SUM_DOM_STATE.BIND: the lowest code of R194 whose input stands at the FCODE applied (R174). -/
def State.bindOf (s : State) (fb : Fabric) (d : Nat) : Nat :=
  let x := fb.dom d
  let fc := x.ofBase fb.base
  if x.fcode x.req = fc then 0
  else if s.ceilOf fb d = fc then 1
  else if s.grantOf fb d = fc then 2
  else if s.limitOf fb d = fc then 3
  else if s.safeForced ∧ x.fcode x.safe = fc then 4
  else 5

end Sys2Proof.Machine
end

