-- ==== Sys2Proof/Machine/Flags.lean ====
section
/-! DEFINITION. Flags: the event summary (R530 to R532), the fatal flags (R534), the latched flags of the units, and the bits that status registers compute from the state. -/

namespace Sys2Proof.Machine

/-- The bits of an event record's first half as VGL_LAST_A gives them (R532). -/
def lastA (e : EventRec) : Word :=
  Word.fld 16 16 e.ev.code ||| Word.fld 8 8 e.kind ||| Word.flag 7 true ||| Word.fld 2 0 e.sev.code

/-- VGL_LAST_B (R532). -/
def lastB (e : EventRec) : Word := Word.fld 16 0 e.idx

/-- VGL_LAST_TLO (R532). -/
def lastTlo (e : EventRec) : Word := Word.fld 32 0 e.time.toNat

/-- VGL_LAST_THI (R532). -/
def lastThi (e : EventRec) : Word := Word.fld 16 16 e.epoch ||| Word.fld 16 0 (e.time.toNat / 2 ^ 32)

/-- The group of an event code (R300). -/
def Ev.group (e : Ev) : Nat := e.code / 256

/-- The event summary after an event (R530, steps 1 to 3). -/
def EvSum.note (v : EvSum) (lastSev : Nat) (e : EventRec) : EvSum :=
  { bits := v.bits ||| BitVec.ofNat 32 (2 ^ e.sev.code)
    groups := v.groups ||| BitVec.ofNat 32 (2 ^ e.ev.group)
    counts := mapFrom (fun i c => if i = e.sev.code then c + 1 else c) 0 v.counts
    last := if lastSev ≤ e.sev.code then some e else v.last }

/-- VGL_EVSUM.LASTSEV (R531). -/
def State.lastSev (s : State) : Nat := (s.word 0xF0010).bits 13 12

/-- VGL_EVSUM.LOST set (R530). -/
def EvSum.setLost (v : EvSum) : EvSum := { v with bits := v.bits ||| 0x100#32 }

/-- VGL_EVSUM.FILTERED set (R530). -/
def EvSum.setFiltered (v : EvSum) : EvSum := { v with bits := v.bits ||| 0x200#32 }

/-- VGL_FATAL.ACTIVE: the fatal signal to the die is driven (R534, R545). -/
def State.fatalActive (s : State) : Bool := s.boot.pinFatal

/-! ## Latched flags of the units -/

/-- SPR_STRSTAT bit set (R164). -/
def State.strFlag (s : State) (n i : Nat) : State := s.setBit (sprAddr n 0x78) i

/-- SPR_WLEVT bit set (R266). -/
def State.wlFlag (s : State) (n i : Nat) : State := s.setBit (sprAddr n 0xAC) i

/-- SAD_EVT bit set (R229). -/
def State.sadFlag (s : State) (k i : Nat) : State := s.setBit (sadAddr k 0x1C) i

/-- RDG_REFEVT bit set (R93). -/
def State.refFlag (s : State) (i : Nat) : State := s.setBit 0x18008 i

/-! ## Computed flags -/

/-- SUM_ROLE.MIRROR_AGE: marks since the standby's latest complete record, up to 15 (R59). -/
def State.mirrorAge (s : State) : Nat :=
  match s.role.mirrors with
  | [] => 0
  | m :: _ => min 15 (s.since m.mark)

/-- SUM_ROLE.MIRROR_OK: a complete record no more than 2 marks old, and none late since (R55, R59). -/
def State.mirrorOk (s : State) : Bool :=
  match s.role.mirrors with
  | [] => false
  | m :: _ => s.role.standbyOk && !s.role.mirrorLate && s.since m.mark ≤ 2

/-- A region is dark (R440). -/
def State.dark (s : State) (n : Nat) : Bool := (s.spur n).gates.driver == .dark

/-- The dark regions of a field, those included that go dark at the coming mark. -/
def State.darkIn (s : State) (f : Nat) : Nat := ((fieldRegions f).filter fun n => s.dark n || (s.spur n).gates.darkDue).length

/-- COL_FAULT.FAILED (R456). -/
def State.failedMask (s : State) (f : Nat) : Nat := flagsNat ((fieldSpurs f).map fun n => (s.spur n).gates.failed)

/-- CALREF_OK: declared present and showing edges (R368). -/
def State.calrefOk (s : State) : Bool := s.lko.calrefDeclared && s.lko.calref

/-- LKO_STAT.HELD: the local oscillator is the time base (R403, R410). -/
def State.todHeld (s : State) : Bool := s.lko.todSrc == 2

/-- LKO_STAT.SLEWING (R410). -/
def State.slewing (s : State) : Bool := s.lko.slewLeft != 0 || s.lko.slewSub != 0

/-- Applied sets that have completed and whose entries are not yet EMPTY in every Spur that works (R116, R181). -/
def State.emptying (s : State) : List Seq :=
  ((s.spurs.toList.flatMap fun x => if x.gates.failed then [] else (x.gen.entries.filter Entry.applied).map Entry.seq).filter fun q =>
    !s.plan.sets.any fun c => c.seq == q).eraseDups

/-- Commit sets holding commit entries: staged, armed, or applied with their entries not yet EMPTY (R181, R191). -/
def State.heldSets (s : State) : Nat := (s.plan.sets.filter fun c => c.staged || c.armed || c.applied).length + s.emptying.length

/-- PRT_ACTIVE: the perturbations in force (R511). -/
def State.perturbs (s : State) : Nat :=
  flagsNat [(s.word 0xC0020).bit 31, (s.word 0xC0024).bit 31, (s.word 0xC0028).bit 31, (s.word 0xC002C).bit 31,
    (s.word 0xC0030).bit 31, (s.word 0xC0040) != 0, (s.word 0xC0044) != 0]

end Sys2Proof.Machine
end

