-- ==== Sys2Proof/Machine/SpurOps.lean ====
section
/-! DEFINITION. What the commands of a Spur share: lead estimates (R145, R146), demands for a stretch (R138 to R142), the tally (R110), the trees a Spur drives and the gates (R51 to R53), Saddle errors (R219 to R221). -/

namespace Sys2Proof.Machine

/-! ## Lead estimates -/

/-- The lead estimate toward north, east, south or west (0 to 3). -/
def Leads.get (l : Leads) (dir : Nat) : Int :=
  match dir with
  | 0 => l.north
  | 1 => l.east
  | 2 => l.south
  | _ => l.west

/-- The lead estimates, each changed by `f` of its direction. -/
def Leads.map (l : Leads) (f : Nat → Int → Int) : Leads := ⟨f 0 l.north, f 1 l.east, f 2 l.south, f 3 l.west⟩

/-- The lead estimates with one direction changed. -/
def Leads.mod (l : Leads) (dir : Nat) (f : Int → Int) : Leads := l.map fun d v => if d = dir then f v else v

/-- The region whose trees a Spur drives: its own, or the one that a field spare stands in for (R126). -/
def State.regionOf (s : State) (n : Nat) : Option Nat :=
  if n < 400 then (if (s.spur n).gates.driver = .own then some n else none)
  else if (s.col (n - 400)).spare.driving then some (s.col (n - 400)).spare.target else none

/-- A Spur is under an on-demand test (R365). -/
def State.underTest (s : State) (n : Nat) : Bool := s.testRuns && s.bist.kind == 0 && s.bist.unit == n

/-- A tested Spur's flops are shifted out, scanned or shifted in (R413, R424): what happens meanwhile does not reach its state, which the restore brings back. -/
def State.scanned (s : State) (n : Nat) : Bool := s.underTest n && 2 ≤ s.bist.phase && s.bist.phase ≤ 5

/-- A tested Spur takes no command and no edge: from the save on, until its loop is LOCKED again and it has been given the entries and the tally of another Spur (R424, step 7). -/
def State.testAway (s : State) (n : Nat) : Bool := s.underTest n && 2 ≤ s.bist.phase && !(s.bist.phase == 6 && s.bist.locked)

/-- A perturbation that names unit U acts on Spur `n` (R507): on whichever Spur drives region U, on a field spare, or with 0x1FF on the drivers of every region. -/
def State.hits (s : State) (u n : Nat) : Bool :=
  if u < 400 then s.regionOf n == some u else if u = 0x1FF then (s.regionOf n).isSome else u == n

/-- The temperature that PRT_SENS puts in place of both readings of a Spur (R507). -/
def State.sensOver (s : State) (n : Nat) : Option Int :=
  let w := s.word 0xC002C
  if w.bit 31 && s.hits (w.bits 24 16) n then some (fromTwos 16 (w.bits 15 0)) else none

/-- The Spur that clocks a region's transit tree: its driver, or the lender's (R216). -/
def State.clockedBy (s : State) (n : Nat) : Option Nat :=
  match (s.spur n).gates.driver with
  | .own => some n
  | .spare => some (400 + fieldOf n)
  | .borrow l => some (s.driverSpur l)
  | .dark => none

/-- A region's trees are clocked by a Spur that another region's driver is: the lender of a borrow (R216). -/
def State.borrowed (s : State) (r : Nat) : Bool :=
  match (s.spur r).gates.driver with
  | .borrow _ => true
  | _ => false

/-- A region has a usable neighbour in a direction: a Saddle that carries notices, and a neighbour that is not dark (R145, R216, R440). A usable Saddle that is held until it has resynchronised delivers no notices, and the direction takes no part until then: R145 speaks of an unusable one only. DESIGN CHOICE, notes/assumptions/72.md. -/
def State.leadUsable (s : State) (r dir : Nat) : Bool :=
  match sadToward r dir with
  | none => false
  | some k => (s.sad k).usable && !(s.sad k).held && !s.dark (sadOther k r)

/-- The largest follow demand over the usable neighbours (R149). -/
def State.follow (s : State) (r : Nat) (l : Leads) : Int :=
  ((List.range 4).filter (s.leadUsable r)).foldl (fun m d => max m (l.get d - 2)) 0

/-- Every lead estimate of a usable neighbour is 1 or less (R150). -/
def State.leadsLow (s : State) (r : Nat) (l : Leads) : Bool :=
  ((List.range 4).filter (s.leadUsable r)).all fun d => decide (l.get d ≤ 1)

/-- The region that a region lends its clock to, once the path is connected (R216). -/
def State.lentTo (s : State) (r : Nat) : Option Nat :=
  match (s.col (fieldOf r)).borrow with
  | some b => if b.connected ∧ b.lender = r then some b.region else none
  | none => none

/-- GRADE[2:0] as a region's bundle drives it (R256, R550): the grade in force, 0 while the region is fenced, borrowed or dark and before service; block state V1 and a native window hold it. -/
def State.gradeOut (s : State) (r : Nat) : Nat :=
  let x := (s.spur (s.driverSpur r)).gates
  if !s.boot.ready || s.dark r || s.borrowed r || (x.comp && !x.tran && !x.leaf) then 0 else (s.spur r).gates.grade

/-! ## Demands -/

/-- Bit `q` of SPR_DROOPCFG.EN (R159). -/
def State.detOn (s : State) (n q : Nat) : Bool := (s.word (sprAddr n 0x60)).bit (24 + q)

/-- The highest level at which a Spur's enabled detectors stand, by levels given for each, false droop included (R139, R507). -/
def State.droopOver (s : State) (n : Nat) (levels : List Nat) : Nat :=
  let x := (s.spur n).str
  (List.range 4).foldl (fun m q =>
    if s.detOn n q then max m (max (nth levels q) (if 0 < x.fdLeft ∧ x.fdQuad / 2 ^ q % 2 = 1 then x.fdLevel else 0)) else m) 0

/-- The highest level at which a Spur's detectors stand now (R139). -/
def State.droopStands (s : State) (n : Nat) : Nat := s.droopOver n (s.spur n).str.droop

/-- The droop level that the coming edge takes (R140): the highest that any detector has reported since the last edge, or stands at. A level reported and left again before the edge counts for that edge, since an edge takes every level reported before it begins. DEDUCED, notes/assumptions/69.md. -/
def State.droopLevel (s : State) (n : Nat) : Nat := max (s.droopStands n) (s.droopOver n (s.spur n).str.droopSeen)

/-- The level of a detector with levels at `l k` quarter percent below setpoint `sp`, in mV, once its rail reads `rail`, in µV (R139): below Lk it stands at level k or above; a level is left only at 0.5 % of setpoint above it. -/
def droopAfter (sp : Nat) (l : Nat → Nat) (cur rail : Nat) : Nat :=
  let below := fun (k up : Nat) => decide (400 * rail < 1000 * sp * (400 + up - l k))
  (List.range 4).foldl (fun m k => if k ≠ 0 ∧ (below k 0 ∨ (k ≤ cur ∧ below k 2)) then max m k else m) 0

/-- The monitor that a format class makes active besides M0 and M1 (R141). -/
def fmtMonitor (fmt : Nat) : Option Nat :=
  match fmt with
  | 1 => some 2
  | 2 => some 3
  | 3 => some 4
  | 4 => some 4
  | 5 => some 5
  | 6 => some 6
  | 7 => some 7
  | _ => none

/-- The active monitors of a Spur, those enabled in SPR_MONCFG (R141, R160): M0 while the transit tree runs, the others while the compute tree is open. -/
def State.monitors (s : State) (n : Nat) : List Nat :=
  let x := s.spur n
  ((if x.gates.tran then [] else [0]) ++ (if x.gates.comp then [] else 1 :: (fmtMonitor x.gen.fmt).toList)).filter fun q => (s.word (sprAddr n 0x64)).bit (8 + q)

/-- The lowest of the slacks of some monitors, with its monitor; 127 where none is active. Where two monitors give the same lowest slack, which R165 leaves open, the one of lower number counts. DESIGN CHOICE, notes/assumptions/70.md. -/
def lowSlack (slacks : List Int) (ms : List Nat) : Int × Nat :=
  ms.foldl (fun p q => if slacks.getD q 127 < p.1 then (slacks.getD q 127, q) else p) (127, 0)

/-- The monitor demand for a slack S and a threshold TH, in quarter phases (R142). -/
def monDemand (slack th : Int) : Nat := if slack < th - 8 then 3 else if slack < th - 4 then 2 else if slack < th then 1 else 0

/-- SPR_MONCFG.TH (R160). -/
def State.monTh (s : State) (n : Nat) : Nat := (s.word (sprAddr n 0x64)).bits 4 0

/-- SPR_CHKCFG.DEBTMAX (R264). -/
def State.debtMax (s : State) (n : Nat) : Nat := (s.word (sprAddr n 0xA0)).bits 28 24

/-- The demand of a Spur's own sources for the coming edge (R138, R157): a fenced compute tree leaves the detectors and M0. -/
def State.demand (s : State) (n : Nat) : Nat :=
  let x := s.spur n
  let mon := monDemand (lowSlack x.str.slacks (s.monitors n)).1 (s.monTh n)
  if x.gates.comp then max (s.droopLevel n) mon
  else max (s.droopLevel n) (max mon (max (if x.wl.preMask.getLsbD 0 then 1 else 0)
    (max (if 0 < x.wl.chkLeft ∧ x.str.debt < s.debtMax n then 1 else 0) (if 0 < x.str.injLeft then x.str.injAmount else 0))))

/-! ## The tally -/

/-- Cycles per mark at an FCODE (R31). -/
def cycles (f : Nat) : Nat := 16 * f

/-- The tally after one more edge (R110): the edge after the last cycle of a mark waits for TALLY_MARK, which sets the tally to cycle 0 of the next mark. -/
def Gen.tallyEdge (g : Gen) : Gen :=
  if g.tallyCyc + 1 < cycles g.fcode then { g with tallyCyc := g.tallyCyc + 1, tallySync := false } else { g with wrap := true }

/-- The cycle that a Spur is in: its tally mark and cycle, the edge that waits for TALLY_MARK counted (R110). -/
def Gen.pos (g : Gen) : Mark × Nat := if g.wrap then (g.tallyMark + 1, 0) else (g.tallyMark, g.tallyCyc)

/-- How many cycles one position lies ahead of another, where a mark holds `an` cycles of the first and `bn` of the second, in one unit. -/
def lag (a : Mark × Nat) (an : Nat) (b : Mark × Nat) (bn : Nat) : Int :=
  let d := fromTwos 40 (a.1 - b.1).toNat
  d * (if 0 ≤ d then bn else an) + a.2 - b.2

/-- A Spur is in the first cycle of its tally mark, at which the changes of a mark take place for its region (R53, R112). -/
def State.atCycle0 (s : State) (n : Nat) : Bool := (s.spur n).gen.tallyCyc == 0 && !(s.spur n).gen.wrap

/-- A Spur's commit cycle has come and the commit not yet (R120). -/
def Gen.commitDue (g : Gen) : Bool := g.tallyCyc == 0 && !g.wrap && g.entries.any fun e => e.st == .armed && !e.applied && e.target == g.tallyMark

/-! ## Gates -/

/-- The compute root gate closed or opened, with the effects of R242 and R252 on an INTENT or checksum window in progress. -/
def Spur.setComp (x : Spur) (closed : Bool) : Spur :=
  { x with
    gates := { x.gates with comp := closed }
    wl := if closed then { x.wl with hold := 0, holdLeft := 0, preMask := 0, preLeft := 0, chkLeft := 0, frame := none } else x.wl }

/-- The hold class and the windows ended, and a frame in progress discarded (R242, R252). -/
def Spur.endWindows (x : Spur) : Spur :=
  { x with wl := { x.wl with hold := 0, holdLeft := 0, preMask := 0, preLeft := 0, chkLeft := 0, frame := none } }

/-- The domain of a Spur's field. -/
def State.domOfSpur (s : State) (n : Nat) : Nat := s.fab.domOf (fieldOf n)

/-- The step one below a step, not below SAFE (R154, R250). -/
def Dom.lower (x : Dom) (n : Nat) : Nat := max x.safe (n - 1)

/-- A recomputation of the base is due (R176). -/
def State.baseMoved (s : State) : State := { s with role := { s.role with baseDue := true } }

/-! ## The sides of a Saddle -/

/-- One direction of a Saddle: toward its higher region or toward its lower one. -/
def Saddle.lane (x : Saddle) (toHigher : Bool) : Lane := if toHigher then x.toHi else x.toLo

/-- A Saddle with one direction changed. -/
def Saddle.modLane (x : Saddle) (toHigher : Bool) (f : Lane → Lane) : Saddle :=
  if toHigher then { x with toHi := f x.toHi } else { x with toLo := f x.toLo }

/-- The ratio in which one side of a Saddle works, the higher or the lower (R212, R214). -/
def Saddle.ratioOf (x : Saddle) (high : Bool) : Nat := if high then x.ratioHi else x.ratio

/-- A side of a Saddle is the faster one, as that side has it (R214). -/
def Saddle.fastOf (x : Saddle) (high : Bool) : Bool := x.ratioOf high != 1 && (if high then x.fastHighHi else !x.fastHigh)

/-- The mode of a side: its ratio, and whether the higher region is the faster one (R212, R214). -/
def Saddle.modeOf (x : Saddle) (high : Bool) : Nat × Bool := if high then (x.ratioHi, x.fastHighHi) else (x.ratio, x.fastHigh)

/-- The mode of a seam for the exponents of a fabric (R168, R188): the ratio, and whether the higher region is the faster side. -/
def Fabric.modeOf (fb : Fabric) (k : Nat) : Nat × Bool :=
  let a := (fb.dom (fb.domOf (fieldOf (sadLow k)))).k
  let b := (fb.dom (fb.domOf (fieldOf (sadHigh k)))).k
  (2 ^ (max a b - min a b), b < a)

/-- The cycle of a side whose difference the resynchronisation measures: 8, or 8 × ratio on the faster side (R147). -/
def Saddle.refCyc (x : Saddle) (high : Bool) : Nat := if x.fastOf high then 8 * x.ratioOf high else 8

/-! ## Saddle errors -/

/-- The state after a Saddle event, raised at most once per mark per Saddle (R221). -/
def State.sadEvent (s : State) (k : Nat) (ev : Ev) (detail : List Byte) : State :=
  if (s.sad k).raisedNow.contains ev then s
  else (s.modSad k fun x => { x with raisedNow := x.raisedNow ++ [ev] }).raise ev 3 k detail

/-- PRT_SADDLY acts on a Saddle (R507). -/
def State.sadDelayed (s : State) (k : Nat) : Bool := (s.word 0xC0028).bit 31 && (s.word 0xC0028).bits 25 16 == k

/-- The incident of a failed Saddle (R448): class 4. -/
def sadIncident (k : Nat) : Incident := { cls := 4, sev := .degraded, ev := .saddleFail, unit := k }

/-- The state after SADDLE_FAIL (R220): unusable from the next mark, until reset. -/
def State.sadFail (s : State) (k : Nat) : State :=
  if (s.sad k).failed then s
  else (((s.modSad k fun x => { x with failed := true, disableNext := true }).sadEvent k .saddleFail []).sadFlag k 5).incident (sadIncident k)

/-- A WINDOW_EXCEEDED or ELASTIC_SLIP, and SADDLE_FAIL where the previous one came 1 to 16 marks before (R219, R220), unless PRT_SADDLY.NOFAIL keeps the Saddle usable (R508). -/
def State.sadError (s : State) (k : Nat) (ev : Ev) (flag : Nat) : State :=
  let m := s.mark
  let again : Bool :=
    match (s.sad k).lastErr with
    | none => false
    | some p => 1 ≤ (m - p).toNat && (m - p).toNat ≤ 16
  let t := ((s.sadEvent k ev []).sadFlag k flag).modSad k fun x => { x with lastErr := some m }
  if again && !(s.sadDelayed k && (s.word 0xC0028).bit 30) then t.sadFail k else t

end Sys2Proof.Machine
end

