-- ==== Sys2Proof/Machine/Checksum.lean ====
section
/-! DEFINITION. What an edge and a tally mark of a Spur take from the arrays (R247 to R253): checksum frames, their counts and limits, and the temperature bands of the grade inputs. -/

namespace Sys2Proof.Machine

/-! ## Checksum mismatches (R247 to R251) -/

/-- The rate windows' length in marks (R264). -/
def rateMarks (w : Word) : Nat := 256 * 4 ^ w.bits 13 12

/-- A list of counts with one raised by 1, up to a bound. -/
def bump (l : List Nat) (i bound : Nat) : List Nat := mapFrom (fun j v => if j = i then min bound (v + 1) else v) 0 l

/-- The bits of a frame after its start bit, as the line carries them (R247): array 0 to 2, kind, parity. -/
def frameBits (array : Nat) (column parity : Bool) : BitVec 5 := BitVec.ofNat 5 (array % 8 + 8 * column.toNat + 16 * parity.toNat)

/-- A frame's parity holds: array, kind and parity bit hold an odd number of ones (R247). -/
def parityOk (b : BitVec 5) : Bool := ((List.range 5).filter fun i => b.getLsbD i).length % 2 == 1

/-- The workload state after the start bit of a frame (R247, R248): the window of 64 edges opens or restarts, and the five bits after it are sampled at the coming edges. -/
def Wl.startFrame (x : Wl) (bits : BitVec 5) : Wl := { x with chkLeft := 64, frame := some (bits, 5) }

/-- The workload state after the parity bit of a frame (R247, R249): a frame whose parity fails names no array. -/
def Wl.mismatch (x : Wl) (bits : BitVec 5) : Wl :=
  let array := bits.toNat % 8
  let column := bits.getLsbD 3
  let good := parityOk bits
  { x with
    frame := none, chkTotal := x.chkTotal + 1, winCount := x.winCount + 1, markMis := x.markMis + 1
    arrays := if good then bump x.arrays array 15 else x.arrays
    rows := if good && !column then bump x.rows array 255 else x.rows
    cols := if good && column then bump x.cols array 255 else x.cols
    markMap := if good && x.markMap / 2 ^ array % 2 == 0 then x.markMap + 2 ^ array else x.markMap
    winBad := x.winBad || !good
    markBad := x.markBad || !good }

/-- The array that an examination names (R251): at least CAND mismatches, none of another array, and no frame with bad parity. -/
def Wl.candidate (x : Wl) (cand : Nat) : Option Nat :=
  if x.winBad then none
  else (List.range 8).find? fun a => decide (cand ≤ nth x.arrays a) && (List.range 8).all fun b => a == b || nth x.arrays b == 0

/-- An examination of a Spur's counts, which clears SPR_CHKARR (R251). -/
def State.examine (s : State) (n : Nat) : State :=
  let x := (s.spur n).wl
  let t := match x.candidate ((s.word (sprAddr n 0xA0)).bits 11 8) with
    | some a => (s.raise .spareCandidate 2 n (le 1 a ++ le 1 (nth x.rows a) ++ le 1 (nth x.cols a))).wlFlag n 3
    | none => s
  t.modSpur n fun y => { y with wl := { y.wl with
    arrays := List.replicate 8 0, rows := List.replicate 8 0, cols := List.replicate 8 0, winBad := false } }

/-- The step that a source of SPR_LIMIT takes and whether it stays at SAFE for want of a lower one (R154, R250): one below the step in force, or, where the source is set, one below its own. -/
def Dom.nextLimit (x : Dom) (set : Option Nat) : Nat × Bool :=
  let base := set.getD x.step
  (x.lower base, decide (base ≤ x.safe))

/-- CHK_RATE (R250): the count restarts, the limit goes down a step, and the counts are examined. -/
def State.chkRate (s : State) (n : Nat) : State :=
  let x := s.fab.dom (s.domOfSpur n)
  let l := (s.spur n).lim
  let v := x.nextLimit (l.chk.map fun _ => l.chkStep)
  let t := (s.raiseAs .chkRate (if v.2 then .degraded else .corrected) 2 n []).wlFlag n 2
  let t := t.modSpur n fun y => { y with
    lim := { y.lim with chk := some (x.fcode v.1), chkStep := v.1 }
    wl := { y.wl with winCount := 0, lastRate := s.mark } }
  (t.examine n).baseMoved

/-- A frame at its parity bit (R247 to R250). -/
def State.endFrame (s : State) (n : Nat) (bits : BitVec 5) : State :=
  let t := s.modSpur n fun x => { x with wl := x.wl.mismatch bits }
  let t := t.when (!parityOk bits && !(s.spur n).wl.markBad) fun u => (u.raise .chkFrameBad 2 n []).wlFlag n 4
  t.when (decide ((s.word (sprAddr n 0xA0)).bits 19 16 ≤ (t.spur n).wl.winCount)) fun u => u.chkRate n

/-- A frame in progress after one more edge of the Spur that samples it (R247). -/
def State.sampleFrame (s : State) (n : Nat) : State :=
  match (s.spur n).wl.frame with
  | none => s
  | some (b, k) => if 1 < k then s.modSpur n fun x => { x with wl := { x.wl with frame := some (b, k - 1) } } else s.endFrame n b

/-! ## Temperature bands (R253) -/

/-- The highest working sensor of a region, 1/16 degC, or the temperature that PRT_SENS gives (R446, R466, R507). -/
def State.hottest (s : State) (n : Nat) : List Int :=
  let c := (s.spur n).cal
  match s.sensOver n with
  | some v => [v]
  | none => (if c.bad0 then [] else [c.s0]) ++ (if c.bad1 then [] else [c.s1])

/-- The temperature band of a reading in 1/16 degC (R253). -/
def band (t : Int) : Nat :=
  ([60, 70, 78, 85, 92, 98, 104].filter fun (e : Int) => decide (16 * e ≤ t)).length

/-- A region's own band, where a sensor works. -/
def State.ownBand (s : State) (r : Nat) : Option Nat :=
  match s.hottest r with
  | [] => none
  | t :: ts => some (band (ts.foldl max t))

/-- The highest band of any region of a field (R253, R446); where no sensor of the field works, which the spec gives no band for, a free value. -/
def State.topBand (s : State) (f : Nat) : Nat :=
  match (fieldRegions f).filterMap s.ownBand with
  | [] => s.free.toNat % 8
  | b :: bs => bs.foldl max b

/-- The band of a region: under the field spare, or with no working sensor, the highest of its field. -/
def State.bandOf (s : State) (r : Nat) : Nat :=
  if (s.spur r).gates.driver = .spare then s.topBand (fieldOf r) else (s.ownBand r).getD (s.topBand (fieldOf r))

/-- The temperature band of a region as its tally mark ends, for the grade input of that mark (R253). -/
def State.bandMark (s : State) (r : Nat) : State :=
  let t := s.modSpur r fun x => { x with gates := { x.gates with band := s.bandOf r } }
  if ((fieldRegions (fieldOf r)).filterMap s.ownBand).isEmpty then t.tookFree else t

end Sys2Proof.Machine
end

