-- ==== Sys2Proof/Machine/SprWrite.lean ====
section
/-! DEFINITION. Writes to a Spur's window (R15 to R18, R159, R160, R260, R263, R425, R443): where they take effect, the shadows of RWS fields, trims that stage, and the ceilings (R234). -/

namespace Sys2Proof.Machine

/-! ## Shadows -/

/-- The bits of a Spur register that are RWS (R16, R128, R159, R160, R260, R263, R264). -/
def rwsMask (o : Nat) : Word :=
  if o = 0 then 0x1#32 else if o = 0x60 then 0x00FFFFFF#32 else if o = 0x64 then 0x1F#32 else if o = 0x80 then 0x3FF#32
  else if o = 0x90 ∨ o = 0x94 then 0x7F7F7F7F#32 else if o = 0xA0 then 0x1F0F3F0F#32 else 0#32

/-- The offsets of a Spur's registers with RWS fields (R516). -/
def rwsRegs : List Nat := [0, 0x60, 0x64, 0x80, 0x90, 0x94, 0xA0]

/-- A register as its shadow readback gives it (R516). -/
def State.shadowed (s : State) (a : Nat) : Word := (s.shadows.find a).getD (s.word a)

/-- One RWS shadow put in force (R16, R122). -/
def State.applyShadow (s : State) (n o : Nat) : State :=
  match s.shadows.find (sprAddr n o) with
  | none => s
  | some w => (s.setWord (sprAddr n o) ((s.word (sprAddr n o) &&& ~~~ rwsMask o) ||| (w &&& rwsMask o))).dropShadow (sprAddr n o)

/-! ## Where a write takes effect -/

/-- The calibration registers of a Spur, which stay its own while the field spare serves its region (R424, R425): the code table, and 0xC0 to 0xD8. -/
def calReg (o : Nat) : Bool := o == 0x40 || o == 0x44 || (0xC0 ≤ o && o < 0xDC)

/-- The Spur whose window an access to SPR[n] reaches (R425, R443): while the field spare drives the region, its own, but for the calibration registers. R425 says so of reads and writes during a test and R443 of writes after a failure; that reads go there after a failure too: DEDUCED, notes/assumptions/85.md. -/
def State.homeSpur (s : State) (n o : Nat) : Nat :=
  if n < 400 ∧ (s.spur n).gates.driver = .spare ∧ !calReg o then 400 + fieldOf n else n

/-- Writes to this window wait for the Spur's release (R443): it has failed and its region is borrowed or dark. -/
def State.windowHeld (s : State) (n : Nat) : Bool :=
  (s.spur n).gates.failed && (match (s.spur n).gates.driver with
    | .own => false
    | .spare => false
    | _ => decide (n < 400))

/-- The windows that a write changes: while a test holds Spur n and the spare serves its region, the Spur's saved image takes the write as well (R425). -/
def State.targets (s : State) (n o : Nat) : List Nat :=
  let h := s.homeSpur n o
  if h ≠ n ∧ s.testRuns ∧ s.bist.handover ∧ s.bist.kind = 0 ∧ s.bist.unit = n then [h, n] else [h]

/-! ## Plain fields and trims -/

/-- The bytes of a trim register as trim fields, with the bits written (R370). -/
def trimFields (o base : Nat) (v : Word) : List (TrimField × Nat) :=
  let b := fun (i : Nat) => v.bits (8 * i + 7) (8 * i)
  if o = 0x44 then [(.code base, v.bits 15 0)]
  else if o = 0xCC then (List.range 4).map fun q => (.off q, b q)
  else if o = 0xD0 then (List.range 4).map fun q => (.mon q, b q)
  else if o = 0xD4 then (List.range 4).map fun q => (.mon (q + 4), b q)
  else if o = 0xD8 then (List.range 2).map fun q => (.sens q, b q)
  else []

/-- The bits of a write that take effect, apart from RWS fields: a flag register clears them, a trim register stages its trims for the second mark after (R361), any other takes them. -/
def State.putSpr (s : State) (n o : Nat) (v mask : Word) : State :=
  let a := sprAddr n o
  if mask = 0 then s
  else if o = 0x78 ∨ o = 0xAC then s.setWord a (s.word a &&& ~~~ (s.clearing a v &&& mask))
  else match trimFields o ((s.word (sprAddr n 0x40)).bits 6 0) v with
    | [] => s.setWord a ((s.word a &&& ~~~ mask) ||| (v &&& mask))
    | fs => s.modSpur n fun x => { x with cal := { x.cal with writes := x.cal.writes ++ fs.map fun p => (s.mark + 2, p.1, p.2) } }

/-- What was held for a Spur's window, at its first commit after release (R443). -/
def State.applyHeld (s : State) (n : Nat) : State :=
  let mine := s.held.filter fun h => winOf h.1 == .spr n (h.1 - sprAddr n 0)
  let t := s.each mine fun u h => u.putSpr n (h.1 - sprAddr n 0) h.2.1 h.2.2
  { t with held := t.held.filter fun h => !mine.contains h }

/-! ## The fields of a write -/

/-- The fields of a Spur register, for the Spur it belongs to: a port region's workload registers read their reset values (R260). -/
def sprFields (n o : Nat) (v : Word) : List Fld :=
  if n < 400 ∧ portKind n ≠ 0 ∧ (o = 0x80 ∨ o = 0xA0) then [] else fieldsOf (.spr n o) v

/-- The levels of SPR_DROOPCFG that a write would leave are in strictly increasing order (R159). -/
def droopOk (old v : Word) (gs : List Fld) : Bool :=
  let w := putFields (fun g => g.defined (v.bits g.hi g.lo)) v (gs.filter fun g => g.acc == .rws) old
  w.bits 7 0 < w.bits 15 8 && w.bits 15 8 < w.bits 23 16

/-- The bits of some fields. -/
def maskOf (gs : List Fld) : Word := gs.foldl (fun w g => w ||| Word.mask g.hi g.lo) 0

/-- One event of each kind that the fields of a write call for (R15, R16). -/
def State.tellFields (s : State) (a : Nat) (v : Word) (es : List (Option Ev)) : State :=
  s.each [Ev.cfgRange, .cfgBusy, .cfgLocked] fun t e => t.when (es.contains (some e)) fun u => u.cfgEvent e a v

/-- A write to a register of SPR[n] (R15 to R18): each field by its access code, RWS fields in the shadow. -/
def State.writeSpr (s : State) (n o : Nat) (v : Word) : State :=
  let h := s.homeSpur n o
  let gs := sprFields n o v
  let levels : Bool := o != 0x60 || droopOk (s.shadowed (sprAddr h o)) v gs
  let chk := fun (g : Fld) => if g.acc = .rws ∧ !levels then some Ev.cfgRange else g.check s.locked (s.quiet (.spr h o)) v
  let ok := gs.filter fun g => (chk g).isNone
  let rws := ok.filter fun g => g.acc == .rws
  let mask := maskOf (ok.filter fun g => g.acc != .rws)
  let t := s.tellFields (sprAddr n o) v (gs.map chk)
  let t := if s.windowHeld n then { t with held := if mask = 0 then t.held else t.held ++ [(sprAddr n o, v, mask)] }
    else t.each (s.targets n o) fun u m => u.putSpr m o v mask
  if rws.isEmpty then t
  else t.each (s.targets n o) fun u m => u.setShadow (sprAddr m o) (putFields (fun _ => true) v rws (s.shadowed (sprAddr m o)))

/-! ## Ceilings (R232 to R234, R263) -/

/-- One class of a ceiling write (R234, R263): `none` where it takes effect, or the event that tells why not. An undefined encoding is tested before the guard, where R15 and R234 give no order. DESIGN CHOICE, notes/assumptions/67.md. -/
def State.ceilCheck (s : State) (n c v : Nat) : Option Ev :=
  if !(8 ≤ v && v ≤ 96) then some .cfgRange
  else if s.locked && decide (nth (s.spur n).cal.guards c < v) then some .cfgLocked
  else none

/-- The ceiling classes that a write of SPR_CEIL_LO or SPR_CEIL_HI carries, with their values; in a port region only class 0 (R260). -/
def ceilClasses (n : Nat) (hi : Bool) (v : Word) : List (Nat × Nat) :=
  ((List.range 4).map fun i => ((if hi then 4 else 0) + i, v.bits (8 * i + 6) (8 * i))).filter fun p => p.1 == 0 || !(decide (n < 400) && portKind n != 0)

/-- A word of ceilings with the classes that take effect. -/
def putCeils (ok : Nat → Nat → Bool) (ps : List (Nat × Nat)) (w : Word) : Word :=
  ps.foldl (fun w p => if ok p.1 p.2 then w.put (8 * (p.1 % 4) + 6) (8 * (p.1 % 4)) p.2 else w) w

/-- The ceiling shadows that Summit goes on taking in the mark of a write (R234). -/
def State.noteCeil (s : State) (n : Nat) : State :=
  if (s.spur n).cal.ceilAt = some s.mark then s
  else s.modSpur n fun x => { x with cal := { x.cal with ceilAt := some s.mark, ceilOld := (List.range 8).map (s.ceilShadow n) } }

/-- A write to SPR_CEIL_LO or SPR_CEIL_HI (R234): the fields that may take effect go to the shadow, which Summit takes into account from the next mark. -/
def State.writeCeil (s : State) (n : Nat) (hi : Bool) (v : Word) : State :=
  let o := if hi then 0x94 else 0x90
  let ps := ceilClasses n hi v
  let ok := fun c x => (s.ceilCheck (s.homeSpur n o) c x).isNone
  let t := s.tellFields (sprAddr n o) v (ps.map fun p => s.ceilCheck (s.homeSpur n o) p.1 p.2)
  t.when (ps.any fun p => ok p.1 p.2) fun u =>
    u.each (s.targets n o) fun w m => (w.noteCeil m).setShadow (sprAddr m o) (putCeils ok ps (s.shadowed (sprAddr m o)))

/-- CEILING_WRITE (R234). -/
def execCeilingWrite (n : Fin 425) (hi : Bool) (value : Word) (s : State) : Result :=
  .next (if s.answers (sprAddr n 0x90) then s.writeCeil n hi value else s)

end Sys2Proof.Machine
end

