-- ==== Sys2Proof/Machine/Volts.lean ====
section
/-! DEFINITION. Voltages and requests (R459, R460, R183), and the commit sets of the plan that requests, commits and descriptors read. -/

namespace Sys2Proof.Machine

/-! ## Voltage tables (R459) -/

/-- V(F) on a curve of 12 points, mV (R459). -/
def curveAt (curve : List Nat) (f : Nat) : Nat :=
  let j := min 12 (max 1 (f / 8))
  let a := nth curve (j - 1)
  if j = 12 then a else a + ceilDiv ((nth curve j - a) * (f - 8 * j)) 8

/-- V_f(F): the voltage of field `f` at FCODE `fc`, mV (R459). -/
def State.volt (s : State) (f fc : Nat) : Nat := ((curveAt s.hri.curve fc : Int) + s.hri.offs.getD f 0).toNat

/-! ## Commit sets -/

/-- The set with a sequence number. -/
def Plan.find (p : Plan) (q : Seq) : Option CommitSet := p.sets.find? fun c => c.seq == q

/-- The plan with the set of a sequence number changed. -/
def Plan.modSet (p : Plan) (q : Seq) (g : CommitSet → CommitSet) : Plan :=
  { p with sets := p.sets.map fun c => if c.seq = q then g c else c }

/-- The plan without the set of a sequence number. -/
def Plan.dropSet (p : Plan) (q : Seq) : Plan := { p with sets := p.sets.filter fun c => c.seq != q }

/-- The state with its plan changed. -/
def State.modPlan (s : State) (g : Plan → Plan) : State := { s with plan := g s.plan }

/-- A set holds commit entries and can still act: staged or armed, not applied. -/
def CommitSet.live (c : CommitSet) : Bool := (c.staged || c.armed) && !c.applied

/-- A set that will still be applied, or that waits only for its reports. -/
def CommitSet.final (c : CommitSet) : Bool := c.armed || c.applied

/-! ## Requests (R460) -/

/-- The request of a field: the highest voltage among the step in force and every set staged or armed for its domain (R460). -/
def State.wantVolt (s : State) (f : Nat) : Nat :=
  (s.plan.sets.filter CommitSet.live).foldl (fun v c => max v (max (s.volt f (nth c.volt (c.result.domOf f))) (s.volt f (nth c.volt (s.fab.domOf f)))))
    (s.volt f (s.fab.fcodeOf (s.fab.domOf f)))

/-- A regulator link after its request has been computed anew as `v`, with `cur` the voltage of the step in force, in mark `m` (R183, R460): a rise at once; a fall at once where `now`, else after ridge tick 16 of the mark. Where the step in force has just come down, the request stays at its former voltage until then (R183). -/
def Avs.request (a : Avs) (v cur : Nat) (now : Bool) (m : Mark) : Avs :=
  let hold := if cur < a.inForce then max a.hold a.inForce else a.hold
  let r := if now then max v hold else max a.req (max v hold)
  { a with inForce := cur, hold := hold, req := r, lowerDue := if r = v then none else some (if cur < a.inForce then m else a.lowerDue.getD m) }

/-- The regulator links after every request has been computed anew (R183, R460). -/
def State.requests (s : State) (now : Bool) : State :=
  s.mapCols fun f c =>
    { c with avs := c.avs.request (s.wantVolt f) (s.volt f (s.fab.fcodeOf (s.fab.domOf f))) now s.mark }

/-- A field's voltage for a change is acknowledged, in a report already sent (R44, R179, R462). -/
def State.acked (s : State) (f : Nat) (mv : Nat) : Bool := mv ≤ (s.col f).avs.reported

end Sys2Proof.Machine
end

