-- ==== Sys2Proof/Machine/Generator.lean ====
section
/-! DEFINITION. Region generation (R99 to R136): the loop, the tally, the commit entries, the commit cycle, fences and the field spare. -/

namespace Sys2Proof.Machine

/-! ## Failure of a Spur -/

/-- The state after a Spur has failed (R434): its Col carries the alarm to Summit in its report (R435). -/
def State.spurFails (s : State) (n cause : Nat) (ev : Ev) : State :=
  if (s.spur n).gates.failed then s
  else (s.modSpur n fun x => { x with gates := { x.gates with failed := true, cause := cause, testPassed := false } }).modCol (fieldOf n)
    fun c => { c with alarms := c.alarms ++ [(ev, n)] }

/-! ## The loop -/

/-- The loop after a comparison in ACQUIRE or LOCKED, apart from its code (R103, R104). -/
def Gen.compare (g : Gen) (e : Int) : Gen :=
  let run := if -1 ≤ e ∧ e ≤ 1 then g.lockRun + 1 else 0
  let loss := if 32 < e ∨ e < -32 then g.lossRun + 1 else 0
  match g.loop with
  | .acquire =>
    if 16 ≤ run then { g with loopErr := e, loop := .locked, reacq := false, lockRun := 0, lossRun := 0 }
    else { g with loopErr := e, lockRun := run }
  | .locked =>
    if 4 ≤ loss then { g with loopErr := e, loop := .failed, lossRun := 0 } else { g with loopErr := e, lossRun := loss }
  | _ => g

/-- The ring driven from a code, with the filter's state loaded from it (R119). -/
def Gen.drive (g : Gen) (code : BitVec 16) : Gen := { g with dcoCode := code, integ := code.setWidth 22 <<< 6, fcw := code.setWidth 22 <<< 6 }

/-- The residual measurement of the first 4 comparisons after a commit cycle (R107). -/
def Gen.residual (g : Gen) (ppm : Int) : Gen :=
  if g.residCount < 4 then
    if g.residCount = 3 then { g with residCount := 4, resid := ppm, residHi := decide (100 < ppm ∨ ppm < -100) }
    else { g with residCount := g.residCount + 1 }
  else g

/-- The entry of an FCODE in a code table. -/
def entryOf (codes : List (BitVec 16)) (f : Nat) : BitVec 16 := codes.getD (f - 8) 0

/-- The loop follows its reference: it compares, and its filter moves the code (R103). -/
def Gen.runs (g : Gen) : Bool := g.loop == .acquire || g.loop == .locked

/-- The filter's update after a comparison (R102): proportional-integral, with 6 fractional bits below the fine code, which first-order sigma-delta dither at 25 MHz delivers to the ring, one step per comparison. A loop that has just failed keeps its last code word (R103). -/
def Gen.filter (g : Gen) (bw : Bool) (e : Int) : Gen :=
  if !g.runs then g
  else
    let i := Config.filterInteg bw g.integ e
    let w := Config.filterOut bw i e
    let sum := g.dither.toNat + w.toNat % 64
    { g with integ := i, fcw := w, dither := BitVec.ofNat 6 sum, dcoCode := BitVec.ofNat 16 (w.toNat / 64 + sum / 64) }

/-- A native window runs and its mark lies between two offsets from its first one (R344). -/
def State.calBetween (s : State) (lo hi : Window → Nat) : Bool :=
  s.cal.cur.any fun w => lo w ≤ Mark.dist s.mark w.w && Mark.dist s.mark w.w ≤ hi w

/-- The excursions hold the loops open in marks W + 12 to W + N − 14 (R344, R347). -/
def State.loopOpen (s : State) : Bool := s.calBetween (fun _ => 12) fun w => w.n - 14

/-- In W + 10 and W + 11 a Spur averages its loop's integrator (R347). -/
def Cal.average (c : Cal) (g : Gen) : Cal := { c with sumInteg := c.sumInteg + g.integ.toNat, cntInteg := c.cntInteg + 1 }

/-- The generator with the tally of another (R126). -/
def Gen.copyTally (g o : Gen) : Gen := { g with tallyMark := o.tallyMark, tallyCyc := o.tallyCyc, wrap := o.wrap }

/-- A Spur that begins to track another takes its debt and its tally (R126). -/
def Spur.follow (x o : Spur) : Spur := { x with gen := x.gen.copyTally o.gen, str := { x.str with debt := o.str.debt } }

/-- The Col's record of a tracking that begins in mark `m` (R126, R437). -/
def Spare.begin (c : Spare) (r : Nat) (m : Mark) : Spare := { c with aligned := false, target := r, since := m, run := 0, trail := [] }

/-- The Spur whose commit entries and domain a tested Spur takes over (R424 step 7, R427): the spare that serves its region, or a Spur of the field. -/
def State.entrySource (s : State) : Nat :=
  let u := s.bist.unit
  if s.bist.handover then 400 + fieldOf u else ((fieldRegions (fieldOf u)).find? fun n => (s.spur n).gates.driver == .own).getD (400 + fieldOf u)

/-- The generator with the commit entries, the settings in force and the tally of another (R424, step 7). That the restored Spur has its tally from there where it tracks no Spur: DESIGN CHOICE, notes/assumptions/73.md. -/
def Gen.copyFrom (g o : Gen) : Gen := { g.copyTally o with entries := o.entries, fcode := o.fcode, step := o.step, fmt := o.fmt, ceil := o.ceil }

/-- The loop of a restored Spur acquires on its entry for the FCODE in force (R424, step 6); a loop that is FROZEN stays so (R103). -/
def State.restoreLoop (s : State) : State :=
  let f := (s.spur s.entrySource).gen.fcode
  s.modSpur s.bist.unit fun x => { x with gen := { x.gen.drive (entryOf x.cal.trims.codes f) with
    loop := if x.gen.loop = .frozen then .frozen else .acquire, reacq := true, acqMark := s.mark, lockRun := 0, lossRun := 0, fcode := f } }

/-- A Spur given back to its region: it tracks what drives the trees now (R126, R218, R453). -/
def State.startReturn (s : State) (n : Nat) : State :=
  let f := fieldOf n
  let t := s.modCol f fun c => { c with spare := { c.spare.begin n s.mark with returning := true } }
  match s.clockedBy n with
  | none => t.modCol f fun c => { c with spare := { c.spare with aligned := true } }
  | some d => t.modSpur n fun x => x.follow (s.spur d)

/-- The loop of the restored Spur has reached LOCKED (R424, step 7): the entries are copied, and a Spur that drove its region tracks what drives it now. Where a commit has changed the FCODE in force since the restore, the loop acquires once more. DESIGN CHOICE, notes/assumptions/73.md. -/
def State.testLocked (s : State) (n : Nat) : State :=
  if !s.underTest n || s.bist.phase ≠ 6 || s.bist.locked || (s.spur n).gen.loop != .locked then s
  else
    let src := (s.spur s.entrySource).gen
    if src.fcode ≠ (s.spur n).gen.fcode then s.restoreLoop
    else
      let t := ({ s with bist := { s.bist with locked := true } }).modSpur n fun x => { x with gen := x.gen.copyFrom src }
      if s.bist.handover then t.startReturn n else t

/-- A loop compares at ridge ticks 0, 16, 32 and so on to 240 of every mark (R100), once at each, but for the excursions of a native window, and for a tested Spur's ring, which runs open loop (R413). -/
def State.compares (s : State) (n : Nat) : Bool :=
  !s.loopOpen && !s.scanned n && s.rdg.started && s.tick % 16 == 0 && (s.spur n).gen.cmpAt != some s.rdg.ridge && (s.spur n).gen.runs

/-- LOOP_COMPARE (R100): a comparison finds the phase error `e`, in 1/16 phase, and the frequency error since the last commit cycle, in ppm. -/
def execLoopCompare (n : Fin 425) (e : Int) (ppm : Int) (s : State) : Result :=
  .next (if !s.compares n then s
    else
      let g := (((s.spur n).gen.compare e).residual ppm).filter ((s.word (sprAddr n 0x08)).bit 0) e
      let t := s.modSpur n fun x => { x with
        gen := { g with cmpAt := some s.rdg.ridge }
        cal := if s.calBetween (fun _ => 10) (fun _ => 11) then x.cal.average g else x.cal }
      let t := t.testLocked n
      let t := t.when (g.loop == .failed) fun u => (u.raise .loopUnlock 2 n []).spurFails n 1 .loopUnlock
      t.when ((s.spur n).gen.residCount == 3 && g.residHi) fun u =>
        (u.raise .dcoResidual 2 n []).modSpur n fun x => { x with cal := { x.cal with marked := x.cal.marked ++ [(g.fcode, none)] } })

/-- ACQ_TIMEOUT (R104, R344): 8 marks have passed since a commit cycle, or since the loop was restored in a native window, and the loop is still in the ACQUIRE that it began. The ACQUIRE of a start has the bound of R487. -/
def execAcqTimeout (n : Fin 425) (s : State) : Result :=
  .next (if (s.spur n).gen.loop = .acquire ∧ ((s.spur n).gen.reacq ∨ s.cal.cur.isSome) ∧ 8 ≤ s.since (s.spur n).gen.acqMark then
      ((s.modSpur n fun x => { x with gen := { x.gen with loop := .failed } }).raise .acqTimeout 2 n []).spurFails n 2 .acqTimeout
    else s)

/-! ## Commit entries -/

/-- The entry is in use. -/
def Entry.used (e : Entry) : Bool := e.st != .empty

/-- The FCODE that the raise limit of a stage is checked against: of the STAGED or ARMED entry with the nearest earlier target, or the one in force (R115). -/
def Gen.fcodeBefore (g : Gen) (q : Seq) (target : Mark) : Nat :=
  (g.entries.foldl (fun (p : Option (Nat × Nat)) e =>
    if e.used && !e.applied && e.seq != q && 1 ≤ Mark.dist target e.target && Mark.dist target e.target < 2 ^ 39 then
      match p with
      | none => some (Mark.dist target e.target, e.fcode)
      | some (d, f) => if Mark.dist target e.target < d then some (Mark.dist target e.target, e.fcode) else some (d, f)
    else p) none).elim g.fcode Prod.snd

/-- The entry that a stage command writes (R114). -/
def stageEntry (c : StageCmd) (fenceOp : Nat) : Entry :=
  { st := .staged, applied := false, reported := false, target := c.target, seq := c.seq, group := c.group, fcode := c.fcode, step := c.step, up := c.up,
    fmt := c.fmt, ceil := c.ceil, fenceOp := fenceOp, regs := c.regs }

/-- The list with the first element that satisfies `p` replaced. -/
def replaceFirst {α : Type} (p : α → Bool) (v : α) : List α → List α
  | [] => []
  | a :: as => if p a then v :: as else a :: replaceFirst p v as

/-- A stage command at one Spur: its entries after it, or the event that refuses it (R115). -/
def Gen.stage (g : Gen) (c : StageCmd) (fenceOp : Nat) : Except Ev (List Entry) :=
  let d := Mark.dist c.target g.tallyMark
  if d < 3 ∨ 2 ^ 39 ≤ d then .error .stageLate
  else if c.fcode < 8 ∨ 96 < c.fcode ∨ 9 * g.fcodeBefore c.seq c.target < 8 * c.fcode then .error .slotRange
  else if g.entries.any (fun e => (e.st == .armed && e.seq == c.seq) || (e.used && e.seq != c.seq && e.target == c.target)) then
    .error .slotConflict
  else if g.entries.any (fun e => e.st == .staged && e.seq == c.seq) then
    .ok (replaceFirst (fun e => e.st == .staged && e.seq == c.seq) (stageEntry c fenceOp) g.entries)
  else if g.entries.any (fun e => !e.used) then .ok (replaceFirst (fun e => !e.used) (stageEntry c fenceOp) g.entries)
  else .error .slotFull

/-- The fields of a domain as a set leaves them: of the fabric in force where Summit holds no such set (R172). -/
def State.fieldsFor (s : State) (d : Nat) (q : Seq) : List Nat :=
  match s.plan.find q with
  | none => s.fab.fields d
  | some c => c.result.fields d

/-- A Col acts on the commands of the Summit copy that now sends them: it accepts no other than the one whose beacon it last accepted (R43). -/
def State.heeds (s : State) (f : Nat) : Bool := (s.col f).commander == s.role.active

/-- The Spurs that take the commands of a domain for a set: those of its fields, field spares included, where the Col acts on them (R43, R115), but for a Spur under test (R425). -/
def State.spursOf (s : State) (d : Nat) (q : Seq) : List Nat := (((s.fieldsFor d q).filter s.heeds).flatMap fieldSpurs).filter fun n => !s.testAway n

/-- STAGE at one Spur. -/
def State.stageAt (c : StageCmd) (s : State) (n : Nat) : State :=
  match (s.spur n).gen.stage c (((c.fences.find? fun p => p.1 == n).map Prod.snd).getD 0) with
  | .ok es => s.modSpur n fun x => { x with gen := { x.gen with entries := es } }
  | .error ev => s.raise ev 2 n []

/-- STAGE (R115): the stage command reaches every Spur of a domain. -/
def execStage (d : Fin 8) (c : StageCmd) (s : State) : Result :=
  .next (s.each (s.spursOf d c.seq) (State.stageAt c))

/-- A Spur's answer to an arm: none where it holds no STAGED entry of that number, else whether it accepts (R115). -/
def Gen.armAnswer (g : Gen) (q : Seq) : Option Bool :=
  (g.entries.find? fun e => e.st == .staged && e.seq == q).map fun e => Mark.ahead e.target g.tallyMark

/-- The entries after an accepted arm. -/
def Gen.armed (g : Gen) (q : Seq) : Gen :=
  { g with entries := g.entries.map fun e => if e.st = .staged ∧ e.seq = q then { e with st := .armed } else e }

/-- The field spare of a field neither tracks nor drives a region, nor returns one. -/
def State.spareFree (s : State) (f : Nat) : Bool := !(s.col f).spare.driving && !(s.col f).spare.track && !(s.col f).spare.returning

/-- A field spare can take a region: it drives none, tracks none, is not under test and has not failed (R438). -/
def State.spareIdle (s : State) (f : Nat) : Bool :=
  s.spareFree f && !(s.spur (400 + f)).gates.failed &&
    !(s.testRuns && s.bist.kind == 0 && s.bist.unit == 400 + f)

/-- The Col's record once a tracking has ended or been given up. -/
def Spare.over (c : Spare) : Spare := { c with track := false, returning := false, aligned := false, run := 0, trail := [] }

/-- The field spare set to track a region: it takes the debt and tally of the Spur that clocks it, the lender's for a borrowed one (R126, R218). -/
def State.track (s : State) (f r : Nat) : State :=
  let o := s.spur ((s.clockedBy r).getD r)
  (s.modCol f fun c => { c with spare := { c.spare.begin r s.mark with track := true } }).modSpur (400 + f) fun x => x.follow o

/-- The refusing Spurs of one field on a split arm (R442): the first whose region the idle spare can take is tracked by it, and each is taken off its trees at the target mark. -/
def State.splitField (s : State) (f : Nat) (refusers : List Nat) (target : Mark) : State :=
  let s := s.raise .armLate 1 f []
  let t := match refusers.find? fun n => n < 400 && (s.spur n).gates.driver == .own with
    | some r => if s.spareIdle f && !refusers.contains (400 + f) then s.track f r else s
    | none => s
  t.each refusers fun u n =>
    (u.modSpur n fun x => { x with gates := { x.gates with splitAt := some target } }).spurFails n 4 .armLate

/-- ARM (R115): the arm command reaches every Spur of a domain; where some refuse and others accept, the Cols treat the refusing Spurs as failed (R118, R442). -/
def execArm (d : Fin 8) (q : Seq) (s : State) : Result :=
  let spurs := s.spursOf d q
  let accept := spurs.filter fun n => (s.spur n).gen.armAnswer q == some true
  let refuse := spurs.filter fun n => (s.spur n).gen.armAnswer q == some false
  let t := s.each accept fun u n => u.modSpur n fun x => { x with gen := x.gen.armed q }
  let t := t.each refuse fun u n => u.raise .armLate 2 n []
  let target := ((accept.head?.map fun n => (((s.spur n).gen.entries.find? fun e => e.st == .staged && e.seq == q).map Entry.target).getD 0)).getD 0
  let t := if accept.isEmpty || refuse.isEmpty then t
    else t.each ((List.range 25).filter fun f => refuse.any fun n => fieldOf n == f) fun u f => u.splitField f (refuse.filter fun n => fieldOf n == f) target
  .next t

/-- CANCEL at one Spur (R115). -/
def State.cancelAt (q : Seq) (s : State) (n : Nat) : State :=
  if (s.spur n).gen.entries.any (fun e => e.st == .armed && e.seq == q) then s.raise .cancelRefused 2 n []
  else s.modSpur n fun x =>
    { x with gen := { x.gen with entries := x.gen.entries.map fun e => if e.st = .staged ∧ e.seq = q then Entry.none else e } }

/-- CANCEL (R115): the cancel command reaches every Spur of a domain. -/
def execCancel (d : Fin 8) (q : Seq) (s : State) : Result :=
  .next ((s.each (s.spursOf d q) (State.cancelAt q)).requests true)

/-- Every STAGED entry that satisfies `p` made EMPTY. -/
def Gen.discard (g : Gen) (p : Entry → Bool) : Gen :=
  { g with entries := g.entries.map fun e => if e.st = .staged ∧ p e then Entry.none else e }

/-- Every STAGED entry that satisfies `p` made EMPTY, of every Spur whose field takes the command (R43, R115). -/
def State.discardBy (s : State) (takes : Nat → Bool) (p : Entry → Bool) : State :=
  (s.mapSpurs fun n x => if takes (fieldOf n) then { x with gen := x.gen.discard p } else x).requests true

/-- DISCARD (R115): every STAGED entry of every Spur becomes EMPTY. -/
def State.discardAll (s : State) : State := s.discardBy s.heeds fun _ => true

/-- The discard of a takeover (R57): it follows the new instance's beacon on the lane, so every Col takes it as its commander's (R43). -/
def State.discardNew (s : State) : State := s.discardBy (fun _ => true) fun _ => true

/-- DISCARD (R115). -/
def execDiscard (s : State) : Result := .next s.discardAll

/-- DISCARD_GROUP (R115): every STAGED entry of one conditional group becomes EMPTY. -/
def State.discardOne (s : State) (g : Nat) : State := s.discardBy s.heeds fun e => e.group == g

/-- DISCARD_GROUP (R115). -/
def execDiscardGroup (g : Nat) (s : State) : Result := .next (s.discardOne g)

/-! ## The field spare -/

/-- A Spur that takes over a region's trees from another (R126, R158, R231): debt, tally, lead estimates, the edges since the last short cycle, the workload state, the moved limit sources and the gates of the trees. -/
def Spur.takeFrom (x o : Spur) : Spur :=
  { x with
    gen := x.gen.copyTally o.gen
    str := { x.str with
      debt := o.str.debt, leads := o.str.leads, sinceShort := o.str.sinceShort, cap2 := o.str.cap2, cap2End := o.str.cap2End,
      episode := o.str.episode, satOpen := o.str.satOpen, injLeft := o.str.injLeft, injAmount := o.str.injAmount, injNext := o.str.injNext,
      fdLeft := o.str.fdLeft, fdLevel := o.str.fdLevel, fdQuad := o.str.fdQuad, fdNext := o.str.fdNext }
    wl := o.wl
    lim := { o.lim with cal := x.lim.cal }
    gates := { x.gates with comp := o.gates.comp, tran := o.gates.tran, leaf := o.gates.leaf, v1 := o.gates.v1, faultFence := o.gates.faultFence } }

/-- The Spur whose trees another has taken over: its moved state is cleared. -/
def Spur.given (o : Spur) : Spur :=
  { o with
    wl := Wl.reset, lim := { Limits.none with cal := o.lim.cal }
    str := { o.str with episode := false, satOpen := false, injLeft := 0, injNext := 0, fdLeft := 0, fdNext := 0 } }

/-- SPR_CTRL.FENCE of one Spur carried over to another, so that the fence of a region stays (R124, R126). -/
def State.copyFence (s : State) (src dst : Nat) : State := s.setField (sprAddr dst 0) 0 0 ((s.word (sprAddr src 0)).bits 0 0)

/-- The field spare takes over the trees of region `r` (R126): the domain's limit is taken over another Spur from here on (R176, R556). -/
def State.takeOver (s : State) (f r : Nat) : State :=
  let o := s.spur r
  ((((((s.modSpur (400 + f) fun x => x.takeFrom o).modSpur r fun x => { x.given with gates := { x.gates with driver := .spare } }).copyFence r (400 + f)).modCol f
    fun c => { c with spare := { c.spare.over with driving := true, target := r } }).closeIncident 3 r).baseMoved)

/-- The region's own Spur takes its trees back from the field spare (R126, R453). -/
def State.takeBack (s : State) (f r : Nat) : State :=
  let o := s.spur (400 + f)
  ((((s.modSpur r fun x => { x.takeFrom o with gates := { (x.takeFrom o).gates with driver := .own, cause := 0 } }).modSpur (400 + f) Spur.given).copyFence (400 + f) r).modCol f
    fun c => { c with spare := { c.spare.over with driving := false, target := 0 } }).baseMoved

/-- The compute gate that the fences ask for: SPR_CTRL.FENCE, or a fence set on a fault (R124). -/
def State.compWanted (s : State) (n : Nat) : Bool := (s.word (sprAddr n 0)).bit 0 || (s.spur n).gates.faultFence

/-- A dark region's own Spur takes its trees back (R453): the gates open to what the fences ask, and the Saddles resume at cycle 8. -/
def State.undark (s : State) (r : Nat) : State :=
  let t := s.modSpur r fun x => { x with gates := { x.gates with driver := .own, faultFence := false, cause := 0, tran := x.gates.v1 } }
  (t.modSpur r fun x => x.setComp (t.compWanted r || x.gates.v1)).modCol (fieldOf r) fun c => { c with spare := { c.spare.over with target := 0 } }

/-- SPARE_TRACK (R126): the Col sets the field spare to track a region; where the spare drives that region and its own Spur is fit again, the own Spur tracks the spare. -/
def execSpareTrack (f : Fin 25) (region : Fin 400) (s : State) : Result :=
  .next (if fieldOf region ≠ f then s
    else if (s.col f).spare.driving ∧ (s.col f).spare.target = region then
      (if (s.spur region).gates.failed then s
       else (s.modCol f fun c => { c with spare := { c.spare.begin region s.mark with returning := true } }).modSpur region fun x => x.follow (s.spur (400 + f)))
    else if s.spareIdle f ∧ !s.dark region then s.track f region
    else s)

/-- SPARE_ALIGNED (R126): the two outputs have lain within 1 phase for 16 consecutive cycles. The debts must have; that the rings did too, which no debt shows where one of the loops has failed, is what the command tells. DESIGN CHOICE, notes/assumptions/73.md. -/
def execSpareAligned (f : Fin 25) (s : State) : Result :=
  .next (if ((s.col f).spare.track ∨ (s.col f).spare.returning) ∧ (s.col f).spare.run = 16 then
      s.modCol f fun c => { c with spare := { c.spare with aligned := true } }
    else s)

/-- An armed set falls at the present tally mark of a Spur, so that a handover due there moves to the mark after (R186). -/
def Gen.commitHere (g : Gen) : Bool := g.entries.any fun e => e.st == .armed && e.target == g.tallyMark

/-- The save of a Spur to be tested begins with the next mark (R424, step 3): the latch of its ring is loaded with the entry for F_cap before the first shift (R413). -/
def State.beginScan (s : State) : State :=
  ({ s with bist := { s.bist with phase := 2, since := s.mark + 1 } }).modSpur s.bist.unit fun x => { x with gen := { x.gen with dcoCode := entryOf x.cal.trims.codes s.bist.fcap } }

/-- The spare has taken the roots of a Spur to be tested (R424, step 2). -/
def State.testTaken (s : State) (r : Nat) : State := if s.underTest r ∧ s.bist.phase = 1 then s.beginScan else s

/-- SPARE_HANDOVER (R126, R453): at the first cycle of the first tally mark after ALIGNED, of the Spur that takes the roots, both roots switch; in a native window it waits for the window's end (R365). A borrowed region is BORROW_RELEASE's, and a tested Spur's return BIST_RETURN's. -/
def execSpareHandover (f : Fin 25) (s : State) : Result :=
  let sp := (s.col f).spare
  .next (if !sp.aligned || s.cal.cur.isSome || (sp.returning && s.underTest sp.target) || (s.spur (400 + f)).gen.commitHere then s
    else if !s.atCycle0 (if sp.returning then sp.target else 400 + f) then s
    else if sp.returning then
      (match (s.spur sp.target).gates.driver with
       | .spare => s.takeBack f sp.target
       | .dark => s.undark sp.target
       | _ => s)
    else if sp.track && (s.spur sp.target).gates.driver == .own then
      ((s.takeOver f sp.target).testTaken sp.target).when (s.spur sp.target).gates.failed fun u => u.raise .spareTakeover 1 f (le 2 sp.target)
    else s)

/-- A slip, saturating at ±127 (R216, R437). -/
def slip7 (v : Int) : Int := satInt 127 v

/-- SLIP of a switch from generator `a` to generator `b` (R216 step 3, R437): the whole cycles by which the output of `a` stands ahead of or behind that of `b`, as the tallies count them. -/
def slipOf (a b : Gen) : Int :=
  let v := lag a.pos (cycles a.fcode) b.pos (cycles b.fcode)
  slip7 (if 0 ≤ v then v else v + 1)

/-- The forced handover of R437: both roots switch at the spare's tally mark, whatever the alignment. -/
def State.forceOver (s : State) (f : Nat) : State :=
  let r := (s.col f).spare.target
  let slip := slipOf (s.spur r).gen (s.spur (400 + f)).gen
  (((s.takeOver f r).testTaken r).modCol f fun c => { c with slip := slip }).raise .spareForced 1 f (le 2 r ++ le 1 (twos 8 slip))

/-- SPARE_FORCED (R437): tracking that began in mark s has not reached ALIGNED by the end of mark s + 3: both roots switch at the first cycle of the spare's tally mark s + 4, of the mark after where a set is applied at that one (R186), and after a native window (R365). -/
def execSpareForced (f : Fin 25) (region : Fin 400) (s : State) : Result :=
  let sp := (s.col f).spare
  let g := (s.spur (400 + f)).gen
  .next (if sp.track ∧ sp.target = region ∧ !sp.aligned ∧ !s.cal.cur.isSome ∧ s.atCycle0 (400 + f) ∧ !g.commitHere ∧ notAfter (sp.since + 4) g.tallyMark then s.forceOver f else s)

/-- The Col has reported the failure of Spur `n` (R44, R435). -/
def State.failureTold (s : State) (n : Nat) : Bool :=
  (s.spur n).gates.failed && !(s.col (fieldOf n)).alarms.any fun a => a.2 == n && a.1 != .debtLimit

/-- No spare takes the region of failed Spur `n` over, so that its compute tree is fenced (R436, R438, R440). -/
def State.noSpareFor (s : State) (n r : Nat) : Bool :=
  n == 400 + fieldOf r || !(s.spareIdle (fieldOf r) || ((s.col (fieldOf r)).spare.track && (s.col (fieldOf r)).spare.target == r))

/-- FAULT_FENCE (R124, R438): a region whose driver has failed, and which no spare takes over, has its compute tree fenced without a commit, once the Col has reported the failure: the root gate closes at the first cycle of the driver's tally mark (R53), and in a native window after its end (R365). -/
def execFaultFence (region : Fin 400) (s : State) : Result :=
  let n := s.driverSpur region
  .next (if s.cal.cur.isSome || !s.failureTold n || !s.noSpareFor n region then s
    else s.modSpur n fun x =>
      let y := if s.atCycle0 n then x.setComp true else x
      { y with gates := { y.gates with faultFence := true } })

/-! ## The tally mark -/

/-- One move of a capture phase, in quarter phases, by at most 1 toward its aim inside 6.0 to 10.0 phases (R202). -/
def moveCapture (cap : Nat) (aim : Int) : Nat :=
  let a := (max 24 (min 40 aim)).toNat
  if cap < a then cap + 1 else if a < cap then cap - 1 else cap

/-- A Saddle at the first cycle of a tally mark of its higher region: the capture phase toward it (R202), and the extra delay of that direction (R507). -/
def Saddle.markHigh (x : Saddle) (seam : Bool) (extra : Nat) : Saddle :=
  { x with
    capHi := if seam || x.holdTrack then x.capHi else moveCapture x.capHi (roundDiv (128 - x.rbar) 4)
    toHi := { x.toHi with extra := extra } }

/-- A Saddle at the first cycle of a tally mark of its lower region: capture phase, extra delay, and the per-mark figures of the mark that ended (R202, R220 to R227). -/
def Saddle.markLow (x : Saddle) (seam : Bool) (extra : Nat) : Saddle :=
  { x with
    capLo := if seam || x.holdTrack then x.capLo else moveCapture x.capLo (roundDiv (128 + x.rbar) 4)
    toLo := { x.toLo with extra := extra }
    peak := x.peakNow, peakNow := 0, minInt := x.minNow, minNow := 255, raisedNow := []
    usable := (x.usable || x.enableNext) && !x.disableNext
    held := x.held || x.enableNext
    disableNext := false, enableNext := false }

/-- DELAY of PRT_SADDLY where it acts on one direction of a Saddle (R507). -/
def State.sadExtra (s : State) (k : Nat) (toLower : Bool) : Nat :=
  if s.sadDelayed k && (s.word 0xC0028).bit 29 == toLower then (s.word 0xC0028).bits 4 0 else 0

/-- The Saddles of a region at the first cycle of its tally mark. -/
def State.sadMark (s : State) (r : Nat) : State :=
  s.each (sadsOf r) fun t k =>
    if sadHigh k = r then t.modSad k fun x => x.markHigh (sadSeam k) (s.sadExtra k false)
    else t.modSad k fun x => x.markLow (sadSeam k) (s.sadExtra k true)

/-- The commit entries at the first cycle of tally mark `m`: applied ones leave after the mark after their target, once the Col's report has sent them as applied, STAGED ones at their target expire (R116). -/
def Entry.atMark (m : Mark) (e : Entry) : Entry :=
  if e.applied ∧ e.reported ∧ 2 ≤ (m - e.target).toNat ∧ (m - e.target).toNat < 2 ^ 39 then Entry.none
  else if e.st = .staged ∧ e.target = m then Entry.none else e

/-- The generator at the first cycle of its next tally mark (R110, R116). -/
def Gen.nextMark (g : Gen) (sync : Bool) : Gen :=
  let m := g.tallyMark + 1
  { g with
    tallyMark := m, tallyCyc := 0, wrap := false, tallySync := sync, entries := g.entries.map (Entry.atMark m)
    expired := min 255 (g.expired + (g.entries.filter fun e => e.st == .staged && e.target == m).length) }

/-- Stretching at the first cycle of a tally mark: the figures of the mark that ended, the end of a debt-limit episode, the lift of the cap, and the start of programmed edges; a perturbation whose EN is 0 ends (R153, R154, R161, R165, R497, R507). -/
def Str.nextMark (x : Str) (level : Nat) (inj droop : Bool) : Str :=
  { x with
    peak := x.peakNow, peakNow := x.debt
    episode := x.episode && !(x.peakNow ≤ 8)
    droopMax := x.droopNow, droopNow := level, minSlack := satInt 127 x.slackNow, mon := x.monNow, slackNow := 127, monNow := 0
    cap2 := x.cap2 && !x.cap2End, cap2End := false
    injLeft := if !inj then 0 else if 0 < x.injNext then x.injNext else x.injLeft, injNext := 0
    fdLeft := if !droop then 0 else if 0 < x.fdNext then x.fdNext else x.fdLeft, fdNext := 0 }

/-- The workload state at the first cycle of a tally mark (R249, R253, R262). -/
def Wl.nextMark (x : Wl) (f : Nat) : Wl :=
  { x with act := x.actNow, level := if f = 0 then 0 else min 7 (8 * x.actNow / (48 * f)), actNow := 0, markMis := 0, markMap := 0, markBad := false }

/-- A native window that is fixed or in progress, and its first mark lies at most 8 marks ahead of mark `m`, or has passed and the window still runs (R343). -/
def State.warnAt (s : State) (m : Mark) : Bool :=
  ((s.cal.next.toList ++ s.cal.extras).any fun w => w.fixed && Mark.dist w.w m ≤ 8) || (s.cal.cur.any fun w => (m - w.w).toNat < w.n)

/-- The new grade of a region in force from its tally mark: the latest one delivered that is due (R35, R256). -/
def State.gradeMark (s : State) (r : Nat) (m : Mark) : State :=
  let due := (s.spur r).gates.gradeNext.filter fun p => decide ((m - p.1).toNat < 2 ^ 39)
  match due.getLast? with
  | none => s
  | some p => (s.modSpur r fun x => { x with gates := { x.gates with grade := p.2, gradeNext := x.gates.gradeNext.filter fun q => decide (2 ^ 39 ≤ (m - q.1).toNat) } }).send (.grade r p.2)

/-- The root gates of a Spur at a tally mark of a change of power state: V1 closes both, its end opens them to what the fences ask (R123, R470, R471); those of a dark region stay closed (R440). -/
def State.gateMark (s : State) (n : Nat) (m : Mark) : State :=
  if s.boot.gateAt = some m then
    (if s.boot.req = 0 then s.modSpur n fun x => { x with gates := { x.gates with comp := s.compWanted n || s.dark n, tran := s.dark n, v1 := false } }
     else s.modSpur n fun x => { x.endWindows with gates := { x.gates with comp := true, tran := true, v1 := true } })
  else s

/-- The compute gate of a driver whose region was fenced on a fault closes at its tally mark (R53, R124). -/
def State.fenceMark (s : State) (n : Nat) : State :=
  if (s.spur n).gates.faultFence ∧ !(s.spur n).gates.comp then s.modSpur n fun x => x.setComp true else s

/-- The drivers of a region's neighbours (R153). -/
def State.neighbours (s : State) (r : Nat) : List Nat := ((sadsOf r).map fun k => sadOther k r).filterMap s.clockedBy

/-- The regions that are borrowed and connected, or wait with a failed lender, other than `r`. -/
def State.otherBorrows (s : State) (r : Nat) : List Nat := (List.range 25).filterMap fun f => ((s.col f).borrow.map Borrow.region).filter (· != r)

/-- The stretch cap of 2 phases of a borrowed region's neighbours ends at the first mark after its release (R153), except where another borrowed region asks for it. -/
def State.endCaps (s : State) (r : Nat) : State :=
  s.each ((s.neighbours r).filter fun n => !(s.otherBorrows r).any fun b => (s.neighbours b).contains n) fun t n =>
    t.modSpur n fun x => { x with str := { x.str with cap2End := true } }

/-- A region taken off its driver (R440): both root gates closed, its output cut, its Saddles held, its grade 0. -/
def State.cutRegion (s : State) (r : Nat) : State :=
  let f := fieldOf r
  let t := if (s.spur r).gates.driver = .spare then s.modCol f fun c => { c with spare := { c.spare.over with driving := false } } else if s.borrowed r then s.endCaps r else s
  let t := t.modSpur r fun x => { x.endWindows with gates := { x.gates with comp := true, tran := true, darkDue := false, driver := .dark, grade := 0, gradeNext := [] } }
  let t := (t.each (sadsOf r) fun u k => u.modSad k fun x => { x with held := true, borrow := 0, active := false }).modCol f fun c =>
    { c with borrow := c.borrow.filter fun (b : Borrow) => b.region != r }
  if (s.spur r).gates.grade = 0 then t else t.send (.grade r 0)

/-- A Spur taken off its trees at the target mark of a split arm (R442): by the spare that tracks it, or with its region held dark. -/
def State.splitMark (s : State) (n : Nat) (m : Mark) : State :=
  if (s.spur n).gates.splitAt ≠ some m then s
  else
    let f := fieldOf n
    let t := s.modSpur n fun x => { x with gates := { x.gates with splitAt := none } }
    if (t.col f).spare.track ∧ (t.col f).spare.target = n then
      (if (t.col f).spare.aligned then (t.takeOver f n).raise .spareTakeover 1 f (le 2 n) else t.forceOver f)
    else match t.regionOf n with
      | none => t
      | some r => t.cutRegion r

/-- The regions that a Spur clocks and that go dark at its coming tally mark (R53, R440). -/
def State.darkMark (s : State) (n : Nat) : List Nat :=
  match s.regionOf n with
  | none => []
  | some r => (r :: (s.lentTo r).toList).filter fun v => (s.spur v).gates.darkDue

/-- A Spur inside a native window: leaf gates closed, debt and estimates held, hold class and windows ended (R242, R344). -/
def Spur.openWindow (x : Spur) : Spur :=
  { x.endWindows with
    str := { x.str with frozen := true }, gates := { x.gates with leaf := true }
    cal := { x.cal with results := [], rejected := false, winTemp := none, retry := [], sumInteg := 0, cntInteg := 0, slot := 0 } }

/-- A Spur at the end of a native window (R344, R346): leaf gates open, stretching resumes; with `ask`, it asks for 1 phase at each of its first 9 edges. -/
def Spur.closeWindow (x : Spur) (ask : Bool) : Spur :=
  { x with
    str := { x.str with frozen := false }, gates := { x.gates with leaf := false, calWarn := false }
    wl := if ask then { x.wl with preMask := x.wl.preMask ||| 0x1FF#16, preLeft := 9 } else x.wl
    cal := { x.cal with marked := x.cal.marked ++ x.cal.retry, retry := [], heldCode := none } }

/-- A Spur drives the trees of a compute region (R346). -/
def State.drivesCompute (s : State) (n : Nat) : Bool := (s.regionOf n).any fun r => portKind r == 0

/-- A Spur that began tally mark `m` opens or ends the native window on its own tally (R343, R344). -/
def State.windowMark (s : State) (n : Nat) (m : Mark) : State :=
  if s.cal.cur.any fun w => w.w == m then s.modSpur n Spur.openWindow
  else if (s.spur n).str.frozen && s.cal.cur.isNone && s.cal.prevEnd == some m then s.modSpur n fun x => x.closeWindow (s.drivesCompute n)
  else s

/-- A Spur's tally can begin its next mark (R110, R111): the edge after the last cycle of the present one has come, and the ridge count has reached that mark, which the ring of a running loop never passes. A loop that runs on its last code word drifts (R103, R216). How far a tally stays behind the ridge count is left to the sender of the commands. DESIGN CHOICE, notes/assumptions/74.md. -/
def State.markReady (s : State) (n : Nat) : Bool :=
  let g := (s.spur n).gen
  s.rdg.started && g.wrap && !s.testAway n && (!g.runs || notAfter (g.tallyMark + 1) s.mark)

/-- TALLY_MARK (R110): the edge after the last cycle of a Spur's tally mark begins its next mark, with the updates that fall at a mark. -/
def execTallyMark (n : Fin 425) (s : State) : Result :=
  .next (if !s.markReady n then s
    else
      let x := s.spur n
      let m := x.gen.tallyMark + 1
      let late := (x.gen.entries.filter fun e => e.st == .staged && e.target == m).length
      let t := (s.gateMark n m).fenceMark n
      let t := t.modSpur n fun y =>
        { y with gen := y.gen.nextMark (!y.str.frozen && !y.gates.v1), str := y.str.nextMark (s.droopStands n) ((s.word 0xC0020).bit 31) ((s.word 0xC0024).bit 31), wl := y.wl.nextMark x.gen.fcode }
      let t := t.each (List.range late) fun u _ => u.raise .slotExpired 2 n []
      let t := t.when (0 < x.wl.markMis) fun u =>
        (u.raise .chkMargin 2 n (le 2 (min 65535 x.wl.markMis) ++ le 1 x.wl.markMap)).wlFlag n 0
      let t := t.when (x.str.episode && x.str.peakNow ≤ 8) fun u => (u.modSpur n fun y => { y with lim := { y.lim with debt := none } }).baseMoved
      let t := ((t.each (s.darkMark n) State.cutRegion).splitMark n m).windowMark n m
      match s.regionOf n with
      | none => t.when (s.dark n) fun u => u.sadMark n
      | some r =>
        let t := t.modSpur r fun y => { y with gates := { y.gates with calWarn := s.warnAt m } }
        let t := (t.gradeMark r m).bandMark r
        let t := t.sadMark r
        match s.lentTo r with
        | none => t
        | some b => (t.bandMark b).sadMark b)

/-! ## The commit cycle -/

/-- FENCE_OP at a commit (R124): SPR_CTRL.FENCE and its shadow take the operation's value. -/
def State.applyFenceOp (s : State) (n op : Nat) : State :=
  if op = 1 ∨ op = 2 then (s.setField (sprAddr n 0) 0 0 (if op = 1 then 1 else 0)).dropShadow (sprAddr n 0) else s

/-- The lead estimates restated at a commit cycle (R146): a neighbour of the same domain by the exact rule, one of another domain rounded. -/
def restate (same : Nat → Bool) (d fNew fOld : Nat) (l : Leads) : Leads :=
  if fOld = 0 then l
  else l.map fun dir v =>
    if same dir then -((-((d : Int) + v) * fNew) / (fOld : Int)) - ceilDiv (d * fNew) fOld else roundDiv (v * fNew) fOld

/-- The generator at its commit cycle (R119, R120). -/
def Gen.commit (g : Gen) (e : Entry) (code : BitVec 16) : Gen :=
  let run := g.runs
  { g with
    loop := if run then .acquire else g.loop, reacq := run, acqMark := g.tallyMark, lockRun := 0, lossRun := 0
    dcoCode := if run then code else g.dcoCode, integ := if run then code.setWidth 22 <<< 6 else g.integ
    fcw := if run then code.setWidth 22 <<< 6 else g.fcw, residCount := if run then 0 else g.residCount
    fcode := e.fcode, step := e.step, fmt := e.fmt, ceil := e.ceil
    entries := g.entries.map fun x => if x.st = .armed ∧ x.seq = e.seq ∧ x.target = e.target then { x with applied := true } else x }

/-- The neighbour in a direction lies in the same domain of a map (R146). -/
def Fabric.sameDomain (fb : Fabric) (r dir : Nat) : Bool :=
  match sadToward r dir with
  | none => true
  | some k => fb.domOf (fieldOf (sadOther k r)) == fb.domOf (fieldOf r)

/-- The pending shadows of a domain's ladder and named steps (R191). -/
def State.domShadows (s : State) (d : Nat) : List Nat :=
  ((List.range 9).map fun k => 0x400 + 0x40 * d + 4 * k).filter fun a => (s.shadows.find a).isSome

/-- The domain with its pending ladder shadows (R192, R193). -/
def State.shadowedDom (s : State) (d : Nat) (x : Dom) : Dom :=
  let w := fun k => s.shadows.find (0x400 + 0x40 * d + 4 * k)
  { x with
    ladder := mapFrom (fun i v => match w (i / 2) with | none => v | some u => if i % 2 = 1 then u.bits 22 16 else u.bits 6 0) 0 x.ladder
    safe := match w 8 with | none => x.safe | some u => u.bits 11 8
    nominal := match w 8 with | none => x.nominal | some u => u.bits 3 0 }

/-- A fabric with a domain's pending ladder shadows in force, or none where the result breaks R169 or R171 (R191). -/
def State.withShadows (s : State) (fb : Fabric) (d : Nat) : Option Fabric :=
  let x := s.shadowedDom d (fb.dom d)
  let y := fb.modDom d fun _ => x
  if ladderOk x.ladder x.safe x.nominal && y.safeOk && x.fcode (fb.dom d).step == (fb.dom d).fcode (fb.dom d).step then some y.derive else none

/-- The domains whose ladder a SET_LADDER of a set replaces: type 0x02 in byte 0, domain in byte 16. -/
def State.ladderedBy (s : State) (c : CommitSet) : List Nat :=
  (s.plan.buf.filter fun e => c.members.contains e.idx && field e.bytes 0 1 == 2).map fun e => field e.bytes 16 1

/-- The sets still to be applied after a change of the fabric in force that belongs to none of them, up to the first that satisfies `stop`: what each leaves includes it. -/
def followSets (stop : CommitSet → Bool) (g : Fabric → Fabric) : List CommitSet → List CommitSet
  | [] => []
  | c :: cs => if c.applied then c :: followSets stop g cs else if stop c then c :: cs else { c with result := g c.result } :: followSets stop g cs

/-- A change of the fabric in force that belongs to no commit set (R191, R304, R554): the sets still to be applied, up to the first that satisfies `stop`, leave it as it is. -/
def State.patchFab (s : State) (stop : CommitSet → Bool) (g : Fabric → Fabric) : State :=
  { s with fab := g s.fab, plan := { s.plan with sets := followSets stop g s.plan.sets } }

/-- A fabric with the ladder and named steps of a domain, and its requests derived again (R175). -/
def Fabric.takeLadder (fb : Fabric) (d : Nat) (x : Dom) : Fabric :=
  (fb.modDom d fun z => { z with ladder := x.ladder, safe := x.safe, nominal := x.nominal }).derive

/-- The registers' ladder shadows of one domain at its commit (R171, R191): in force where the result passes the check, else discarded with CFG_RANGE; discarded without an event where a SET_LADDER of the domain takes effect. The ladder stays in force under the sets that follow, up to one that replaces it. -/
def State.applyLadder (laddered : List Nat) (s : State) (d : Nat) : State :=
  match s.domShadows d with
  | [] => s
  | a :: as =>
    let t := s.each (a :: as) State.dropShadow
    if laddered.contains d then t
    else match s.withShadows s.fab d with
      | some fb => t.patchFab (fun c => (s.ladderedBy c).contains d) fun x => x.takeLadder d (fb.dom d)
      | none => t.cfgEvent .cfgRange a ((s.shadows.find a).getD 0)

/-- BIND of every domain in use after a choice (R174, R194). -/
def State.rebind (s : State) : State :=
  { s with role := { s.role with bind := mapFrom (fun d b => if s.fab.inUse d then s.bindOf s.fab d else b) 0 s.role.bind } }

/-- One side of a seam Saddle at its commit cycle of tally mark `m` (R214): where its mode changes, the conversion of R148 toward the other side starts with nothing carried. -/
def Saddle.sideMode (x : Saddle) (md : Nat × Bool) (high : Bool) (m : Mark) : Saddle :=
  if x.modeOf high = md then x
  else
    let y := if high then { x with ratioHi := md.1, fastHighHi := md.2, modeHi := some m } else { x with ratio := md.1, fastHigh := md.2, modeLo := some m }
    y.modLane (!high) fun l => { l with carry := 0 }

/-- The sides of the Saddles of a region at the commit cycle of the Spur that clocks it (R214): each side switches at its own. -/
def State.sideModes (s : State) (fb : Fabric) (r : Nat) (m : Mark) : State :=
  s.each (r :: (s.lentTo r).toList) fun t v => t.each ((sadsOf v).filter sadSeam) fun u k => u.modSad k fun x => x.sideMode (fb.modeOf k) (sadHigh k == v) m

/-- A set put in force, at the first Spur that applies it (R167, R172, R175, R183, R188). The map or the fences may have changed a ceiling or a limit: Summit recomputes the base (R176). -/
def State.applySet (s : State) (c : CommitSet) (laddered : List Nat) : State :=
  let t := { s with fab := c.result, plan := s.plan.modSet c.seq fun x => { x with applied := true, staged := false } }
  let t := t.each t.fab.used (State.applyLadder laddered)
  let t := { t with
    plan := t.plan.modSet c.seq fun x => { x with result := t.fab }
    role := { t.role with lastSeq := mapFrom (fun d q => if t.fab.inUse d then c.seq else q) 0 t.role.lastSeq } }
  (t.rebind.requests false).baseMoved

/-- COMMIT (R53, R120): at the first cycle of its tally mark a Spur applies the ARMED entry whose target it is: the debt and the estimates restated, the loop in ACQUIRE from the table's code, then FMT and CEIL, the RWS shadows, and FENCE_OP (R122). The first Spur of a set to apply it puts the set's domains in force. -/
def execCommit (n : Fin 425) (s : State) : Result :=
  let x := s.spur n
  .next (match if x.gen.commitDue && !s.testAway n then x.gen.entries.find? fun e => e.st == .armed && !e.applied && e.target == x.gen.tallyMark else none with
    | none => s
    | some e =>
      let fb := match s.plan.find e.seq with | none => s.fab | some c => c.result
      let r := (s.regionOf n).getD n
      let d := x.str.debt
      let fOld := x.gen.fcode
      let code := entryOf x.cal.trims.codes e.fcode
      let t := s.modSpur n fun y =>
        { y with
          gen := y.gen.commit e code
          str := { y.str with
            debt := if fOld = 0 then d else ceilDiv (d * e.fcode) fOld
            leads := restate (fb.sameDomain r) d e.fcode fOld y.str.leads
            satOpen := y.str.satOpen && 47 ≤ (if fOld = 0 then d else ceilDiv (d * e.fcode) fOld)
            peakNow := max y.str.peakNow (if fOld = 0 then d else ceilDiv (d * e.fcode) fOld) } }
      let t := if e.regs && !s.windowHeld n then (t.each rwsRegs fun u o => u.applyShadow n o).applyHeld n else t
      let t := t.applyFenceOp n e.fenceOp
      let t := t.modSpur n fun y => y.setComp (t.compWanted n || y.gates.v1 || s.dark n)
      let t := match s.regionOf n with | none => t | some v => t.sideModes fb v x.gen.tallyMark
      match s.plan.find e.seq with
      | none => t
      | some c => if c.applied then t else t.applySet c (s.ladderedBy c))

end Sys2Proof.Machine
end

