-- ==== Sys2Proof/Machine/Stretch.lean ====
section
/-! DEFINITION. Stretching, phase debt, follow and switchback (R137 to R165): the decision at each output edge, droop detectors and notices. -/

namespace Sys2Proof.Machine

/-- What a Spur decides for an edge (R137, R143): the change of its debt, the notice it sends, and what it counts. -/
structure Decision where
  /-- change of the debt -/
  change : Int
  /-- notice code -/
  notice : BitVec 3
  /-- the demand exceeded the stretch cap -/
  capped : Bool
  /-- a demand went unmet at the ceiling -/
  unmet : Bool
  /-- own source the largest demand -/
  own : Bool
  deriving DecidableEq, Repr

/-- decide edge (k + 1) of chapter 05, for a demand, a follow, a cap, a debt and whether repayment is allowed. An edge at which follow and the own demand are equal, which R163 leaves open, counts as one of an own source. DESIGN CHOICE, notes/assumptions/70.md. -/
def decide1 (demand follow cap debt : Nat) (repay : Bool) : Decision :=
  let want := max demand follow
  let cut := min want cap
  let s := if 47 < debt + cut then 47 - debt else cut
  if 0 < s then { change := s, notice := BitVec.ofNat 3 s, capped := cap < want, unmet := 47 < debt + cut, own := follow ≤ demand }
  else if want = 0 ∧ repay then { change := -1, notice := 4, capped := false, unmet := false, own := true }
  else { change := 0, notice := 0, capped := cap < want, unmet := 0 < want ∧ 47 < debt + cut, own := follow ≤ demand }

/-- repay_allowed() of chapter 05, with the count of edges since the last short cycle as it stands at this edge. -/
def State.repayAllowed (s : State) (n r : Nat) : Bool :=
  let x := (s.spur n).str
  1 ≤ x.debt && s.droopLevel n == 0 && 7 ≤ x.droopAge &&
    decide (max 12 (s.monTh n + 4 : Int) ≤ (lowSlack x.slacks (s.monitors n)).1) && s.leadsLow r x.leads && (s.spur n).wl.chkLeft == 0 &&
    7 ≤ x.sinceShort

/-- The lender's estimate toward the region it lends to, moved by one code toward M, the largest relay estimate (R217). -/
def moveToward (m l : Int) : Int := if l < m then l + min 3 (m - l) else if m < l then l - 1 else l

/-- The relay estimate that a Saddle of a borrowed region keeps of its outer neighbour: in the lane whose receiver is the borrowed region (R217). -/
def Saddle.relayOf (x : Saddle) (k b : Nat) : Int := if sadHigh k = b then x.toHi.relay else x.toLo.relay

/-- A Saddle with that relay estimate changed. -/
def Saddle.modRelay (x : Saddle) (k b : Nat) (f : Int → Int) : Saddle :=
  if sadHigh k = b then { x with toHi := { x.toHi with relay := f x.toHi.relay } } else { x with toLo := { x.toLo with relay := f x.toLo.relay } }

/-- The Saddles of a borrowed region toward its outer neighbours, the lender left out (R217). -/
def outerSads (b lender : Nat) : List Nat := (sadsOf b).filter fun k => sadOther k b != lender

/-- M of R217: the largest relay estimate of the outer Saddles of a borrowed region. -/
def State.relayMax (s : State) (b lender : Nat) : Int :=
  match (outerSads b lender).filter fun k => (s.sad k).usable with
  | [] => 0
  | k :: ks => ks.foldl (fun m j => max m ((s.sad j).relayOf j b)) ((s.sad k).relayOf k b)

/-- The direction from one region to a neighbouring one. -/
def dirTo (r b : Nat) : Nat := ((List.range 4).find? fun d => (sadToward r d).any fun k => sadOther k r == b).getD 0

/-- The state after the lender's estimate toward its borrowed region has taken one code (R217). -/
def State.relayStep (s : State) (n r : Nat) : State :=
  match s.lentTo r with
  | none => s
  | some b => s.modSpur n fun x => { x with str := { x.str with leads := x.str.leads.mod (dirTo r b) (moveToward (s.relayMax b r)) } }

/-- The relay estimates after a change of the lender's debt (R217). -/
def State.relayOwn (s : State) (r : Nat) (change : Int) : State :=
  match s.lentTo r with
  | none => s
  | some b => s.each (outerSads b r) fun t k => t.modSad k fun x => x.modRelay k b fun v => v - change

/-- PRT_INJ.EN or PRT_DROOP.EN returns to 0 once no Spur has an edge left to apply (R511). -/
def State.endPerturb (s : State) : State :=
  let inj := s.spurs.toList.any fun x => 0 < x.str.injLeft || 0 < x.str.injNext
  let fd := s.spurs.toList.any fun x => 0 < x.str.fdLeft || 0 < x.str.fdNext
  let t := s.when ((s.word 0xC0020).bit 31 && (s.word 0xC0020).bits 11 0 == 0 && !inj) fun u => u.setField 0xC0020 31 31 0
  t.when ((s.word 0xC0024).bit 31 && !fd) fun u => u.setField 0xC0024 31 31 0

/-! ## Notices on their way (R143 to R148) -/

/-- A Saddle carries notices between two regions (R145, R211, R216): usable, not held, neither side dark, and not the borrow path itself, whose codes the relay makes (R217). -/
def State.notices (s : State) (k : Nat) : Bool :=
  (s.sad k).usable && !(s.sad k).held && !s.dark (sadLow k) && !s.dark (sadHigh k) &&
    s.lentTo (sadLow k) != some (sadHigh k) && s.lentTo (sadHigh k) != some (sadLow k)

/-- The notice latency of a Saddle, in cycles of the slower side (R144): 2 across a seam and beside a borrowed region (R153, R217), else 1. -/
def State.latency (s : State) (k : Nat) : Nat := if sadSeam k || s.borrowed (sadLow k) || s.borrowed (sadHigh k) then 2 else 1

/-- The notice that a Spur at the edge beginning its present cycle puts on the wires of a Saddle toward region `o`, from the side `high`: how many edges the receiver has yet to make before it counts (R144). -/
def State.noticeFor (s : State) (k : Nat) (high : Bool) (sender receiver : Gen) (code : BitVec 3) : Notice :=
  let x := s.sad k
  let q := x.ratioOf high
  let fast := x.fastOf high
  let c := sender.pos.2
  let an := cycles sender.fcode
  let up := if q ≠ 1 ∧ !fast then q else 1
  let a := if fast then (sender.pos.1, c / q) else (sender.pos.1, c * up)
  let ahead := lag a (if fast then an / q else an * up) receiver.pos (cycles receiver.fcode)
  { code := code, ratio := q, toFaster := q != 1 && !fast, last := !fast || c % q + 1 == q, atRef := c == x.refCyc high
    wait := (ahead + (s.latency k * up : Nat) - 1).toNat }

/-- The regions on whose Saddles a Spur's notices stand: its region, and the one that it lends to, whose outer Saddles relay them (R217). -/
def State.voices (s : State) (r : Nat) : List Nat := r :: (s.lentTo r).toList

/-- A Spur's notice goes out on the wires of every Saddle of region `v` (R143). Where a Saddle carries none, what was on its way is lost. -/
def State.sayAt (s : State) (n : Nat) (code : BitVec 3) (v : Nat) : State :=
  s.each (sadsOf v) fun t k =>
    match t.clockedBy (sadOther k v) with
    | none => t
    | some m =>
      if !t.notices k then t.modSad k fun x => x.modLane (sadLow k == v) fun l => { l with flight := [], got := 0 }
      else
        let note := t.noticeFor k (sadHigh k == v) (t.spur n).gen (t.spur m).gen code
        t.modSad k fun x => x.modLane (sadLow k == v) fun l => { l with flight := l.flight ++ [note] }

/-- The lanes toward region `v` after an edge of the Spur that clocks it changed its debt: each notice on its way is one edge nearer, and the change counts against the next resynchronisation (R144, R147). -/
def State.hearAt (s : State) (g : Gen) (change : Int) (v : Nat) : State :=
  s.each (sadsOf v) fun t k =>
    t.modSad k fun x => x.modLane (sadHigh k == v) fun l =>
      { l with
        flight := l.flight.map fun w => { w with wait := w.wait - 1 }
        own := if g.pos.2 = x.refCyc (sadHigh k == v) then 0 else l.own + change }

/-- What an edge of Spur `n`, which drives region `r`, does on the notice wires: the code out, the incoming notices one edge nearer (R143, R144). -/
def State.wires (s : State) (n r : Nat) (change : Int) : State :=
  let x := s.spur n
  (s.each (s.voices r) fun t v => t.hearAt x.gen change v).each (s.voices r) fun t v => t.sayAt n x.str.notice v

/-- A notice that counts for the next decision of the Spur that drives region `r` has not been delivered yet (R144). -/
def State.noticeDue (s : State) (r : Nat) : Bool :=
  (s.voices r).any fun v => (sadsOf v).any fun k => s.notices k && (((s.sad k).lane (sadHigh k == v)).flight.head?.any fun w => w.wait == 0)

/-! ## Edges -/

/-- What a Spur's sensors show over the cycle that an edge ends, and the edges since a detector stood above level 0 and since the last short cycle (R142, R150, R165). -/
def Str.sense (x : Str) (level : Nat) (slacks : List Int) (low : Int × Nat) (isShort : Bool) : Str :=
  { x with
    droopAge := if 0 < level then 0 else min 8 (x.droopAge + 1)
    droopSeen := [0, 0, 0, 0]
    sinceShort := if isShort then 0 else min 8 (x.sinceShort + 1)
    slacks := slacks
    droopNow := max x.droopNow level
    slackNow := if low.1 < x.slackNow then low.1 else x.slackNow
    monNow := if low.1 < x.slackNow then low.2 else x.monNow }

/-- The Spur after an edge with a decision (R137, R145, R163, R240, R248, R253). -/
def Spur.afterEdge (x : Spur) (d : Decision) (level : Nat) (slacks : List Int) (low : Int × Nat) : Spur :=
  let debt := (x.str.debt + d.change).toNat
  let mask := x.wl.preMask >>> 1
  let y := x.str.sense level slacks low (d.notice == 4)
  { x with
    gen := x.gen.tallyEdge
    str := { y with
      debt := debt
      leads := x.str.leads.map fun _ v => v - d.change
      notice := d.notice
      peakNow := max x.str.peakNow debt
      satOpen := (x.str.satOpen || d.unmet) && 47 ≤ debt
      episode := x.str.episode || 32 ≤ debt
      followed := if 0 < d.change ∧ !d.own then x.str.followed + 1 else x.str.followed
      stretched := if 0 < d.change ∧ d.own then x.str.stretched + 1 else x.str.stretched
      capped := if d.capped then x.str.capped + 1 else x.str.capped
      short := if d.notice = 4 then x.str.short + 1 else x.str.short
      injLeft := x.str.injLeft - 1
      fdLeft := x.str.fdLeft - 1 }
    wl := { x.wl with
      preMask := mask
      preLeft := min x.wl.preLeft (flagsNat [mask != 0] * ((List.range 16).filter fun i => mask.getLsbD i).length)
      chkLeft := x.wl.chkLeft - 1
      heard := false
      holdLeft := x.wl.holdLeft - 1
      actNow := x.wl.actNow + x.wl.hold } }

/-- An edge of a Spur that drives a region, in normal running (R137 to R155). -/
def State.edgeRun (s0 : State) (n r : Nat) (slacks : List Int) : State :=
  let s := s0.relayStep n r
  let x := s.spur n
  let d := decide1 (s.demand n) (s.follow r x.str.leads).toNat (if x.str.cap2 then 2 else 3) x.str.debt (s.repayAllowed n r)
  let t := ((s.modSpur n fun y => y.afterEdge d (s.droopLevel n) slacks (lowSlack slacks (s.monitors n))).relayOwn r d.change).wires n r d.change
  let dom := s.fab.dom (s.fab.domOf (fieldOf r))
  let limit : Bool := 32 ≤ (t.spur n).str.debt && !x.str.episode
  let t := t.when d.capped fun u => u.strFlag n 4
  let t := t.when d.unmet fun u => u.strFlag n 1
  let t := t.when (d.unmet && !x.str.satOpen) fun u => u.raise .debtSaturated 2 n []
  let t := t.when limit fun u =>
    ((u.strFlag n 0).raiseAs .debtLimit (if dom.step ≤ dom.safe then .degraded else .corrected) 2 n []).modCol (fieldOf n) fun c =>
      { c with alarms := c.alarms ++ [(.debtLimit, n)] }
  (t.sampleFrame n).when (x.str.injLeft == 1 || x.str.fdLeft == 1) State.endPerturb

/-- A Spur in V1 repays a phase at an edge: 1 phase per 8 cycles until the debt is 0, with no slack or neighbour condition (R157). -/
def Str.repaysV1 (x : Str) : Bool := 1 ≤ x.debt && 7 ≤ x.sinceShort

/-- An edge of a Spur in V1: switchback by 1 phase per 8 cycles until the debt is 0, with code 5; with the debt at 0 every lead estimate is 0 (R157). -/
def Spur.edgeV1 (x : Spur) (level : Nat) (slacks : List Int) (low : Int × Nat) : Spur :=
  let repay := x.str.repaysV1
  let debt := if repay then x.str.debt - 1 else x.str.debt
  let y := x.str.sense level slacks low repay
  { x with
    gen := x.gen.tallyEdge
    str := { y with
      debt := debt
      leads := if x.str.debt = 0 then ⟨0, 0, 0, 0⟩ else if repay then x.str.leads.map fun _ v => v + 1 else x.str.leads
      notice := 5
      satOpen := x.str.satOpen && 47 ≤ debt
      short := if repay then x.str.short + 1 else x.str.short } }

/-- An edge of a Spur whose debt is frozen by a native calibration window (R157): its detectors are being nulled, so none stands above level 0. -/
def Spur.edgeFrozen (x : Spur) (slacks : List Int) (low : Int × Nat) : Spur :=
  { x with gen := x.gen.tallyEdge, str := { x.str.sense 0 slacks low false with notice := 5 } }

/-- The debt of the Spur whose output a Spur tracks, and the Col that keeps the alignment (R126, R218): a field spare tracks the Spur that clocks its target, a region's own Spur what clocks its region. -/
def State.tracked (s : State) (n : Nat) : Option Nat :=
  let c := s.col (fieldOf n)
  if n = 400 + fieldOf n then (if c.spare.track ∧ !c.spare.driving then s.clockedBy c.spare.target else none)
  else if c.spare.returning ∧ c.spare.target = n then s.clockedBy n else none

/-- The tracking after one more cycle of the tracking Spur (R126): the debt it takes is that of 2 cycles before, and the cycles in which the two debts lay within 1 phase count toward ALIGNED. -/
def Spare.follows (c : Spare) (own theirs : Nat) : Spare :=
  let near : Bool := own ≤ theirs + 1 && theirs ≤ own + 1
  { c with run := if near then min 16 (c.run + 1) else 0, trail := [theirs, c.trail.getD 0 theirs] }

/-- An edge of a Spur that drives no tree: no demand and no notice (R125, R157); while it tracks, its debt is that of the Spur whose output it tracks, 2 cycles later (R126, R218). -/
def State.edgeIdle (s : State) (n : Nat) (slacks : List Int) : State :=
  let low := lowSlack slacks (s.monitors n)
  let idle : Spur → Spur := fun x => { x with gen := x.gen.tallyEdge, str := { x.str.sense (s.droopLevel n) slacks low false with notice := 0 } }
  match s.tracked n with
  | none => s.modSpur n idle
  | some m =>
    let theirs := (s.spur m).str.debt
    let c := (s.col (fieldOf n)).spare
    (s.modSpur n fun x => { idle x with str := { (idle x).str with debt := c.trail.getD 1 theirs } }).modCol (fieldOf n) fun y =>
      { y with spare := y.spare.follows (c.trail.getD 1 theirs) theirs }

/-- The ring of a Spur can make its next edge: marks run, the tally has taken the last one, a commit due at this cycle is made, a hold timer that ran out at the last edge has ended its class, and every notice that counts for the decision has been delivered (R110, R120, R144, R239); and it is not under test (R413). -/
def State.edgeReady (s : State) (n : Nat) : Bool :=
  s.rdg.started && !s.testAway n && !(s.spur n).gen.wrap && !(s.spur n).gen.commitDue && !((s.spur n).wl.hold != 0 && (s.spur n).wl.holdLeft == 0) && !(s.regionOf n).any s.noticeDue

/-- SPUR_EDGE (R137): one output edge of a Spur, with the slack of each monitor over the cycle that ends at it. -/
def execSpurEdge (n : Fin 425) (slacks : List Int) (s : State) : Result :=
  let low := lowSlack slacks (s.monitors n)
  .next (if !s.edgeReady n then s
    else match s.regionOf n with
    | none => s.edgeIdle n slacks
    | some r =>
      if (s.spur n).str.frozen then (s.modSpur n fun x => x.edgeFrozen slacks low).wires n r 0
      else if (s.spur n).gates.v1 then
        let change : Int := if (s.spur n).str.repaysV1 then -1 else 0
        ((s.modSpur n fun x => x.edgeV1 (s.droopLevel n) slacks low).relayOwn r change).wires n r change
      else s.edgeRun n r slacks)

/-- DROOP_CROSSING (R139, R140): a detector reports that the rail under it has come to `rail` µV; its level counts from the next edge on. A disabled detector stands at level 0 (R159), and in a native window the detectors are being nulled (R157). -/
def execDroopCrossing (n : Fin 425) (q : Fin 4) (rail : Nat) (s : State) : Result :=
  let w := s.word (sprAddr n 0x60)
  let x := (s.spur n).str
  let level := droopAfter (s.col (fieldOf n)).avs.inForce (fun k => w.bits (8 * k - 1) (8 * k - 8)) (nth x.droop q) rail
  let seen := if x.frozen ∨ !s.detOn n q then 0 else level
  .next (s.modSpur n fun y => { y with str := { y.str with
    droop := setNth y.str.droop q level
    droopSeen := setNth y.str.droopSeen q (max (nth y.str.droopSeen q) seen)
    droopAge := if 0 < seen then 0 else y.str.droopAge
    droopNow := max y.str.droopNow seen } })

/-- The amount a notice code stands for, in the sender's phases (R143, R145). -/
def noticeAmount (c : Nat) : Int := if c = 4 then -1 else if 1 ≤ c ∧ c ≤ 3 then (c : Int) else 0

/-- What a Saddle in ratio mode delivers for a notice of an amount, and what it carries on (R148): toward the faster side each amount times the ratio; toward the slower side the whole slower phases in the sum, at most 3, with the last code of each slower cycle. A negative sum is rounded toward 0 and its negative remainder carried, where R148 says no more than "whole". DESIGN CHOICE, notes/assumptions/71.md. -/
def Notice.convert (w : Notice) (a carry : Int) : Int × Int :=
  if w.ratio ≤ 1 then (a, carry)
  else if w.toFaster then (a * w.ratio, carry)
  else if !w.last then (0, carry + a)
  else
    let whole := min 3 (Int.tdiv (carry + a) w.ratio)
    (whole, carry + a - whole * w.ratio)

/-- A notice delivered through a Saddle toward its higher or lower region (R143 to R148, R217), with the bits of it that a fault on the wires has inverted. -/
def State.notice (s : State) (k : Nat) (toHigher : Bool) (w : Notice) (flip : BitVec 3) : State :=
  let recv := if toHigher then sadHigh k else sadLow k
  let send := if toHigher then sadLow k else sadHigh k
  let code := (w.code ^^^ flip).toNat
  let t := s.when (6 ≤ code) fun u =>
    ((u.sadEvent k .noticeBad []).strFlag (s.driverSpur recv) 3).strFlag (s.driverSpur send) 3
  let p := w.convert (noticeAmount code) ((s.sad k).lane toHigher).carry
  let t := t.modSad k fun y => y.modLane toHigher fun l =>
    { l with flight := l.flight.tail, carry := p.2, got := if w.atRef then 0 else l.got + p.1 }
  match (s.spur recv).gates.driver with
  | .borrow _ => t.modSad k fun y => y.modRelay k recv fun v => v + p.1
  | _ => t.modSpur (s.driverSpur recv) fun y => { y with str := { y.str with leads := y.str.leads.mod (sadDir k recv) fun v => v + p.1 } }

/-- NOTICE_DELIVERY (R144, R145): the oldest notice on its way through a Saddle in one direction is delivered, once the receiver has made the edges of the latency. `flip` tells the bits that a fault on the notice wires has inverted, none in a sound block: the code is the one that the sender sent. -/
def execNoticeDelivery (k : Fin 760) (toHigher : Bool) (flip : BitVec 3) (s : State) : Result :=
  .next (match ((s.sad k).lane toHigher).flight with
    | [] => s
    | w :: _ => if w.wait ≠ 0 then s else if s.notices k then s.notice k toHigher w flip else s.modSad k fun y => y.modLane toHigher fun l => { l with flight := [], got := 0 })

end Sys2Proof.Machine
end

