-- ==== Sys2Proof/Machine/Saddles.lean ====
section
/-! DEFINITION. Saddles (R197 to R230): bulk words, the edge timer with the skew tracker and the resynchronisation, and SAD_CTRL.DISABLE. -/

namespace Sys2Proof.Machine

/-! ## Bulk words -/

/-- A region's trees are clocked (R52): not dark, and its transit gate open. -/
def State.clocked (s : State) (r : Nat) : Bool :=
  match s.clockedBy r with
  | none => false
  | some n => !(s.spur n).gates.tran

/-- A region waits for its borrow to connect (R216). -/
def State.awaits (s : State) (r : Nat) : Bool := (s.col (fieldOf r)).borrow.any fun b => b.region == r && !b.connected

/-- A Saddle carries its bulk lanes (R211): usable, not held, both regions clocked. -/
def State.carries (s : State) (k : Nat) : Bool :=
  (s.sad k).usable && !(s.sad k).held && s.clocked (sadLow k) && s.clocked (sadHigh k)

/-- Cycle `c` of one side of a Saddle in cycles of the slower side (R147, R212). -/
def Saddle.slowCyc (x : Saddle) (high : Bool) (c : Nat) : Nat := if x.fastOf high then c / x.ratioOf high else c

/-- A word launched in the last 2 cycles of one side before a commit that changes its mode (R214): the commit is still to come, the word launched in the slower side's cycle `j`; or the side has switched at its present tally mark, and the sender launched the word before it, at a cycle `c` later in the mark than the sender is now. -/
def State.modeEdge (s : State) (k : Nat) (high : Bool) (sender : Gen) (c j : Nat) : Bool :=
  let x := s.sad k
  match s.clockedBy (if high then sadHigh k else sadLow k) with
  | none => false
  | some n =>
    let g := (s.spur n).gen
    let at1 := if x.fastOf high then j * x.ratioOf high else j
    (decide (cycles g.fcode ≤ at1 + 2) && g.entries.any fun e => e.st == .armed && !e.applied && e.target == g.tallyMark + 1 &&
      (s.plan.find e.seq).any fun q => q.result.modeOf k != x.modeOf high) ||
    ((if high then x.modeHi else x.modeLo) == some g.tallyMark && decide (sender.tallyCyc < c))

/-- A word that is not delivered in ratio mode (R213, R214). -/
def State.ratioDrop (s : State) (k : Nat) (toHigher : Bool) : State :=
  ((s.modSad k fun x => { x.modLane toHigher (fun l => { l with out := none }) with dropped := x.dropped + 1 }).sadEvent k .ratioDrop []).sadFlag k 4

/-- A word presented invalid after a tag mismatch (R210, R219). -/
def State.tagFail (s : State) (k : Nat) (toHigher : Bool) (ev : Ev) (flag : Nat) : State :=
  (s.modSad k fun x => { x.modLane toHigher (fun l => { l with out := none }) with tagErr := x.tagErr + 1 }).sadError k ev flag

/-- The factor from the phases of a measurement, slower phases at a ratio seam (R204), to a side's own phases (R147). -/
def Saddle.factor (x : Saddle) (high : Bool) : Nat := if x.fastOf high then x.ratioOf high else 1

/-- The edge difference of a direction (R200), receiver later counting positive, in 1/16 of a slower phase, with the extra delay of the perturbation unit (R507): the debts of the two Spurs and the residual skew. -/
def State.edgeDiff (s : State) (k : Nat) (toHigher : Bool) : Int :=
  let x := s.sad k
  let debt : Bool → Int := fun high =>
    match s.clockedBy (if high then sadHigh k else sadLow k) with
    | none => 0
    | some n => 16 * ((s.spur n).str.debt : Int) / (x.factor high : Int)
  let d := debt true - debt false + x.rbar
  (if toHigher then d else -d) + 4 * (x.lane toHigher).extra

/-- Capture on an inner Saddle (R201, R203, R219): the retiming register samples the word, with bit 0 of its launch cycle as tag, at the capture phase after the receiver's edge, and the receiver at its cycle `rc` expects bit 0 of `rc - 1`. A sampling point outside 1.5 to 14.5 phases after the sender's edge, of which the spec says no more than that the capture is then not correct, meets the word before or after, whose tag differs. DESIGN CHOICE, notes/assumptions/75.md. -/
def State.captureInner (s : State) (k : Nat) (toHigher : Bool) (c rc : Nat) (data : Word) : State :=
  let point : Int := 4 * (if toHigher then (s.sad k).capHi else (s.sad k).capLo) + s.edgeDiff k toHigher
  let t := s.modSad k fun x => x.modLane toHigher fun l => { l with entries := setNth l.entries 0 (c % 2, data) }
  if c % 2 = (rc + 1) % 2 ∧ 24 ≤ point ∧ point ≤ 232 then t.modSad k fun x => x.modLane toHigher fun l => { l with out := some data }
  else t.tagFail k toHigher .windowExceeded 2

/-- The elastic stage (R208 to R210): the word goes to the entry of bit 0 of its launch cycle with bits [1:0] as tag; the receiver at its cycle `rc` reads the entry of bit 0 of `rc - 2` and expects bits [1:0] of `rc - 2`. An interval from write to read or from read to the next write below 1 phase meets another word of the entry. -/
def State.captureSeam (s : State) (k : Nat) (toHigher : Bool) (c rc : Nat) (data : Word) : State :=
  let d := s.edgeDiff k toHigher
  let t := s.modSad k fun x => x.modLane toHigher fun l => { l with entries := setNth l.entries (c % 2) (c % 4, data) }
  let e := ((t.sad k).lane toHigher).entries.getD (rc % 2) (0, 0)
  if e.1 = (rc + 2) % 4 ∧ -240 ≤ d ∧ d ≤ 240 then t.modSad k fun x => x.modLane toHigher fun l => { l with out := some e.2 }
  else t.tagFail k toHigher .elasticSlip 3

/-- A word across a seam in ratio mode: indexed by the slower side's cycles, delivered to the faster side only at its coincident edges (R212, R213). -/
def State.captureRatio (s : State) (k : Nat) (toHigher : Bool) (c rc : Nat) (data : Word) : State :=
  let x := s.sad k
  let q := x.ratioOf toHigher
  if x.fastOf toHigher then
    (if rc % q = 0 then s.captureSeam k toHigher c (rc / q) data
     else s.modSad k fun y => y.modLane toHigher fun l => { l with entries := setNth l.entries (c % 2) (c % 4, data), out := none })
  else if c % q = 0 then s.captureSeam k toHigher (c / q) rc data
  else s.ratioDrop k toHigher

/-- BULK_WORD (R197): the word that a region launches at its tally cycle `c`, as the other region's router takes it at its tally cycle `rc`. While the two sides of a seam work in different modes, around a commit, no word is delivered (R214). -/
def execBulkWord (k : Fin 760) (toHigher : Bool) (c rc : Nat) (data : Word) (s : State) : Result :=
  let x := s.sad k
  let sender := (s.spur ((s.clockedBy (if toHigher then sadLow k else sadHigh k)).getD 0)).gen
  let j := x.slowCyc (!toHigher) c
  .next (if !s.carries k then s.modSad k fun x => x.modLane toHigher fun l => { l with out := none }
    else if sadSeam k = false then s.captureInner k toHigher c rc data
    else if x.modeOf true != x.modeOf false || s.modeEdge k true sender c j || s.modeEdge k false sender c j then s.ratioDrop k toHigher
    else if x.ratio = 1 then s.captureSeam k toHigher c rc data
    else s.captureRatio k toHigher c rc data)

/-! ## Measurement -/

/-- The measurement that the positions of the two sides make due (R204): its tally mark, and its number in it, 0 at cycle 8 of the slower side, 1 at cycle 24 and so on, once both sides have begun that cycle. -/
def State.measureDue (s : State) (k : Nat) : Option (Mark × Nat) :=
  let x := s.sad k
  match s.clockedBy (sadLow k), s.clockedBy (sadHigh k) with
  | some a, some b =>
    let p := (s.spur a).gen.pos
    let q := (s.spur b).gen.pos
    let i := x.slowCyc false p.2
    let j := x.slowCyc true q.2
    let w := if p.1 = q.1 then (p.1, min i j) else if Mark.ahead p.1 q.1 then (q.1, j) else (p.1, i)
    if w.2 < 8 ∨ x.meas = some (w.1, (w.2 - 8) / 16) then none else some (w.1, (w.2 - 8) / 16)
  | _, _ => none

/-- What the notices and the receiver's own edges after the measured cycle have changed its estimate by, less what the notices sent up to that cycle will still bring (R147), in the receiver's phases. -/
def Lane.since8 (l : Lane) : Int :=
  if l.flight.any Notice.atRef then
    let upTo := l.flight.take (((l.flight.findIdx? Notice.atRef).getD 0) + 1)
    let ahead := (upTo.foldl (fun (p : Int × Int) w => let c := w.convert (noticeAmount w.code.toNat) p.2; (p.1 + c.1, c.2)) (0, l.carry)).1
    0 - ahead - l.own
  else l.got - l.own

/-- The tracker after a resynchronisation with the part `e` of the measurement that neither debt nor the residual skew explains, 1/16 phase (R205). The remainder of a sixteenth is kept. -/
def Saddle.trackSkew (x : Saddle) (e : Int) : Saddle :=
  if x.holdTrack || 16 < e || e < -16 then x
  else
    let v := 16 * x.rbar + x.rfrac + e
    { x with rbar := v / 16, rfrac := v % 16 }

/-- The resynchronised estimate of the Spur that drives region `r`: the value `v8` that the measurement gives for cycle 8, adjusted for the notices and own edges after it; and whether it moved by more than 1 phase (R147). -/
def State.resync (s : State) (k r : Nat) (v8 : Int) : State × Bool :=
  let v := v8 + ((s.sad k).lane (sadHigh k == r)).since8
  match (s.spur r).gates.driver with
  | .dark => (s, false)
  | .borrow l => if sadOther k r = l then (s, false) else (s.modSad k fun x => x.modRelay k r fun _ => v, false)
  | _ =>
    let n := s.driverSpur r
    let w := if s.lentTo r = some (sadOther k r) then s.relayMax (sadOther k r) r else v
    let old := (s.spur n).str.leads.get (sadDir k r)
    (s.modSpur n fun x => { x with str := { x.str with leads := x.str.leads.mod (sadDir k r) fun _ => w } }, decide (1 < w - old ∨ w - old < -1))

/-- The lender's estimate after an outer Saddle of its borrowed region has been resynchronised (R217). -/
def State.resyncLender (s : State) (b : Nat) : State :=
  match (s.spur b).gates.driver with
  | .borrow l => s.modSpur (s.driverSpur l) fun x => { x with str := { x.str with leads := x.str.leads.mod (dirTo l b) fun _ => s.relayMax b l } }
  | _ => s

/-- NOTICE_SLIP with its flags (R147, R164, R229). -/
def State.noticeSlip (s : State) (k : Nat) (lo hi : Bool) : State :=
  let t := (s.sadEvent k .noticeSlip []).sadFlag k 0
  let t := if lo then t.strFlag (s.driverSpur (sadLow k)) 2 else t
  if hi then t.strFlag (s.driverSpur (sadHigh k)) 2 else t

/-- The limits of R206 and R220 on the residual skew, 1/16 phase. -/
def skewLimit (seam : Bool) : Int := if seam then 64 else 32

/-- The failure bound of R220, 1/16 phase. -/
def skewFail (seam : Bool) : Int := if seam then 96 else 40

/-- The residual-skew checks of a resynchronisation (R206, R220). -/
def State.skewCheck (s : State) (k : Nat) : State :=
  let x := s.sad k
  let out : Bool := skewLimit (sadSeam k) < x.rbar || x.rbar < -skewLimit (sadSeam k)
  let bad := if skewFail (sadSeam k) < x.rbar ∨ x.rbar < -skewFail (sadSeam k) then x.skewBad + 1 else 0
  let ok := if out then 0 else x.skewOk + 1
  let t := s.modSad k fun y =>
    { y with skewBad := bad, skewOk := ok, skewOpen := out || (y.skewOpen && ok < 16), retrim := y.retrim || (out && !y.skewOpen) }
  let t := t.when (out && !x.skewOpen) fun u => (u.sadEvent k .skewRange []).sadFlag k 1
  t.when (decide (16 ≤ bad) && !(s.sadDelayed k && (s.word 0xC0028).bit 30)) fun u => u.sadFail k

/-- D of R205: the lower Spur's estimate toward the higher one, as it stood at cycle 8. A borrowed lower region has its relay estimate in its place, and between a lender and its borrowed region, which one Spur clocks, D is 0 (R217). -/
def State.skewDebt (s : State) (k : Nat) : Int :=
  let lo := sadLow k
  let hi := sadHigh k
  let later := (s.sad k).toLo.since8
  match (s.spur lo).gates.driver with
  | .borrow l => if hi = l then 0 else (s.sad k).relayOf k lo - later
  | _ => if s.lentTo lo = some hi then 0 else (s.spur (s.driverSpur lo)).str.leads.get (sadDir k lo) - later

/-- The resynchronisation at cycle 8 (R147, R205, R217): `D` is taken in the phases of the measurement. A Saddle held until its resynchronisation resumes its lanes, without NOTICE_SLIP (R216). -/
def State.resyncAll (s : State) (k : Nat) (m : Int) : State :=
  let x := s.sad k
  let lo := sadLow k
  let hi := sadHigh k
  let e := m - 16 * s.skewDebt k / (x.factor false : Int) - x.rbar
  let t := s.modSad k fun y => { y.trackSkew e with diff := m }
  let net := m - (t.sad k).rbar
  let a := t.resync k lo (roundDiv (net * x.factor false) 16)
  let b := a.1.resync k hi (roundDiv (-net * x.factor true) 16)
  let t := (b.1.resyncLender lo).resyncLender hi
  let t := t.when ((a.2 || b.2) && !x.held) fun u => u.noticeSlip k a.2 b.2
  (t.skewCheck k).when (!s.dark lo && !s.dark hi && !s.awaits lo && !s.awaits hi) fun u => u.modSad k fun y => { y with held := false }

/-- SADDLE_MEASURE (R204): the edge timer finds the difference `m` in 1/16 phase, inside its range of ±32 phases, at the last of the slower side's cycles 8, 24 and so on that both sides have begun, `number` counting them in the mark from 0; on a seam also the shorter interval of R209 in quarter phases. The one of cycle 8 resynchronises. No measurement is taken on an unusable Saddle, in V1, in a mark that a native window touches, or with a region that is not clocked (R207, R211). -/
def execSaddleMeasure (k : Fin 760) (m0 : Int) (number interval : Nat) (s : State) : Result :=
  let x := s.sad k
  let m := satInt 512 m0
  .next (match s.measureDue k with
  | none => s
  | some p =>
    if p.2 != number || !x.usable || s.cal.cur.isSome || !s.clocked (sadLow k) || !s.clocked (sadHigh k) then s
    else
      let dev := (m - x.rbar).natAbs
      let t := s.modSad k fun y =>
        { y with meas := some p, peakNow := max y.peakNow dev, minNow := if sadSeam k then min y.minNow (min 255 interval) else y.minNow }
      let t := t.when (!sadSeam k && decide (104 < dev)) fun u => u.sadError k .windowExceeded 2
      if p.2 = 0 then t.resyncAll k m else t)

/-! ## SAD_CTRL.DISABLE -/

/-- SADDLE_DISABLE (R222): 1 makes the Saddle unusable at the next mark; 0 returns it to use at the next mark, unless SADDLE_FAIL made it unusable (R220). -/
def execSaddleDisable (k : Fin 760) (v : Bool) (s : State) : Result :=
  .next (s.take (sadAddr k 0) (if v then 1 else 0) .rwl fun t => t.modSad k fun x =>
    if v then { x with disable := true, disableNext := true, enableNext := false }
    else if x.disable then { x with disable := false, disableNext := x.failed && x.disableNext, enableNext := !x.usable && !x.failed } else x)

end Sys2Proof.Machine
end

