-- ==== Sys2Proof/Machine/Plan.lean ====
section
/-! DEFINITION. What the commands of the plan share: the fields of a descriptor (R284, R289), its completion (R296), the contents of a commit set (R174 to R188), and the moves of a set: staged, restaged, retargeted, cancelled. -/

namespace Sys2Proof.Machine

/-! ## Descriptors -/

/-- One byte of a descriptor. -/
def FbEntry.byte (e : FbEntry) (i : Nat) : Nat := field e.bytes i 1

/-- Its type (R284). -/
def FbEntry.ty (e : FbEntry) : Nat := e.byte 0

/-- One of its flags: 0 RATIO_SAFE, 1 ASAP, 2 NOTIFY (R284). -/
def FbEntry.flag (e : FbEntry) (i : Nat) : Bool := e.byte 1 / 2 ^ i % 2 == 1

/-- Its group (R284). -/
def FbEntry.group (e : FbEntry) : Nat := field e.bytes 2 2

/-- Its sequence number. -/
def FbEntry.seq (e : FbEntry) : Seq := BitVec.ofNat 32 (field e.bytes 4 4)

/-- Its target mark: bits [39:0] of bytes 8 to 15 (R10, R284). -/
def FbEntry.target (e : FbEntry) : Mark := BitVec.ofNat 40 (field e.bytes 8 5)

/-- The region of a FENCE or UNFENCE. -/
def FbEntry.region (e : FbEntry) : Nat := field e.bytes 16 2

/-- The domain that a commit type names: of the region for FENCE and UNFENCE, the destination for DOMAIN_MAP (R289). -/
def FbEntry.domain (e : FbEntry) (fb : Fabric) : Nat :=
  if e.ty = 10 ∨ e.ty = 11 then fb.domOf (fieldOf e.region) else if e.ty = 12 then e.byte 20 else e.byte 16

/-- The buffer entry with a ring index. -/
def Plan.entry (p : Plan) (i : Nat) : Option FbEntry := p.buf.find? fun e => e.idx == i

/-- The plan with the buffer entry of a ring index changed. -/
def Plan.modEntry (p : Plan) (i : Nat) (f : FbEntry → FbEntry) : Plan :=
  { p with buf := p.buf.map fun e => if e.idx = i then f e else e }

/-- The plan with the disposition of some descriptors changed (R313). -/
def Plan.setStage (p : Plan) (is : List Nat) (st : Stage) : Plan :=
  { p with buf := p.buf.map fun e => if is.contains e.idx then { e with stage := st } else e }

/-- The state after a descriptor has completed (R296): the completion is made, and the buffer entry waits for it to be written (R313). Under version 1 bytes 6 to 7 read 0 (R291). -/
def State.finish (s : State) (e : FbEntry) (st : Status) (m : Mark) (detail domain : Nat) (merged : Bool) : State :=
  (s.complete { seq := e.seq, ty := e.ty, status := st, group := if s.hri.agreed = 1 then 0 else e.group, mark := m, detail := detail,
                domain := domain, merged := merged, notify := e.flag 2, born := s.mark, ringIdx := e.idx }).modPlan
    fun p => p.modEntry e.idx fun x => { x with stage := .done, set := none }

/-- The state after several descriptors have completed alike, at the present mark. -/
def State.finishAll (s : State) (es : List FbEntry) (st : Status) : State := s.each es fun t e => t.finish e st s.mark 0 0 false

/-- The next sequence number of Summit's own (R178). -/
def Plan.freshSeq (p : Plan) : Seq := BitVec.ofNat 32 (2 ^ 31 + p.ownSeq % 2 ^ 31)

/-- The one `i` numbers after it. -/
def Plan.seqAfter (p : Plan) (i : Nat) : Seq := BitVec.ofNat 32 (2 ^ 31 + (p.ownSeq + i) % 2 ^ 31)

/-- The plan after it has been taken. -/
def Plan.tookSeq (p : Plan) : Plan := { p with ownSeq := (p.ownSeq + 1) % 2 ^ 31 }

/-- A completion that closes markers and groups: every MARKER with no earlier descriptor left in a commit set completes (R290), and every COND_END whose members have all completed (R328). -/
def State.closeMarkers (s : State) : State :=
  s.each s.plan.markers fun t i =>
    if (t.plan.buf.takeWhile fun e => e.idx != i).any (fun e => e.set.isSome) then t
    else match t.plan.entry i with
      | none => t.modPlan fun p => { p with markers := p.markers.filter (· != i) }
      | some e => (t.finish e .applied s.mark (e.byte 16) 0 false).modPlan fun p => { p with markers := p.markers.filter (· != i) }

/-- The status of a group's COND_BEGIN and COND_END (R328). -/
def GroupState.status (g : GroupState) : Status :=
  match g with
  | .applies => .applied
  | .loses => .condDiscarded
  | _ => .condLate

/-- A group has an outcome: it resolved, or was skipped late. -/
def GroupState.resolved (g : GroupState) : Bool := g == .applies || g == .loses || g == .late

/-- Group slot `k`. -/
def Plan.group (p : Plan) (k : Nat) : Group := p.groups.getD k Group.free

/-- The plan with group slot `k` changed. -/
def Plan.modGroup (p : Plan) (k : Nat) (f : Group → Group) : Plan := { p with groups := mapFrom (fun i g => if i = k then f g else g) 0 p.groups }

/-- The members of a group that have not completed. -/
def Plan.openMembers (p : Plan) (k : Nat) : List FbEntry := p.buf.filter fun e => e.slot == some k && e.stage != .done

/-- Processing stands at a COND_BEGIN with 4 groups pending (R315). -/
def Plan.groupStall (p : Plan) : Bool :=
  (p.buf.find? fun e => e.stage == .fetched).any (fun e => e.ty == 5) && (List.range 4).all fun k => (p.group k).st != .free

/-- The plan with a group slot freed in mark `m`: a COND_BEGIN that waits for it is processed in the mark after (R315, R328). -/
def Plan.freeGroup (p : Plan) (k : Nat) (m : Mark) : Plan :=
  { p.modGroup k (fun _ => Group.free) with resumeAt := if p.groupStall then some (m + 1) else p.resumeAt }

/-- Groups whose COND_END can complete do, and free their slots (R328). -/
def State.closeGroups (s : State) : State :=
  s.each (List.range 4) fun t k =>
    let g := t.plan.group k
    if !g.st.resolved || !g.settled || !(t.plan.openMembers k).isEmpty then t
    else match g.endIdx with
      | none => t
      | some i => ((t.plan.entry i).elim t fun e => t.finish e g.st.status g.mark 0 0 false).modPlan fun p => p.freeGroup k t.mark

/-- Markers and groups after some descriptors have completed. -/
def State.closeOut (s : State) : State := s.closeGroups.closeMarkers

/-! ## The contents of a commit set -/

/-- A SET_STEP's request (R175): every domain in use at the base request, or none where some domain has no such step. -/
def Fabric.request (fb : Fabric) (d step : Nat) : Option Fabric :=
  let b := (fb.dom d).baseOf step
  if fb.hasSteps b then
    some { fb with
      baseReq := b
      doms := mapFrom (fun e x => if e = d then { x with req := step } else if fb.inUse e then { x with req := (x.stepFor b).getD x.req } else x) 0 fb.doms }
  else none

/-- A ratio-safe change of a domain to `x` at a step (R187): the exponent that keeps the base, with every exponent then lowered by the lowest in use. -/
def Fabric.ratioChange (fb : Fabric) (d : Nat) (x : Dom) (step : Nat) : Option Fabric :=
  let f := x.fcode step
  match (List.range 4).find? fun k => f * 2 ^ k == fb.base with
  | none => none
  | some k =>
    let fb1 := fb.modDom d fun _ => { x with k := k, step := step }
    let low := (fb1.used.map fun e => (fb1.dom e).k).foldl min 3
    let fb2 := { fb1 with
      base := fb1.base / 2 ^ low, baseReq := fb1.baseReq / 2 ^ low
      doms := mapFrom (fun e y => if fb1.inUse e then { y with k := y.k - low } else y) 0 fb1.doms }
    if (fb.dom d).ofBase fb.base < f ∨ !fb2.ratiosOk then none else some fb2

/-- The ladder that a SET_LADDER leaves (R289): under version 1 a half, merged with the halves of the same set and the ladder otherwise in force (R291). -/
def ladderOf (v1 : Bool) (e : FbEntry) (halves : List FbEntry) (old : List Nat) : List Nat :=
  if v1 then
    (halves.filter fun h => h.ty == 2 && h.byte 16 == e.byte 16).foldl
      (fun l h => mapFrom (fun i v => if i / 8 = h.byte 19 / 128 then h.byte (20 + i % 8) else v) 0 l) old
  else (List.range 16).map fun i => e.byte (20 + i)

/-- The step after a SET_LADDER: byte 19, or the step number in force for 0xFF, under version 1 for 0x7F and 0xFF (R289, R291). -/
def stepAfter (v1 : Bool) (e : FbEntry) (old : Nat) : Nat :=
  if v1 then (if e.byte 19 % 128 = 127 then old else e.byte 19 % 128) else if e.byte 19 = 255 then old else e.byte 19

/-- The domain as a SET_LADDER leaves it. -/
def laddered (v1 : Bool) (e : FbEntry) (halves : List FbEntry) (x : Dom) : Dom :=
  { x with ladder := ladderOf v1 e halves x.ladder, safe := e.byte 17, nominal := e.byte 18, step := stepAfter v1 e x.step }

/-- A commit set's contents while they are worked out. -/
structure Work where
  /-- domains, map and requests so far -/
  fb : Fabric
  /-- fence operations by Spur -/
  fences : List (Nat × Nat)
  /-- descriptors that fail a check: ring index and status -/
  bad : List (Nat × Status)
  /-- an exponent changes -/
  ratio : Bool
  /-- a ladder, named step, exponent or the map changes -/
  derive : Bool
  /-- a format class changes -/
  fmt : Bool

/-- A descriptor that fails a check. -/
def Work.refuse (w : Work) (e : FbEntry) (st : Status) : Work := { w with bad := w.bad ++ [(e.idx, st)] }

/-- One descriptor's part in a set, DOMAIN_MAP apart (R171, R175, R187, R290). `ratioOk` is false where the set also changes the base. -/
def State.workMember (s : State) (ratioOk : Bool) (all : List FbEntry) (w : Work) (e : FbEntry) : Work :=
  let d := e.byte 16
  let v1 := s.hri.agreed == 1
  let x := w.fb.dom d
  match e.ty with
  | 1 =>
    if e.flag 0 then
      match if ratioOk then w.fb.ratioChange d x (e.byte 17) else none with
      | none => w.refuse e .ratioBad
      | some fb => { w with fb := fb, ratio := true, derive := true }
    else match w.fb.request d (e.byte 17) with
      | none => w.refuse e .ratioUnsafe
      | some fb => { w with fb := fb }
  | 2 =>
    let y := laddered v1 e all x
    if e.flag 0 then
      match if ratioOk then w.fb.ratioChange d y y.step else none with
      | none => w.refuse e .ratioBad
      | some fb => if ladderOk y.ladder y.safe y.nominal && fb.safeOk then { w with fb := fb, ratio := true, derive := true } else w.refuse e .ladderRange
    else if ladderOk y.ladder y.safe y.nominal && (w.fb.modDom d fun _ => y).safeOk && y.fcode y.step == x.ofBase w.fb.base then
      { w with fb := w.fb.modDom d fun _ => y, derive := true }
    else w.refuse e .ladderRange
  | 3 => { w with fb := w.fb.modDom d fun z => { z with fmt := e.byte 17 }, fmt := w.fmt || x.fmt != e.byte 17 }
  | 10 => { w with fences := (w.fences.filter fun p => p.1 != s.driverSpur e.region) ++ [(s.driverSpur e.region, 1)] }
  | 11 => { w with fences := (w.fences.filter fun p => p.1 != s.driverSpur e.region) ++ [(s.driverSpur e.region, 2)] }
  | _ => w

/-- The state with the fences that sets leave, the last of them last, for the ceilings at a target (R233). -/
def State.withFences (s : State) (fs : List (Nat × Nat)) : State :=
  s.each fs fun t p => t.modSpur p.1 fun x => { x with gates := { x.gates with comp := p.2 == 1 || x.gates.faultFence } }

/-- The step that SUM_PROFILE.PROFILE names for a domain (R304). -/
def profileStep (x : Dom) (p : Nat) : Nat := if p = 0 then x.safe else if p = 1 then x.nominal else 15

/-- The lowest base that a step of each domain in use names. -/
def Fabric.lowBase (fb : Fabric) (stepOf : Dom → Nat) : Nat := (fb.used.map fun d => (fb.dom d).baseOf (stepOf (fb.dom d))).foldl min 768

/-- The fabric with the requests and the format class of SUM_PROFILE (R304); step 0 is requested while V1 or park is (R470). -/
def State.profiled (s : State) (fb : Fabric) : Fabric :=
  let w := s.word 0x300
  let b := fb.lowBase fun x => if s.boot.req = 0 then profileStep x (w.bits 1 0) else 0
  ({ fb with baseReq := b, doms := mapFrom (fun d x => if fb.inUse d then { x with fmt := w.bits 6 4 } else x) 0 fb.doms }).derive

/-- What a commit set does: the domains it leaves, its fences, the descriptors that fail, and whether a format change held a raise back (R185). -/
structure Contents where
  /-- domains, map, base and requests that it leaves -/
  fb : Fabric
  /-- fence operations -/
  fences : List (Nat × Nat)
  /-- failing descriptors -/
  bad : List (Nat × Status)
  /-- a raise was held back -/
  clipped : Bool
  /-- an exponent changes -/
  ratio : Bool

/-- The fields that a DOMAIN_MAP moves. -/
def movedFields (e : FbEntry) (fb : Fabric) : List Nat :=
  (List.range 25).filter fun f => field e.bytes 16 4 / 2 ^ f % 2 == 1 && fb.domOf f != e.byte 20

/-- A DOMAIN_MAP applied to the domains that a set leaves, or none where it breaks R172. A domain that receives its first field takes the exponent of the field's former domain (R173). -/
def Fabric.move (fb : Fabric) (e : FbEntry) : Option Fabric :=
  let d := e.byte 20
  match movedFields e fb with
  | [] => some fb
  | f :: fs =>
    let fc := fb.fcodeOf (fb.domOf f)
    let same : Bool := fs.all fun g => fb.fcodeOf (fb.domOf g) == fc
    let x := fb.dom d
    let y := if fb.inUse d then x else { x with k := (fb.dom (fb.domOf f)).k, step := (x.stepOf fc).getD x.step }
    let moved := (({ fb with map := mapFrom (fun g v => if (f :: fs).contains g then d else v) 0 fb.map }).modDom d fun _ => y).clearUnused
    if same && (if fb.inUse d then fb.fcodeOf d == fc else x.ladder.contains fc && moved.safeOk) && moved.ratiosOk then some moved.derive else none

/-- The base and the steps of worked-out contents (R174, R176, R185), with `pre` the fences that the sets ahead leave: a drop never raises, a set with a format change never raises, and a restaged set never rises above its staged base. -/
def State.chosen (s : State) (k : SetKind) (view : Fabric) (pre : List (Nat × Nat)) (cap : Option Nat) (w : Work) : Contents :=
  let fb := if w.derive then w.fb.derive else w.fb
  if w.ratio then { fb := fb, fences := w.fences, bad := w.bad, clipped := false, ratio := true }
  else
    let b := (s.withFences (pre ++ w.fences)).chooseBase fb
    let b1 := if k = .drop ∨ w.fmt then min b view.base else b
    let b2 := match cap with | none => b1 | some c => min b1 c
    { fb := fb.atBase b2, fences := w.fences, bad := w.bad, clipped := w.fmt && decide (view.base < b), ratio := false }

/-- The contents of a set of any kind but the intermediate ones of a raise series, from the state that the sets ahead of it leave (R177). A drop that host descriptors have joined is bounded by their requests, not by the base ahead of it (R186). -/
def State.plainContents (s : State) (k0 : SetKind) (view : Fabric) (pre : List (Nat × Nat)) (ms : List FbEntry) (cap : Option Nat) : Contents :=
  let k := if k0 = .drop ∧ !ms.isEmpty then .host else k0
  let fb0 := if k = .basic then s.profiled view else view
  let w0 : Work :=
    { fb := fb0, fences := [], bad := [], ratio := false, derive := false, fmt := view.used.any fun d => (fb0.dom d).fmt != (view.dom d).fmt }
  let flat := s.chosen k view pre cap (ms.foldl (s.workMember false ms) w0)
  let wr := ms.foldl (s.workMember true ms) w0
  let c := if wr.ratio && flat.fb.base == view.base then s.chosen k view pre cap wr else flat
  (ms.filter fun e => e.ty == 12).foldl
    (fun c e => match c.fb.move e with | some fb => { c with fb := fb } | none => { c with bad := c.bad ++ [(e.idx, .mapFcode)] }) c

/-- The base of an intermediate set of a raise series is a multiple of 2^K, with K the highest exponent in use (R184). -/
def Fabric.unit (fb : Fabric) : Nat := 2 ^ ((fb.used.map fun d => (fb.dom d).k).foldl max 0)

/-- The next base of a raise series (R184). -/
def Fabric.nextBase (fb : Fabric) (b target : Nat) : Nat := fb.unit * (min target (9 * b / 8) / fb.unit)

/-- One pending change of a domain not in use (R554). -/
def Fabric.idleChange (fb : Fabric) (v1 : Bool) (e : FbEntry) : Fabric :=
  let d := e.byte 16
  if fb.inUse d then fb
  else fb.modDom d fun x =>
    if e.ty = 1 then { x with req := e.byte 17 } else if e.ty = 2 then laddered v1 e [e] x else { x with fmt := e.byte 17 }

/-- A pending action is a change of a domain not in use (R554). -/
def idleTy (e : FbEntry) : Bool := e.ty == 1 || e.ty == 2 || e.ty == 3

/-- A fabric with the requests of another: those that a set which changes nothing else puts in force (R175, R179). -/
def Fabric.takeReq (fb r : Fabric) : Fabric :=
  { fb with baseReq := r.baseReq, doms := mapFrom (fun d (x : Dom) => { x with req := (r.dom d).req }) 0 fb.doms }

/-- The sets ahead of a set that will have acted by its target: staged or armed and not applied, or cancelled as null with their requests still to come. -/
def State.aheadOf (s : State) (q : Seq) (target : Mark) : List CommitSet :=
  (s.plan.sets.takeWhile fun c => c.seq != q).filter fun c => (c.live || (c.isNull && Mark.ahead c.target s.mark)) && notAfter c.target target

/-- The pending ladder shadows of the domains in use, which the next commit puts in force (R191); those of a domain that one of the sets ladders itself are discarded. -/
def State.shadowsInto (s : State) (sets : List CommitSet) (fb : Fabric) : Fabric :=
  if sets.all CommitSet.isNull then fb
  else (fb.used.filter fun d => !(sets.any fun c => (s.ladderedBy c).contains d)).foldl
    (fun x d => if (s.domShadows d).isEmpty then x else (s.withShadows x d).getD x) fb

/-- The domains that the sets ahead of a set, the register shadows that they put in force, and the pending changes of domains not in use leave at its target (R177, R191, R554). -/
def State.viewFor (s : State) (q : Seq) (target : Mark) : Fabric :=
  let sets := s.aheadOf q target
  let fb := s.shadowsInto sets (sets.foldl (fun fb c => if c.isNull then fb.takeReq c.result else c.result) s.fab)
  s.plan.actions.foldl (fun fb a =>
    match s.plan.entry a.idx with
    | some e => if a.slot.isNone && idleTy e && notAfter a.target target then fb.idleChange (s.hri.agreed == 1) e else fb
    | none => fb) fb

/-- The fences that the sets ahead of a set leave at its target (R177). -/
def State.fencesFor (s : State) (q : Seq) (target : Mark) : List (Nat × Nat) := (s.aheadOf q target).flatMap CommitSet.fences

/-- The descriptors of a set that count: those of no unresolved group, and those of the groups in `inc` (R323). -/
def State.membersOf (s : State) (c : CommitSet) (inc : List Nat) : List FbEntry :=
  (c.members.filterMap s.plan.entry).filter fun e =>
    match e.slot with
    | none => true
    | some k => (s.plan.group k).st == .applies || inc.contains k

/-- The contents of a set, with the groups in `inc` taken as applying: an intermediate set of a raise series brings the base one raise nearer to that of its head, with the descriptors that have joined it since (R184, R186); a placeholder carries what is in force (R323). -/
def State.contents (s : State) (c : CommitSet) (inc : List Nat) (cap : Option Nat) : Contents :=
  let view := s.viewFor c.seq c.target
  let pre := s.fencesFor c.seq c.target
  let ms := s.membersOf c inc
  match c.kind with
  | .series h b =>
    let head := s.plan.find h
    let r := s.plainContents ((head.map CommitSet.kind).getD .drop) view pre ((head.map fun x => s.membersOf x inc).getD []) cap
    let x := s.plainContents .host view pre ms cap
    let b := max view.base (view.nextBase view.base (min b r.fb.base))
    if ms.isEmpty then { x with fb := view.atBase b, clipped := false } else { x with fb := x.fb.atBase b, clipped := false }
  | k => s.plainContents k view pre ms (if ms.isEmpty && !c.slots.isEmpty then some (cap.elim view.base (min view.base)) else cap)

/-- The sets of group slots a set's outcome can depend on: every combination of its unresolved groups (R324). -/
def combos : List Nat → List (List Nat)
  | [] => [[]]
  | k :: ks => combos ks ++ (combos ks).map (k :: ·)

/-- The FCODE whose voltage a set requests in each domain: the highest that any outcome of its groups could give (R324, R460). -/
def State.voltOf (s : State) (c : CommitSet) (cap : Option Nat) : List Nat :=
  let rs := (combos c.slots).map fun inc => (s.contents c inc cap).fb
  (List.range 8).map fun d => (rs.map fun fb => fb.fcodeOf d).foldl max 0

/-- SPR_CTRL.FENCE of a Spur after some fence operations. -/
def State.fenceAfter (s : State) (n : Nat) (fs : List (Nat × Nat)) : Bool :=
  match (fs.filter fun p => p.1 == n).getLast? with
  | none => (s.word (sprAddr n 0)).bit 0
  | some p => p.2 == 1

/-- A set changes nothing of what the sets ahead of it, with their fences `pre`, leave in force (R179). -/
def State.nullSet (s : State) (view : Fabric) (pre : List (Nat × Nat)) (r : Contents) : Bool :=
  r.fb.base == view.base && r.fb.map == view.map &&
    ((List.range 8).all fun d =>
      let a := r.fb.dom d
      let b := view.dom d
      a.k == b.k && a.ladder == b.ladder && a.safe == b.safe && a.nominal == b.nominal && a.fmt == b.fmt) &&
    r.fences.all fun p => s.fenceAfter p.1 pre == (p.2 == 1)

/-! ## Moves of a set -/

/-- A set of one kind, formed and not staged, which may be staged from mark `ready` on. -/
def CommitSet.form (k : SetKind) (q : Seq) (target : Mark) (members slots : List Nat) (fb : Fabric) (ready : Mark) : CommitSet :=
  { kind := k, seq := q, target := target, members := members, result := fb, fcodes := [], steps := [], fences := [], up := false, volt := [],
    defers := 0, deferRaised := false, late := false, slots := slots, staged := false, armed := false, applied := false, isNull := false,
    restage := false, ready := ready, raiseFormed := false, reported := [] }

/-- The stage command of a set for a domain (R114, R115). -/
def State.stageCmd (s : State) (c : CommitSet) (d : Nat) : StageCmd :=
  { seq := c.seq, target := c.target, group := ((c.slots.map fun k => (s.plan.group k).num).foldl (fun (m : Nat) g => if m = 0 ∨ g < m then g else m) 0)
    fcode := nth c.fcodes d, step := nth c.steps d, up := decide (s.fab.fcodeOf d < nth c.fcodes d), fmt := (c.result.dom d).fmt,
    ceil := s.ceilOf c.result d, fences := c.fences, regs := true }

/-- The stage commands of a set leave on the command lane, one for each domain in use (R60, R115). -/
def State.sendStage (s : State) (c : CommitSet) : State := s.each c.result.used fun t d => t.sendLane (.stage d (s.stageCmd c d))

/-- A set raises some field's voltage (R179): never one that changes an exponent (R188). -/
def State.raisesVolt (s : State) (view : Fabric) (c : CommitSet) (ratio : Bool) : Bool :=
  !ratio && (List.range 25).any fun f => s.volt f (view.fcodeOf (view.domOf f)) < s.volt f (nth c.volt (c.result.domOf f))

/-- The set with its contents put in. -/
def State.fill (s : State) (c : CommitSet) (r : Contents) (volt : List Nat) : CommitSet :=
  let x := { c with
    result := r.fb, fcodes := (List.range 8).map r.fb.fcodeOf, steps := (List.range 8).map fun d => (r.fb.dom d).step, fences := r.fences, volt := volt }
  { x with up := s.raisesVolt (s.viewFor c.seq c.target) x r.ratio }

/-- BASE_DROP for an originated set that lowers the base (R190). -/
def State.tellDrop (s : State) (c : CommitSet) : State :=
  let view := s.viewFor c.seq c.target
  if c.kind == .host || view.base ≤ c.result.base then s
  else
    let d := (c.result.used.find? fun d => s.bindOf c.result d != 0).getD (c.result.used.headD 0)
    s.raise .baseDrop 0 s.summitIdx (le 1 (s.bindOf c.result d) ++ le 1 d ++ le 2 c.result.base ++ le 4 c.seq.toNat)

/-- The highest sprint class that the cooling class allows (R465). -/
def State.sprintMax (s : State) : Nat := if s.hri.cooling = 0 then 1 else if s.hri.cooling = 1 then 2 else 3

/-- The sprint class asked for put in force, at the class allowed (R465). -/
def State.setSprint (s : State) (n : Nat) : State :=
  ({ s with gov := { s.gov with sprint := min n s.sprintMax } }).when (decide (s.sprintMax < n)) fun t =>
    t.raise .budgetClamp 0 s.summitIdx (le 1 1 ++ le 1 s.sprintMax)

/-- The sprint class of SUM_PROFILE.PROFILE (R304). -/
def profileSprint (p : Nat) : Nat := if p = 3 then 3 else if p = 2 then 1 else 0

/-- Under basic control the sprint class follows PROFILE at the set staged (R304). -/
def State.followProfile (s : State) : State :=
  let n := profileSprint ((s.word 0x300).bits 1 0)
  if s.gov.sprint = min n s.sprintMax then s else s.setSprint n

/-- A set staged, or restaged, with the given contents: the stage commands leave, the Cols raise their requests, its descriptors' disposition follows, and BASE_DROP is raised where an originated set comes to lower the base (R60, R179, R190, R313, R460). Under basic control the sprint class follows PROFILE (R304). -/
def State.putStage (s : State) (c : CommitSet) (r : Contents) (volt : List Nat) : State :=
  let x := { s.fill c r volt with staged := true, restage := false }
  let told : Bool := c.staged && decide (c.result.base < (s.viewFor c.seq c.target).base)
  ((((s.modPlan fun p => (p.modSet c.seq fun _ => x).setStage x.members .staged).sendStage x).requests c.staged).when (!told) fun t => t.tellDrop x).when
    (c.kind == .basic) State.followProfile

/-- The sets after one of them has taken a new target: every later set not armed whose target is at or before it moves too, one mark later each (R181). -/
def shiftSets (q : Seq) (t : Mark) : Option Mark → List CommitSet → List CommitSet
  | _, [] => []
  | none, c :: cs =>
    if c.seq = q then { c with target := t, late := true, restage := c.staged } :: shiftSets q t (some t) cs else c :: shiftSets q t none cs
  | some p, c :: cs =>
    if c.applied || c.armed || c.isNull || !notAfter c.target p then c :: shiftSets q t (some (if notAfter p c.target then c.target else p)) cs
    else { c with target := p + 1, late := true, restage := c.staged } :: shiftSets q t (some (p + 1)) cs

/-- A set retargeted, with those behind it (R181). The staged ones are to be restaged. -/
def State.retarget (s : State) (q : Seq) (t : Mark) : State := s.modPlan fun p => { p with sets := shiftSets q t none p.sets }

/-- The staged sets that a retarget has moved, sent again, the last first, so that no targets meet. -/
def State.resend (s : State) : State :=
  s.each (s.plan.sets.reverse.filter fun c => c.restage && c.staged && !c.armed) fun t c =>
    (t.sendStage c).modPlan fun p => p.modSet c.seq fun x => { x with restage := false }

/-- A staged set cancelled in the Spurs: the cancel command leaves, and its requests are withdrawn (R115, R460). -/
def State.unstage (s : State) (c : CommitSet) : State :=
  if c.staged && !c.armed then
    ((s.modPlan fun p => (p.modSet c.seq fun x => { x with staged := false, restage := false, volt := [] }).setStage c.members .formed).sendLane (.cancel c.seq)).requests true
  else s

/-- The sets of a raise series: its head and its intermediate sets (R184). -/
def CommitSet.inSeries (h : Seq) (c : CommitSet) : Bool :=
  c.seq == h || (match c.kind with | .series q _ => q == h | _ => false)

/-- The head of the series that a set belongs to: itself where it is in none. -/
def CommitSet.headSeq (c : CommitSet) : Seq := match c.kind with | .series h _ => h | _ => c.seq

/-- A set withdrawn with its whole series, armed and applied sets apart (R182). -/
def State.withdraw (s : State) (h : Seq) : State :=
  s.each (s.plan.sets.filter fun c => c.inSeries h && !c.armed && !c.applied) fun t c => (t.unstage c).modPlan fun p => p.dropSet c.seq

/-- The descriptors of a set that fail a check are taken out of it and complete with their status at the present mark (R177). -/
def State.screen (s : State) (c : CommitSet) (bad : List (Nat × Status)) : State :=
  if bad.isEmpty then s
  else ((s.each bad fun t b => (t.plan.entry b.1).elim t fun e => t.finish e b.2 s.mark 0 (e.domain s.fab) false).modPlan
    fun p => p.modSet c.seq fun x => { x with members := x.members.filter fun i => !(bad.any fun b => b.1 == i), restage := x.restage || x.staged }).closeOut

/-- A fixed or open native window that covers a mark: the first mark after it (R186). -/
def State.windowOver (s : State) (m : Mark) : Option Mark :=
  (s.cal.cur.toList ++ (s.cal.next.toList ++ s.cal.extras).filter Window.fixed).findSome? fun w =>
    if (m - w.w).toNat < w.n then some (w.w + BitVec.ofNat 40 w.n) else none

/-- The earliest target a set can take: 4 marks ahead and, but for a drop or a set of basic control, after every set staged before it (R179, R181, R316). A drop of Summit's own is staged for the earliest mark that the staging lead allows (R176), which may lie before a set that was staged earlier (R181). DEDUCED, notes/assumptions/81.md. -/
def State.floorFor (s : State) (c : CommitSet) : Mark :=
  (s.plan.sets.filter fun x => (x.staged || x.armed) && !x.applied && !x.isNull && x.seq != c.seq).foldl
    (fun t x => if c.kind == .drop || c.kind == .basic then (if x.target = t then t + 1 else t) else if notAfter t x.target then x.target + 1 else t) (s.mark + 4)

/-- The bases of a raise series from `b` to `target`, the target last; at most `n` of them (R184). -/
def seriesBases (fb : Fabric) (target : Nat) : Nat → Nat → List Nat
  | 0, _ => [target]
  | n + 1, b =>
    let x := fb.nextBase b target
    if target ≤ x ∨ x ≤ b then [target] else x :: seriesBases fb target n x

/-- A set needs a raise series (R121, R184). -/
def needsSeries (view : Fabric) (r : Contents) : Bool := !r.ratio && decide (9 * view.base < 8 * r.fb.base)

/-- The intermediate sets of a series put in front of its head, at consecutive marks before its target (R184). -/
def State.buildSeries (s : State) (c : CommitSet) (bases : List Nat) : State :=
  let n := bases.length
  let floor := s.floorFor c
  let last := floor + BitVec.ofNat 40 (n - 1)
  let s := if notAfter last c.target then s else s.retarget c.seq last
  let c := (s.plan.find c.seq).getD c
  let mids := mapFrom (fun i (x : CommitSet) =>
      { x with seq := s.plan.seqAfter i, target := c.target - BitVec.ofNat 40 (n - 1 - i), slots := c.slots, late := c.late }) 0
    ((bases.take (n - 1)).map fun b => CommitSet.form (.series c.seq b) 0 c.target [] [] c.result c.ready)
  s.modPlan fun p => { p with
    ownSeq := (p.ownSeq + (n - 1)) % 2 ^ 31
    sets := p.sets.flatMap fun (x : CommitSet) => if x.seq = c.seq then mids ++ [x] else [x] }

/-- The raise that a new format class allows, as a set of its own at T + 1, formed once (R185); under basic control BASIC_RAISE makes it. -/
def State.raiseAfter (s : State) (c : CommitSet) (r : Contents) : State :=
  if r.clipped && c.kind != .basic && !c.raiseFormed then
    s.modPlan fun p => ({ p with
      sets := p.sets.flatMap fun (x : CommitSet) =>
        if x.seq = c.seq then [{ x with raiseFormed := true }, CommitSet.form .fmtRaise p.freshSeq (c.target + 1) [] [] c.result s.mark] else [x] }).tookSeq
  else s

/-- Volts requested for a set: of its series' head where it belongs to one (R184). -/
def State.voltsFor (s : State) (c : CommitSet) (cap : Option Nat) : List Nat :=
  match s.plan.find c.headSeq with
  | some h => if c.headSeq = c.seq then s.voltOf c cap else if h.volt.isEmpty then s.voltOf h none else h.volt
  | none => s.voltOf c cap

/-- Nothing remains of a host set: no descriptor and no unresolved group. -/
def CommitSet.empty (c : CommitSet) : Bool := c.kind == .host && c.members.isEmpty && c.slots.isEmpty

end Sys2Proof.Machine
end

