-- ==== Sys2Proof/Machine/Changes.lean ====
section
/-! DEFINITION. The life of a change in Summit (R176 to R190, R316, R555): staging, last re-evaluation, arm decision, retries and completions. -/

namespace Sys2Proof.Machine

/-! ## Restaging -/

/-- The requests of a fabric put in force outside a commit set, with BIND after them (R174, R175). -/
def State.putReq (s : State) (stop : CommitSet → Bool) (r : Fabric) : State := (s.patchFab stop fun fb => fb.takeReq r).rebind

/-- A set that changes nothing in force (R179, R326): its entries are emptied; with descriptors it waits for its target, where its requests take effect, and for T + 1; without, it is gone, and the requests of basic control stand at once (R304). -/
def State.nullify (s : State) (c : CommitSet) (r : Contents) : State :=
  let t := s.unstage c
  if c.members.isEmpty then (t.modPlan fun p => p.dropSet c.seq).when (c.kind == .basic) fun u => u.putReq (fun _ => false) r.fb
  else t.modPlan fun p => p.modSet c.seq fun x => { x with isNull := true, staged := false, result := r.fb }

/-- The requests of the sets cancelled as null whose target is the present mark, as if they were applied there (R175, R179): what the sets ahead of them still leave includes them. -/
def State.nullRequests (s : State) : State :=
  s.each (s.plan.sets.filter fun c => c.isNull && c.target == s.mark) fun t c => t.putReq (fun x => x.seq == c.seq) c.result

/-- A staged set with its present contents (R179, R186, R325): failing descriptors leave it, a null one is cancelled, a changed one is restaged under the same number. A raise that now needs a series is staged again as one. -/
def State.renew (s0 : State) (q : Seq) (last : Bool) : State :=
  match s0.plan.find q with
  | none => s0
  | some c0 =>
    let cap := if c0.restage then none else some c0.result.base
    let r0 := s0.contents c0 [] cap
    let bad := r0.bad.filter fun b => last || s0.hri.agreed != 1 || b.2 != .ladderRange
    let s := s0.screen c0 bad
    match s.plan.find q with
    | none => s
    | some c =>
      if c.empty then (s.unstage c).modPlan fun p => p.dropSet q
      else
        let r := s.contents c [] cap
        let view := s.viewFor q c.target
        let tied := s.plan.find c.headSeq |>.elim false fun h => !h.slots.isEmpty
        if s.nullSet view (s.fencesFor q c.target) r && !tied && (last || c.members.isEmpty) then s.nullify c r
        else if needsSeries view r then (s.unstage c)
        else if c.restage || r.fb != c.result || r.fences != c.fences then
          (s.putStage c r (s.voltsFor c cap)).raiseAfter c r
        else s

/-! ## Staging -/

/-- A formed set is staged, or retargeted first where its target cannot be met (R316, R181, R186, R184). -/
def State.stageFormed (s0 : State) (q : Seq) : State :=
  match s0.plan.find q with
  | none => s0
  | some c0 =>
    let bad := (s0.contents c0 [] none).bad.filter fun b => s0.hri.agreed != 1 || b.2 != .ladderRange
    let s := s0.screen c0 bad
    match s.plan.find q with
    | none => s
    | some c1 =>
      if c1.empty then s.modPlan fun p => p.dropSet q
      else
        let floor := s.floorFor c1
        let s := if notAfter floor c1.target then s else s.retarget q floor
        let tgt := ((s.plan.find q).getD c1).target
        let s := match s.windowOver tgt with
          | none => s
          | some m => (s.retarget q m).raise .calDeferred 0 s.summitIdx []
        let c := (s.plan.find q).getD c1
        let r := s.contents c [] none
        let view := s.viewFor q c.target
        let isMid : Bool := match c.kind with | .series _ _ => true | _ => false
        if !isMid && needsSeries view r && !(s.plan.sets.any fun x => x.inSeries q && x.seq != q) then
          let t := s.buildSeries c (seriesBases view r.fb.base 32 view.base)
          match t.plan.sets.find? fun x => x.inSeries q && x.seq != q with
          | none => t
          | some m => t.putStage m (t.contents m [] none) (t.voltsFor m none)
        else ((s.putStage c r (s.voltsFor c none)).raiseAfter c r).resend

/-- A set in the Spurs that is applied before a target. -/
def CommitSet.ahead (m : Mark) (x : CommitSet) : Bool := (x.staged || x.armed || x.applied || x.isNull) && notAfter x.target m

/-- The root gates close one mark after the target of the set that takes every domain to step 0 for V1 (R470). -/
def State.setGate (s : State) (m : Mark) : State :=
  if s.boot.req = 1 ∧ s.boot.moving ∧ s.boot.gateAt.isNone ∧ !s.bist.holdWaits then { s with boot := { s.boot with gateAt := some (m + 1) } } else s

/-- A set of Summit's own that can be lowered by restaging it (R176): no intermediate set of a raise series, whose base follows from its series (R184). -/
def CommitSet.own (c : CommitSet) : Bool := match c.kind with | .host => false | .series _ _ => false | _ => true

/-- A new commit set may be staged: fewer than 8 hold commit entries, and Summit does not hold 64 completions (R181, R278). -/
def State.mayStage (s : State) : Bool := decide (s.heldSets < 8) && decide (s.hri.held < 64)

/-- The drop, or the set of basic control, that Summit stages on its own when its inputs have changed (R176, R304). Where no new set may be staged it stays due. -/
def State.dropStep (s0 : State) : State :=
  let s := { s0 with role := { s0.role with baseDue := false } }
  let q := s.plan.freshSeq
  let view := s.viewFor q (s.mark + 4)
  let k : SetKind := if s.basic then .basic else .drop
  let r := s.plainContents k view (s.fencesFor q (s.mark + 4)) [] (some view.base)
  if r.fb.base == view.base && !(r.fb.doms.map Dom.fmt != view.doms.map Dom.fmt) then
    (if s.basic then s.putReq (fun _ => false) r.fb else s.rebind).setGate (s.mark + 4)
  else
    match s.plan.sets.find? fun c => c.own && c.staged && !c.armed && !c.applied && notAfter (s.mark + 3) c.target with
    | some c => (s.renew c.seq false).setGate c.target
    | none =>
      if !s.mayStage then s0
      else
        let c := CommitSet.form k q (s.mark + 4) [] [] view s.mark
        let c := { c with target := s.floorFor c }
        let t := s.modPlan fun p => ({ p with
          sets := p.sets.takeWhile (CommitSet.ahead c.target) ++ [c] ++ p.sets.dropWhile (CommitSet.ahead c.target) }).tookSeq
        (t.stageFormed c.seq).setGate c.target

/-- The first formed set, in the order formed: it may be staged where a new set may be, from the mark after its last descriptor was processed, within the horizon (R180, R278, R316). -/
def State.stageNext (s : State) : State :=
  match s.plan.sets.find? fun c => !c.staged && !c.armed && !c.applied && !c.isNull with
  | none => s
  | some c =>
    let near : Bool := !Mark.ahead c.target s.mark || Mark.dist c.target s.mark ≤ (s.word 0x600).bits 23 16
    if s.mayStage && notAfter c.ready s.mark && near then s.stageFormed c.seq else s

/-- STAGE_SET (R316): at ridge tick 0 Summit restages a set whose contents changed, stages the drop that a changed input asks for, or stages the next formed set. After COL_LOST, RIDGE_LOST or SUMMIT_LOST it stages none (R452). -/
def execStageSet (s : State) : Result :=
  .next (if s.faults.noStage || s.role.silent || s.role.resumeDue || !s.atMark then s
    else match s.plan.sets.find? fun c => c.restage && c.staged && !c.armed && notAfter c.ready s.mark with
      | some c => s.renew c.seq false
      | none => if s.role.baseDue then s.dropStep else s.stageNext)

/-- The staged set, not armed, whose target lies a number of marks ahead (R179), at ridge tick 0 and while a Summit instance is active. -/
def State.setAhead (s : State) (k : Nat) : Option CommitSet :=
  if s.role.silent || !s.atMark then none else s.plan.sets.find? fun c => c.staged && !c.armed && !c.applied && c.target == s.mark + BitVec.ofNat 40 k

/-- LAST_REEVALUATION (R179): at T − 3 Summit recomputes a staged set. -/
def execLastReevaluation (s : State) : Result :=
  .next (match s.setAhead 3 with
    | none => s
    | some c => s.renew c.seq true)

/-! ## Arming -/

/-- A set changes the format class of a domain (R185). -/
def State.changesFmt (s : State) (c : CommitSet) : Bool :=
  c.result.used.any fun d => (c.result.dom d).fmt != ((s.viewFor c.seq c.target).dom d).fmt

/-- The fields whose voltage a set raises and which have not reported an acknowledgement (R179, R188). A set that changes a format class waits for none (R185). -/
def State.unacked (s : State) (c : CommitSet) : List Nat :=
  if !c.up || s.changesFmt c then []
  else (List.range 25).filter fun f =>
    let mv := s.volt f (nth c.volt (c.result.domOf f))
    s.volt f ((s.viewFor c.seq c.target).fcodeOf ((s.viewFor c.seq c.target).domOf f)) < mv && !s.acked f mv

/-- The descriptors of a series' head complete with a status, and the whole series is withdrawn (R182, R555). -/
def State.abandon (s : State) (c : CommitSet) (st : Status) : State :=
  let ms := ((s.plan.find c.headSeq).getD c).members.filterMap s.plan.entry
  (s.each ms fun t e => t.finish e st s.mark 0 (e.domain s.fab) false).withdraw c.headSeq

/-- The base request set back to the base in force, with BIND after it (R174, R182). -/
def State.requestNow (s : State) : State := ({ s with fab := ({ s.fab with baseReq := s.fab.base }).derive }).rebind

/-- The staged sets that a withdrawn one stood ahead of, with the contents that they have without it (R177, R179). -/
def State.renewAfter (s : State) (t : Mark) : State :=
  s.each (s.plan.sets.filter fun c => c.staged && !c.armed && !c.applied && notAfter t c.target) fun u c =>
    u.renew c.seq (decide (Mark.dist c.target s.mark ≤ 3))

/-- A set deferred by one mark for its voltage (R182). -/
def State.defer (s : State) (c : CommitSet) : State :=
  let t := s.when (!c.deferRaised) fun u => u.raise .changeDeferred 0 (c.seq.toNat % 65536) []
  (((t.modPlan fun p => p.modSet c.seq fun x => { x with defers := x.defers + 1, deferRaised := true }).retarget c.seq (c.target + 1)).resend).renew c.seq true

/-- A set armed at ridge tick 0 joins the armed commits of the mirror record of that mark (R54). -/
def State.mirrorArm (s : State) (c : CommitSet) : State :=
  { s with role := { s.role with mirrorNext := s.role.mirrorNext.map fun m =>
    if m.mark = s.mark then { m with armed := m.armed ++ [{ c with armed := true }] } else m } }

/-- ARM_DECISION (R179): at T − 2 Summit arms a set that is allowed; a set under a native window moves past it (R186); one whose acknowledgement is missing is deferred, and abandoned after 16 deferrals (R182). A set with an unresolved group is never armed. -/
def execArmDecision (s : State) : Result :=
  .next (match s.setAhead 2 with
    | none => s
    | some c =>
      if !((s.plan.find c.headSeq).getD c).slots.isEmpty || s.faults.noStage then s
      else match s.windowOver c.target with
        | some m => ((s.raise .calDeferred 0 s.summitIdx []).retarget c.seq m).resend
        | none =>
          match s.unacked c with
          | [] => ((s.modPlan fun p => p.modSet c.seq fun x => { x with armed := true }).mirrorArm c).sendLane (.arm c.seq)
          | f :: _ =>
            if 16 ≤ c.defers then (((s.raise .voltLate 1 f []).abandon c .voltLate).requestNow.renewAfter c.target).closeOut
            else s.defer c)

/-- No Spur holds an ARMED entry of a number. -/
def State.armedNowhere (s : State) (q : Seq) : Bool :=
  !(s.spurs.toList.any fun x => x.gen.entries.any fun e => e.st == .armed && e.seq == q)

/-- ARM_REFUSED_ALL (R555): at T − 1 a set whose arm every Spur refused is restaged for T + 2; at the 16th it is abandoned with ARM_FAILED. -/
def execArmRefusedAll (s : State) : Result :=
  .next (match s.plan.sets.find? fun c => !s.role.silent && s.atMark && c.armed && !c.applied && c.target == s.mark + 1 && s.armedNowhere c.seq with
    | none => s
    | some c =>
      let t := s.modPlan fun p => p.modSet c.seq fun x => { x with armed := false, defers := x.defers + 1 }
      if 16 ≤ c.defers then ((t.abandon { c with armed := false } .armFailed).renewAfter c.target).closeOut
      else ((t.retarget c.seq (c.target + 2)).resend).renew c.seq true)

/-! ## Completion -/

/-- The step that a descriptor asked for: of a SET_STEP, or the step after a SET_LADDER that names one (R289). -/
def FbEntry.asked (e : FbEntry) (v1 : Bool) : Option Nat :=
  if e.ty = 1 then some (e.byte 17)
  else if e.ty = 2 then (if stepAfter v1 e 255 = 255 then none else some (stepAfter v1 e 255)) else none

/-- The status of a descriptor of an applied set, `late` where the mark used is not its own target (R180, R189, R286). -/
def outcome (v1 late : Bool) (step : Nat) (e : FbEntry) : Status :=
  if late && !e.flag 1 then .appliedLate
  else match e.asked v1 with
    | some n => if step < n then .appliedLower else .applied
    | none => .applied

/-- The descriptors of a set complete as applied at its target, and the set is gone (R61, R179, R296). -/
def State.completeSet (s : State) (c : CommitSet) (fb : Fabric) : State :=
  let t := s.each (c.members.filterMap s.plan.entry) fun t e =>
    let d := e.domain fb
    t.finish e (outcome (s.hri.agreed == 1) (e.late || (c.late && c.target != e.target)) (fb.dom d).step e) c.target (fb.dom d).step d (c.seq != e.seq)
  (t.modPlan fun p => p.dropSet c.seq).closeOut

/-- SET_APPLIED_REPORT (R61): once every field has reported a set applied, its descriptors complete; a set cancelled as null completes at T + 1 (R179). -/
def execSetAppliedReport (s : State) : Result :=
  .next (match s.plan.sets.find? fun c => !s.role.silent && !s.role.resumeDue && ((c.applied && (List.range 25).all fun f => c.reported.contains f) || (c.isNull && Mark.passed c.target s.mark)) with
    | none => s
    | some c => s.completeSet c (if c.isNull then s.fab else c.result))

end Sys2Proof.Machine
end

