-- ==== Sys2Proof/Machine/Windows.lean ====
section
/-! DEFINITION. The schedule of native calibration windows (R341 to R343). -/

namespace Sys2Proof.Machine

/-- N of a window length in µs (R341). -/
def windowMarks (us : Nat) : Nat := ceilDiv (100 * us) 64

/-- Marks of an interval in ms (R341). -/
def intervalMarks (ms : Nat) : Nat := ceilDiv (ms * 15625) 10

/-- Native windows are allowed (R341). -/
def State.nativeOk (s : State) : Bool := s.hri.agreed == 2 && (s.word 0xA0000).bit 0

/-- A periodic window that begins at a mark, of the length in force. -/
def CalEng.periodic (c : CalEng) (w : Mark) : Window := { w := w, n := windowMarks c.length, once := false, fixed := false }

/-- The engine with its next window one interval after a mark, unless the next one is fixed (R342). -/
def CalEng.after (c : CalEng) (m : Mark) : CalEng :=
  if c.next.any Window.fixed then c else { c with next := some (c.periodic (m + BitVec.ofNat 40 (intervalMarks c.interval))) }

/-- Native windows become allowed, or start afresh, at the present mark (R342): the first window falls one interval later. -/
def State.startWindows (s : State) : State := if s.nativeOk then { s with cal := s.cal.after s.mark } else s

/-- Windows not yet fixed are withdrawn where native windows are no longer allowed (R341, R365). -/
def State.stopWindows (s : State) : State :=
  if s.nativeOk then s
  else { s with cal := { s.cal with next := s.cal.next.filter Window.fixed, extras := s.cal.extras.filter Window.fixed, queued := none } }

/-- A CAL_WINDOW of version 2 with its target (R290, R341, R365): a ONCE window beside the schedule, or a new length, interval and first window, which wait where the next window is fixed. -/
def State.schedule (s : State) (w : Mark) (us ms : Nat) (once : Bool) : State :=
  if once then
    if s.nativeOk then { s with cal := { s.cal with extras := s.cal.extras ++ [{ w := w, n := windowMarks us, once := true, fixed := false }] } } else s
  else
    let c := { s.cal with interval := ms, length := us }
    let t := (s.setField 0xA0004 31 16 ms).setField 0xA0004 6 0 us
    if !s.nativeOk then { t with cal := c }
    else if c.next.any Window.fixed then { t with cal := { c with queued := some (c.periodic w) } }
    else { t with cal := { c with next := some (c.periodic w) } }

/-- The marks at which windows end that are in progress, fixed, or just past: no window begins fewer than 64 marks after one (R341). -/
def CalEng.ends (c : CalEng) (w : Window) : List Mark :=
  c.prevEnd.toList ++ ((c.cur.toList ++ (c.next.toList ++ c.extras).filter fun x => x.fixed && x != w).map fun x => x.w + BitVec.ofNat 40 x.n)

/-- The first mark that a window can take (R341): the 64th after the end of every earlier one. -/
def CalEng.floor (c : CalEng) (w : Window) : Mark :=
  (c.ends w).foldl (fun m e => if (m - e).toNat < 2 ^ 39 ∧ 64 ≤ (m - e).toNat then m else if (e - m).toNat < 2 ^ 39 ∨ (m - e).toNat < 64 then e + 64 else m) w.w

end Sys2Proof.Machine
end

