-- ==== Sys2Proof/Machine/Descriptors.lean ====
section
/-! DEFINITION. The descriptors of the plan as Summit processes them (R284 to R291, R312 to R328, R554): the checks of R287, and what each type then does. -/

namespace Sys2Proof.Machine

/-! ## Checks (R284 to R289) -/

/-- Version 1 is agreed (R291). -/
def State.v1 (s : State) : Bool := s.hri.agreed == 1

/-- A timed type (R288). -/
def timed (ty : Nat) : Bool := [1, 2, 3, 7, 8, 9, 10, 11, 12].contains ty

/-- The types that join commit sets (R177). -/
def commitTy (ty : Nat) : Bool := [1, 2, 3, 10, 11, 12].contains ty

/-- A number of the body. -/
def FbEntry.num (e : FbEntry) (k n : Nat) : Nat := field e.bytes k n

/-- A number lies between two others. -/
def between (lo hi x : Nat) : Bool := lo ≤ x && x ≤ hi

/-- The fields of the body of each type: offset, size, and whether the value is accepted (R289, R291). -/
def FbEntry.body (e : FbEntry) (v1 : Bool) : List (Nat × Nat × Bool) :=
  let dom := fun k => (k, 1, between 0 (if v1 then 3 else 7) (e.num k 1))
  match e.ty with
  | 1 => [dom 16, (17, 1, between 0 15 (e.num 17 1))]
  | 2 =>
    let after := if v1 then e.num 19 1 % 128 else e.num 19 1
    [dom 16, (17, 1, between 0 15 (e.num 17 1)), (18, 1, between 0 15 (e.num 18 1)), (19, 1, between 0 15 after || after == (if v1 then 127 else 255))] ++
      (List.range (if v1 then 8 else 16)).map fun i => (20 + i, 1, between 8 96 (e.num (20 + i) 1))
  | 3 => [dom 16, (17, 1, between 0 7 (e.num 17 1))]
  | 4 =>
    [(16, 2, between 0 32767 (e.num 16 2)), (18, 1, between 0 2 (e.num 18 1)), (20, 4, true), (24, 4, between 1 (2 ^ 24) (e.num 24 4))]
  | 5 => [(16, 2, between 0 32767 (e.num 16 2)), (18, 1, between 0 2 (e.num 18 1)), (19, 1, between 0 1 (e.num 19 1)), (20, 4, true)]
  | 7 => [(16, 4, between 2000 24000 (e.num 16 4)), (20, 1, between 60 105 (e.num 20 1)), (21, 1, between 0 3 (e.num 21 1))]
  | 8 =>
    [(16, 2, if v1 then between 2 64 (e.num 16 2) else between 24 96 (e.num 16 2)), (18, 4, between 500 60000 (e.num 18 4)), (22, 1, between 0 1 (e.num 22 1))]
  | 9 =>
    [(16, 1, between 0 2 (e.num 16 1)), (17, 1, if e.num 16 1 = 2 then between 2 3 (e.num 17 1) else between 0 5 (e.num 17 1))] ++
      (if e.num 16 1 = 2 then [(18, 2, between 0 (if e.num 17 1 = 3 then 759 else 424) (e.num 18 2))] else []) ++
      [(20, 4, between 1 (2 ^ 24) (e.num 20 4)), (24, 8, e.num 24 8 != 0 && e.num 24 8 % 64 == 0)]
  | 10 => [(16, 2, between 0 399 (e.num 16 2))]
  | 11 => [(16, 2, between 0 399 (e.num 16 2))]
  | 12 => [(16, 4, e.num 16 4 != 0), (19, 1, between 0 1 (e.num 19 1)), (20, 1, (dom 20).2.2)]
  | 13 => [(16, 1, true)]
  | _ => []

/-- The offsets of the body's failing bytes: fields out of range, and reserved bytes that are not 0. -/
def FbEntry.bodyBad (e : FbEntry) (v1 : Bool) : List Nat :=
  let fs := e.body v1
  (fs.filterMap fun f => if f.2.2 then none else some f.1) ++
    ((List.range (e.bytes.length - 16)).map (16 + ·)).filter fun k => !(fs.any fun f => f.1 ≤ k && k < f.1 + f.2.1) && e.num k 1 != 0

/-- Failing flags (R284, R291). -/
def FbEntry.flagsBad (e : FbEntry) (v1 : Bool) : List Nat :=
  if 8 ≤ e.byte 1 || (e.flag 0 && (v1 || !(e.ty == 1 || e.ty == 2))) || (e.flag 1 && !timed e.ty) then [1] else []

/-- Ring index `a` comes before `b` in ring order. -/
def ringBefore (a b : Nat) : Bool := decide ((b + 2 ^ 32 - a) % 2 ^ 32 < 2 ^ 31) && a != b

/-- The group open at ring index `i`: begun, and with no COND_END yet (R320). A group that a takeover takes up again is open from its COND_BEGIN to the COND_END that the former instance had found (R332). -/
def Plan.openGroup (p : Plan) (i : Nat) : Option Nat :=
  (List.range 4).find? fun k =>
    let g := p.group k
    g.st != .free && g.endIdx.isNone && ringBefore g.beginIdx i && g.lastEnd.all fun j => !ringBefore j i

/-- The types that may be members of a group (R320). -/
def memberTy (ty : Nat) : Bool := [1, 2, 3, 7, 10, 11, 12, 14].contains ty

/-- Failing bytes of the group rules (R320), or of the reserved header bytes of version 1 (R291). -/
def State.groupBad (s : State) (e : FbEntry) : List Nat :=
  if s.v1 then (if e.byte 2 = 0 then [] else [2]) ++ (if e.byte 3 = 0 then [] else [3])
  else if e.ty = 5 then
    (if e.group = 0 || (s.plan.openGroup e.idx).isSome || (List.range 4).any (fun k => (s.plan.group k).st != .free && (s.plan.group k).num == e.group) then [2] else [])
  else match s.plan.openGroup e.idx with
    | none => if e.group ≠ 0 || e.ty == 6 then [2] else []
    | some k =>
      if e.group ≠ (s.plan.group k).num then [2]
      else if e.ty = 6 then []
      else (if memberTy e.ty then [] else [0]) ++ (if e.flag 1 then [1] else []) ++ (if 32 ≤ (s.plan.group k).members then [2] else [])

/-- HRI_EVCFG.GRACE (R310). -/
def State.grace (s : State) : Nat := (s.word 0xD004C).bits 15 8

/-- The target check of a timed type (R286). -/
def State.targetBad (s : State) (e : FbEntry) : Option (Status × Nat) :=
  let d := Mark.dist e.target s.mark
  if !timed e.ty || e.flag 1 then none
  else if 2 ^ 24 ≤ d ∧ d < 2 ^ 39 then some (.descRange, 8)
  else if 2 ^ 39 ≤ d ∧ s.grace < Mark.dist s.mark e.target then some (.targetPassed, 0)
  else none

/-- The checks of R287 in their order: the status that refuses a descriptor, with the offset of its first failing byte. -/
def State.check (s : State) (e : FbEntry) : Option (Status × Nat) :=
  if e.ty = 0 ∨ 14 < e.ty then some (.descType, 0)
  else if s.v1 && (e.ty == 5 || e.ty == 6) then some (.versionBad, 0)
  else if e.seq.toNat ≠ s.plan.nextSeq then some (.seqBad, 0)
  else match e.flagsBad s.v1 ++ s.groupBad e ++ e.bodyBad s.v1 with
    | k :: ks => some (.descRange, ks.foldl min k)
    | [] => s.targetBad e

/-! ## Joining a commit set (R177, R180, R186, R286) -/

/-- The plan with a set under a new number, its descriptors' dispositions included (R313). -/
def Plan.renumber (p : Plan) (q q' : Seq) : Plan :=
  { p with
    sets := p.sets.map fun c => if c.seq = q then { c with seq := q' } else c
    buf := p.buf.map fun e => if e.set = some q then { e with set := some q' } else e }

/-- A descriptor joins a set: it becomes a member, a host set takes its number where it is not yet staged and holds no unresolved group (R177, R323), and a staged set is restaged at the next ridge tick 0 (R186). -/
def State.mergeInto (s : State) (c : CommitSet) (e : FbEntry) (late : Bool) (slot : Option Nat) : State :=
  let fixed : Bool := c.staged || !c.slots.isEmpty || c.kind != .host
  let own : Bool := !fixed && slot.isSome
  let q := if fixed then c.seq else if slot.isSome then s.plan.freshSeq else e.seq
  let p := (s.plan.modEntry e.idx fun x => { x with stage := .formed, set := some c.seq, late := late }).modSet c.seq fun x =>
    { x with members := x.members ++ [e.idx], slots := x.slots ++ (slot.toList.filter fun k => !x.slots.contains k), restage := x.staged, ready := s.mark + 1 }
  { s with plan := if own then (p.renumber c.seq q).tookSeq else p.renumber c.seq q }

/-- A new formed set for a descriptor, under its number, or under one of Summit's own where its group is unresolved (R323). -/
def State.formFor (s : State) (e : FbEntry) (target : Mark) (late : Bool) (slot : Option Nat) : State :=
  let q := if slot.isSome then s.plan.freshSeq else e.seq
  let p := (s.plan.modEntry e.idx fun x => { x with stage := .formed, set := some q, late := late })
  let p := { p with sets := p.sets ++ [CommitSet.form .host q target [e.idx] slot.toList s.fab (s.mark + 1)] }
  { s with plan := if slot.isSome then p.tookSeq else p }

/-- A set that can take a descriptor for a target: of the host's or of Summit's own (R186). -/
def CommitSet.takes (c : CommitSet) (m : Mark) : Bool := c.target == m && !c.applied && !c.isNull

/-- A commit type joins the set of its target (R177, R180, R186). -/
def State.joinSet (s : State) (e : FbEntry) (slot : Option Nat) : State :=
  let held := s.plan.sets.find? fun c => c.takes e.target && (c.staged || c.armed) && !e.flag 1 && Mark.ahead c.target s.mark
  match held with
  | some c =>
    if c.armed || Mark.dist c.target s.mark ≤ 3 then s.finish e .tooLate s.mark 0 (e.domain s.fab) false
    else s.mergeInto c e false slot
  | none =>
    let near : Bool := e.flag 1 || !Mark.ahead e.target s.mark || Mark.dist e.target s.mark < 5
    let t := if near then s.mark + 5 else e.target
    let late : Bool := near && !e.flag 1
    match s.plan.sets.find? fun c => c.takes t && !c.armed with
    | some c => s.mergeInto c e late slot
    | none => s.formFor e t late slot

/-- A domain is in use at a target, as the sets ahead and the maps still formed will leave it. -/
def State.inUseAt (s : State) (d : Nat) (target : Mark) : Bool :=
  (s.viewFor s.plan.freshSeq target).inUse d ||
    s.plan.sets.any fun c => notAfter c.target target && c.members.any fun i => (s.plan.entry i).any fun e => e.ty == 12 && e.byte 20 == d

/-- The earliest target of an action (R286, R290): its own where it lies ahead by `lead` marks or more, else `lead` marks ahead, late unless ASAP. -/
def State.actAt (s : State) (e : FbEntry) (lead : Nat) : Mark × Bool :=
  if e.flag 1 then (s.mark + BitVec.ofNat 40 lead, false)
  else if Mark.ahead e.target s.mark && decide (lead ≤ Mark.dist e.target s.mark) then (e.target, false)
  else (s.mark + BitVec.ofNat 40 lead, true)

/-- A descriptor that waits for its target without a commit set (R312). -/
def State.act (s : State) (e : FbEntry) (lead : Nat) (slot : Option Nat) : State :=
  let a := s.actAt e lead
  s.modPlan fun p =>
    { (p.modEntry e.idx fun x => { x with stage := .action, late := a.2 }) with
      actions := p.actions ++ [{ idx := e.idx, target := a.1, late := a.2, slot := slot }] }

/-- A SET_STEP, SET_LADDER or FORMAT_PHASE: of a domain not in use an action of its own (R554), else a member of a set. -/
def State.takeDomain (s : State) (e : FbEntry) (slot : Option Nat) : State :=
  let d := e.byte 16
  if s.inUseAt d (s.actAt e 1).1 then s.joinSet e slot
  else if e.flag 0 then s.finish e .ratioBad s.mark 0 d false
  else if e.ty == 2 && !s.v1 && !ladderOk (laddered false e [] (s.fab.dom d)).ladder (e.byte 17) (e.byte 18) then s.finish e .ladderRange s.mark 0 d false
  else s.act e 1 slot

/-! ## Processing (R315, R327) -/

/-- The descriptor at the head of processing. -/
def Plan.head (p : Plan) : Option FbEntry := p.buf.find? fun e => e.stage == .fetched

/-- Processing is not stalled, in ridge ticks 0 to 63 of a mark (R315, R319), and a Summit instance is active (R56) that has taken up the buffer (R331). -/
def State.processing (s : State) : Bool :=
  s.rdg.started && decide (s.tick < 64) && !s.role.resumeDue && s.ringsOn && !s.role.silent && !s.hri.stopped && s.plan.wait.isNone && decide (s.hri.held < 64) &&
    !(s.plan.resumeAt.any fun m => Mark.ahead m s.mark)

/-- A group slot is free for a COND_BEGIN at the head (R315). -/
def State.roomFor (s : State) (e : FbEntry) : Bool := e.ty != 5 || s.v1 || (List.range 4).any fun k => (s.plan.group k).st == .free

/-- The plan after a descriptor has been examined (R285, R306): the expected number follows its own, and the watchdog starts afresh. -/
def Plan.examined (p : Plan) (e : FbEntry) : Plan :=
  { p with nextSeq := (e.seq.toNat % 2 ^ 31 + 1) % 2 ^ 31, resumeAt := none }

/-- An accepted descriptor (R320, R327): a member is counted in its group, and where the group has resolved it is handled by the outcome. -/
def State.accept (s : State) (e : FbEntry) (h : State → FbEntry → Option Nat → State) : State :=
  match s.plan.openGroup e.idx with
  | none => h s e none
  | some k =>
    if s.v1 || e.ty == 6 then h s e none
    else
      let t := s.modPlan fun p =>
        (p.modGroup k fun g => { g with members := g.members + 1 }).modEntry e.idx fun x => { x with slot := some k }
      let e := { e with slot := some k }
      match (s.plan.group k).st with
      | .loses => (t.finish e .condDiscarded s.mark 0 (if commitTy e.ty then e.domain s.fab else 0) false).closeOut
      | .late => (t.finish e .condLate s.mark 0 (if commitTy e.ty then e.domain s.fab else 0) false).closeOut
      | .applies => h t e none
      | _ => h t e (some k)

/-- A refused descriptor completes as soon as it is checked (R287). -/
def State.refuse (s : State) (e : FbEntry) (st : Status) (k : Nat) : State :=
  (s.finish e st s.mark k (if commitTy e.ty then e.domain s.fab % 8 else 0) false).closeOut

/-- Processing of the descriptor at the head, where it is of one of the types `ty` (R287, R315). -/
def State.process (s : State) (ty : Nat → Bool) (h : State → FbEntry → Option Nat → State) : State :=
  match s.plan.head with
  | none => s
  | some e =>
    if !ty e.ty || !s.processing || !s.roomFor e then s
    else
      let t := s.modPlan fun p => p.examined e
      match s.check e with
      | some (st, k) => t.refuse e st k
      | none => t.accept e h

/-- A commit type's part after its checks: it joins its set. -/
def joins (s : State) (e : FbEntry) (slot : Option Nat) : State := (s.joinSet e slot).closeOut

/-- A domain type's part. -/
def joinsDomain (s : State) (e : FbEntry) (slot : Option Nat) : State := (s.takeDomain e slot).closeOut

/-- SET_STEP (R175, R177): a request for a domain, joining the set of its target mark. -/
def execSetStep (s : State) : Result := .next (s.process (· == 1) joinsDomain)

/-- SET_LADDER (R171, R177): a new ladder with named steps, joining the set of its target mark. -/
def execSetLadder (s : State) : Result := .next (s.process (· == 2) joinsDomain)

/-- FORMAT_PHASE (R177, R235): a format class, joining the set of its target mark. -/
def execFormatPhase (s : State) : Result := .next (s.process (· == 3) joinsDomain)

/-- FENCE (R124, R177): the fence operation of a region's Spur, joining the set of its target mark. -/
def execFence (s : State) : Result := .next (s.process (· == 10) joins)

/-- UNFENCE (R124, R290): a region under a fence that the block set on a fault completes with FAULT_FENCED; another joins the set of its target mark. -/
def execUnfence (s : State) : Result :=
  .next (s.process (· == 11) fun t e slot =>
    if (t.spur (t.driverSpur e.region)).gates.faultFence then (t.finish e .faultFenced t.mark 0 (e.domain t.fab) false).closeOut
    else joins t e slot)

/-- DOMAIN_MAP (R172, R177): fields move between domains, joining the set of its target mark. -/
def execDomainMap (s : State) : Result := .next (s.process (· == 12) joins)

/-- BUDGET (R290, R326): the budgets change at the target mark, or at the next where that has passed. -/
def execBudget (s : State) : Result := .next (s.process (· == 7) fun t e slot => t.act e 1 slot)

/-- MEASURE (R290, R398): it starts at its target mark, or at the next where that has passed. -/
def execMeasure (s : State) : Result := .next (s.process (· == 9) fun t e _ => t.act e 1 none)

/-- CAL_WINDOW (R290, R341, R365): at least 16 marks ahead. A schedule of native windows changes as it is processed, and the descriptor completes at its target. -/
def execCalWindow (s : State) : Result :=
  .next (s.process (· == 8) fun t e _ =>
    let u := t.act e 16 none
    if t.v1 then u else u.schedule (t.actAt e 16).1 (e.num 16 2) (e.num 18 4) (e.byte 22 == 1))

/-- WAIT_SYNC (R315, R319): it holds processing, and its object is watched from the next mark. -/
def execWaitSync (s : State) : Result :=
  .next (s.process (· == 4) fun t e _ => t.modPlan fun p =>
    { (p.modEntry e.idx fun x => { x with stage := .waiting }) with
      wait := some { idx := e.idx, obj := e.num 16 2, cond := e.num 18 1, value := BitVec.ofNat 32 (e.num 20 4), timeout := e.num 24 4,
                     since := t.mark + 1, last := 0, silent := 0, lateRaised := false } })

/-- COND_BEGIN (R320, R321): it opens a group in the first free slot. -/
def execCondBegin (s : State) : Result :=
  .next (s.process (· == 5) fun t e _ =>
    match (List.range 4).find? fun k => (t.plan.group k).st == .free with
    | none => t
    | some k => t.modPlan fun p =>
      (p.modEntry e.idx fun x => { x with stage := .waiting }).modGroup k fun _ =>
        { Group.free with
          st := .opened, num := e.group, obj := e.num 16 2, cond := e.num 18 1, value := BitVec.ofNat 32 (e.num 20 4)
          sense := e.byte 19 == 1, since := t.mark, beginIdx := e.idx })

/-- COND_END (R320, R328): it closes the open group, and completes once every member has. -/
def execCondEnd (s : State) : Result :=
  .next (s.process (· == 6) fun t e _ =>
    match t.plan.openGroup e.idx with
    | none => t
    | some k => (t.modPlan fun p =>
      (p.modEntry e.idx fun x => { x with stage := .waiting }).modGroup k fun g =>
        { g with endIdx := some e.idx, st := if g.st = .opened then .closed else g.st }).closeOut)

/-- MARKER (R290): it completes once every set that holds an earlier descriptor has ended. -/
def execMarker (s : State) : Result :=
  .next (s.process (· == 13) fun t e _ =>
    (t.modPlan fun p => { (p.modEntry e.idx fun x => { x with stage := .waiting }) with markers := p.markers ++ [e.idx] }).closeOut)

/-- NOP (R290, R326): it completes once checked, or with its group. -/
def execNop (s : State) : Result :=
  .next (s.process (· == 14) fun t e slot =>
    match slot with
    | some _ => t.modPlan fun p => p.modEntry e.idx fun x => { x with stage := .waiting }
    | none => (t.finish e .applied t.mark 0 0 false).closeOut)

/-- UNDEFINED_DESCRIPTOR (R288): a descriptor of an undefined type completes with DESC_TYPE. -/
def execUndefinedDescriptor (s : State) : Result := .next (s.process (fun ty => ty == 0 || decide (14 < ty)) fun t _ _ => t)

end Sys2Proof.Machine
end

