-- ==== Sys2Proof/Machine/Channels.lean ====
section
/-! DEFINITION. Lookout's measurements (R390 to R401, R407, R412): timestamps, arming, edges, the end of a measurement and its result; and the quality snapshot of R366. -/

namespace Sys2Proof.Machine

/-! ## Timestamps and time of day -/

/-- A timestamp in fine units, 1/256 of a root period (R392). -/
def fineOf (ts : BitVec 64) : Nat := 2560 * (ts.toNat / 2 ^ 12 % 2 ^ 48) + 256 * (ts.toNat / 2 ^ 8 % 16) + ts.toNat % 2 ^ 8

/-- The timestamp of a time in fine units (R392); the ridge count wraps. -/
def stampOf (v : Int) : BitVec 64 :=
  let n := (v % ((2560 * 2 ^ 48 : Nat) : Int)).toNat
  BitVec.ofNat 64 (n / 2560 * 2 ^ 12 + n % 2560 / 256 * 2 ^ 8 + n % 256)

/-- Fine units of the root in one mark. -/
def fineMark : Nat := 2560 * 256

/-- Time of day in units of 2^-32 ns. -/
def Tod.raw (t : Tod) : Int := ((t.secs * 1000000000 + t.ns) * 2 ^ 32 + t.sub : Nat)

/-- The time of day of a count of 2^-32 ns; seconds in 48 bits. -/
def Tod.ofRaw (v : Int) : Tod :=
  let n := (v % ((2 ^ 48 * 1000000000 * 2 ^ 32 : Nat) : Int)).toNat
  ⟨n / 2 ^ 32 / 1000000000, n / 2 ^ 32 % 1000000000, n % 2 ^ 32⟩

/-- The fraction of a nanosecond, 16 bits. -/
def Tod.frac (t : Tod) : Nat := t.sub / 2 ^ 16

/-- An interval of the block's time scale in time of day, at a rate of `a` 2^-16 ppm, `sl` ppm and `e` ppb (R402). -/
def atRate (v a sl e : Int) : Int := v * (65536000000 + a + 65536 * sl) * 1000000000 / (65536000000 * (1000000000 + e))

/-- Time of day of a timestamp (R405): from the snapshot of the last mark, at the rate in force. A fine unit is 2^-10 ns. -/
def State.todAt (s : State) (ts : BitVec 64) : Tod :=
  Tod.ofRaw (s.lko.snap.raw + atRate (((fineOf ts : Int) - fineMark * s.lko.snapMark.toNat) * 2 ^ 22) s.lko.rateA s.lko.rateS s.lko.rateE)

/-! ## Configuration of a channel (R412) -/

/-- LKO_CHc_CFG. -/
def State.chCfg (s : State) (c : Nat) : Word := s.word (chanAddr c 0)

/-- An edge has the polarity that POL asks for: 0 rising, 1 falling, 2 both. -/
def polOk (pol : Nat) (falling : Bool) : Bool := pol == 2 || (pol == 1) == falling

/-- The start channel of the paired measurement that claims a channel as its stop channel. -/
def State.claimer (s : State) (c : Nat) : Option Nat :=
  (List.range 6).find? fun k => (s.chan k).armed && (s.chan k).paired && (s.chan k).stopCh == c

/-- An edge is selected on a channel (R391, R396). -/
def State.selects (s : State) (c : Nat) (falling : Bool) : Bool :=
  ((s.chan c).armed && polOk ((s.chCfg c).bits 1 0) falling) ||
    (match s.claimer c with
     | some k => (s.chCfg k).bit 10 == falling
     | none => !(s.chan c).armed && (if c = 4 then !falling else polOk ((s.chCfg c).bits 1 0) falling))

/-- A raw code through Lookout's phase-width table in use, 1/256 LSB (R354, R393): the widths of as many phases, counted from the first, each 1 LSB more than its entry. That the phases are counted so: DEDUCED, notes/assumptions/86.md. -/
def Lookout.mapped (l : Lookout) (code : Nat) : Int := (List.range code).foldl (fun (a : Int) i => a + 256 + l.widths.getD (i % 32) 0) 0

/-- Scale and offset of a channel, 1/16 code (R393): of its last arm; the nominal ones of R394 for a background edge of a channel whose last arm gave none. DESIGN CHOICE, notes/assumptions/86.md. -/
def Channel.calibration (x : Channel) : Nat × Int := if x.calOk then (x.scale, x.offset) else (512, 64)

/-- The timestamp of an edge (R392, R393): the time of the second root edge after it, root period `root` of the present ridge tick, less the fine time that the raw code gives, rounded to 1/256 root period. -/
def State.stamp (s : State) (c root code : Nat) : BitVec 64 :=
  let k := (s.chan c).calibration
  stampOf (2560 * s.rdg.ridge.toNat + 256 * root - roundDiv (16 * (s.lko.mapped code - 16 * k.2)) k.1)

/-- The dead time in fine units (R391): the larger of 2.0 ns and the hold-off. -/
def State.deadTime (s : State) (c : Nat) : Nat := 256 * max 8 ((s.word (chanAddr c 4)).bits 15 0)

/-! ## The end of a measurement -/

/-- Results are traced (R356), this one included (R407). -/
def State.tracedFor (s : State) (x : Channel) : Bool := s.cal.traced && !x.untraced

/-- An interval in fine units published in 2^-16 ns, ε folded in where traced (R392). -/
def State.publish (s : State) (x : Channel) (v : Int) : Int :=
  if s.tracedFor x then roundDiv (v * 64 * 1000000000) (1000000000 + s.cal.refErr.getD 0).toNat else v * 64

/-- The flags of a result (R401). -/
def State.resFlags (s : State) (x : Channel) (timeout : Bool) : Nat :=
  flagsNat [s.tracedFor x, timeout && !x.freq, decide (0 < x.ties) && !x.freq, decide (0 < x.missed), x.heldSeen, decide (0 < x.strays) && !x.freq]

/-- A signed number in bytes. -/
def leInt (n : Nat) (v : Int) : List Byte := le n (twos (8 * n) v)

/-- The 64 bytes of a result of kind 0 (R401). -/
def State.result0 (s : State) (c : Nat) (x : Channel) (timeout : Bool) : List Byte :=
  le 1 0 ++ le 1 c ++ le 1 (if x.paired then 1 else 0) ++ le 1 (s.resFlags x timeout) ++ le 4 x.taken ++ le 8 x.firstTs.toNat ++ le 8 x.lastResTs.toNat ++
    le 6 x.firstTod.secs ++ le 4 x.firstTod.ns ++ le 2 x.firstTod.frac ++ leInt 8 (s.publish x x.minIv) ++ leInt 8 (s.publish x x.maxIv) ++
    leInt 8 (s.publish x x.sumIv) ++ le 2 (min 65535 x.strays) ++ le 2 (min 65535 x.ties)

/-- The 64 bytes of a result of kind 1 (R401). -/
def State.result1 (s : State) (c : Nat) (x : Channel) : List Byte :=
  let d := fineOf x.lastResTs - fineOf x.firstTs
  let f := if d = 0 then 0 else (x.taken * 2 ^ 26 * (if s.tracedFor x then (1000000000 + s.cal.refErr.getD 0).toNat else 1000000000)) / d
  let err : Int := if x.taken = 0 then 0 else roundDiv ((d : Int) * 1000000000) (x.taken * 102400) - 1000000000
  le 1 1 ++ le 1 c ++ le 1 0 ++ le 1 (s.resFlags x false) ++ le 4 x.taken ++ le 8 x.firstTs.toNat ++ le 8 x.lastResTs.toNat ++
    leInt 8 (s.publish x d) ++ le 8 f ++ (if c = 5 then leInt 4 err else le 4 0) ++ le 20 0

/-- A channel freed, with its stop channel (R412). -/
def State.freeChan (s : State) (c : Nat) : State :=
  let x := s.chan c
  let t := s.modChan c fun y => { y with armed := false, owner := .none }
  if x.paired ∧ x.stopCh ≠ c then t.modChan x.stopCh fun y => { y with owner := if y.owner = .claimed then .none else y.owner } else t

/-- A measurement ends (R398, R400): its result, the events of R409, and for a descriptor the 64 bytes in host memory and the completion, with the mark at which it started (R290, R296). -/
def State.endMeasure (s : State) (c : Nat) (timeout closed : Bool) : State :=
  let x := s.chan c
  if !x.armed then s
  else
    let ok : Bool := if x.freq then closed else decide (0 < x.taken)
    let res := if x.freq then s.result1 c x else s.result0 c x timeout
    let reason := if ok then 0 else 1
    let t := (s.freeChan c).modChan c fun y => { y with done := true, reason := reason, res := res, openTs := none, strayTs := none }
    let t := t.when (decide (0 < x.strays)) fun u => u.raise .strayStop 4 c (le 2 (min 65535 x.strays))
    let t := t.when (decide (0 < x.missed)) fun u => u.raise .edgeMissed 4 c (le 4 x.missed)
    match x.owner with
    | .descriptor i =>
      let u := t.send (.hostWrite x.addr res)
      ((u.plan.entry i).elim u fun e => u.finish e (if !ok then .measureErr else if e.late then .appliedLate else .applied) x.armMark reason 0 false).closeOut
    | _ => t.raise .measureDone 4 c (le 1 reason ++ le 4 x.taken)

/-! ## Arming -/

/-- Why an arm is refused (R399), in the order of R399: 2 BUSY, 5 CONFIG, 6 ABSENT, 4 NO_TIMER. -/
def State.armRefusal (s : State) (c : Nat) (freq : Bool) : Option Nat :=
  let w := s.chCfg c
  let paired := w.bit 8 && !freq
  let stop := w.bits 14 12
  let pol := w.bits 1 0
  if !s.chanQuiet c || (paired && stop != c && !s.chanQuiet stop) || (freq && (List.range 6).any fun k => (s.chan k).armed && (s.chan k).freq) then some 2
  else if (paired && (pol == 2 || (stop == c && (w.bit 10 == (pol == 1))))) || (freq && pol == 2) then some 5
  else if c = 5 ∧ !s.lko.calrefDeclared then some 6
  else if !s.lko.timerLock then some 4
  else none

/-- The scale that two readings give, 1/16 code (R393). -/
def calScale (r : Readings) : Int := 8 * ((r.two : Int) - r.one)

/-- The offset that they give, 1/16 code (R393). -/
def calOffset (r : Readings) : Int := 8 * (2 * (r.one : Int) - r.two)

/-- The calibration of an arm passes (R394). -/
def calPasses (r : Readings) : Bool :=
  decide (384 ≤ calScale r) && decide (calScale r ≤ 640) && decide (0 ≤ calOffset r) && decide (calOffset r ≤ 256)

/-- The figures that the calibration of a channel leaves (R393, R394, R412). -/
def Channel.calibrate (x : Channel) (r : Readings) : Channel :=
  { x with calOk := calPasses r, scale := twos 16 (calScale r), offset := calOffset r }

/-- A paired measurement with a stop channel of its own: that channel is calibrated too (R396, the example of R401). -/
def State.stopOf (s : State) (c : Nat) (freq : Bool) : Option Nat :=
  let w := s.chCfg c
  if w.bit 8 && !freq && w.bits 14 12 != c then some (w.bits 14 12) else none

/-- The calibration of the channels of an arm passes. -/
def State.armPasses (s : State) (c : Nat) (freq : Bool) (own stop : Readings) : Bool := calPasses own && ((s.stopOf c freq).isNone || calPasses stop)

/-- The channels of an arm with the figures of their calibration. -/
def State.calibrated (s : State) (c : Nat) (freq : Bool) (own stop : Readings) : State :=
  let t := s.modChan c fun x => x.calibrate own
  match s.stopOf c freq with
  | none => t
  | some k => t.modChan k fun x => x.calibrate stop

/-- A background gate or code density that an arm displaces (R407). -/
def State.displace (s : State) (c : Nat) (freq : Bool) : State :=
  let l := s.lko
  let gate : Bool := l.bgRef && (c == 5 || freq)
  { s with lko := { l with
    bgRef := l.bgRef && !gate, refSkip := if gate then l.refSkip + 1 else l.refSkip
    density := false, densAbort := if l.density then l.densAbort + 1 else l.densAbort } }

/-- A channel armed for a measurement (R393 to R398): one that fails its calibration, or whose stop channel does, gives reason 3. Arming takes 16 root periods. -/
def State.armChan (s : State) (c : Nat) (freq : Bool) (owner : Owner) (limit addr : Nat) (own stop : Readings) : Except Nat State :=
  match s.armRefusal c freq with
  | some r => .error r
  | none =>
    if !s.armPasses c freq own stop then .error 3
    else
      let w := s.chCfg c
      let t := ((s.displace c freq).calibrated c freq own stop).modChan c fun x => { x with
        armed := true, owner := owner, freq := freq, done := false, reason := 0, paired := w.bit 8 && !freq, stopCh := w.bits 14 12, readyAt := 2560 * s.rdg.ridge.toNat + 16 * 256, strayTs := none, count := w.bits 31 16, armMark := s.mark, limit := limit, edges := 0
        taken := 0, openTs := none, firstTs := 0, lastResTs := 0, firstTod := ⟨0, 0, 0⟩, minIv := 0, maxIv := 0, sumIv := 0, ties := 0
        strays := 0, missed := 0, heldSeen := s.todHeld, untraced := false, addr := addr }
      .ok (match s.stopOf c freq with
        | none => t
        | some k => t.modChan k fun x => { x with owner := .claimed })

/-- REGISTER_ARM (R398, R399): a write of 1 to LKO_CHc_CTRL.ARM, with the readings of the channel and of its stop channel. -/
def execRegisterArm (c : Fin 6) (own stop : Readings) (s : State) : Result :=
  .next (s.take (chanAddr c 0xC) 1#32 .rw fun t =>
    match t.armChan c false .register ((t.word (chanAddr c 8)).bits 24 0) 0 own stop with
    | .ok u => u
    | .error r =>
      if r = 2 then t.cfgEvent .cfgBusy (chanAddr c 0xC) 1#32
      else
        let u := if r = 3 then t.calibrated c false own stop else t
        (u.modChan c fun x => { x with done := true, reason := r, freq := false }).raise .measureDone 4 c (le 1 r ++ le 4 0))

/-- DISARM (R398): it ends a register-armed measurement with its result so far. -/
def execDisarm (c : Fin 6) (s : State) : Result :=
  .next (s.take (chanAddr c 0xC) 2#32 .rw fun t => if (t.chan c).owner = .register then t.endMeasure c false false else t)

/-- The limit of a measurement has passed (R397, R398): its timeout, or twice the gate of a frequency count. -/
def State.overtime (s : State) (x : Channel) : Bool := decide ((if x.freq then 2 * x.limit else x.limit) ≤ s.since x.armMark)

/-- MEASURE_TIMEOUT (R397, R398): at ridge tick 0 of the mark at which the limit has passed. -/
def execMeasureTimeout (c : Fin 6) (s : State) : Result :=
  .next (if s.atMark && (s.chan c).armed && s.overtime (s.chan c) then s.endMeasure c true false else s)

/-! ## Edges -/

/-- The intervals of a channel after one more (R401). -/
def Channel.interval (x : Channel) (v : Int) (first : Bool) : Channel :=
  { x with minIv := if first then v else min x.minIv v, maxIv := if first then v else max x.maxIv v, sumIv := x.sumIv + v }

/-- An edge of a free measurement (R395). -/
def State.freeEdge (s : State) (c : Nat) (ts : BitVec 64) : State :=
  let x := s.chan c
  let t := s.modChan c fun y =>
    let z := { y with edges := y.edges + 1, taken := y.taken + 1, lastResTs := ts }
    if y.taken = 0 then { z with firstTs := ts, firstTod := s.todAt ts } else z.interval ((fineOf ts : Int) - fineOf y.lastResTs) (y.taken == 1)
  if x.count ≤ x.taken + 1 then t.endMeasure c false false else t

/-- An edge of a frequency count (R397). -/
def State.freqEdge (s : State) (c : Nat) (ts : BitVec 64) : State :=
  let x := s.chan c
  if x.edges = 0 then s.modChan c fun y => { y with edges := 1, firstTs := ts, lastResTs := ts }
  else
    let t := s.modChan c fun y => { y with edges := y.edges + 1, taken := y.taken + 1, lastResTs := ts }
    if fineOf x.firstTs + x.limit * fineMark ≤ fineOf ts then t.endMeasure c false true else t

/-- A pair (R396). -/
def State.pair (s : State) (k : Nat) (start stop : BitVec 64) (iv : Int) (tie : Bool) : State :=
  let x := s.chan k
  let t := s.modChan k fun y =>
    let z := { y with
      edges := y.edges + 1, taken := y.taken + 1, openTs := none, lastResTs := stop, ties := if tie then y.ties + 1 else y.ties }
    (if y.taken = 0 then { z with firstTs := start, firstTod := s.todAt start } else z).interval iv (y.taken == 0)
  if x.count ≤ x.taken + 1 then t.endMeasure k false false else t

/-- A start edge of a paired measurement (R396): one within 1 LSB after a stop that found no start open makes a pair with it, which then was no stray. -/
def State.startEdge (s : State) (k : Nat) (ts : BitVec 64) : State :=
  match (s.chan k).strayTs with
  | some o =>
    if fineOf ts < fineOf o + 8 then (s.modChan k fun y => { y with strays := y.strays - 1, strayTs := none }).pair k ts o 0 true
    else s.modChan k fun y => { y with edges := y.edges + 1, openTs := some ts, strayTs := none }
  | none => s.modChan k fun y => { y with edges := y.edges + 1, openTs := some ts, missed := if y.openTs.isSome then y.missed + 1 else y.missed }

/-- A stop edge of a paired measurement (R396). -/
def State.stopEdge (s : State) (k : Nat) (ts : BitVec 64) : State :=
  let stray := s.modChan k fun y => { y with edges := y.edges + 1, strays := y.strays + 1, strayTs := if y.openTs.isNone then some ts else none }
  match (s.chan k).openTs with
  | none => stray
  | some o =>
    let iv := (fineOf ts : Int) - fineOf o
    if 8 ≤ iv then s.pair k o ts iv false else if -8 < iv then s.pair k o ts 0 true else stray

/-- A rising PPS_IN edge in the background (R406), which is skipped while channel 4 is armed (R407). -/
def State.ppsEdge (s : State) (ts : BitVec 64) : State :=
  if !(s.word 0x10050).bit 30 then s
  else if (s.chan 4).armed then { s with lko := { s.lko with ppsSkip := s.lko.ppsSkip + 1 } }
  else
    let t := { s with lko := { s.lko with pps := s.todAt ts, ppsCount := s.lko.ppsCount + 1, ppsMissing := false, ppsAt := some s.mark } }
    t.modChan 4 fun y => { y with lastTs := ts }

/-- An accepted edge fed to the measurement that takes it. -/
def State.feed (s : State) (c : Nat) (ts : BitVec 64) (falling : Bool) : State :=
  match s.claimer c with
  | some k => if k = c ∧ polOk ((s.chCfg c).bits 1 0) falling then s.startEdge c ts else s.stopEdge k ts
  | none =>
    let x := s.chan c
    if !x.armed then s else if x.freq then s.freqEdge c ts else if x.paired then s.startEdge c ts else s.freeEdge c ts

/-- The channel whose measurement takes the edges of a channel. -/
def State.taker (s : State) (c : Nat) : Option Nat := if (s.chan c).armed then some c else s.claimer c

/-- An edge of a channel comes while the measurement that takes it is being armed (R394). -/
def State.stillArming (s : State) (c : Nat) (ts : BitVec 64) : Bool := (s.taker c).any fun k => decide (fineOf ts < (s.chan k).readyAt)

/-- LOOKOUT_EDGE (R391 to R397, R406): an edge on a pin, with the time that its interpolator finds. Within the dead time an edge of either polarity is ignored and counted as missed, and so is one during arming. While the timer is not locked no edge is timestamped (R407), and one past the limit of its measurement is none of its edges (R398). -/
def execLookoutEdge (c : Fin 6) (time : EdgeTime) (falling : Bool) (s : State) : Result :=
  let x := s.chan c
  let ts := s.stamp c time.root time.code
  .next (if !s.lko.timerLock then s
    else if (x.lastTs != 0 && decide (fineOf ts < fineOf x.lastTs + s.deadTime c)) || s.stillArming c ts then
      (match s.taker c with
       | some k => s.modChan k fun y => { y with missed := y.missed + 1 }
       | none => s)
    else if (s.taker c).any fun k => s.overtime (s.chan k) then s
    else
      let t := if c.val = 4 ∧ !falling then s.ppsEdge ts else s
      if s.selects c falling then (t.modChan c fun y => { y with lastTs := ts }).feed c ts falling else t)

/-! ## Descriptors -/

/-- The DNL of a timer, 1/64 phase (R351), from its tap widths less 1 phase in 1/256 phase. -/
def dnlOf (widths : List Int) : Nat := (widths.foldl (fun m w => max m w.natAbs) 0) / 4

/-- Bit b for each filled bin b. -/
def filledBins {α : Type} (bins : List (Option α)) : Nat := flagsNat (bins.map Option.isSome)

/-- Twice the temperature of a Spur (R359), 1/16 degC: the sum of its two readings, or twice one alone where the other has failed (R446), or twice the override of R507. -/
def State.temp2Of (s : State) (n : Nat) : Int :=
  let c := (s.spur n).cal
  match s.sensOver n with
  | some v => 2 * v
  | none => if c.bad0 then 2 * c.s1 else if c.bad1 then 2 * c.s0 else c.s0 + c.s1

/-- The temperature of a Spur (R359), 1/16 degC. -/
def State.tempOf (s : State) (n : Nat) : Int := s.temp2Of n / 2

/-- Four times the temperature of a Saddle: the mean of its two regions' Spurs. -/
def State.sadTemp4 (s : State) (k : Nat) : Int := s.temp2Of (s.driverSpur (sadLow k)) + s.temp2Of (s.driverSpur (sadHigh k))

/-- The temperature of a Saddle, 1/16 degC. -/
def State.sadTemp (s : State) (k : Nat) : Int := s.sadTemp4 k / 4

/-- The tap widths that the DNL figures show (R366): in gap mode those of a completed item count at once. -/
def Cal.tapsShown (c : Cal) (gap : Bool) : List (List Int) :=
  if gap then c.results.foldl (fun l i => match i with | .timer q ws => setNth l q ws | _ => l) c.record.taps else c.record.taps

/-- The quality snapshot of a Spur (R366). -/
def State.spurSnap (s : State) (n : Nat) : List Byte :=
  let x := (s.spur n).cal
  le 2 n ++ le 1 2 ++ le 1 (flagsNat [x.record.traced, x.clamped, x.record.gap, (s.spur n).lim.cal.isSome]) ++ le 5 x.record.mark.toNat ++ le 1 x.lastBin ++
    leInt 2 (s.tempOf n) ++ leInt 2 x.ppm ++ le 2 x.gain ++ (x.resids.flatMap fun r => leInt 1 r) ++ ((x.tapsShown s.v1).flatMap fun w => le 1 (dnlOf w)) ++
    (x.trims.sens.flatMap fun v => leInt 1 v) ++ le 1 x.record.rejects ++ le 1 (filledBins x.record.bins) ++
    (x.record.bins.flatMap fun b => leInt 2 ((b.map SpurBin.tb).getD 0)) ++ le 20 0

/-- The quality snapshot of a Saddle (R366). -/
def State.sadSnap (s : State) (k : Nat) : List Byte :=
  let x := s.sad k
  le 2 k ++ le 1 3 ++ le 1 (flagsNat [x.traced, x.clamped]) ++ le 5 x.calMark.toNat ++ le 1 x.lastBin ++ leInt 2 (s.sadTemp k) ++ leInt 1 x.residPs ++
    le 1 x.dly ++ le 1 x.bdlyHi ++ le 1 x.bdlyLo ++ le 1 x.rejects ++ le 1 (filledBins x.bins) ++
    (x.bins.flatMap fun b => leInt 2 ((b.map SaddleBin.tb).getD 0)) ++ le 34 0

/-- The readings of an arm, as free values: the spec gives no rule for what they come out as. -/
def State.freeReadings (s : State) : Readings := ⟨s.free.toNat, s.tookFree.free.toNat⟩

/-- A MEASURE at its target mark (R290, R366, R398). The calibration readings of its arm are free values. -/
def State.runMeasure (s : State) (e : FbEntry) (late : Bool) : State :=
  let done : Status := if late then .appliedLate else .applied
  if e.byte 16 = 2 then
    let t := s.send (.hostWrite (e.num 24 8) (if e.byte 17 = 3 then s.sadSnap (e.num 18 2) else s.spurSnap (e.num 18 2)))
    t.finish e done s.mark 0 0 false
  else
    let own := s.freeReadings
    let t := s.tookFree.tookFree
    let stop := t.freeReadings
    let t := t.tookFree.tookFree
    match t.armChan (e.byte 17) (e.byte 16 == 1) (.descriptor e.idx) (e.num 20 4) (e.num 24 8) own stop with
    | .ok u => u
    | .error r => (if r = 3 then t.calibrated (e.byte 17) (e.byte 16 == 1) own stop else t).finish e .measureErr s.mark r 0 false

/-- Descriptor measurements disarmed (R407); their descriptors are completed by the caller. -/
def State.dropMeasures (s : State) : State :=
  s.each (List.range 6) fun t c =>
    match (t.chan c).owner with
    | .descriptor _ => t.freeChan c
    | _ => t

/-- TIMER_UNLOCK (R407): armed channels end with their results so far. -/
def execTimerUnlock (s : State) : Result :=
  let t := s.each (List.range 6) fun u c => u.endMeasure c false false
  .next (if !s.lko.timerLock then s else ({ t with lko := { t.lko with timerLock := false } }).raise .timerUnlock 4 0xFFFF [])

/-- TIMER_RELOCK (R408). -/
def execTimerRelock (s : State) : Result := .next { s with lko := { s.lko with timerLock := true } }

end Sys2Proof.Machine
end

