-- ==== Sys2Proof/Machine/Reference.lean ====
section
/-! DEFINITION. References, ridge count and spines (R62 to R98): loss and qualification of the inputs, switchover, holdover, the spines of a Col and its ridge counters. -/

namespace Sys2Proof.Machine

/-! ## Inputs and the root loop -/

/-- A reference input: false A, true B. -/
def Ridgeline.ref (r : Ridgeline) (b : Bool) : RefIn := if b then r.b else r.a

/-- Ridgeline with one input changed. -/
def Ridgeline.modRef (r : Ridgeline) (b : Bool) (f : RefIn → RefIn) : Ridgeline := if b then { r with b := f r.b } else { r with a := f r.a }

/-- The input that the root loop is locked to (R62). -/
def Ridgeline.selected (r : Ridgeline) : Option Bool :=
  match r.root with
  | .selA => some false
  | .selB => some true
  | _ => none

/-- The state with Ridgeline changed. -/
def State.modRdg (s : State) (f : Ridgeline → Ridgeline) : State := { s with rdg := f s.rdg }

/-- The index of an input as event source (R299). -/
def refIdx (b : Bool) : Nat := if b then 1 else 0

/-- The time base of Lookout (R402, R403): a change raises TOD_SOURCE. -/
def State.timeBase (s : State) (src : Nat) : State :=
  if s.lko.todSrc = src then s
  else ({ s with lko := { s.lko with
      todSrc := src
      ch := if src = 2 then bmap s.lko.ch fun _ c => if c.armed then { c with heldSeen := true } else c else s.lko.ch } }).raise .todSource 4 0xFFFF (le 1 src)

/-- The root loop locked to an input by steps 2 to 4 of R68: phase build-out, the fan-out on the input, the time base on it. Results of a native window in progress are untraced (R365). -/
def State.lockTo (s : State) (b : Bool) : State :=
  (({ s with
      rdg := { s.rdg with root := if b then .selB else .selA, lock := true, wordFrozen := false, fanHold := false, revertDue := false }
      cal := { s.cal with switched := s.cal.switched || s.cal.cur.isSome }
      lko := { s.lko with ch := bmap s.lko.ch fun _ c => if c.armed then { c with untraced := true } else c } }).timeBase (refIdx b))

/-- A switchover to an input, with REF_SWITCH (R68, R70, R71). The source index of REF_SWITCH, which no rule gives, is the input switched to. DESIGN CHOICE, notes/assumptions/76.md. -/
def State.switchTo (s : State) (b : Bool) : State := ((s.lockTo b).refFlag 3).raise .refSwitch 5 (refIdx b) []

/-- A set would leave some domain above its SAFE step (R74). -/
def CommitSet.aboveSafe (c : CommitSet) : Bool :=
  c.result.used.any fun d => decide ((c.result.dom d).fcode (c.result.dom d).safe < c.result.fcodeOf d)

/-- Staged sets that satisfy `p` and are not armed are cancelled (R74, R452): sets with descriptors return to the formed state, Summit's own without any are dropped. -/
def State.unstageSets (s : State) (p : CommitSet → Bool) : State :=
  s.each (s.plan.sets.filter fun c => c.staged && !c.armed && !c.applied && p c) fun t c =>
    if c.kind == .host || !c.members.isEmpty then t.unstage c else (t.unstage c).modPlan fun q => q.dropSet c.seq

/-- The first mark at which a native window may open after the loop has left HOLDOVER: the first one more than 2,048 marks after (R77). -/
def Ridgeline.calFrom (r : Ridgeline) : Option Mark := r.holdLeft.map (· + 2049)

/-- A window deferred to the first mark at which one may open (R77). -/
def Window.deferTo (w : Window) (m : Mark) : Window := if notAfter m w.w then w else { w with w := m }

/-- The native windows at holdover entry (R365): a fixed one that has not begun is cancelled, one in progress is void. -/
def State.holdWindows (s : State) : State :=
  let fixed : Bool := (s.cal.next.toList ++ s.cal.extras).any Window.fixed
  let t := { s with cal := { s.cal with
    next := s.cal.next.map fun (w : Window) => { w with fixed := false }
    extras := s.cal.extras.map fun (w : Window) => { w with fixed := false }
    voided := s.cal.voided || s.cal.cur.isSome } }
  let t := t.when fixed fun u => u.sendLane .cancelWindow
  match s.cal.cur with
  | some w => t.raise .calVoid 6 0xFFFF (le 5 w.w.toNat)
  | none => t

/-- HOLDOVER entered (R73, R74): the frequency word frozen, fan-out from root ÷ 40, time of day held over, the SAFE cap, staged raises cancelled. -/
def State.enterHoldover (s : State) : State :=
  let t := { s with rdg := { s.rdg with root := .holdover, lock := false, wordFrozen := true, fanHold := true, holdStart := s.mark, safeCap := true } }
  (((((t.timeBase 2).refFlag 5).raise .holdover 5 2 []).unstageSets CommitSet.aboveSafe).holdWindows).baseMoved

/-- HOLDOVER left for a qualified input (R76, R77). -/
def State.leaveHoldover (s : State) (b : Bool) : State :=
  let m := s.mark + 2049
  let t := (s.lockTo b).modRdg fun r => { r with holdLeft := some s.mark }
  let t := { t with cal := { t.cal with next := t.cal.next.map fun (w : Window) => w.deferTo m, extras := t.cal.extras.map fun (w : Window) => w.deferTo m } }
  ((t.raise .holdoverEnd 5 2 []).closeIncident 0 0).closeIncident 0 1

/-- The incident of a lost reference input (R434, R448). -/
def refIncident (b : Bool) : Incident := { cls := 0, sev := .corrected, ev := .refLost, unit := refIdx b }

/-- The start returns to stage 1 where REFCLK_A is lost before the start pulse (R492). -/
def State.backToStage1 (s : State) : State :=
  { s with boot := { s.boot with stage := 1 }, rdg := { s.rdg with lock := false } }

/-- An input loses its qualification for a cause of R68: with REF_LOST, and where it is selected with a switchover, or HOLDOVER where the other input is not qualified (R68, R73). In V2 the root loop is stopped (R48). -/
def State.refLose (s : State) (b : Bool) (cause : Nat) : State :=
  let x := s.rdg.ref b
  if !(x.declared && x.qual) then s
  else
    let t := (s.modRdg fun r => r.modRef b fun y => { y with qual := false }).raise .refLost 5 (refIdx b) (le 1 cause)
    if s.rdg.selected ≠ some b || s.boot.pst == .v2 || s.boot.pst == .v3 then t
    else if !s.rdg.started then (if 2 ≤ s.boot.stage ∧ b = false then t.backToStage1 else t)
    else if (s.rdg.ref !b).qual then ((t.incident (refIncident b)).switchTo !b).closeIncident 0 (refIdx b)
    else (t.incident (refIncident b)).enterHoldover

/-- REF_EDGE_LOSS (R64): no edge for 25 ns on an input. -/
def execRefEdgeLoss (b : Bool) (s : State) : Result :=
  let t := (s.modRdg fun r => r.modRef b fun x => { x with present := false, clean := false }).refFlag (refIdx b)
  let u := t.refLose b 0
  .next (if s.boot.pst = .v2 ∧ s.lko.todSrc = refIdx b then u.timeBase 2 else u)

/-- REF_EDGE_RETURN (R66): edges return; qualification needs a full gate from here. In V2 the time base returns to the selected input (R402). -/
def execRefEdgeReturn (b : Bool) (s : State) : Result :=
  let t := s.modRdg fun r => r.modRef b fun x => { x with present := true, absentRaised := false }
  .next (if s.boot.pst = .v2 ∧ s.rdg.selected = some b ∧ s.lko.todSrc = 2 then t.timeBase (refIdx b) else t)

/-- PREFER_B and REVERT of RDG_REFCFG (R91). -/
def State.prefersB (s : State) : Bool := (s.word 0x18000).bit 0

/-- REVERT (R70). -/
def State.reverts (s : State) : Bool := (s.word 0x18000).bit 1

/-- An input has qualified (R66): holdover ends, or the revertive switch falls due (R70, R76). -/
def State.qualified (s : State) (b : Bool) : State :=
  let t := s.modRdg fun r => r.modRef b fun x => { x with qual := true, absentRaised := false }
  if s.rdg.root = .holdover then t.leaveHoldover b
  else if s.reverts ∧ s.prefersB = b ∧ s.rdg.selected = some (!b) then t.modRdg fun r => { r with revertDue := true }
  else t

/-- A gate's count lies more than 39 counts from 131,072 (R65), or, in a gate that began before the oscillator trim was loaded, more than 3.5 % (R482). -/
def offFrequency (strict : Bool) (count : Nat) : Bool :=
  let d := if strict then 39 else 4587
  count + d < 131072 || 131072 + d < count

/-- FREQ_GATE (R65, R66, R67): a gate of an input ends with a count. A count beyond the 18 bits of RDG_GATE is held at their highest value, and a gate that was running when a table first declared its input raises REF_ABSENT at its end like any other. DESIGN CHOICE, notes/assumptions/77.md. -/
def execFreqGate (b : Bool) (count : Nat) (s : State) : Result :=
  let x := s.rdg.ref b
  let off := offFrequency x.strict count
  let t := s.modRdg fun r => r.modRef b fun y => { y with count := min count (2 ^ 18 - 1), valid := y.clean, clean := y.present, counts := y.declared, strict := s.lko.trimLoaded }
  let t := t.when off fun u => (u.refFlag 2).refLose b 1
  .next (if x.declared && count == 0 then
      (t.modRdg fun r => r.modRef b fun y => { y with absentRaised := true }).when (!x.absentRaised) fun u => u.raise .refAbsent 5 (refIdx b) []
    else if !off && x.clean && x.counts && x.declared && !x.qual then t.qualified b
    else t)

/-- ROOT_UNLOCK (R72): the selected input is treated as lost under R68. RDG_REFEVT shows it in UNLOCK alone: A_LOST and B_LOST record what the missing-edge detectors of R64 declare. DESIGN CHOICE, notes/assumptions/78.md. -/
def execRootUnlock (s : State) : Result :=
  .next (match s.rdg.selected with
    | none => s
    | some b =>
      if !(s.rdg.ref b).qual then s
      else
        let t := ((s.modRdg fun r => r.modRef b fun x => { x with counts := false }).refFlag 4).raise .rootUnlock 5 2 []
        t.refLose b 2)

/-- REVERT_SWITCH (R70, R90): at the first mark after the preferred input has qualified, or after a table has marked the selected one absent, the loop switches to the other. Where the other has lost its qualification since the table was accepted, the loop, which is never locked to an input that is not qualified (R66), enters HOLDOVER. DEDUCED, notes/assumptions/79.md. -/
def execRevertSwitch (s : State) : Result :=
  let t := s.modRdg fun r => { r with revertDue := false }
  .next (if !s.atMark || !s.rdg.revertDue then s
    else match s.rdg.selected with
    | none => t
    | some b =>
      if (s.rdg.ref !b).qual && ((s.reverts && s.prefersB == !b) || !(s.rdg.ref b).declared) then s.switchTo !b
      else if !(s.rdg.ref b).declared then (t.incident (refIncident b)).enterHoldover
      else t)

/-- REF_SWITCH_REQUEST (R71, R91): a request waits for the next mark; while a loss-driven switchover is in progress it is ignored. -/
def execRefSwitchRequest (s : State) : Result :=
  .next (s.take 0x18000 0x10#32 .rw fun t => t.modRdg fun r => { r with reqSwitch := true })

/-- REQUESTED_SWITCH (R71): at a mark, made where the other input is qualified, else REF_NOT_QUAL. In HOLDOVER or FAILED no input is selected and there is no other one: the request is dropped, with no event. DESIGN CHOICE, notes/assumptions/80.md. -/
def execRequestedSwitch (s : State) : Result :=
  let t := s.modRdg fun r => { r with reqSwitch := false }
  .next (if !s.atMark || !s.rdg.reqSwitch then s
    else match s.rdg.selected with
      | none => t
      | some b => if (s.rdg.ref !b).qual then t.switchTo !b else t.raise .refNotQual 5 (refIdx !b) [])

/-- SAFE_CAP_LIFT (R76): at the first mark after the loop reports lock. -/
def execSafeCapLift (s : State) : Result :=
  .next (if s.atMark ∧ s.rdg.safeCap ∧ s.rdg.lock then s.modRdg fun r => { r with safeCap := false } else s)

/-- HOLDOVER_EXPIRED (R75): 15,625 marks after the mark in which holdover began. -/
def execHoldoverExpired (s : State) : Result :=
  .next (if s.rdg.root = .holdover ∧ 15625 ≤ s.since s.rdg.holdStart then
      ((s.modRdg fun r => { r with root := .failed }).refFlag 6).raise .holdoverExpired 5 2 []
    else s)

/-! ## Spines (R78 to R81, R98) -/

/-- A spine is healthy at a Col: false A, true B. -/
def Col.ok (c : Col) (b : Bool) : Bool := if b then c.bOk else c.aOk

/-- A Col with the health of a spine changed; its marks without a fault count from 0. -/
def Col.setOk (c : Col) (b v : Bool) : Col := if b then { c with bOk := v, bRun := 0, bHit := !v } else { c with aOk := v, aRun := 0, aHit := !v }

/-- A Col as a mark ends: a faulty spine that has had no fault in it is one mark nearer to its recovery (R80). -/
def Col.endMark (c : Col) : Col :=
  { c with
    aRun := if c.aOk || c.aHit then 0 else c.aRun + 1, bRun := if c.bOk || c.bHit then 0 else c.bRun + 1, aHit := false, bHit := false
    beaconAge := min 255 (c.beaconAge + 1) }

/-- The first FATAL code of a Col's record (R533, R535). -/
def Col.record (c : Col) (code : Nat) (ridge summit drove : Bool) : Col :=
  { c with
    recValid := true, recCode := if c.recValid then c.recCode else code
    recRidge := c.recRidge || ridge, recSummit := c.recSummit || summit, recDrove := c.recDrove || drove }

/-- A FATAL code recorded at a Col (R533, R535); COL_EVSUM.VALID is set in this control cycle (R17). -/
def State.record (s : State) (f code : Nat) (ridge summit drove : Bool) : State :=
  (s.modCol f fun c => c.record code ridge summit drove).noteSet (colAddr f 0xC0) 31

/-- Both spines faulty at a Col (R81): its Spurs' loops freeze, and RIDGE_LOST. -/
def State.ridgeLost (s : State) (f : Nat) : State :=
  let t := s.each (fieldSpurs f) fun u n => u.modSpur n fun x =>
    if x.gen.loop = .failed then x else { x with gen := { x.gen with loop := .frozen } }
  (t.record f Ev.ridgeLost.code true false false).raise .ridgeLost 1 f []

/-- A spine becomes faulty at a Col (R80, R81). -/
def State.spineFails (s : State) (f : Nat) (b : Bool) : State :=
  let c := s.col f
  let t := s.modCol f fun x => x.setOk b false
  if !c.ok b then t
  else if !c.ok !b then t.ridgeLost f
  else if c.sel = b then (t.modCol f fun x => { x with switchDue := true }).raise .spineLost 1 f []
  else t

/-- SPINE_FAULT (R80): no ridge edge, parity errors in two consecutive marks, or a failed count check. -/
def execSpineFault (f : Fin 25) (b : Bool) (_cause : Fin 3) (s : State) : Result := .next (s.spineFails f b)

/-- SPINE_SWITCH (R79, R80, R98): at the next mark the Col takes the other spine, where it is healthy. -/
def execSpineSwitch (f : Fin 25) (s : State) : Result :=
  let c := s.col f
  let t := s.modCol f fun x => { x with switchDue := false, switchAsked := false }
  .next (if !s.atMark || !c.switchDue then s
    else if c.ok !c.sel then t.modCol f fun x => { x with sel := !c.sel }
    else if c.switchAsked then t.raise .spineNotOk 1 f []
    else t)

/-- SPINE_RECOVER (R80): 16 consecutive marks with no fault; not a spine that stays faulty until reset (R450). -/
def execSpineRecover (f : Fin 25) (b : Bool) (s : State) : Result :=
  .next (s.modCol f fun c =>
    if !c.ok b && decide (16 ≤ (if b then c.bRun else c.aRun)) && !(if b then c.bStuck else c.aStuck) then c.setOk b true else c)

/-- SPINE_REQUEST (R98): a request for the other spine at the next mark. -/
def execSpineRequest (f : Fin 25) (s : State) : Result :=
  .next (s.take (colAddr f 0x10) 0x10#32 .rw fun t => t.modCol f fun c => { c with switchDue := true, switchAsked := true })

/-! ## Ridge counters (R82 to R84) -/

/-- A counter passes the check of a beacon (R84). -/
def counterOk (m : Mark) (r : Ridge) : Bool := r.mark == m && r.tick == 12

/-- The ridge counter of a Col that spine A or spine B clocks (R82): the count of the start pulse on, and what it has gone wrong by. -/
def State.counter (s : State) (f : Nat) (b : Bool) : Ridge := s.rdg.ridge + (if b then (s.col f).errB else (s.col f).errA)

/-- A fault on one spine of a Col in this mark (R80). -/
def Col.hit (c : Col) (b : Bool) : Col := if b then { c with bHit := true } else { c with aHit := true }

/-- BEACON_ARRIVAL (R43, R78, R84): at ridge tick 12 the beacon of the mark arrives at a Col: its commander, the difference of the spines as it measured it, and the check of both counters against the mark number `m` that it carries, which a wrong beacon gets wrong for both. The active instance alone sends it. `driftA` and `driftB` tell what has come to be wrong in each counter since the last beacon, nothing in a sound one. Where both fail, the counters and the spines stay as they are (R84): notes/assumptions/10.md. -/
def execBeaconArrival (f : Fin 25) (m : Mark) (sender : Bool) (driftA driftB : Ridge) (skew : Int) (s : State) : Result :=
  let t := s.modCol f fun c => { c with commander := sender, beaconAge := 0, skew := skew, errA := c.errA + driftA, errB := c.errB + driftB }
  let okA := counterOk m (t.counter f false)
  let okB := counterOk m (t.counter f true)
  let bad := t.modCol f fun c => { c with mismatches := min 255 (c.mismatches + 1) }
  .next (if !s.rdg.started || s.tick != 12 || s.role.lastBeacon != some s.mark || sender != s.role.active || (s.col f).beaconAge == 0 then s
    else if okA && okB then t
    else if !okA && !okB then (bad.modCol f fun c => (c.hit false).hit true).raiseAs .ridgeMismatch .degraded 1 f []
    else ((bad.spineFails f (!okB)).modCol f fun c => if okA then { c with reloadB := true } else { c with reloadA := true }).raise .ridgeMismatch 1 f [])

/-- RIDGE_COUNTER_RELOAD (R84): at a mark a failed counter is loaded from that of the healthy spine. -/
def execRidgeCounterReload (f : Fin 25) (s : State) : Result :=
  .next (if !s.atMark then s
    else s.modCol f fun c =>
      let a := if c.reloadA && c.bOk then { c with errA := c.errB, reloadA := false } else c
      if a.reloadB && a.aOk then { a with errB := a.errA, reloadB := false } else a)

/-- RIDGE_COUNT_WRAP (R83): at the last tick of the last mark the ridge count is 0 again and EPOCH counts, saturating (R95); the beacon of mark 0 follows. -/
def execRidgeCountWrap (s : State) : Result :=
  .next (if s.rdg.started ∧ s.rdg.ridge = BitVec.allOnes 48 then s.modRdg fun r => { r with ridge := 0, epoch := min 0xFFFF (r.epoch + 1), tick0 := false } else s)

end Sys2Proof.Machine
end

