-- ==== Sys2Proof/Machine/Sync.lean ====
section
/-! DEFINITION. Synchronisation objects (R317 to R328): the reads of watched objects, the end of a wait, and the outcome of a conditional group. -/

namespace Sys2Proof.Machine

/-- A condition of a descriptor (R318): 0 equal, 1 not equal, 2 unsigned greater or equal. -/
def holds (cond : Nat) (read value : Word) : Bool :=
  if cond = 0 then read == value else if cond = 1 then read != value else decide (value.toNat ≤ read.toNat)

/-- A group whose outcome is still open. -/
def Group.unresolved (g : Group) : Bool := g.st == .opened || g.st == .closed

/-- A wait is watched from its first watched mark on (R319). -/
def State.waits (s : State) : Option Wait := s.plan.wait.filter fun w => notAfter w.since s.mark

/-- Group slot `k` is watched (R321): unresolved, and its COND_BEGIN processed in an earlier mark. -/
def State.watches (s : State) (k : Nat) : Bool := (s.plan.group k).unresolved && Mark.ahead s.mark (s.plan.group k).since

/-- The objects watched, each once (R317). -/
def State.watched (s : State) : List Nat :=
  (s.waits.toList.map Wait.obj ++ ((List.range 4).filter s.watches).map fun k => (s.plan.group k).obj).eraseDups

/-- SYNC_READ_LATE, once per watch (R317, R334): the object, and the watch. -/
def State.readLate (s : State) (obj watch : Nat) : State := s.raise .syncReadLate 0 s.summitIdx (le 2 obj ++ le 1 watch)

/-- The wait watched in a mark that has ended without a reading of its object (R317): the third in a row raises SYNC_READ_LATE, once. -/
def State.silentWait (s : State) (w : Wait) : State :=
  (s.modPlan fun p => { p with wait := some { w with silent := w.silent + 1, lateRaised := w.lateRaised || decide (3 ≤ w.silent + 1) } }).when
    (decide (3 ≤ w.silent + 1) && !w.lateRaised) fun u => u.readLate w.obj 0

/-- The same for the watch of group slot `k`. -/
def State.silentGroup (s : State) (k : Nat) : State :=
  let g := s.plan.group k
  (s.modPlan fun p => p.modGroup k fun x => { x with silent := g.silent + 1, lateRaised := x.lateRaised || decide (3 ≤ g.silent + 1) }).when
    (decide (3 ≤ g.silent + 1) && !g.lateRaised) fun u => u.readLate g.obj (k + 1)

/-- The end of a mark whose reads have left (R317): every watch whose object gave no reading in it counts one mark without. -/
def State.silentMarks (s : State) : State :=
  if s.plan.readMark ≠ some (s.mark - 1) then s
  else
    let un := s.plan.readSent
    let t := match s.plan.wait with
      | none => s
      | some w => if un.contains w.obj && Mark.ahead s.mark w.since then s.silentWait w else s
    (t.each (List.range 4) fun u k =>
      if (s.plan.group k).unresolved && un.contains (s.plan.group k).obj && Mark.ahead s.mark ((s.plan.group k).since + 1) then u.silentGroup k else u).modPlan
        fun p => { p with readSent := [] }

/-- SYNC_READ (R317): in ridge tick 16 of a mark the reads of the watched objects leave, once. -/
def execSyncRead (s : State) : Result :=
  .next (if s.role.silent || s.role.resumeDue || !s.rdg.started || s.tick != 16 || s.plan.readMark == some s.mark then s
    else (s.each s.watched fun u o => u.send (.syncRead o)).modPlan fun p => { p with readSent := s.watched, readMark := some s.mark })

/-! ## Groups -/

/-- T_e of a group (R325): the earliest target among the sets that hold its members, those of a raise series included; none where no member has joined a set. -/
def State.earliest (s : State) (k : Nat) : Option Mark :=
  (s.plan.sets.filter fun c => ((s.plan.find c.headSeq).getD c).slots.contains k).foldl
    (fun m c => match m with | none => some c.target | some t => some (if notAfter t c.target then t else c.target)) none

/-- A group's deadline mark (R325). -/
def State.deadline (s : State) (k : Nat) : Mark :=
  match s.earliest k with
  | none => (s.plan.group k).since + 65536
  | some t => t - 3

/-- The sets of a resolved group (R323, R325, R326): the slot is resolved in them, losing members leave, and a staged set is restaged; the series behind a head follows it. -/
def Plan.resolveSets (p : Plan) (k : Nat) (lost : List Nat) : Plan :=
  let hs := (p.sets.filter fun c => c.slots.contains k).map CommitSet.seq
  { p with
    sets := p.sets.map fun c =>
      if hs.contains c.headSeq then
        { c with slots := c.slots.filter (· != k), members := c.members.filter fun i => !lost.contains i, restage := c.restage || c.staged }
      else c }

/-- An action of a group that applies (R326): it takes effect at its target, or, where that has passed at the reading, at the mark after it. -/
def Action.released (a : Action) (k : Nat) (m : Mark) : Action :=
  if a.slot ≠ some k then a
  else if Mark.ahead a.target m then { a with slot := none } else { a with slot := none, target := m + 1, late := true }

/-- A group's outcome, of a reading or of its deadline (R321, R325). -/
def State.resolve (s : State) (k : Nat) (o : GroupState) (last : Word) : State :=
  s.modPlan fun p => p.modGroup k fun g => { g with st := o, mark := s.mark, last := last }

/-- What follows from a group's outcome, in the mark after the resolving reading or at the deadline (R325, R326, R328): the COND_BEGIN completes with the mark of the reading or the deadline; the members of a group that applies stay in their sets, which are restaged, with NOPs completing; every member of another completes. -/
def State.settleGroup (s : State) (k : Nat) : State :=
  let g := s.plan.group k
  let ms := (s.plan.openMembers k).filter fun e => !s.plan.sets.any fun c => c.final && c.members.contains e.idx
  let lost := if g.st = .applies then [] else ms
  let t := (s.plan.entry g.beginIdx).elim s fun e => if e.stage = .done then s else s.finish e g.st.status g.mark 0 0 false
  let t := t.modPlan fun p => (p.modGroup k fun x => { x with settled := true }).resolveSets k (lost.map FbEntry.idx)
  let t := t.modPlan fun p => { p with
    actions := if g.st = .applies then p.actions.map fun a => a.released k g.mark else p.actions.filter fun a => a.slot != some k }
  let t := t.each (ms.filter fun e => g.st == .applies && e.ty == 14) fun u e => u.finish e .applied g.mark 0 0 false
  (t.each lost fun u e => u.finish e g.st.status s.mark 0 (if e.ty = 7 ∨ e.ty = 14 then 0 else e.domain s.fab) false).closeOut

/-- The groups that a reading of an earlier mark has resolved (R326). -/
def State.settleGroups (s : State) : State :=
  s.each (List.range 4) fun t k =>
    let g := t.plan.group k
    if g.st.resolved && !g.settled && Mark.ahead t.mark g.mark then t.settleGroup k else t

/-- A reading of a watched object for a group (R321, R325): posted, it resolves the group unless the deadline has come. -/
def State.readGroup (s : State) (obj : Nat) (v : Word) (k : Nat) : State :=
  let g := s.plan.group k
  if !s.watches k || g.obj != obj || notAfter (s.deadline k) s.mark then s
  else if !v.bit 31 then s.modPlan fun p => p.modGroup k fun x => { x with last := v, silent := 0 }
  else s.resolve k (if holds g.cond v g.value != g.sense then .applies else .loses) v

/-- The timeout of a wait, counted in marks from the first watched one, has run out (R319). -/
def State.timedOut (s : State) (w : Wait) : Bool := notAfter (w.since + BitVec.ofNat 40 w.timeout) s.mark

/-- A reading of a watched object for the wait at the head of processing, within its timeout (R319). -/
def State.readWait (s : State) (obj : Nat) (v : Word) : State :=
  match s.waits with
  | none => s
  | some w =>
    if w.obj ≠ obj ∨ s.timedOut w then s
    else if holds w.cond v w.value then
      (((s.plan.entry w.idx).elim s fun e => s.finish e .applied s.mark 0 0 false).modPlan fun p =>
        { p with wait := none, resumeAt := some (s.mark + 1) }).closeOut
    else s.modPlan fun p => { p with wait := some { w with last := v, silent := 0 } }

/-- SYNC_REPLY (R317, R321): a reply counts where its read left in this mark and it arrives by ridge tick 192. -/
def execSyncReply (obj : Nat) (value : Word) (s : State) : Result :=
  .next (if s.role.silent || !s.plan.readSent.contains obj || s.plan.readMark != some s.mark || decide (192 < s.tick) then s
    else
      let t := s.modPlan fun p => { p with readSent := p.readSent.filter (· != obj) }
      (t.readWait obj value).each (List.range 4) fun u k => u.readGroup obj value k)

/-- WAIT_TIMEOUT (R319, R334): no reading has satisfied the wait within its timeout; processing resumes at the next mark. -/
def execWaitTimeout (s : State) : Result :=
  .next (match s.plan.wait with
    | none => s
    | some w =>
      if s.role.silent || s.role.resumeDue || !s.timedOut w then s
      else
        let q := ((s.plan.entry w.idx).map FbEntry.seq).getD 0
        let t := (s.plan.entry w.idx).elim s fun e => s.finish e .waitTimeout s.mark 0 0 false
        ((t.modPlan fun p => { p with wait := none, resumeAt := some (s.mark + 1) }).raise .waitTimeout 0 s.summitIdx
          (le 4 q.toNat ++ le 2 w.obj ++ le 2 0 ++ le 4 w.last.toNat)).closeOut)

/-- GROUP_DEADLINE (R325): at its deadline, ridge tick 0 of T_e − 3, an unresolved group is skipped whole with COND_LATE. -/
def execGroupDeadline (slot : Fin 4) (s : State) : Result :=
  let g := s.plan.group slot
  .next (if s.role.silent || s.role.resumeDue || !s.atMark || !g.unresolved || !notAfter (s.deadline slot) s.mark then s
    else ((s.resolve slot .late g.last).settleGroup slot).raise .condLate 0 s.summitIdx
      (le 2 g.num ++ le 2 g.obj ++ le 4 g.last.toNat ++ le 5 (s.deadline slot).toNat))

end Sys2Proof.Machine
end

