-- ==== Sys2Proof/Machine/Calibration.lean ====
section
/-! DEFINITION. Calibration and trimming (R340 to R370): native windows, their results, the bins, the recomputation, gap mode, traceability and the sensors. -/

namespace Sys2Proof.Machine

/-! ## DCO codes (R106, R348) -/

/-- BAND of a DCO code. -/
def codeBand (c : BitVec 16) : Nat := c.toNat / 1024

/-- FINE of a DCO code. -/
def codeFine (c : BitVec 16) : Nat := c.toNat % 1024

/-- The code with a BAND and a FINE. -/
def mkCode (band fine : Nat) : BitVec 16 := BitVec.ofNat 16 (band % 64 * 1024 + fine % 1024)

/-- A code with a new FINE inside its BAND, or none where it falls outside 102 to 921 (R348). -/
def refine (c : BitVec 16) (fine : Int) : Option (BitVec 16) := if 102 ≤ fine ∧ fine ≤ 921 then some (mkCode (codeBand c) fine.toNat) else none

/-- The code at which an entry is measured next where its corrected FINE is out of range: BAND ± 1, FINE 512 (R348). -/
def retryCode (c : BitVec 16) (fine : Int) : BitVec 16 := mkCode (if 921 < fine then codeBand c + 1 else codeBand c - 1) 512

/-- The codes of one bin are in order (R357): BAND never decreases with FCODE, and FINE rises strictly within one BAND. -/
def codesRise : List (BitVec 16) → Bool
  | a :: b :: r => (decide (codeBand a < codeBand b) || (codeBand a == codeBand b && decide (codeFine a < codeFine b))) && codesRise (b :: r)
  | _ => true

/-! ## Which units take part -/

/-- A Spur delivers no results (R365, R508): failed, under test, or with its temperatures overridden. -/
def State.noResults (s : State) (n : Nat) : Bool := (s.spur n).gates.failed || s.underTest n || (s.sensOver n).isSome

/-- Gap mode is in force (R363). -/
def State.gapMode (s : State) : Bool := s.hri.agreed == 1 && (s.word 0xA0000).bit 1

/-- The engine's events carry source kind 6 (R367). -/
def unitIdx : CalUnit → Nat
  | .spur n => n
  | .saddle k => 0x200 + k
  | .lookout => 0x800

/-- The bin of a temperature in 1/16 degC (R359), none below 15 degC or from 110 degC on. -/
def binOf (t : Int) : Option Nat :=
  if t < 240 ∨ 1760 ≤ t then none
  else if t < 560 then some 0 else if t < 800 then some 1 else if t < 1040 then some 2 else if t < 1280 then some 3 else if t < 1520 then some 4 else some 5

/-- A save asked for by the engine (R362); an unusable device takes none (R371). -/
def State.askSave (s : State) : State :=
  if s.crn.unusable then s else { s with crn := { s.crn with pending := true }, cal := { s.cal with sinceSave := 0 } }

/-! ## Fixing a window (R341 to R343) -/

/-- The windows not yet fixed. -/
def CalEng.unfixed (c : CalEng) : List Window := (c.next.toList ++ c.extras).filter fun w => !w.fixed

/-- The earliest window that falls due by the mark 16 ahead. -/
def State.windowDue (s : State) : Option Window :=
  (s.cal.unfixed.filter fun w => notAfter w.w (s.mark + 16)).foldl
    (fun b w => match b with | none => some w | some x => if notAfter x.w w.w then some x else some w) none

/-- One window of the schedule replaced. -/
def CalEng.replace (c : CalEng) (w x : Window) : CalEng :=
  { c with next := c.next.map fun (y : Window) => if y = w then x else y, extras := replaceFirst (fun y => y == w && !c.next.any (· == w)) x c.extras }

/-- A staged set not armed whose target lies in a window that begins at a mark (R186). -/
def CommitSet.inWindow (c : CommitSet) (w : Mark) (n : Nat) : Bool :=
  c.staged && !c.armed && !c.applied && !c.isNull && decide (Mark.dist c.target w < n)

/-- WINDOW_COMMAND (R343): at ridge tick 0 of W − 16 a window is fixed and the window command sent; staged sets inside it move past it, one mark later each (R181, R186). A window too near an earlier one or to the end of holdover moves (R77, R341). -/
def execWindowCommand (s : State) : Result :=
  .next (match s.windowDue with
    | none => s
    | some w =>
      if !s.atMark || !s.nativeOk || s.role.silent || s.boot.pst != .v0 || s.rdg.root == .holdover then s
      else
        let near := s.mark + 16
        let w1 : Window := { w with w := near }
        let w2 := match s.rdg.calFrom with | none => w1 | some m => w1.deferTo m
        let w3 := s.cal.floor { w2 with fixed := true }
        if w3 ≠ near then { s with cal := s.cal.replace w { w2 with w := w3 } }
        else
          let t := ({ s with cal := s.cal.replace w { w1 with fixed := true } }).sendLane (.window near w.n)
          let after := near + BitVec.ofNat 40 w.n
          let hit := t.plan.sets.filter fun c => c.inWindow near w.n
          (t.each hit fun u c =>
            let v := u.raise .calDeferred 0 u.summitIdx []
            if (v.plan.find c.seq).any fun x => x.inWindow near w.n then v.retarget c.seq after else v).resend)

/-- A Spur whose own tally does not carry it into or out of a window at a mark: it has begun that mark already, or it clocks no region. -/
def State.atWindow (s : State) (n : Nat) (m : Mark) : Bool := (s.spur n).gen.tallyMark == m || !s.drives n

/-- CAL_WINDOW_OPEN (R344): ridge tick 0 of the first mark of a fixed window; a periodic one sets the next (R341, R342, R365). Each Spur closes its leaf gates at the first cycle of its own tally mark W. -/
def execCalWindowOpen (s : State) : Result :=
  .next (match (s.cal.next.toList ++ s.cal.extras).find? fun w => s.atMark && w.fixed && w.w == s.mark with
    | none => s
    | some w =>
      let periodic : Bool := s.cal.next.any (· == w)
      let later : Option Window :=
        if s.nativeOk then some (s.cal.queued.getD (s.cal.periodic (w.w + BitVec.ofNat 40 (intervalMarks s.cal.interval)))) else none
      let t := (s.mapSpurs fun n x => if s.atWindow n w.w then x.openWindow else x).mapSads fun _ x => { x with results := [], rejected := false }
      { t with cal := { s.cal with
          cur := some w, voided := false, switched := false, odd := s.cal.windows.getLsbD 0, phase := 0, lateAt := none
          next := if periodic then later else s.cal.next, queued := if periodic then none else s.cal.queued
          prev := if periodic then some w.w else s.cal.prev
          extras := s.cal.extras.filter fun (x : Window) => !(x.fixed && x.w == w.w) } })

/-! ## Measurements -/

/-- The entry that an excursion measures next: the marked ones first, then the one under the pointer; with the code it is driven at (R347, R348). -/
def Cal.due (c : Cal) : Nat × BitVec 16 :=
  match c.marked with
  | (f, some v) :: _ => (f, v)
  | (f, none) :: _ => (f, entryOf c.trims.codes f)
  | [] => (c.pointer, entryOf c.trims.codes c.pointer)

/-- The list of entries to measure after one has been measured. -/
def Cal.measured (c : Cal) : Cal :=
  match c.marked with
  | _ :: r => { c with marked := r }
  | [] => { c with pointer := if c.pointer < 96 then c.pointer + 1 else 8 }

/-- The DCO gain in use for a correction: of this window where it has been measured, else of the last accepted measurement. -/
def Cal.gainNow (c : Cal) : Nat := (c.results.findSome? fun i => match i with | .gain v => some v | _ => none).getD c.gain

/-- An excursion's result (R347, R348). -/
def Cal.excursion (c : Cal) (r : Excursion) : Cal :=
  match r with
  | .gain lo hi => { c with results := c.results ++ [.gain (if lo = 0 then 0 else (roundDiv (((hi : Int) - lo) * 10000000) (256 * lo)).toNat)] }
  | .entry hz =>
    let f := c.due.1
    let code := c.due.2
    let fine : Int := codeFine code + (if hz = 0 ∨ c.gainNow = 0 then 0 else roundDiv (((f * 25000000 : Nat) - (hz : Int)) * 10000000) (hz * c.gainNow))
    let d := { c.measured with heldCode := c.heldCode }
    match refine code fine with
    | some v => { d with results := d.results ++ [.code f v] }
    | none => { d with retry := d.retry ++ [(f, some (retryCode code fine))] }

/-- The code that an excursion drives the ring at, at its end (R347). -/
def Cal.driven (c : Cal) (code : BitVec 16) (r : Excursion) : BitVec 16 :=
  match r with
  | .gain _ _ => (c.heldCode.getD code) + 128
  | .entry _ => c.due.2

/-- The excursion slot that ends in the present mark: slot k takes marks W + 12 + 5k to W + 16 + 5k, and none passes W + N − 14 (R344, R347). -/
def State.slotEnds (s : State) (k : Nat) : Bool := s.calBetween (fun _ => 16 + 5 * k) fun w => min (16 + 5 * k) (w.n - 14)

/-- An excursion is the one of its slot: the gain in slot 0, an entry in each later one (R347). -/
def fitsSlot (r : Excursion) (k : Nat) : Bool :=
  match r with
  | .gain _ _ => k == 0
  | .entry _ => k != 0

/-- CAL_EXCURSION (R347): one slot of a Spur's open-loop excursions, in its last mark. -/
def execCalExcursion (n : Fin 425) (r : Excursion) (s : State) : Result :=
  .next (if (s.spur n).gates.failed || s.underTest n || !s.slotEnds (s.spur n).cal.slot || !fitsSlot r (s.spur n).cal.slot then s
    else s.modSpur n fun x =>
      { x with
        gen := { x.gen with dcoCode := x.cal.driven x.gen.dcoCode r }
        cal := { x.cal.excursion r with heldCode := some (x.cal.heldCode.getD x.gen.dcoCode), slot := x.cal.slot + 1 } })

/-- The present mark lies `k` marks before the end of the window in progress (R344). -/
def State.calLeft (s : State) (k : Nat) : Bool := s.calBetween (fun w => w.n - k) fun w => w.n - k

/-- CAL_LOOP_RESTORE (R344): at W + N − 13 the rings return to their codes and the loops acquire. -/
def execCalLoopRestore (s : State) : Result :=
  .next (if !s.calLeft 13 || s.cal.phase != 0 then s
    else
      let t := { s with cal := { s.cal with phase := 1 } }
      t.mapSpurs fun n x =>
        if x.gates.failed || s.underTest n || x.gen.loop == .failed || x.gen.loop == .frozen then x
        else
          { x with
            gen := { x.gen.drive (x.cal.heldCode.getD x.gen.dcoCode) with loop := .acquire, acqMark := s.mark, lockRun := 0, lossRun := 0 }
            cal := { x.cal with heldCode := none } })

/-! ## Plausibility (R357, R358) -/

/-- The item code of R367 and the value of a result that fails R357; none where it passes. DCO codes are judged together. -/
def itemFault (old : Saddle) (i : CalItem) : Option (Nat × Int) :=
  let line : Int → Option (Nat × Int) := fun v => if 26 ≤ v ∧ v ≤ 229 then none else some (3, v)
  match i with
  | .gain v => if 650 ≤ v ∧ v ≤ 1350 then none else some (1, v)
  | .code _ _ => none
  | .detector _ raw _ _ _ => if -96 ≤ raw ∧ raw ≤ 96 then none else some (4, raw)
  | .monitor _ v => line v
  | .timer _ ws => if ws.all fun w => decide (-76 ≤ w ∧ w ≤ 76) then none else some (5, (ws.foldl (fun (m : Nat) w => max m w.natAbs) 0 : Nat))
  | .sensor _ v => if -24 ≤ v ∧ v ≤ 24 then none else some (6, v)
  | .skew ps _ => line (old.dly - roundDiv ps 2)
  | .borrow _ v => line v

/-- CAL_REJECT (R358, R367). -/
def State.calReject (s : State) (u : CalUnit) (item : Nat) (v : Int) (count : Nat) : State :=
  ({ s with cal := { s.cal with rejects := s.cal.rejects + 1 } }).raiseAs .calReject (if 3 ≤ count then .degraded else .corrected) 6 (unitIdx u)
    (le 1 item ++ le 3 0 ++ leInt 4 v ++ le 1 count)

/-- The temperature to which a Spur's results of the window belong: that at W + 2 (R359). -/
def State.resultTemp (s : State) (n : Nat) : Int := (s.spur n).cal.winTemp.getD (s.tempOf n)

/-- A Saddle's. -/
def State.sadResultTemp (s : State) (k : Nat) : Int := (s.resultTemp (s.driverSpur (sadLow k)) + s.resultTemp (s.driverSpur (sadHigh k))) / 2

/-- The values in force as a bin at a temperature: what an unfilled bin starts from. -/
def Cal.asBin (c : Cal) (tb : Int) : SpurBin := { tb := tb, gain := c.gain, codes := c.trims.codes, offs := c.trims.offs, thr := c.trims.thr, mon := c.trims.mon }

/-- The bin of a Spur's record that results go to, as it stands. -/
def Cal.binAt (c : Cal) (b : Nat) (tb : Int) : SpurBin := (c.record.bins.getD b none).getD (c.asBin tb)

/-- The codes of a bin after the shift that the FCODE in force shows, with the measured entries written; and the entries that the shift took out of range (R348, R359). -/
def newCodes (codes : List (BitVec 16)) (inForce : Nat) (items : List CalItem) : List (BitVec 16) × List (Nat × Option (BitVec 16)) :=
  let shift : Int := match items.findSome? fun i => match i with | .code f v => if f = inForce then some v else none | _ => none with
    | some v => (codeFine v : Int) - codeFine (entryOf codes inForce)
    | none => 0
  let moved := codes.map fun c => (refine c (codeFine c + shift)).getD c
  let lost := ((List.range 89).filter fun i => shift != 0 && (refine (codes.getD i 0) (codeFine (codes.getD i 0) + shift)).isNone).map fun i =>
    (i + 8, some (retryCode (codes.getD i 0) (codeFine (codes.getD i 0) + shift)))
  (items.foldl (fun l i => match i with | .code f v => setNth l (f - 8) v | _ => l) moved, lost)

/-- The first entry that breaks the order of R357. -/
def firstFall : List (BitVec 16) → Nat
  | a :: b :: r => if codesRise [a, b] then firstFall (b :: r) else b.toNat
  | _ => 0

/-- One Spur's results judged. -/
def State.judgeSpur (s : State) (n : Nat) (items : List CalItem) : State :=
  let x := (s.spur n).cal
  let count := x.record.rejects + 1
  let bad := items.filterMap fun i => itemFault Saddle.reset i
  let tb := s.resultTemp n
  let codes := (newCodes (x.binAt ((binOf tb).getD 6) tb).codes (s.spur n).gen.fcode items).1
  let fall : Bool := items.any (fun i => match i with | .code _ _ => true | _ => false) && !codesRise codes
  let good := items.filter fun i => (itemFault Saddle.reset i).isNone && !(fall && (match i with | .code _ _ => true | _ => false))
  let t := s.each (if fall then bad ++ [(2, (firstFall codes : Int))] else bad) fun u p => u.calReject (.spur (Fin.ofNat 425 n)) p.1 p.2 count
  t.modSpur n fun y => { y with cal := { y.cal with results := good, rejected := fall || !bad.isEmpty } }

/-- One Saddle's results judged. -/
def State.judgeSaddle (s : State) (k : Nat) (items : List CalItem) : State :=
  let x := s.sad k
  let t := s.each (items.filterMap fun i => itemFault x i) fun u p => u.calReject (.saddle (Fin.ofNat 760 k)) p.1 p.2 (x.rejects + 1)
  t.modSad k fun y => { y with results := items.filter fun i => (itemFault x i).isNone, rejected := items.any fun i => (itemFault x i).isSome }

/-- The items that a batch of results holds for one unit. -/
def itemsOf (rs : List CalResult) (u : CalUnit) : List CalItem := (rs.filter fun r => r.unit == u).map CalResult.item

/-- A Saddle's results that the window measures (R353): a borrow path only of an inner Saddle, toward the higher region in an even window, toward the lower in an odd one. -/
def sadTimed (odd : Bool) (k : Nat) (i : CalItem) : Bool :=
  match i with
  | .borrow toHigher _ => !sadSeam k && toHigher != odd
  | _ => true

/-- The code that a Spur's loop gave for the FCODE in force: its integrator's average over 32 comparisons, rounded (R347). -/
def Spur.loopCode (x : Spur) : List CalItem :=
  if x.cal.cntInteg = 0 then [] else [.code x.gen.fcode (BitVec.ofNat 16 (roundDiv x.cal.sumInteg (64 * x.cal.cntInteg)).toNat)]

/-- A result that a window brings from outside: no DCO code and no gain, which the loop and the excursions give. -/
def brought (i : CalItem) : Bool :=
  match i with
  | .gain _ => false
  | .code _ _ => false
  | _ => true

/-- The engine judges the results of a window now: in W + N − 2, or, after a takeover in the last two marks, in the second mark after it (R365). -/
def State.judges (s : State) : Bool :=
  !s.role.silent && decide (s.cal.phase < 2) && (match s.cal.lateAt with | some m => s.mark == m | none => s.calLeft 2)

/-- CAL_PLAUSIBILITY (R357): every result of the window, those of the loop and of the excursions among them, is checked. Voided results are not (R365). -/
def execCalPlausibility (rs : List CalResult) (s : State) : Result :=
  .next (if !s.judges then s
    else if s.cal.voided then { s with cal := { s.cal with phase := 2 } }
    else
      let t := { s with cal := { s.cal with phase := 2 } }
      let t := t.each (List.range 425) fun u n =>
        let items := (s.spur n).loopCode ++ (s.spur n).cal.results ++ (itemsOf rs (.spur (Fin.ofNat 425 n))).filter brought
        if s.noResults n then u.modSpur n fun x => { x with cal := { x.cal with results := [] } } else if items.isEmpty then u else u.judgeSpur n items
      t.each (List.range 760) fun u k =>
        let items := (itemsOf rs (.saddle (Fin.ofNat 760 k))).filter (sadTimed s.cal.odd k)
        if items.isEmpty || (s.sad k).failed then u else u.judgeSaddle k items)

/-! ## Applying a window's results (R359, R361) -/

/-- Results are traced now (R356, R365). -/
def State.tracedNow (s : State) : Bool := s.cal.traced && !s.cal.switched

/-- ε folded into a published figure (R356). -/
def State.foldErr (s : State) (v : Int) : Int := if s.tracedNow then roundDiv (v * (1000000000 + s.cal.refErr.getD 0)) 1000000000 else v

/-- A Spur's bin after its results (R359). -/
def SpurBin.take (b : SpurBin) (inForce : Nat) (items : List CalItem) : SpurBin :=
  let c := { b with codes := (newCodes b.codes inForce items).1 }
  items.foldl (fun b i =>
    match i with
    | .gain v => { b with gain := v }
    | .detector q _ dac _ thr => { b with offs := setNth b.offs q dac, thr := mapFrom (fun j v => if j / 3 = q.val then thr.getD (j % 3) v else v) 0 b.thr }
    | .monitor q v => { b with mon := setNth b.mon q v }
    | _ => b) c

/-- A number held in a byte of two's complement. -/
def sat7 (v : Int) : Int := satInt 127 v

/-- The residual of largest size, with its sign. -/
def largest (l : List Int) : Int := l.foldl (fun m v => if m.natAbs < v.natAbs then v else m) 0

/-- The items that are not binned, and the quality figures (R340, R366). -/
def Cal.figures (c : Cal) (items : List CalItem) : Cal :=
  let d := items.foldl (fun (c : Cal) i =>
    match i with
    | .gain v => { c with gain := v }
    | .detector q _ _ r _ => { c with resids := setNth c.resids q r }
    | .timer q ws => { c with record := { c.record with taps := setNth c.record.taps q ws } }
    | .sensor q v => { c with record := { c.record with sens := setNth c.record.sens q v }, trims := { c.trims with sens := setNth c.trims.sens q v } }
    | _ => c) c
  { d with det := largest d.resids, dnl := min 255 ((d.record.taps.map dnlOf).foldl max 0) }

/-- The consecutive rejects after a window or a sweep (R358). -/
def rejectsAfter (old : Nat) (rejected : Bool) : Nat := if rejected then min 255 (old + 1) else 0

/-- SRC_CAL and SRC_SPARE of a Spur after a window or a sweep (R245, R358). -/
def State.calSources (s : State) (n : Nat) (rejected retrimmed : Bool) : State :=
  let d := s.fab.dom (s.domOfSpur n)
  let l := (s.spur n).lim
  let l1 : Limits := { l with
    cal := if rejected then (if 3 ≤ (s.spur n).cal.record.rejects then some (l.cal.getD (d.fcode d.nominal)) else l.cal) else none
    spare := if retrimmed && !rejected then none else l.spare }
  if l1 = l then s else (s.modSpur n fun x => { x with lim := l1 }).baseMoved

/-- The trims of a bin with the sensor offsets in force. -/
def SpurBin.trims (b : SpurBin) (sens : List Int) : Trims := { codes := b.codes, offs := b.offs, thr := b.thr, mon := b.mon, sens := sens }

/-- CAL_TEMP_RANGE (R359). -/
def State.tempRange (s : State) (u : CalUnit) (t : Int) : State := s.raise .calTempRange 6 (unitIdx u) (leInt 2 t)

/-- A Spur's results of the window applied (R359, R361, R366). A change of BAND leaves the residual's figure unstated: a free value. -/
def State.applySpur (s : State) (n : Nat) : State :=
  let x := (s.spur n).cal
  let items := x.results
  if items.isEmpty && !x.rejected then s
  else
    let f := (s.spur n).gen.fcode
    let tb := s.resultTemp n
    let old := entryOf x.trims.codes f
    let code := items.findSome? fun i => match i with | .code g v => if g = f then some v else none | _ => none
    let sameBand : Bool := match code with | none => true | some v => codeBand v == codeBand old
    let ppm : Int := match code with
      | none => x.ppm
      | some v => if sameBand then sat7 (s.foldErr (roundDiv (((codeFine v : Int) - codeFine old) * x.gainNow) 10)) else fromTwos 8 s.free.toNat
    let s := if sameBand then s else s.tookFree
    let m := s.mark
    let y := x.figures items
    let rec1 := { y.record with rejects := rejectsAfter x.record.rejects x.rejected }
    let rec2 := if items.isEmpty then rec1 else { rec1 with traced := s.tracedNow, gap := false, mark := m }
    let z : Cal := { y with record := rec2, ppm := ppm, results := [], rejected := false }
    let t := match binOf tb with
      | none => (s.modSpur n fun u => { u with cal := z }).when (!items.isEmpty) fun u => u.tempRange (.spur (Fin.ofNat 425 n)) tb
      | some b =>
        if items.isEmpty then s.modSpur n fun u => { u with cal := z }
        else
          let base := { x.binAt b tb with tb := tb }
          let bin := base.take f items
          let first : Bool := (x.record.bins.getD b none).isNone
          (s.modSpur n fun u => { u with cal := { z with
            record := { rec2 with bins := setNth rec2.bins b (some bin) }, lastBin := b
            trims := bin.trims z.trims.sens, staged := none
            retry := z.retry ++ (newCodes base.codes f items).2 } }).when first State.askSave
    let mons := (binOf tb).isSome && (List.range 8).all fun q => items.any fun i => match i with | .monitor p _ => p.val == q | _ => false
    t.calSources n x.rejected mons

/-- A Saddle's results of the window applied (R353, R359): the tracker gives up the trim change, so that the capture phases do not move. -/
def State.applySaddle (s : State) (k : Nat) : State :=
  let x := s.sad k
  if x.results.isEmpty && !x.rejected then s
  else
    let tb := s.sadResultTemp k
    let f := (s.spur (s.driverSpur (sadLow k))).gen.fcode
    let y := x.results.foldl (fun (y : Saddle) i =>
      match i with
      | .skew ps r =>
        let d := (x.dly - roundDiv ps 2).toNat
        { y with dly := d, residPs := sat7 (s.foldErr r), rbar := y.rbar - roundDiv (((d : Int) - x.dly) * 32 * f) 2500, retrim := false }
      | .borrow true v => { y with bdlyHi := v }
      | .borrow false v => { y with bdlyLo := v }
      | _ => y) x
    let z := { y with results := [], rejected := false, rejects := rejectsAfter x.rejects x.rejected }
    if x.results.isEmpty then s.modSad k fun _ => z
    else
      let z := { z with traced := s.tracedNow, calMark := s.mark }
      match binOf tb with
      | none =>
        (s.modSad k fun _ => { z with dly := x.dly, rbar := x.rbar, bdlyHi := x.bdlyHi, bdlyLo := x.bdlyLo }).tempRange (.saddle (Fin.ofNat 760 k)) tb
      | some b =>
        (s.modSad k fun _ => { z with
          bins := setNth z.bins b (some { tb := tb, dly := z.dly, bhi := z.bdlyHi, blo := z.bdlyLo }), staged := none, lastBin := b }).when
            (x.bins.getD b none).isNone State.askSave

/-- CAL_APPLY (R361): at W + N − 1 the results of the window take effect, the quality figures are published (R366), and saves fall due (R362). The results of a voided window are discarded (R365). -/
def execCalApply (s0 : State) : Result :=
  let s := { s0 with cal := { s0.cal with phase := 3, lateAt := none } }
  .next (if s0.role.silent || s0.cal.phase != 2 || !(match s0.cal.lateAt with | some m => s0.mark == m | none => s0.calLeft 1) then s0
    else if s.cal.voided then
      (s.mapSpurs fun _ x => { x with cal := { x.cal with results := [], rejected := false } }).mapSads fun _ x => { x with results := [], rejected := false }
    else
      let some1 : Bool := (List.range 425).any (fun n => !(s.spur n).cal.results.isEmpty) || (List.range 760).any fun k => !(s.sad k).results.isEmpty
      let t := (s.each (List.range 425) State.applySpur).each (List.range 760) State.applySaddle
      if !some1 then t
      else if t.crn.pending ∧ !s.crn.pending then t
      else if 256 ≤ t.cal.sinceSave + 1 then t.askSave
      else { t with cal := { t.cal with sinceSave := t.cal.sinceSave + 1 } })

/-- CAL_WINDOW_CLOSE (R344, R346): ridge tick 0 of W + N. Each Spur opens its leaf gates at the first cycle of its own tally mark W + N; stretching resumes, CAL_WARN falls, and each compute region's Spur asks for 1 phase at its first 9 edges. -/
def execCalWindowClose (s : State) : Result :=
  .next (match s.cal.cur with
    | none => s
    | some w =>
      let m := w.w + BitVec.ofNat 40 w.n
      if !s.atMark || s.mark != m then s
      else
        let t := s.mapSpurs fun n x => if x.str.frozen && s.atWindow n m then x.closeWindow (s.drivesCompute n) else x
        { t with cal := { t.cal with windows := t.cal.windows + 1, cur := none, prevEnd := some m } })

/-! ## Recomputation (R360, R361) -/

/-- The bins around a temperature, with the fraction w = num / den, and whether the values are clamped to one bin. -/
structure Bracket where
  /-- lower bin -/
  lo : Nat
  /-- upper bin -/
  hi : Nat
  /-- numerator of w -/
  num : Int
  /-- denominator of w -/
  den : Nat
  /-- one bin is used unchanged -/
  clamped : Bool
  deriving DecidableEq, Repr

/-- The filled bins with their stored temperatures. -/
def filledOf (tbs : List (Option Int)) : List (Nat × Int) :=
  (List.range 6).filterMap fun i => (tbs.getD i none).map fun t => (i, t)

/-- The bins around a temperature of `t / k` (R360). -/
def bracket (tbs : List (Option Int)) (t : Int) (k : Nat) : Option Bracket :=
  let fs := filledOf tbs
  let lo := (fs.filter fun p => k * p.2 ≤ t).foldl (fun (b : Option (Nat × Int)) p => match b with | none => some p | some q => if q.2 < p.2 then some p else some q) none
  let hi := (fs.filter fun p => t ≤ k * p.2).foldl (fun (b : Option (Nat × Int)) p => match b with | none => some p | some q => if p.2 < q.2 then some p else some q) none
  match lo, hi with
  | none, none => none
  | some a, none => some ⟨a.1, a.1, 0, 1, true⟩
  | none, some b => some ⟨b.1, b.1, 0, 1, true⟩
  | some a, some b =>
    if fs.length = 1 then some ⟨a.1, a.1, 0, 1, true⟩
    else if a.2 = b.2 then some ⟨a.1, b.1, 0, 1, false⟩
    else some ⟨a.1, b.1, t - k * a.2, k * (b.2 - a.2).toNat, false⟩

/-- An interpolated value times the denominator. -/
def Bracket.raw (b : Bracket) (lo hi : Int) : Int := lo * b.den + b.num * (hi - lo)

/-- The interpolated value, rounded. -/
def Bracket.val (b : Bracket) (lo hi : Int) : Int := roundDiv (b.raw lo hi) b.den

/-- The unrounded value differs from the one in force by 1 LSB or more (R361). -/
def Bracket.far (b : Bracket) (lo hi cur : Int) : Bool := decide (b.den ≤ (b.raw lo hi - cur * b.den).natAbs)

/-- The code of one FCODE: FINE interpolated where the bins share a BAND, else the entry of the nearer bin (R360). -/
def Bracket.code (b : Bracket) (lo hi : BitVec 16) : BitVec 16 :=
  if codeBand lo = codeBand hi then mkCode (codeBand lo) (b.val (codeFine lo) (codeFine hi)).toNat else if 2 * b.num ≤ b.den then lo else hi

/-- A code differs from the one in force by 1 LSB of FINE or more, or in BAND. -/
def Bracket.codeFar (b : Bracket) (lo hi cur : BitVec 16) : Bool :=
  if codeBand lo = codeBand hi then codeBand lo != codeBand cur || b.far (codeFine lo) (codeFine hi) (codeFine cur) else b.code lo hi != cur

/-- Some value of a list is far from the one in force. -/
def Bracket.anyFar (b : Bracket) (lo hi cur : List Int) : Bool := ((lo.zip hi).zip cur).any fun p => b.far p.1.1 p.1.2 p.2

/-- Values of a list interpolated. -/
def Bracket.vals (b : Bracket) (lo hi : List Int) : List Int := (lo.zip hi).map fun p => b.val p.1 p.2

/-- Numbers as integers. -/
def ints (l : List Nat) : List Int := l.map fun v => (v : Int)

/-- The trims of a Spur between two bins. -/
def Bracket.trims (b : Bracket) (lo hi : SpurBin) (sens : List Int) : Trims :=
  { codes := (lo.codes.zip hi.codes).map fun p => b.code p.1 p.2
    offs := b.vals lo.offs hi.offs, thr := (b.vals (ints lo.thr) (ints hi.thr)).map Int.toNat, mon := (b.vals (ints lo.mon) (ints hi.mon)).map Int.toNat
    sens := sens }

/-- Some trim of a Spur is to move. -/
def Bracket.moves (b : Bracket) (lo hi : SpurBin) (t : Trims) (sens : List Int) : Bool :=
  (((lo.codes.zip hi.codes).zip t.codes).any fun p => b.codeFar p.1.1 p.1.2 p.2) || b.anyFar lo.offs hi.offs t.offs ||
    b.anyFar (ints lo.thr) (ints hi.thr) (ints t.thr) || b.anyFar (ints lo.mon) (ints hi.mon) (ints t.mon) || sens != t.sens

/-- CAL_CLAMP at the start of an episode (R360). -/
def State.clampEvent (s : State) (u : CalUnit) (was now : Bool) (t : Int) (bin : Nat) : State :=
  s.when (now && !was) fun x => x.raise .calClamp 6 (unitIdx u) (leInt 2 t ++ le 1 bin)

/-- The bins a Spur's values come from: its own, or those of bank F where none is filled and bank F verified (R360, R381). -/
def State.binsFor (s : State) (n : Nat) : List (Option SpurBin) :=
  let own := (s.spur n).cal.record.bins
  if own.any Option.isSome then own else if s.crn.fOk then (s.crn.f.spurs.getD n SpurRec.empty).bins else []

/-- The values of completed gap items taken into a Spur's bin and figures; detector offsets fill their bin (R364). -/
def State.takeGap (s : State) (n : Nat) : State :=
  let x := (s.spur n).cal
  if s.hri.agreed ≠ 1 ∨ (x.results.isEmpty ∧ x.sweep.isEmpty) then s
  else
    let items := x.results
    let tb := s.tempOf n
    let ends : Bool := (List.range 14).all x.sweep.contains
    let y := x.figures items
    let rec1 := { y.record with
      traced := if items.isEmpty then y.record.traced else s.tracedNow, gap := y.record.gap || !items.isEmpty
      mark := if items.isEmpty then y.record.mark else s.mark
      rejects := if ends then rejectsAfter x.record.rejects x.rejected else y.record.rejects }
    let dets := items.filter fun i => match i with | .detector _ _ _ _ _ => true | _ => false
    let z : Cal := { y with record := rec1, results := [], rejected := x.rejected && !ends, sweep := if ends then [] else x.sweep }
    let t := if dets.isEmpty then s.modSpur n fun u => { u with cal := z }
      else match binOf tb with
        | none => (s.modSpur n fun u => { u with cal := z }).tempRange (.spur (Fin.ofNat 425 n)) tb
        | some b =>
          let bin := dets.foldl (fun (c : SpurBin) i => match i with | .detector q _ dac _ _ => { c with offs := setNth c.offs q dac } | _ => c) (x.binAt b tb)
          (s.modSpur n fun u => { u with cal := { z with
            record := { rec1 with bins := setNth rec1.bins b (some bin) }, lastBin := b } }).when (x.record.bins.getD b none).isNone State.askSave
    if ends then t.calSources n x.rejected false else t

/-- One Spur's values for its present temperature (R360, R361). -/
def State.recomputeSpur (s0 : State) (n : Nat) : State :=
  let s := s0.takeGap n
  let x := (s.spur n).cal
  let bins := s.binsFor n
  match bracket (bins.map fun b => b.map SpurBin.tb) (s.temp2Of n) 2 with
  | none => s
  | some b =>
    let lo := (bins.getD b.lo none).getD (x.asBin 0)
    let hi := (bins.getD b.hi none).getD (x.asBin 0)
    let own : Bool := x.record.bins.any Option.isSome
    let sens := if x.record.sens = [0, 0] then x.trims.sens else x.record.sens
    let go : Bool := b.moves lo hi x.trims sens && (s.windowOver (s.mark + 4)).isNone
    let clamp : Bool := b.clamped && own
    (s.modSpur n fun u => { u with cal := { u.cal with
      clamped := clamp, loBin := b.lo, hiBin := b.hi
      staged := if go then some (s.mark + 4, b.trims lo hi sens) else u.cal.staged } }).clampEvent (.spur (Fin.ofNat 425 n)) x.clamped clamp (s.tempOf n) b.lo

/-- The bins that a Saddle's values come from. -/
def State.sadBinsFor (s : State) (k : Nat) : List (Option SaddleBin) :=
  let own := (s.sad k).bins
  if own.any Option.isSome then own else if s.crn.fOk then (s.crn.f.saddles.getD k ⟨[], 0, false, 0, 0⟩).bins else []

/-- One Saddle's values for its present temperature. -/
def State.recomputeSaddle (s : State) (k : Nat) : State :=
  let x := s.sad k
  let bins := s.sadBinsFor k
  match bracket (bins.map fun b => b.map SaddleBin.tb) (s.sadTemp4 k) 4 with
  | none => s
  | some b =>
    let cur : SaddleBin := { tb := 0, dly := x.dly, bhi := x.bdlyHi, blo := x.bdlyLo }
    let lo := (bins.getD b.lo none).getD cur
    let hi := (bins.getD b.hi none).getD cur
    let l := ints [lo.dly, lo.bhi, lo.blo]
    let h := ints [hi.dly, hi.bhi, hi.blo]
    let v := (b.vals l h).map Int.toNat
    let clamp : Bool := b.clamped && x.bins.any Option.isSome
    let go : Bool := b.anyFar l h (ints [x.dly, x.bdlyHi, x.bdlyLo]) && (s.windowOver (s.mark + 4)).isNone
    (s.modSad k fun y => { y with
      clamped := clamp
      staged := if go then some (s.mark + 4, { tb := 0, dly := nth v 0, bhi := nth v 1, blo := nth v 2 }) else y.staged }).clampEvent
        (.saddle (Fin.ofNat 760 k)) x.clamped clamp (s.sadTemp k) b.lo

/-- Lookout's phase widths for its present temperature. -/
def State.recomputeLookout (s : State) : State :=
  let l := s.lko
  let own : Bool := l.bins.any Option.isSome
  let bins := if own then l.bins else if s.crn.fOk then s.crn.f.lookout.bins else []
  match bracket (bins.map fun b => b.map Prod.fst) l.temp 1 with
  | none => s
  | some b =>
    let lo := ((bins.getD b.lo none).map Prod.snd).getD l.widths
    let hi := ((bins.getD b.hi none).map Prod.snd).getD l.widths
    ({ s with lko := { l with
        clamped := b.clamped && own
        staged := if b.anyFar lo hi l.widths then some (s.mark + 4, b.vals lo hi) else l.staged } }).clampEvent .lookout l.clamped (b.clamped && own) l.temp b.lo

/-- CAL_RECOMPUTE (R360): at each mark whose number is a multiple of 1,024, with INTERP_EN at 1, once. -/
def execCalRecompute (s : State) : Result :=
  .next (if !s.atMark || s.mark.toNat % 1024 ≠ 0 || s.cal.recompAt == some s.mark || !(s.word 0xA0000).bit 2 then s
    else ((({ s with cal := { s.cal with recompAt := some s.mark } }).each (List.range 425) State.recomputeSpur).each (List.range 760) State.recomputeSaddle).recomputeLookout)

/-- The trims with one trim register written (R135, R370). -/
def Trims.write (t : Trims) (f : TrimField) (v : Nat) : Trims :=
  match f with
  | .code fc => { t with codes := setNth t.codes (fc - 8) (BitVec.ofNat 16 v) }
  | .off q => { t with offs := setNth t.offs q (fromTwos 8 v) }
  | .mon q => { t with mon := setNth t.mon q v }
  | .sens q => { t with sens := setNth t.sens q (fromTwos 8 v) }

/-- The staged trims of a Spur whose mark has come, then the register writes whose mark has come (R361). -/
def Cal.applyStaged (x : Cal) (m : Mark) : Cal :=
  let y := match x.staged with
    | some (d, t) => if notAfter d m then { x with trims := t, staged := none } else x
    | none => x
  { y with
    trims := (y.writes.filter fun w => notAfter w.1 m).foldl (fun t w => t.write w.2.1 w.2.2) y.trims
    writes := y.writes.filter fun w => !notAfter w.1 m }

/-- A Saddle with one trim register written. -/
def Saddle.write (x : Saddle) (which v : Nat) : Saddle :=
  if which = 0 then { x with dly := v } else if which = 1 then { x with bdlyHi := v } else { x with bdlyLo := v }

/-- The same for a Saddle. -/
def Saddle.applyStaged (x : Saddle) (m : Mark) : Saddle :=
  let y := match x.staged with
    | some (d, b) => if notAfter d m then { x with dly := b.dly, bdlyHi := b.bhi, bdlyLo := b.blo, staged := none } else x
    | none => x
  let z := (y.writes.filter fun w => notAfter w.1 m).foldl (fun z w => z.write w.2.1 w.2.2) y
  { z with writes := y.writes.filter fun w => !notAfter w.1 m }

/-- The Spur on whose tally a Saddle's trims are applied: the one that clocks its lower region, or its higher one where that is dark. -/
def State.sadClock (s : State) (k : Nat) : Option Nat := (s.clockedBy (sadLow k)).orElse fun _ => s.clockedBy (sadHigh k)

/-- TRIM_APPLY (R361): the staged trims of a unit, at the first cycle of the application mark by its tally; Lookout's, and those of a Saddle between two dark regions, by the ridge count. A code table never moves a running loop (R106). -/
def execTrimApply (u : CalUnit) (s : State) : Result :=
  .next (match u with
    | .spur n => if s.atCycle0 n then s.modSpur n fun x => { x with cal := x.cal.applyStaged x.gen.tallyMark } else s
    | .saddle k =>
      match s.sadClock k with
      | none => s.modSad k fun x => x.applyStaged s.mark
      | some n => if s.atCycle0 n then s.modSad k fun x => x.applyStaged (s.spur n).gen.tallyMark else s
    | .lookout =>
      match s.lko.staged with
      | some (m, w) => if notAfter m s.mark then { s with lko := { s.lko with widths := w, staged := none } } else s
      | none => s)

/-! ## Gap mode (R363, R364) -/

/-- CAL_HOLD_RISE (R363): a compute region's scheduler drives CAL_HOLD high; port regions tie it to 0. -/
def execCalHoldRise (region : Fin 400) (s : State) : Result :=
  .next (if portKind region = 0 ∧ !(s.spur region).gates.calHold then s.modSpur region fun x => { x with gates := { x.gates with calHold := true, holdAt := s.rdg.ridge } } else s)

/-- The Spur may run gap steps: in a compute region while CAL_HOLD is high, elsewhere at any time (R363). -/
def State.gapOpen (s : State) (n : Nat) : Bool :=
  s.gapMode && !s.noResults n &&
    (match s.regionOf n with
     | some r => portKind r != 0 || (s.spur r).gates.calHold
     | none => true)

/-- The ridge ticks that a gap step of an item lasts (R364): 1.0 µs, or 0.5 µs for the offset null of a detector. -/
def gapTicks (k : Nat) : Nat := if 8 ≤ k && k < 12 then 200 else 400

/-- A gap step of item `k` that ends now could start (R363, R364): after the Spur's previous one had ended, and, in a compute region, with at least its duration and 0.25 µs left of the gap promised. -/
def State.gapFits (s : State) (n k : Nat) : Bool :=
  let now := s.rdg.ridge
  let free : Bool := (s.spur n).cal.stepAt.all fun e => decide (gapTicks k ≤ (now - e).toNat)
  free && (match s.regionOf n with
    | some r =>
      let t := (now - (s.spur r).gates.holdAt).toNat
      portKind r != 0 || (gapTicks k ≤ t && t + 100 ≤ 400 * (s.word 0xA0008).bits 6 0)
    | none => true)

/-- The present gap sweep still lacks an item, or the period of a new one has come (R363): each sweep measures every item once. -/
def State.sweepLacks (s : State) (n k : Nat) : Bool :=
  let c := (s.spur n).cal
  !c.sweep.contains k && (!c.sweep.isEmpty || c.gapSteps.any (· != 0) || c.sweepAt.all fun m => decide (intervalMarks s.cal.interval ≤ s.since m))

/-- The number of a gap item in its sweep, none for an item that gap mode does not measure (R340). -/
def gapNumber : CalItem → Option Nat
  | .timer q _ => some q
  | .detector q _ _ _ _ => some (8 + q)
  | .sensor q _ => some (12 + q)
  | _ => none

/-- The quality figures of a Spur with a completed gap item, which refreshes them at once (R366). -/
def Cal.refreshed (c : Cal) (i : CalItem) : Cal :=
  let y := { c with results := c.results ++ [i] }
  let rs := match i with | .detector q _ _ r _ => setNth c.resids q r | _ => c.resids
  { y with resids := rs, det := largest rs, dnl := min 255 (((y.tapsShown true).map dnlOf).foldl max 0) }

/-- A completed gap item checked (R357, R364): it takes effect at the next recomputation. -/
def State.gapItem (s : State) (n k : Nat) (i : CalItem) : State :=
  let t := s.modSpur n fun x => { x with cal := { x.cal with sweep := if x.cal.sweep.contains k then x.cal.sweep else x.cal.sweep ++ [k] } }
  match itemFault Saddle.reset i with
  | none => t.modSpur n fun x => { x with cal := x.cal.refreshed i }
  | some p => (t.modSpur n fun x => { x with cal := { x.cal with rejected := true } }).calReject (.spur (Fin.ofNat 425 n)) p.1 p.2 ((s.spur n).cal.record.rejects + 1)

/-- GAP_STEP_DONE (R364): one step of an item; a timer completes with its 16th, with the widths of all its samples. -/
def execGapStepDone (n : Fin 425) (item : CalItem) (s : State) : Result :=
  .next (match gapNumber item with
    | none => s
    | some k =>
      if !s.gapOpen n || !s.gapFits n k || !s.sweepLacks n k then s
      else
        let c := (s.spur n).cal
        let begins : Bool := c.sweep.isEmpty && c.gapSteps.all (· == 0)
        let s := s.modSpur n fun x => { x with cal := { x.cal with stepAt := some s.rdg.ridge, sweepAt := if begins then some s.mark else x.cal.sweepAt } }
        if 8 ≤ k then s.gapItem n k item
        else
        let done := nth (s.spur n).cal.gapSteps k + 1
        let t := s.modSpur n fun x => { x with cal := { x.cal with gapSteps := setNth x.cal.gapSteps k (if done < 16 then done else 0) } }
        if done < 16 then t else t.gapItem n k item)

/-- GAP_STEP_ABORT (R364): CAL_HOLD has fallen, or INTENT has gone nonzero, during a step of a compute region's Spur: the step is counted and its partial result dropped. Steps elsewhere have no CAL_HOLD to fall (R363). -/
def execGapStepAbort (n : Fin 425) (s : State) : Result :=
  .next (match s.regionOf n with
    | none => s
    | some r =>
      if !s.gapMode || s.noResults n || portKind r != 0 then s
      else ({ s with cal := { s.cal with gapAborts := s.cal.gapAborts + 1 } }).modSpur r fun x => { x with gates := { x.gates with calHold := false } })

/-! ## Traceability (R355, R356) -/

/-- The traced state, with CAL_TRACE at each change. -/
def State.setTraced (s : State) (v : Bool) : State :=
  if s.cal.traced = v then s else ({ s with cal := { s.cal with traced := v } }).raise .calTrace 6 0xFFFF (le 1 (if v then 1 else 0))

/-- ε lies within the declared tolerance and 0.1 ppm (R356). -/
def State.errInBand (s : State) (ppb : Int) : Bool := decide (ppb.natAbs ≤ 1000 * s.lko.tolerance + 100)

/-- CALREF_GATE (R355, R356): a background gate ends with ε in ppb. -/
def execCalrefGate (ppb : Int) (s : State) : Result :=
  .next (if !s.lko.bgRef then s
    else
      let ok := s.errInBand ppb
      let t := { s with cal := { s.cal with refErr := some ppb, inBand := ok, gateMark := some s.mark } }
      let t := t.when (!ok) fun u => u.raise .calRefBand 6 0xFFFF (leInt 4 ppb ++ le 2 s.lko.tolerance)
      t.setTraced (ok && s.calrefOk))

/-- CALREF_LOST (R538): no edge for 200 ns; the gate that runs is spoiled, and results are untraced (R356). -/
def execCalrefLost (s : State) : Result :=
  .next (({ s with lko := { s.lko with calref := false, bgRef := false } }).setTraced false)

/-- CALREF_RETURN (R538): CALREF shows edges again; results are traced once a gate has ended in band (R356). -/
def execCalrefReturn (s : State) : Result := .next { s with lko := { s.lko with calref := true } }

/-! ## CAL_WINCFG and CAL_CTRL.NATIVE_EN (R342, R368) -/

/-- The fields of CAL_WINCFG. -/
def wincfgFields : List Fld := [⟨31, 16, .rw, 500, 60000⟩, ⟨6, 0, .rw, 24, 96⟩]

/-- The next window that is not fixed, one interval in force after the previous window or after the present mark, and at least 16 marks ahead (R342). -/
def CalEng.reschedule (c : CalEng) (now : Mark) : CalEng :=
  if c.next.isNone || c.next.any Window.fixed then c
  else
    let w := (c.prev.getD now) + BitVec.ofNat 40 (intervalMarks c.interval)
    { c with next := some (c.periodic (if notAfter w (now + 16) then now + 16 else w)) }

/-- CAL_WINCFG_WRITE (R342, R368): ignored with CFG_BUSY while the rings are enabled; an undefined field is ignored with CFG_RANGE. -/
def execCalWincfgWrite (value : Word) (s : State) : Result :=
  .next (s.take 0xA0004 value .rw fun t =>
    if t.ringsOn then t.cfgEvent .cfgBusy 0xA0004 value
    else
      let ok : Fld → Bool := fun g => g.defined (value.bits g.hi g.lo)
      let u := t.setWord 0xA0004 (putFields ok value wincfgFields (t.word 0xA0004))
      let w := u.word 0xA0004
      let u := { u with cal := ({ u.cal with interval := w.bits 31 16, length := w.bits 6 0 }).reschedule t.mark }
      u.when (!(wincfgFields.all ok)) fun v => v.cfgEvent .cfgRange 0xA0004 value)

/-- NATIVE_ENABLE (R342, R368): NATIVE_EN returns to 1, and the first window falls one interval later. -/
def execNativeEnable (s : State) : Result :=
  .next (s.take 0xA0000 1#32 .rwl fun t =>
    if (t.word 0xA0000).bit 0 then t
    else
      let u := t.setField 0xA0000 0 0 1
      ({ u with cal := { u.cal with queued := none } }).startWindows)

/-! ## Sensors (R352, R446) -/

/-- A corrected reading (R352): the offset is the sensor's reading less the reference. -/
def corrected (raw off : Int) : Int := raw - 4 * off

/-- SENSOR_CONVERSION (R352): outside a native window once every 16 marks, a conversion of one sensor in 1/16 degC, corrected by the offset in force, or overridden by R507; the two conditions of R446. R454 gives the second byte of SENSOR_BAD no encoding: a free value. -/
def execSensorConversion (n : Fin 425) (which : Fin 2) (raw : Int) (s : State) : Result :=
  let x := (s.spur n).cal
  let v := (s.sensOver n).getD (corrected raw (x.trims.sens.getD which 0))
  let old := if which = 0 then x.s0 else x.s1
  let had := if which = 0 then x.had0 else x.had1
  let was := if which = 0 then x.bad0 else x.bad1
  let due : Bool := !had || s.cal.cur.isSome || decide (16 ≤ s.since (if which = 0 then x.conv0 else x.conv1))
  let bad : Bool := decide (v < -320) || decide (2080 < v) || (had && s.cal.cur.isNone && decide (128 < (v - old).natAbs))
  let t := s.modSpur n fun y => { y with cal :=
    if which = 0 then { y.cal with s0 := v, had0 := true, conv0 := s.mark, bad0 := y.cal.bad0 || bad } else { y.cal with s1 := v, had1 := true, conv1 := s.mark, bad1 := y.cal.bad1 || bad } }
  let t := t.when (bad && !was) fun u =>
    ((((u.tookFree).raise .sensorBad 2 n (le 1 which ++ le 1 u.free.toNat)).incident { cls := 7, sev := .degraded, ev := .sensorBad, unit := n })).closeIncident 7 n
  .next (if !due then s else if s.cal.cur.any fun w => w.w + 2 == s.mark then t.modSpur n fun y => { y with cal := { y.cal with winTemp := some (t.tempOf n) } } else t)

end Sys2Proof.Machine
end

