-- ==== Sys2Proof/Machine/Rings.lean ====
section
/-! DEFINITION. The rings in host memory (R269 to R311): the control block, fetching, completions, event records, enabling and disabling, the board description table, basic control. -/

namespace Sys2Proof.Machine

/-! ## Addresses and sizes -/

/-- A 64-bit address of two registers of the host ring interface (R309). -/
def State.hriAddr (s : State) (o : Nat) : Nat := (s.word (0xD0000 + o)).toNat + 2 ^ 32 * (s.word (0xD0000 + o + 4)).toNat

/-- Entries of the plan ring, of the completion ring, of the event ring (R308). -/
def State.planN (s : State) : Nat := 2 ^ (s.word 0xD0014).bits 4 0

/-- Entries of the completion ring. -/
def State.cmplN (s : State) : Nat := 2 ^ (s.word 0xD0014).bits 12 8

/-- Entries of the event ring. -/
def State.evtN (s : State) : Nat := 2 ^ (s.word 0xD0014).bits 20 16

/-- The completion ring is full (R272). -/
def State.cmplFull (s : State) : Bool := decide (s.cmplN ≤ (s.hri.cmplProd - s.hri.cmplCons).toNat)

/-- The size of a descriptor (R270, R291). -/
def State.descSize (s : State) : Nat := if s.v1 then 32 else 64

/-- PHASE of entry `i` of a ring of `n` (R277). -/
def phase (i n : Nat) : Nat := if i / n % 2 = 0 then 1 else 0

/-! ## The control block (R271 to R274) -/

/-- A read of the control block begins, or follows the one in flight (R273). -/
def State.startRead (s : State) : State :=
  if !(s.ringsOn || s.hri.disabling) || s.hri.stopped then s
  else if s.hri.reading then { s with hri := { s.hri with readAgain := true } }
  else ({ s with hri := { s.hri with reading := true } }).send (.hostRead (s.hriAddr 0x20) 12)

/-- NUDGE (R273): a write to HRI_NUDGE. -/
def execNudge (s : State) : Result := .next (s.take 0xD000C 0 .rw State.startRead)

/-- POLL (R273): the poll period has run since the last read. -/
def execPoll (s : State) : Result := .next (if s.hri.reading then s else s.startRead)

/-- A host word is in range (R274): from its previous value to a limit, modulo 2^32. -/
def wordOk (new prev limit : Word) : Bool := decide ((new - prev).toNat ≤ (limit - prev).toNat)

/-- DOORBELL_BAD (R301). -/
def State.doorbellBad (s : State) (new prev : Word) (which : Nat) : State :=
  s.raise .doorbellBad 10 3 (le 4 new.toNat ++ le 4 prev.toNat ++ le 1 which)

/-- CONTROL_BLOCK_READ (R273, R274): the three words checked, each on its own. -/
def execControlBlockRead (prod cmplCons evtCons : Word) (s : State) : Result :=
  let h := s.hri
  .next (if !h.reading then s
    else
      let okP := wordOk prod h.planProd (h.planCons + BitVec.ofNat 32 s.planN)
      let okC := wordOk cmplCons h.cmplCons h.cmplProd
      let okE := wordOk evtCons h.evtCons h.evtProd
      let t := { s with hri := { h with
        planProd := if okP then prod else h.planProd, cmplCons := if okC then cmplCons else h.cmplCons
        evtCons := if okE then evtCons else h.evtCons, reading := false, readAgain := false } }
      let t := t.when (!okP) fun u => u.doorbellBad prod h.planProd 0
      let t := t.when (!okC) fun u => u.doorbellBad cmplCons h.cmplCons 1
      let t := t.when (!okE) fun u => u.doorbellBad evtCons h.evtCons 2
      if h.readAgain then t.startRead else t)

/-! ## Fetching (R275, R313, R314) -/

/-- SUM_RUNAHEAD.DEPTH (R335). -/
def State.depth (s : State) : Nat := (s.word 0x600).bits 7 0

/-- The next descriptor may be fetched (R314), the ring flow perturbation included (R507). -/
def State.canFetch (s : State) : Bool :=
  s.ringsOn && !s.hri.stopped && s.hri.planProd != s.hri.planCons && decide (s.plan.buf.length < s.depth) && decide (s.hri.held < 64) &&
    decide ((s.word 0xC0040).bits 7 0 ≤ s.since s.plan.lastFetch)

/-- DESCRIPTOR_FETCH (R275, R314): the next descriptor enters the fetch buffer, PLAN_CONS moves past it, and its word is written to the control block. -/
def execDescriptorFetch (bytes : List Byte) (s : State) : Result :=
  let i := s.hri.planCons.toNat
  let n := s.descSize
  .next (if !s.canFetch then s
    else
      let e : FbEntry := { idx := i, bytes := (bytes ++ List.replicate n 0).take n, stage := .fetched, set := none, late := false, slot := none }
      let t := s.send (.hostRead (s.hriAddr 0x28 + i % s.planN * n) n)
      let t := { t with
        hri := { t.hri with planCons := t.hri.planCons + 1 }
        plan := { t.plan with buf := t.plan.buf ++ [e], lastFetch := s.mark } }
      t.send (.hostWrite (s.hriAddr 0x20 + 16) (le 4 t.hri.planCons.toNat)))

/-! ## Disabling (R282, R306) -/

/-- What Summit does at a disable (R282), at a host read error (R306) and after a FATAL event (R452): unarmed sets discarded, their requests withdrawn, and every descriptor that has not finished completed with CANCELLED. -/
def State.cancelPlan (s : State) : State :=
  let keep := (s.plan.sets.filter CommitSet.final).flatMap CommitSet.members
  let t := (s.sendLane .discard).dropMeasures
  let t := t.each (t.plan.buf.filter fun e => e.stage != .done && !keep.contains e.idx) fun u e =>
    u.finish e .cancelled s.mark 0 (if commitTy e.ty then e.domain s.fab % 8 else 0) false
  ((t.modPlan fun p => { p with
    sets := p.sets.filter CommitSet.final, actions := [], groups := List.replicate 4 Group.free, wait := none, resumeAt := none, markers := []
    readSent := [] }).requests true).baseMoved

/-- The index of the structure that a host read addressed (R299). -/
def State.readIdx (s : State) (a : Nat) : Nat :=
  if a = s.hriAddr 0x20 then 3 else if s.hri.bdt = 1 ∧ a = s.hriAddr 0x40 then 4 else 0

/-- HOST_READ_ERR (R306): a host read has failed twice: of the control block, of a descriptor, or of the table, which then counts as rejected. -/
def execHostReadErr (addr : BitVec 64) (errorCompletion : Bool) (s : State) : Result :=
  let t := s.raise .hostReadErr 10 (s.readIdx addr.toNat) (le 8 addr.toNat ++ le 1 (if errorCompletion then 1 else 0))
  let t := (t.incident { cls := 6, sev := .degraded, ev := .hostReadErr, unit := s.readIdx addr.toNat }).closeIncident 6 (s.readIdx addr.toNat)
  .next ({ t with hri := { t.hri with stopped := true, reading := false, readAgain := false, bdt := if s.readIdx addr.toNat = 4 then 3 else t.hri.bdt } }).cancelPlan

/-- RING_DISABLE (R282): a write of 0 to HRI_CTRL.ENABLE. -/
def execRingDisable (s : State) : Result :=
  .next (s.take 0xD0000 0 .rw fun t =>
    if !t.ringsOn then t
    else (({ t.setField 0xD0000 0 0 0 with hri := { t.hri with disabling := true } }).cancelPlan).stopWindows)

/-- RING_DISABLE_DONE (R282): no descriptor is left; the final indices are written and IDLE is set. After a stop the host's consumer word is read no more (R306), so that a full completion ring cannot drain: the completions that wait for it are given up. -/
def execRingDisableDone (s : State) : Result :=
  .next (if !s.hri.disabling || s.plan.sets.any (fun c => c.kind == .host || !c.members.isEmpty) || !(s.hri.cmplQ.isEmpty || (s.hri.stopped && s.cmplFull)) then s
    else ({ s with hri := { s.hri with disabling := false, idle := true, reading := false, readAgain := false, cmplQ := [], held := 0, fullOpen := false } }).send
      (.hostWrite (s.hriAddr 0x20 + 16) (le 4 s.hri.planCons.toNat ++ le 4 s.hri.cmplProd.toNat ++ le 4 s.hri.evtProd.toNat ++ le 4 s.hri.evtLost)))

/-- The rings enabled (R281, R285, R292, R305): indices and the expected number set, basic control ended with the budgets in force kept, the control block read. In the FATAL state they stay stopped (R452). -/
def State.enableRings (s : State) : State :=
  let t := (s.setField 0xD0000 0 0 1).setField 0x300 31 31 0
  let t := { t with
    gov := { t.gov with capDue := false }
    hri := { t.hri with
      stopped := t.faults.forceSafe, idle := false, disabling := false, agreed := s.agreedNow, planProd := 0, planCons := 0, cmplProd := 0, cmplCons := 0
      evtProd := 0, evtCons := 0, evtLost := 0, lostFlag := false, reading := false, readAgain := false, cmplQ := [], fullOpen := false, held := 0 }
    plan := { t.plan with
      buf := [], actions := [], groups := List.replicate 4 Group.free, wait := none, resumeAt := none, markers := [], readSent := []
      nextSeq := (s.word 0xD0018).bits 30 0, lastFetch := s.mark } }
  let t := t.startRead
  (t.when t.cal.next.isNone State.startWindows).stopWindows

/-- RING_ENABLE (R281): a write of 1 to HRI_CTRL.ENABLE. -/
def execRingEnable (s : State) : Result :=
  .next (s.take 0xD0000 1 .rw fun t =>
    if t.ringsOn then t
    else if !t.hri.idle then t.cfgEvent .cfgBusy 0xD0000 1
    else if [0x20, 0x28, 0x30, 0x38].any fun o => t.hriAddr o == 0 then t.cfgEvent .cfgRange 0xD0000 1
    else t.enableRings)

/-! ## Completions (R276 to R280, R296) -/

/-- The 16 bytes of a completion entry (R296). -/
def Completion.bytes (c : Completion) (ph : Nat) : List Byte :=
  le 4 c.seq.toNat ++ le 1 c.ty ++ le 1 c.status.code ++ le 2 c.group ++ le 5 c.mark.toNat ++ le 1 c.detail ++
    le 1 (c.domain % 8 + if c.merged then 128 else 0) ++ le 1 (128 * ph)

/-- A message on a vector, at most one per vector per mark (R280). -/
def State.msi (s : State) (vec : Nat) : State :=
  if s.hri.msiSent.contains vec then s
  else ({ s with hri := { s.hri with msiSent := s.hri.msiSent ++ [vec] } }).send (.msix vec)

/-- A completion still held by PRT_HRIFLOW.CMPL_HOLD (R507). -/
def State.onHold (s : State) (c : Completion) : Bool := decide (s.since c.born < (s.word 0xC0040).bits 23 16)

/-- COMPLETION_WRITE (R276, R278, R296): the first completion is written and its buffer entry freed, or held. -/
def execCompletionWrite (s : State) : Result :=
  .next (match s.hri.cmplQ with
    | [] => s
    | c :: q =>
      let n := min 64 (q.length + 1)
      if s.onHold c then { s with hri := { s.hri with held := n } }
      else if s.cmplFull then
        ({ s with hri := { s.hri with held := n, fullOpen := true } }).when (!s.hri.fullOpen) fun t => t.raise .cmplFull 10 1 (le 2 n)
      else
        let i := s.hri.cmplProd.toNat
        let held := min s.hri.held q.length
        let t := s.send (.hostWrite (s.hriAddr 0x30 + i % s.cmplN * 16) (c.bytes (phase i s.cmplN)))
        let t := { t with
          hri := { t.hri with cmplQ := q, cmplProd := t.hri.cmplProd + 1, held := held, fullOpen := t.hri.fullOpen && held != 0 }
          plan := { t.plan with buf := t.plan.buf.filter fun (e : FbEntry) => !(e.idx == c.ringIdx && e.stage == Stage.done) } }
        let t := t.send (.hostWrite (s.hriAddr 0x20 + 20) (le 4 t.hri.cmplProd.toNat))
        t.when (c.notify && (s.word 0xD0048).bit 15) fun u => u.msi ((s.word 0xD0048).bits 12 8))

/-! ## Event records (R279, R280, R298, R450, R530) -/

/-- The 32 bytes of an event record (R298). -/
def EventRec.bytes (e : EventRec) (ph : Nat) (lost : Bool) : List Byte :=
  le 2 e.ev.code ++ le 1 e.sev.code ++ le 1 e.kind ++ le 2 e.idx ++ le 2 (ph + if lost then 2 else 0) ++ le 6 e.time.toNat ++ le 2 e.epoch ++
    (e.detail ++ List.replicate 16 0).take 16

/-- The message of an event written or dropped (R280). -/
def State.evtMsi (s : State) (e : EventRec) : State :=
  let w := s.word 0xD0048
  s.when (w.bit 31 && decide (w.bits 29 28 ≤ e.sev.code)) fun t => t.msi (w.bits 20 16)

/-- An event written, dropped or filtered (R279, R530); a drop updates the EVT_LOST word of the control block (R271). With the rings off it is only counted and recorded. -/
def State.writeEvent (s : State) (e : EventRec) : State :=
  if !s.ringsOn then s
  else if e.sev.code < (s.word 0xD004C).bits 1 0 then { s with evs := s.evs.setFiltered }
  else if s.evtN ≤ (s.hri.evtProd - s.hri.evtCons).toNat then
    let t := { s with evs := s.evs.setLost, hri := { s.hri with evtLost := min 0xFFFFFFFF (s.hri.evtLost + 1), lostFlag := true } }
    (t.send (.hostWrite (s.hriAddr 0x20 + 28) (le 4 t.hri.evtLost))).evtMsi e
  else
    let i := s.hri.evtProd.toNat
    let t := s.send (.hostWrite (s.hriAddr 0x38 + i % s.evtN * 32) (e.bytes (phase i s.evtN) s.hri.lostFlag))
    let t := { t with hri := { t.hri with evtProd := t.hri.evtProd + 1, lostFlag := false } }
    (t.send (.hostWrite (s.hriAddr 0x20 + 24) (le 4 t.hri.evtProd.toNat ++ le 4 t.hri.evtLost))).evtMsi e

/-- A repeated event that escalates (R450), by source kind. -/
def escalates (e : EventRec) : Bool :=
  (e.kind == 2 && [Ev.dcoResidual, .slotConflict, .slotRange, .stageLate, .chkFrameBad].contains e.ev) ||
    (e.kind == 3 && [Ev.noticeBad, .skewRange, .noticeSlip].contains e.ev) || (e.kind == 1 && [Ev.spineMismatch, .ridgeMismatch].contains e.ev)

/-- A NOTICE_SLIP in the mark of a commit across a domain seam does not count (R147, R450). -/
def State.seamCommit (s : State) (k : Nat) : Bool :=
  s.fab.domOf (fieldOf (sadLow k)) != s.fab.domOf (fieldOf (sadHigh k)) &&
    [sadLow k, sadHigh k].any fun n => (s.spur (s.driverSpur n)).gen.entries.any fun x => x.applied && x.target == s.mark

/-- The spine that a Col's repeated mismatch condemns (R450): the faulty one, or the other than the selected where neither is. -/
def Col.condemned (c : Col) : Bool := if !c.aOk then false else if !c.bOk then true else !c.sel

/-- What an escalation does to its source (R450). -/
def State.escalate (s : State) (e : EventRec) : State :=
  let t := s.raiseAs .escalated .degraded e.kind e.idx (le 2 e.ev.code)
  if e.kind = 2 then t.spurFails e.idx 5 .escalated
  else if e.kind = 3 then t.sadFail e.idx
  else
    let b := (t.col e.idx).condemned
    ((t.spineFails e.idx b).modCol e.idx fun c => if b then { c with bStuck := true } else { c with aStuck := true }).incident
      { cls := 2, sev := .degraded, ev := .escalated, unit := e.idx } |>.closeIncident 2 e.idx

/-- The repeat rule of R450 on an event: its mark is kept, and a repeat within 156,250 marks escalates. -/
def State.repeats (s : State) (e : EventRec) : State :=
  if !escalates e || (e.ev == .noticeSlip && s.seamCommit e.idx) then s
  else
    let m := e.time.mark
    let again : Bool := s.faults.seen.any fun p => p.1 == e.ev && p.2.1 == e.kind && p.2.2.1 == e.idx && decide ((m - p.2.2.2).toNat ≤ 156250)
    let t := { s with faults := { s.faults with
      seen := (s.faults.seen.filter fun (p : Ev × Nat × Nat × Mark) => !(p.1 == e.ev && p.2.1 == e.kind && p.2.2.1 == e.idx)) ++ [(e.ev, e.kind, e.idx, m)] } }
    t.when again fun u => u.escalate e

/-- EVENT_RECORD (R450, R530): the oldest event raised updates the summary, then is written, dropped or filtered. -/
def execEventRecord (s : State) : Result :=
  .next (match s.raised with
    | [] => s
    | e :: r => (({ s with raised := r, evs := s.evs.note s.lastSev e }).writeEvent e).repeats e)

/-! ## The board description table (R302, R303) -/

/-- BDT_LOAD (R303): a write of 1 to HRI_CTRL.BDT_LOAD. -/
def execBdtLoad (s : State) : Result :=
  .next (s.take 0xD0000 2#32 .rw fun t =>
    if !t.hriQuiet then t.cfgEvent .cfgBusy 0xD0000 2#32
    else ({ t with hri := { t.hri with bdt := 1 } }).send (.hostRead (t.hriAddr 0x40) 512))

/-- A number of the table. -/
abbrev tab (bs : List Byte) (k n : Nat) : Nat := field bs k n

/-- Bit `i` of the flags of the reference section (R90). -/
def refFlagBit (bs : List Byte) (i : Nat) : Bool := tab bs 22 1 / 2 ^ i % 2 == 1

/-- The flags of the reference section are accepted (R90). -/
def State.refFlagsOk (s : State) (bs : List Byte) : Bool :=
  let a := refFlagBit bs 0
  let b := refFlagBit bs 1
  (a || b) && (if refFlagBit bs 3 then b else a) && tab bs 22 1 < 32 &&
    (match s.rdg.selected with
     | some sel => (if sel then b else a) || ((if sel then a else b) && (s.rdg.ref !sel).qual)
     | none => true)

/-- V_1 to V_12 of the table. -/
def tabCurve (bs : List Byte) : List Nat := (List.range 12).map fun j => tab bs (82 + 2 * j) 2

/-- O_f of the table. -/
def tabOff (bs : List Byte) (f : Nat) : Int := fromTwos 8 (tab bs (106 + f) 1)

/-- The fields of the table: offset, size, accepted (R90, R302, R372, R464, R489). -/
def State.tabFields (s : State) (bs : List Byte) : List (Nat × Nat × Bool) :=
  let crc := crc32 (bs.take 8 ++ [0, 0, 0, 0] ++ bs.drop 12)
  let den := tab bs 288 4
  let erase := tab bs 296 4
  let prog := tab bs 300 4
  [(0, 4, tab bs 0 4 == 0x54444256), (4, 2, tab bs 4 2 == 2), (6, 2, tab bs 6 2 == 512), (8, 4, tab bs 8 4 == crc.toNat),
   (16, 4, tab bs 16 4 == 100000000), (20, 2, between 1 50 (tab bs 20 2)), (22, 1, s.refFlagsOk bs), (24, 3, true), (28, 3, true), (31, 1, tab bs 31 1 < 64)] ++
  ((List.range 25).map fun f => (32 + f, 1, between 0 15 (tab bs (32 + f) 1))) ++
  ((List.range 25).map fun f => (57 + f, 1, between 1 100 (tab bs (57 + f) 1))) ++
  ((List.range 12).map fun j => (82 + 2 * j, 2, between 550 1000 (tab bs (82 + 2 * j) 2) && (j == 0 || tab bs (80 + 2 * j) 2 ≤ tab bs (82 + 2 * j) 2))) ++
  ((List.range 25).map fun f =>
    (106 + f, 1, decide (-50 ≤ tabOff bs f) && decide (tabOff bs f ≤ 50) && decide ((tab bs 104 2 : Int) + tabOff bs f ≤ 1000))) ++
  [(131, 2, tab bs 131 2 == 0 || between 500 700 (tab bs 131 2)), (133, 2, between 1 1000 (tab bs 133 2)),
   (288, 4, (List.range 5).any (fun i => den == 2 ^ (24 + i)) && (s.crn.unusable || den == Config.flashDensity)),
   (292, 1, between 0 2 (tab bs 292 1) && (s.crn.unusable || Config.flashMode (tab bs 292 1))),
   (296, 4, erase == 0 || between 1000 4000000 erase), (300, 4, prog == 0 || between 100 20000 prog),
   (320, 1, between 0 3 (tab bs 320 1)), (321, 1, between 60 105 (tab bs 321 1)), (322, 1, between 85 115 (tab bs 322 1)),
   (323, 1, tab bs 322 1 < tab bs 323 1), (324, 1, tab bs 323 1 < tab bs 324 1 && tab bs 324 1 ≤ 125)] ++
  ((List.range 25).map fun f => (336 + f, 1, tab bs (336 + f) 1 == 128 + Config.colRev.toNat))

/-- The offset of the first failing byte: of a field, or a reserved byte that is not 0 (R301, R303). -/
def State.tabBad (s : State) (bs : List Byte) : Option Nat :=
  let fs := s.tabFields bs
  match (fs.filterMap fun f => if f.2.2 then none else some f.1) ++
      (List.range 512).filter fun k => !(fs.any fun f => f.1 ≤ k && k < f.1 + f.2.1) && tab bs k 1 != 0 with
  | [] => none
  | k :: ks => some (ks.foldl min k)

/-- An input as an accepted table declares it (R67, R90). -/
def RefIn.declare (x : RefIn) (d : Bool) : RefIn :=
  { x with declared := d, qual := x.qual && d, counts := x.counts && d && x.declared, absentRaised := false }

/-- The requests recomputed from a new curve, at once, rising or falling (R460). -/
def State.newCurve (s : State) : State := (s.mapCols fun _ c => { c with avs := { c.avs with inForce := 0, hold := 0 } }).requests true

/-- An accepted table in force (R87, R90, R97, R303, R460, R464, R479). -/
def State.takeTable (s : State) (bs : List Byte) : State :=
  let a := refFlagBit bs 0
  let b := refFlagBit bs 1
  let gone : Bool := match s.rdg.selected with | some sel => !(if sel then b else a) | none => false
  let t := ((s.setField 0x18000 0 0 (if refFlagBit bs 3 then 1 else 0)).setField 0x18000 1 1 (if refFlagBit bs 4 then 1 else 0))
  let t := (t.setWord 0x18050 (BitVec.ofNat 32 (tab bs 24 3))).setWord 0x18054 (BitVec.ofNat 32 (tab bs 28 4))
  ({ t with
    rdg := { t.rdg with a := t.rdg.a.declare a, b := t.rdg.b.declare b, revertDue := t.rdg.revertDue || gone }
    lko := { t.lko with
      calrefDeclared := refFlagBit bs 2, tolerance := tab bs 20 2, tableKept := true, tabPrefer := refFlagBit bs 3, tabRevert := refFlagBit bs 4
      tabStk := BitVec.ofNat 32 (tab bs 24 3), tabEth := BitVec.ofNat 32 (tab bs 28 4)
      tripLevels := [tab bs 322 1, tab bs 323 1, tab bs 324 1] }
    hri := { t.hri with
      bdt := 2, rails := (List.range 25).map fun f => tab bs (32 + f) 1, slew := (List.range 25).map fun f => tab bs (57 + f) 1
      curve := tabCurve bs, offs := (List.range 25).map (tabOff bs), park := tab bs 131 2, ampLsb := tab bs 133 2
      cooling := tab bs 320 1, maxTcap := tab bs 321 1, flashMode := tab bs 292 1, eraseTmo := tab bs 296 4, progTmo := tab bs 300 4 } }).newCurve

/-- BDT_READ_DONE (R303): the table is accepted whole, or rejected whole with BOARD_RANGE. -/
def execBdtReadDone (bytes : List Byte) (s : State) : Result :=
  let bs := (bytes ++ List.replicate 512 0).take 512
  .next (if s.hri.bdt ≠ 1 then s
    else match s.tabBad bs with
      | some k => ({ s with hri := { s.hri with bdt := 3 } }).raise .boardRange 10 4 (le 2 k)
      | none => s.takeTable bs)

/-! ## Basic control and the watchdog (R304 to R306) -/

/-- The domains in use that ask for more than NOMINAL. -/
def State.aboveNominal (s : State) : List Nat := s.fab.used.filter fun d => decide ((s.fab.dom d).nominal < (s.fab.dom d).req)

/-- PLAN_IDLE (R306): the watchdog's limit has passed with some domain above NOMINAL: the requests come down to NOMINAL by an originated set. -/
def execPlanIdle (s : State) : Result :=
  let w := s.word 0xD0050
  .next (if !w.bit 31 || !s.ringsOn || s.aboveNominal.isEmpty || decide (s.since s.plan.lastFetch < 1024 * w.bits 15 0) then s
    else
      let b := (s.aboveNominal.map fun d => (s.fab.dom d).baseOf (s.fab.dom d).nominal).foldl min s.fab.baseReq
      let t := (s.patchFab (fun _ => false) fun fb => ({ fb with baseReq := min fb.baseReq b }).derive).rebind
      t.baseMoved.raise .planIdle 10 0 (le 4 (s.since s.plan.lastFetch)))

/-- The fields of SUM_PROFILE (R311). -/
def profileFields : List Fld := [fldAll 31 31 .rw, ⟨23, 16, .rw, 20, 240⟩, ⟨15, 8, .rw, 60, 105⟩, fldAll 6 4 .rw, fldAll 1 0 .rw]

/-- PROFILE_WRITE (R304, R305, R311): ignored with CFG_BUSY while the plan ring is enabled; an undefined field is ignored with CFG_RANGE. -/
def execProfileWrite (value : Word) (s : State) : Result :=
  .next (s.take 0x300 value .rw fun t =>
    if t.ringsOn then t.cfgEvent .cfgBusy 0x300 value
    else
      let ok : Fld → Bool := fun g => g.defined (value.bits g.hi g.lo)
      let u := t.setWord 0x300 (putFields ok value profileFields (t.word 0x300))
      let u := { u with gov := { u.gov with capDue := true } }
      u.baseMoved.when (!(profileFields.all ok)) fun v => v.cfgEvent .cfgRange 0x300 value)

/-- BASIC_RAISE (R304): under basic control Summit raises the base on its own, with at most one raise series in flight and none within 64 marks of the last. -/
def execBasicRaise (s : State) : Result :=
  .next (if !s.basic || s.role.silent || s.faults.noStage || !s.atMark || !s.mayStage || s.boot.req != 0 || s.plan.sets.any (fun c => c.kind != .host && c.kind != .drop) ||
      s.plan.lastRaise.any (fun m => decide (s.since m < 64)) then s
    else
      let view := s.viewFor s.plan.freshSeq (s.mark + 4)
      let r := s.plainContents .basic view (s.fencesFor s.plan.freshSeq (s.mark + 4)) [] none
      if r.fb.base ≤ view.base then s
      else
        let c := CommitSet.form .basic s.plan.freshSeq (s.mark + 4) [] [] view s.mark
        let t := s.modPlan fun p => ({ p with sets := p.sets ++ [{ c with target := s.floorFor c }], lastRaise := some s.mark }).tookSeq
        t.stageFormed c.seq)

end Sys2Proof.Machine
end

