-- ==== Sys2Proof/Machine/Images.lean ====
section
/-! DEFINITION. What a save writes to the flash device (R373 to R380): the bytes of an image, its records and its commit record. -/

namespace Sys2Proof.Machine

/-- Bytes of 0. -/
def zeros (n : Nat) : List Byte := List.replicate n 0

/-- A record of `n` bytes: its content, then 0, and in the last 4 bytes the CRC-32 over all before them (R376). -/
def sealed (n : Nat) (bs : List Byte) : List Byte :=
  let body := (bs ++ zeros n).take (n - 4)
  body ++ le 4 (crc32 body).toNat

/-- The first 16 bytes of a record (R376): index, kind, version 1, filled mask, flags, consecutive rejects, mark of the last accepted result. -/
def recordHead (idx kind filled flags rejects : Nat) (m : Mark) : List Byte :=
  le 2 idx ++ le 1 kind ++ le 1 1 ++ le 1 filled ++ le 1 flags ++ le 1 rejects ++ zeros 1 ++ le 5 m.toNat ++ zeros 3

/-- Bins of a record, `n` bytes each: a bin that is not filled holds 0 throughout (R376). -/
def binBytes {α : Type} (n : Nat) (f : α → List Byte) (bins : List (Option α)) : List Byte :=
  bins.flatMap fun b => match b with | none => zeros n | some x => (f x ++ zeros n).take n

/-- A bin of a Spur record (R376). -/
def SpurBin.bytes (b : SpurBin) : List Byte :=
  leInt 2 b.tb ++ le 2 b.gain ++ (b.codes.flatMap fun c => le 2 c.toNat) ++ b.offs.flatMap (leInt 1) ++ b.thr.flatMap (le 1) ++ b.mon.flatMap (le 1)

/-- A Spur record (R376). -/
def SpurRec.bytes (r : SpurRec) (idx : Nat) : List Byte :=
  sealed 2048 (recordHead idx 2 (filledBins r.bins) ((if r.traced then 1 else 0) + (if r.gap then 2 else 0)) r.rejects r.mark ++ binBytes 208 SpurBin.bytes r.bins ++
    (r.taps.flatMap fun t => (t.flatMap (leInt 1) ++ zeros 16).take 16) ++ r.sens.flatMap (leInt 1))

/-- A bin of a Saddle record (R376): BDLY reads 0 on a seam Saddle. -/
def SaddleBin.bytes (seam : Bool) (b : SaddleBin) : List Byte :=
  leInt 2 b.tb ++ le 1 b.dly ++ le 1 (if seam then 0 else b.bhi) ++ le 1 (if seam then 0 else b.blo)

/-- A Saddle record (R376). -/
def SaddleRec.bytes (r : SaddleRec) (idx : Nat) : List Byte :=
  sealed 256 (recordHead idx 3 (filledBins r.bins) (if r.traced then 1 else 0) r.rejects r.mark ++ binBytes 6 (SaddleBin.bytes (sadSeam idx)) r.bins ++ leInt 1 r.rbar)

/-- Lookout's record (R376). The offset of its sensor, which no rule sets, is Config.lookoutSensor. -/
def LookoutRec.bytes (r : LookoutRec) : List Byte :=
  sealed 2048 (recordHead 0 4 (filledBins r.bins) (if r.traced then 1 else 0) r.rejects r.mark ++
    binBytes 36 (fun b => leInt 2 b.1 ++ b.2.flatMap (leInt 1)) r.bins ++ le 2 r.oscTrim ++ le 1 Config.lookoutSensor.toNat)

/-- The header of an image (R375). -/
def BankImg.header (x : BankImg) (bank : Nat) : List Byte :=
  let body := le 4 0x4E524143 ++ le 2 2 ++ le 2 64 ++ le 4 (x.commit.getD 0) ++ le 4 (if bank = 2 then 1637 else 1186) ++ le 1 bank ++ zeros 3 ++ le 4 x.erase ++
    le 5 x.began.toNat ++ le 5 x.took.toNat ++ zeros 26
  body ++ le 4 (crc32 body).toNat

/-- The bytes of an image before its trailer (R374): header, records, and in bank F the factory section as the test equipment loaded it (R380). -/
def BankImg.body (x : BankImg) (bank : Nat) : List Byte :=
  x.header bank ++ zeros 192 ++ (x.spurs.zipIdx.flatMap fun p => p.1.bytes p.2) ++ (x.saddles.zipIdx.flatMap fun p => p.1.bytes p.2) ++ x.lookout.bytes ++ (if bank = 2 then Config.factorySection else [])

/-- The MAC that the security block computes over an image with the device-unique key, 32 bytes (R377). -/
def BankImg.mac (x : BankImg) (bank : Nat) : List Byte := (Config.deviceMac (x.body bank) ++ zeros 32).take 32

/-- An image whole, with its MAC trailer (R374, R377). -/
def BankImg.image (x : BankImg) (bank : Nat) : List Byte := x.body bank ++ x.mac bank ++ zeros 224

/-- The commit record of an image (R378). -/
def BankImg.commitRecord (x : BankImg) (bank : Nat) : List Byte :=
  let img := x.image bank
  let body := le 4 0x54494D43 ++ le 4 (x.commit.getD 0) ++ le 4 img.length ++ le 4 (crc32 img).toNat ++ x.mac bank ++ zeros 12
  body ++ le 4 (crc32 body).toNat

/-- Where a bank lies in the flash device (R373): its bank space and its commit sector. -/
def bankSpace (bank : Nat) : Nat := if bank = 0 then 0x600000 else if bank = 1 then 0x800000 else 0x400000

/-- The commit sector of a bank (R373). -/
def commitSector (bank : Nat) : Nat := bankSpace bank + 0x1FF000

end Sys2Proof.Machine
end

