-- ==== Sys2Proof/Machine/Store.lean ====
section
/-! DEFINITION. The Cairn store (R371 to R389): requests for a save, the save of a bank, bank F. -/

namespace Sys2Proof.Machine

/-- A Saddle's record as a save takes it (R376). -/
def Saddle.record (x : Saddle) : SaddleRec := { bins := x.bins, rbar := x.rbar, traced := x.traced, rejects := x.rejects, mark := x.calMark }

/-- Lookout's record. -/
def Lookout.record (l : Lookout) : LookoutRec := { bins := l.bins, traced := l.traced, rejects := l.rejects, mark := l.calMark, oscTrim := l.oscTrim }

/-- The bank that a save writes (R382): bank F for SAVE_F, else the bank of A and B that is not in use. -/
def Cairn.target (c : Cairn) : Nat := if c.saveF then 2 else if c.bank = 0 then 1 else 0

/-- A bank as the store knows it. -/
def Cairn.img (c : Cairn) (b : Nat) : BankImg := if b = 0 then c.a else if b = 1 then c.b else c.f

/-- The store with a bank changed. -/
def Cairn.setImg (c : Cairn) (b : Nat) (x : BankImg) : Cairn := if b = 0 then { c with a := x } else if b = 1 then { c with b := x } else { c with f := x }

/-- The sequence of a save (R379, R382): 1 for bank F, else 1 more than the highest of the Cairn partition. -/
def Cairn.nextSeq (c : Cairn) (b : Nat) : Nat := if b = 2 then 1 else 1 + max (c.a.commit.getD 0) (c.b.commit.getD 0)

/-- The erase count that a save writes (R375, R382): of the target's header, else of the other bank's, with this save. -/
def Cairn.nextErase (c : Cairn) (b : Nat) : Nat :=
  1 + (if (c.img b).erase ≠ 0 then (c.img b).erase else if b = 0 then c.b.erase else if b = 1 then c.a.erase else 0)

/-- The least number of marks between two save starts (R383): CRN_CFG.SPACING in quarters of an hour. -/
def State.spacing (s : State) : Nat := (s.word 0xA0804).bits 7 0 * 1406250000

/-- A save may start (R383, R384, R488). -/
def State.saveReady (s : State) : Bool :=
  !s.crn.saving && !s.crn.unusable && s.boot.pst != .v2 && s.boot.pst != .v3 &&
    (s.crn.saveF || (s.crn.pending && (s.crn.urgent ||
      (s.crn.holdUntil.all (fun m => notAfter m s.mark) && !s.crn.lastSave.any fun m => decide (s.since m < s.spacing)))))

/-- CRN_FLASH_ERR (R388). -/
def State.flashErr (s : State) (idx step addr cause : Nat) : State := s.raise .crnFlashErr 7 idx (le 1 step ++ le 4 addr ++ le 1 cause)

/-- A save begins (R382, R383): where the sequence is exhausted none is made (R384); the address of that event is a free value. -/
def State.beginSave (s : State) : State :=
  let c := s.crn
  let b := c.target
  let d := if b = 2 then { c with saveF := false } else { c with pending := false, urgent := false, holdUntil := none, lastSave := some s.mark }
  if 0xFFFFFFFF ≤ c.nextSeq b then (({ s with crn := d }).tookFree).flashErr b 1 s.free.toNat 3
  else { s with crn := { d with saving := true, goal := b, began := s.mark, took := s.mark, recSpurs := [], recSaddles := [], recLookout := none } }

/-- A Spur's record may be taken: not between the staging and the application of its trims (R382). -/
def Spur.recordable (x : Spur) : Bool := x.cal.staged.isNone && x.cal.writes.isEmpty

/-- The same of a Saddle. -/
def Saddle.recordable (x : Saddle) : Bool := x.staged.isNone && x.writes.isEmpty

/-- A save takes its records in the order of R374 up to the first n (R382 step 5): the ones taken before keep their values (R384), and a unit between staging and application is waited for. -/
def State.takeRecords (s : State) (n : Nat) : State :=
  let c := s.crn
  let sp := c.recSpurs ++ (((s.spurs.toList.take n).drop c.recSpurs.length).takeWhile Spur.recordable).map fun x => x.cal.record
  let sa := if sp.length < 425 then c.recSaddles
    else c.recSaddles ++ (((s.saddles.toList.take (n - 425)).drop c.recSaddles.length).takeWhile Saddle.recordable).map Saddle.record
  let lo := if decide (n < 1186) || decide (sa.length < 760) || s.lko.staged.isSome || c.recLookout.isSome then c.recLookout else some s.lko.record
  { s with crn := { c with recSpurs := sp, recSaddles := sa, recLookout := lo, took := s.mark } }

/-- A takeover during a save: the new engine takes every record again, on the same target with the same sequence (R384). -/
def State.saveAgain (s : State) : State := { s with crn := { s.crn with recSpurs := [], recSaddles := [], recLookout := none } }

/-- A save ends with its commit record verified (R382): the target holds a record of every unit, those not taken before as the units now stand, and is the bank in use. -/
def State.endSave (s : State) : State :=
  let c := s.crn
  let b := c.goal
  let img : BankImg :=
    { commit := some (c.nextSeq b), erase := c.nextErase b, began := c.began, took := if c.recLookout.isSome then c.took else s.mark, spurs := c.recSpurs ++ (s.spurs.toList.drop c.recSpurs.length).map fun x => x.cal.record
      saddles := c.recSaddles ++ (s.saddles.toList.drop c.recSaddles.length).map Saddle.record
      lookout := c.recLookout.getD s.lko.record }
  let d := { c.setImg b img with bank := b, seq := c.nextSeq b, saving := false, saves := c.saves + 1, fails := 0 }
  (({ s with crn := d }).send (.flash (bankSpace b) (img.image b) (commitSector b) (img.commitRecord b))).raise .crnSaved 7 b (le 4 (c.nextSeq b) ++ le 4 (c.nextErase b))

/-- A save fails in a step (R382, R387): the bank in use stays in use, and the target has no commit record. -/
def State.failSave (s : State) (step addr cause : Nat) : State :=
  let c := s.crn
  let x := c.img c.goal
  let y := if step ≤ 3 then { x with commit := none } else { BankImg.empty with erase := if step = 4 then 0 else c.nextErase c.goal }
  ({ s with crn := { c.setImg c.goal y with saving := false, fails := min 255 (c.fails + 1) } }).flashErr c.goal step addr cause

/-- What the flash device does in a save. -/
def State.flashStep (s : State) (r : FlashResult) : State :=
  match r with
  | .started => if s.saveReady then s.beginSave else s
  | .taken n => if s.crn.saving then s.takeRecords n else s
  | .done => if s.crn.saving then s.endSave else s
  | .failed step addr cause => if s.crn.saving then s.failSave step addr cause else s

/-- SAVE (R383): a request for a save at once; an unusable device takes none (R371). -/
def execSave (s : State) : Result :=
  .next (s.take 0xA0800 1#32 .rw fun t => if t.crn.unusable then t else { t with crn := { t.crn with pending := true, urgent := true } })

/-- CAIRN_SAVE (R382): a save starts, takes records, commits its image, or fails. -/
def execCairnSave (r : FlashResult) (s : State) : Result := .next (s.flashStep r)

/-- SAVE_F (R379): in PROVISIONED a save of bank F with the given result, after one that runs (R384); elsewhere CFG_LOCKED. -/
def execSaveF (r : FlashResult) (s : State) : Result :=
  .next (s.take 0xA0800 2#32 .rw fun t =>
    if t.lcs.st ≠ .provisioned then t.cfgEvent .cfgLocked 0xA0800 2#32
    else if t.crn.unusable then t
    else
      let u := { t with crn := { t.crn with saveF := true } }
      if t.crn.saving then u
      else match r with
        | .started => u.flashStep .started
        | _ => (u.flashStep .started).flashStep r)

/-- A save abandoned at entry to V2 or V3 (R384): Lookout keeps the pending flag. The step reached is a free value. -/
def State.abandonSave (s : State) : State :=
  let c := s.crn
  if !c.saving then { s with lko := { s.lko with savePending := c.pending } }
  else
    let d := if c.goal = 2 then { c with saving := false, saveF := true } else { c with saving := false, pending := true }
    (({ s with crn := d, lko := { s.lko with savePending := d.pending } }).tookFree).raise .crnSaveAbort 7 c.goal (le 1 s.free.toNat)

end Sys2Proof.Machine
end

