-- ==== Sys2Proof/Machine/TimeOfDay.lean ====
section
/-! DEFINITION. Lookout's time of day and its background work (R354, R402 to R408): ticks, snapshots, set, step and slew, the pulse per second, the local oscillator's error, the code density. -/

namespace Sys2Proof.Machine

/-- ε counts toward the rate (R402): a traced result, with EPS_EN. -/
def State.epsRate (s : State) : Int := if s.cal.traced && (s.word 0x10010).bit 8 then s.cal.refErr.getD 0 else 0

/-- e (R402): ε on REFCLK; δ + ε on the local oscillator. -/
def State.rateError (s : State) : Int := if s.lko.todSrc = 2 then s.lko.loErr.getD 0 + s.epsRate else s.epsRate

/-- The slew that remains, 2^-32 ns. -/
def Lookout.slewRaw (l : Lookout) : Int := l.slewLeft * 2 ^ 24 + l.slewSub

/-- A remaining slew of `v` 2^-32 ns, split as LKO_ADJ_LEFT shows it. -/
def Lookout.setSlew (l : Lookout) (v : Int) : Lookout := { l with slewLeft := v / 2 ^ 24, slewSub := v % 2 ^ 24 }

/-- The slew rate that a remaining adjustment asks for (R404). -/
def State.slewRate (s : State) : Int :=
  let v := s.lko.slewRaw
  let m : Int := (s.word 0x10010).bits 31 24
  if v = 0 then 0 else if 0 < v then m else -m

/-- Lookout samples a, e and s (R402). -/
def State.sampleRates (s : State) : State :=
  { s with lko := { s.lko with rateA := fromTwos 32 (s.word 0x10028).toNat, rateE := s.rateError, rateS := s.slewRate, v2Ticks := 0 } }

/-- What one tick adds apart from the slew, 2^-32 ns (R402); `roundUp` says which way the accumulator rounds, which the spec leaves open. -/
def tickBase (a e : Int) (roundUp : Bool) : Int :=
  let num : Int := 10 * 2 ^ 32 * (65536000000 + a) * 1000000000
  let den : Int := 65536000000 * (1000000000 + e)
  if roundUp ∧ num % den ≠ 0 then num / den + 1 else num / den

/-- What one tick adds for a slew of `sl` ppm with `left` to go; the last tick takes the remainder exactly (R404). -/
def tickSlew (sl e left : Int) : Int :=
  let v := roundDiv (10 * 2 ^ 32 * sl * 1000) (1000000000 + e).toNat
  if 0 < sl ∧ 0 < left then min v left else if sl < 0 ∧ left < 0 then max v left else 0

/-- PPS_OUT after a tick (R406): it rises where a whole second is crossed, and stays high for WIDTH ms, 100,000 ticks to the ms. -/
def Lookout.ppsTick (l : Lookout) (on : Bool) (width : Nat) (crossed : Bool) : Lookout :=
  if on && crossed then { l with ppsOut := true, ppsLeft := width * 100000 }
  else if l.ppsLeft ≤ 1 then { l with ppsOut := false, ppsLeft := 0 }
  else { l with ppsLeft := l.ppsLeft - 1 }

/-- TOD_TICK (R402, R404, R406): one tick of the time base. In V2 the rates are sampled every 64 ticks. -/
def execTodTick (roundUp : Bool) (s : State) : Result :=
  .next (if s.boot.pst = .v3 ∨ s.lko.lost then s
    else
      let s := if s.boot.pst = .v2 ∧ 64 ≤ s.lko.v2Ticks + 1 then s.sampleRates else { s with lko := { s.lko with v2Ticks := s.lko.v2Ticks + 1 } }
      let l := s.lko
      let d := tickSlew l.rateS l.rateE l.slewRaw
      let tod := Tod.ofRaw (l.tod.raw + tickBase l.rateA l.rateE roundUp + d)
      let w := s.word 0x10050
      { s with lko := ({ l.setSlew (l.slewRaw - d) with tod := tod }).ppsTick (w.bit 31) (w.bits 23 16) (tod.secs != l.tod.secs) })

/-- A number held in 64 bits of two's complement. -/
def sat63 (v : Int) : Int := max (-(2 ^ 63)) (min (2 ^ 63 - 1) v)

/-- TOD_STEP (R409): the step in 2^-8 ns. -/
def State.tellStep (s : State) (raw : Int) : State := s.raise .todStep 4 0xFFFF (leInt 8 (sat63 (raw / 2 ^ 24)))

/-- The time that LKO_TOD_SET holds (R410). -/
def State.todSetValue (s : State) : Tod :=
  ⟨(s.word 0x1001C).toNat + 2 ^ 32 * (s.word 0x10020).bits 15 0, (s.word 0x10018).bits 29 0, (s.word 0x10014).bits 15 0 * 2 ^ 16⟩

/-- A pending set (R404): time of day at ridge tick 0 takes the set value, `edge` being the time past the last tick; any slew is abandoned. -/
def State.applyTodSet (s : State) (edge : Int) : State :=
  if !s.lko.setDue then s
  else
    let now := s.lko.tod.raw + edge
    let v := s.todSetValue.raw
    ({ s with lko := { s.lko.setSlew 0 with tod := Tod.ofRaw (v - edge), setDue := false, todSet := true } }).tellStep (v - now)

/-- A pending step (R404): LKO_ADJ_PHASE is added. -/
def State.applyStep (s : State) : State :=
  if !s.lko.stepDue then s
  else
    let d := fromTwos 32 (s.word 0x10024).toNat * 2 ^ 24
    ({ s with lko := { s.lko with tod := Tod.ofRaw (s.lko.tod.raw + d), stepDue := false } }).tellStep d

/-- TOD_SNAPSHOT (R404, R405): at ridge tick 0 of a mark, once, `ns16` being the time from the last tick to the ridge edge in 2^-16 ns. A pending set or step takes effect, the time of day at the edge is latched and sent, and the rates of the mark are sampled (R402). -/
def execTodSnapshot (ns16 : Nat) (s : State) : Result :=
  .next (if !s.atMark || s.lko.lost || s.lko.snapAt == some s.mark then s
    else
      let edge := atRate (ns16 * 2 ^ 16) s.lko.rateA s.lko.rateS s.lko.rateE
      let t := (s.applyTodSet edge).applyStep
      let v := Tod.ofRaw (t.lko.tod.raw + edge)
      let t := ({ t with lko := { t.lko with snap := v, snapMark := s.mark, snapAt := some s.mark } }).sampleRates
      t.send (.todSnap v.secs v.ns v.frac (s.mark.toNat % 65536)))

/-- SET (R404): time of day takes the set value at the next mark. -/
def execSet (s : State) : Result := .next (s.take 0x10010 1#32 .rw fun t => { t with lko := { t.lko with setDue := true } })

/-- STEP (R404): LKO_ADJ_PHASE is added at the next mark. -/
def execStep (s : State) : Result := .next (s.take 0x10010 2#32 .rw fun t => { t with lko := { t.lko with stepDue := true } })

/-- SLEW (R404): a slew by LKO_ADJ_PHASE, in place of any remainder. -/
def execSlew (s : State) : Result :=
  .next (s.take 0x10010 4#32 .rw fun t => { t with lko := t.lko.setSlew (fromTwos 32 (t.word 0x10024).toNat * 2 ^ 24) })

/-- PPS_IN_MISSING (R406): no edge for 1.5 s, 2,343,750 marks, after the last one, once per episode. -/
def execPpsInMissing (s : State) : Result :=
  .next (if (s.word 0x10050).bit 30 && !s.lko.ppsMissing && s.lko.ppsAt.any fun m => decide (2343750 ≤ s.since m) then
      ({ s with lko := { s.lko with ppsMissing := true } }).raise .ppsInMissing 4 4 (le 6 s.lko.pps.secs)
    else s)

/-- LO_ERROR_MEASURE (R403): δ, every 2,048 marks while the root loop is locked to a qualified input; frozen in every other state. -/
def execLoErrorMeasure (ppb : Int) (s : State) : Result :=
  .next (match s.rdg.selected with
    | some b =>
      if s.rdg.lock && (s.rdg.ref b).qual && s.lko.loAt.all fun m => decide (2048 ≤ s.since m) then { s with lko := { s.lko with loErr := some ppb, loAt := some s.mark } } else s
    | none => s)

/-- A background code density begins (R354): no channel armed, and none begun in this window interval. -/
def State.startDensity (s : State) : State :=
  if s.lko.density || !s.lko.timerLock || (List.range 6).any (fun c => (s.chan c).armed) ||
      s.lko.lastDens.any (fun m => decide (s.since m < intervalMarks s.cal.interval)) then s
  else { s with lko := { s.lko with density := true, lastDens := some s.mark } }

/-- LOOKOUT_DENSITY (R354, R357 to R359): the density ends with the widths of the 32 phases, at the temperature of Lookout's sensor. A good result fills its bin and comes into force with the next recomputation (R360). -/
def execLookoutDensity (widths : List Int) (temp : Int) (s : State) : Result :=
  .next (if !s.lko.density then s
    else
      let t := { s with lko := { s.lko with density := false, temp := temp } }
      match itemFault Saddle.reset (.timer 0 widths) with
      | some p =>
        ({ t with lko := { t.lko with rejects := min 255 (t.lko.rejects + 1) } }).calReject .lookout p.1 p.2 (s.lko.rejects + 1)
      | none =>
        let u := { t with lko := { t.lko with rejects := 0, traced := s.tracedNow, calMark := s.mark } }
        match binOf temp with
        | none => u.tempRange .lookout temp
        | some b => ({ u with lko := { u.lko with bins := setNth u.lko.bins b (some (temp, widths)) } }).when (s.lko.bins.getD b none).isNone State.askSave)

/-- LOOKOUT_LOST (R434, R444). -/
def execLookoutLost (s : State) : Result :=
  .next (if s.lko.lost then s
    else ({ s with lko := { s.lko with lost := true } }).raise .lookoutLost 4 0xFFFF [])

end Sys2Proof.Machine
end

