-- ==== Sys2Proof/Machine/Spares.lean ====
section
/-! DEFINITION. Faults and spares (R215 to R218, R434 to R458): failed Spurs, borrows, dark regions, release, incidents, the storm and FATAL events; and the end of a self-test by abort. -/

namespace Sys2Proof.Machine

/-! ## An aborted self-test (R417, R426, R429) -/

/-- The index of a tested unit as event source (R430). -/
def bistIdx (kind unit copy : Nat) : Nat := if kind = 0 then unit else 0x200 + 2 * unit + copy

/-- Ridge ticks for P patterns (R414). -/
def patternTicks (p : Nat) : Nat := 1540 * 2 ^ p

/-- The marks for which the present phase of the test has run: none before its first mark. -/
def State.bistAge (s : State) : Nat := if Mark.ahead s.bist.since s.mark then 0 else s.since s.bist.since

/-- The patterns that the running test has applied (R414). -/
def State.patternsNow (s : State) : Nat :=
  if s.bist.phase = 3 then if Mark.ahead s.bist.since s.mark then 0 else min (2 ^ s.bist.pow) ((256 * s.bistAge + s.tick) / 1540)
  else if s.bist.phase = 4 then 2 ^ s.bist.pow else 0

/-- The test of a Col instance, or one whose Spur stays out, ends at once. -/
def State.testOver (s : State) : State := { s with bist := { s.bist with phase := 0, done := true, handover := false, locked := false } }

/-- The running test ends with ABORTED_ENV, ABORTED_SPARE or ABORTED_STOP: restore and return follow where state was saved (R417, R420). -/
def State.bistAbort (s : State) (res src pats : Nat) (sig : BitVec 64) : State :=
  let b := s.bist
  if b.phase = 0 ∨ 5 ≤ b.phase then s
  else
    let t := { s with bist := { b with result := res, patterns := pats, misr := sig, src := if res = 4 then src else b.src } }
    let t := t.raise .bistAborted 8 (bistIdx b.kind b.unit b.copy) (le 1 res ++ le 1 (if res = 4 then src else 0) ++ le 2 0 ++ le 4 pats)
    if b.kind = 1 then t.testOver
    else if b.phase = 1 then t.testOver.modCol (fieldOf b.unit) fun c => { c with spare := c.spare.over }
    else { t with bist := { t.bist with phase := 5, since := s.mark + 1 } }

/-- The same at the present count of patterns; the signature over them is a free value. -/
def State.bistStop (s : State) (res : Nat) : State :=
  let lo := s.free
  let t := s.tookFree
  if s.bist.phase = 0 ∨ 5 ≤ s.bist.phase then s else t.tookFree.bistAbort res 0 s.patternsNow (t.free ++ lo)

/-! ## Regions that lose or regain a driver -/

/-- The Saddle between two neighbouring regions. -/
def sadBetween (a b : Nat) : Nat := ((sadsOf a).find? fun k => sadOther k a == b).getD 0

/-- The Saddles of a region changed. -/
def State.modSadsOf (s : State) (r : Nat) (g : Saddle → Saddle) : State := s.each (sadsOf r) fun t k => t.modSad k g

/-- A region made dark (R440), with FIELD_DEGRADED: its root gates close and its output is cut at the first cycle of the tally mark of the Spur that clocks it (R53). -/
def State.goDark (s : State) (r : Nat) : State :=
  let now : Bool := match s.clockedBy r with | none => true | some n => s.atCycle0 n
  let t := if now then s.cutRegion r else s.modSpur r fun x => { x with gates := { x.gates with darkDue := true } }
  t.raise .fieldDegraded 1 (fieldOf r) (le 2 r ++ le 1 (t.darkIn (fieldOf r)))

/-- A region can lend (R215): its trees are driven by a healthy Spur or by the field spare. -/
def State.canLend (s : State) (m : Nat) : Bool :=
  match (s.spur m).gates.driver with
  | .own => !(s.spur m).gates.failed
  | .spare => !(s.spur (400 + fieldOf m)).gates.failed
  | _ => false

/-- The lender of a region (R215, R439): the lowest-numbered inner neighbour that can lend, the failed lender apart. -/
def State.lenderFor (s : State) (r : Nat) (except : Option Nat) : Option Nat :=
  (((sadsOf r).filter fun k => !sadSeam k).map fun k => sadOther k r).foldl
    (fun b m => if s.canLend m && except != some m && b.all (fun x => decide (m < x)) then some m else b) none

/-- A borrow begun (R216, step 1): the region's Saddles are held, and the Col waits for a quiet mark. -/
def State.beginBorrow (s : State) (r l : Nat) : State :=
  (s.modSadsOf r fun x => { x with held := true }).modCol (fieldOf r) fun c =>
    { c with borrow := some { region := r, lender := l, since := s.mark, ready := false, quietAt := 0, connected := false } }

/-- A region's own Spur takes its trees back from the lender (R218, R453), with the debt and tally of the Spur that clocked them: the fault fence is lifted. Its estimates toward the outer neighbours are the relay estimates (R217). -/
def State.unborrow (s : State) (r : Nat) : State :=
  let o := s.spur ((s.clockedBy r).getD r)
  let t := s.endCaps r
  let rel : Nat → Int := fun dir => ((sadToward r dir).map fun k => (s.sad k).relayOf k r).getD 0
  let t := t.modSpur r fun x => { x with
    gates := { x.gates with driver := .own, faultFence := false, cause := 0, v1 := o.gates.v1, tran := o.gates.v1 }
    gen := x.gen.copyTally o.gen
    str := { x.str with debt := o.str.debt, leads := x.str.leads.map fun d _ => rel d } }
  let t := t.modSpur r fun x => x.setComp (t.compWanted r || o.gates.v1)
  (t.modSadsOf r fun x => { x with borrow := 0, active := false }).modCol (fieldOf r) fun c =>
    { c with borrow := none, spare := { c.spare.over with target := 0 } }

/-- A region's own Spur takes its trees back from whatever drives them. -/
def State.regain (s : State) (r : Nat) : State :=
  match (s.spur r).gates.driver with
  | .own => s
  | .spare => (s.takeBack (fieldOf r) r).modSpur r fun x => { x with gates := { x.gates with faultFence := false } }
  | .borrow _ => s.unborrow r
  | .dark => s.undark r

/-! ## SPUR_FAILED (R436 to R442) -/

/-- SPUR_FAILED as an event (R454). -/
def State.tellFailed (s : State) (n resp : Nat) : State := s.raise .spurFailed 2 n (le 1 (s.spur n).gates.cause ++ le 1 resp)

/-- A region with a failed driver and no idle spare: borrowed, or dark (R438, R440, R441). -/
def State.borrowOrDark (s : State) (n r : Nat) : State :=
  match if (s.col (fieldOf r)).borrow.isNone then s.lenderFor r none else none with
  | some l => (s.beginBorrow r l).tellFailed n 2
  | none => ((s.goDark r).tellFailed n 3).closeIncident 3 n

/-- A failed lender (R439): its region goes dark, and the borrowed region gets a new lender, or goes dark where none exists. -/
def State.lenderFails (s : State) (n r b : Nat) : State :=
  let t := (s.goDark r).tellFailed n 3
  let t := match t.lenderFor b (some r) with
    | some l => t.beginBorrow b l
    | none => t.goDark b
  t.closeIncident 3 n

/-- The region that a split arm has held dark for a refusing Spur (R442): it is borrowed where R440 leaves it a lender. -/
def State.splitDark (s : State) (n : Nat) : Bool := decide (n < 400) && (s.spur n).gates.cause == 4 && s.dark n

/-- The region of a Spur that refused a split arm, which the field spare has taken at the target mark (R442). -/
def State.splitTaken (s : State) (n : Nat) : Bool := decide (n < 400) && (s.spur n).gates.cause == 4 && (s.spur n).gates.driver == .spare

/-- SPUR_FAILED (R435, R436): the response to the open incident of a Spur, at ridge tick 0 of the mark after the Col's report. A tested Spur whose loop fails on its return stays disconnected, and its test is over as after a FAIL (R424). DESIGN CHOICE, notes/assumptions/73.md. -/
def execSpurFailed (n : Fin 425) (s : State) : Result :=
  .next (if !s.atMark || (s.col (fieldOf n)).repMark == some s.mark || !(s.faults.opened.getD 3 none).any (fun i => i.unit == n.val) || s.faults.storm || s.role.silent || !(s.spur n).gates.failed then s
    else
      let f := fieldOf n
      let serving : Bool := s.testRuns && s.bist.kind == 0 && (s.bist.unit == 400 + f || (n.val == 400 + f && s.bist.handover && fieldOf s.bist.unit == f))
      let t := if serving then s.bistStop 5 else if s.underTest n && s.bist.phase == 6 then s.testOver else s
      if s.splitDark n then
        (match t.lentTo n with
         | some b => t.lenderFails n n b
         | none => t.borrowOrDark n n)
      else match s.regionOf n with
      | none => (t.tellFailed n (if s.splitTaken n then 1 else 0)).closeIncident 3 n
      | some r =>
        if n.val < 400 && (t.col f).spare.track && (t.col f).spare.target == n.val then t.tellFailed n 1
        else if n.val < 400 && t.spareIdle f then (t.track f r).tellFailed n 1
        else if n.val < 400 && s.testRuns && s.bist.kind == 0 && s.bist.unit == 400 + f && !(s.spur (400 + f)).gates.failed then t.tellFailed n 1
        else match t.lentTo r with
          | some b => t.lenderFails n r b
          | none => t.borrowOrDark n r)

/-! ## Borrowing (R216 to R218) -/

/-- A quiet mark (R216, step 2): at its first cycle the lender and every other neighbour carry a debt of 1 phase or less. -/
def State.quietMark (s : State) (r : Nat) : Bool := (s.neighbours r).all fun n => decide ((s.spur n).str.debt ≤ 1)

/-- BORROW_QUIET_MARK (R216): at the first cycle of a tally mark of the lender the switch mark is fixed, where that mark is quiet, or with BORROW_FORCED at the 64th one after the first of the wait. -/
def execBorrowQuietMark (f : Fin 25) (s : State) : Result :=
  .next (match (s.col f).borrow with
    | none => s
    | some b =>
      let l := s.driverSpur b.lender
      if b.connected || b.ready || !s.atCycle0 l then s
      else
        let ready := s.modCol f fun c => { c with borrow := some { b with ready := true, quietAt := (s.spur l).gen.tallyMark } }
        if s.quietMark b.region then ready
        else if 64 ≤ s.since b.since then ready.raise .borrowForced 3 (sadBetween b.region b.lender) (le 2 b.lender)
        else s)

/-- The borrow path connected (R216, steps 3 and 4). -/
def State.connect (s : State) (b : Borrow) (slip : Int) : State :=
  let f := fieldOf b.region
  let k := sadBetween b.region b.lender
  let t := if (s.spur b.region).gates.driver = .spare then s.modCol f fun c => { c with spare := { c.spare.over with driving := false } } else s
  let t := t.modSpur b.region fun x => { x.setComp true with gates := { (x.setComp true).gates with driver := .borrow b.lender, comp := true, tran := x.gates.v1, faultFence := true, darkDue := false } }
  let t := t.modSadsOf b.region fun x => { x with borrow := 0, active := false, held := true, toHi := { x.toHi with relay := 0 }, toLo := { x.toLo with relay := 0 } }
  let t := t.modSad k fun x => { x with borrow := if sadLow k = b.lender then 1 else 2, active := true, slip := slip }
  let t := t.each (sadsOf b.region) fun u j =>
    match u.clockedBy (sadOther j b.region) with
    | none => u
    | some n => u.modSpur n fun x => { x with str := { x.str with cap2 := true, cap2End := false, leads := x.str.leads.mod (sadDir j (sadOther j b.region)) fun _ => 0 } }
  t.modCol f fun c => { c with borrow := some { b with ready := true, connected := true } }

/-- BORROW_START (R216): at the first cycle of the lender's next tally mark after the quiet mark; in a native window at its end (R365). SLIP tells how far the output that clocked the region until now, the failed Spur's own or a former one's, stands from the lender's. -/
def execBorrowStart (f : Fin 25) (region : Fin 400) (s : State) : Result :=
  .next (match (s.col f).borrow with
    | none => s
    | some b =>
      let l := s.driverSpur b.lender
      if b.region != region || b.connected || !b.ready || s.cal.cur.isSome || !s.atCycle0 l || !Mark.ahead (s.spur l).gen.tallyMark b.quietAt then s
      else
        let slip := slipOf (s.spur ((s.clockedBy b.region).getD b.region)).gen (s.spur l).gen
        let t := (s.connect b slip).raise .borrowStart 3 (sadBetween b.region b.lender) (le 2 b.lender ++ leInt 1 slip)
        (t.closeIncident 3 b.region).closeIncident 3 (400 + f))

/-- BORROW_RELEASE (R218): at the first cycle of a tally mark of the Spur that takes the root, once that Spur, the region's own or the field spare, is aligned with the lender's output. -/
def execBorrowRelease (f : Fin 25) (s : State) : Result :=
  let sp := (s.col f).spare
  .next (match (s.col f).borrow with
    | none => s
    | some b =>
      if !b.connected || !sp.aligned || s.underTest b.region || sp.target != b.region || !s.atCycle0 (if sp.returning then b.region else 400 + f) then s
      else if sp.returning then s.unborrow b.region
      else if sp.track then
        let t := s.unborrow b.region
        (t.modCol f fun c => { c with spare := { c.spare with target := b.region } }).takeOver f b.region
      else s)

/-! ## Release (R453, R458) -/

/-- SPUR (R453, R458): a failed Spur whose test has passed since is released; anything else is ignored with CFG_BUSY. -/
def execSpur (f : Fin 25) (pos : Fin 17) (s : State) : Result :=
  let a := colAddr f 0x48
  let v : Word := BitVec.ofNat 32 (0x10000 + pos)
  .next (s.take a v .rwl fun t =>
    let n := spurAt f pos
    let x := (t.spur n).gates
    let u := t.modCol f fun c => { c with relPos := pos }
    if !(t.testOpen && x.failed && x.testPassed) || t.faults.stormDark.contains n then u.cfgEvent .cfgBusy a v
    else
      let u := u.modSpur n fun y => { y with gates := { y.gates with failed := false, testPassed := false } }
      if n < 400 ∧ x.driver ≠ .own then u.startReturn n else u)

/-- INST (R453, R458): a failed Col instance whose test has passed since is released. -/
def execInst (f : Fin 25) (s : State) : Result :=
  let a := colAddr f 0x48
  .next (s.take a 0x20000#32 .rwl fun t =>
    let c := t.col f
    if t.testOpen && (c.pFailed || c.sFailed) && c.testPassed then t.modCol f fun x => { x with pFailed := false, sFailed := false, testPassed := false }
    else t.cfgEvent .cfgBusy a 0x20000#32)

/-! ## Incidents (R448 to R451) -/

/-- The first queued incident of a class. -/
def Faults.queuedOf (f : Faults) (c : Nat) : Option Incident := f.queue.find? fun i => i.cls == c

/-- A list without the first element equal to a value. -/
def removeOne (i : Incident) : List Incident → List Incident
  | [] => []
  | j :: q => if j = i then q else j :: removeOne i q

/-- The response to a Spur's incident can still be suspended (R449): a handover without ALIGNED, or a borrow without its quiet mark. -/
def State.canSuspend (s : State) (i : Incident) : Bool :=
  if i.cls ≠ 3 then true
  else
    let c := s.col (fieldOf i.unit)
    !(c.spare.track && (c.spare.aligned || decide (4 ≤ s.since c.spare.since))) && !c.borrow.any (fun b => b.ready && !b.connected)

/-- The response to an incident abandoned (R449); a fence in force stays. -/
def State.suspend (s : State) (i : Incident) : State :=
  if i.cls ≠ 3 then s
  else s.modCol (fieldOf i.unit) fun c => { c with
    spare := if c.spare.track then c.spare.over else c.spare
    borrow := c.borrow.filter fun (b : Borrow) => b.connected }

/-- An incident taken in the storm (R451): a failed Spur's region goes dark, with the region that it lends to; any other closes with no response. -/
def State.stormTake (s : State) (i : Incident) : State :=
  if i.cls ≠ 3 then s
  else
    match s.regionOf i.unit with
    | none => s
    | some r =>
      let rs := r :: (s.lentTo r).toList
      let t := s.each rs State.goDark
      { t with faults := { t.faults with stormDark := t.faults.stormDark ++ rs } }

/-- The incident that arrived first of some. -/
def firstArrived : List Incident → Option Incident
  | [] => none
  | i :: is => some (is.foldl (fun a b => if b.no < a.no then b else a) i)

/-- The incident that a storm takes next (R451): of the open ones, then of the queued ones, in the order of their arrival. -/
def Faults.stormNext (f : Faults) : Option Incident := (firstArrived (f.opened.filterMap id)).orElse fun _ => firstArrived f.queue

/-- INCIDENT_OPEN (R449, R451): the first queued incident of a class opens at the next mark, preempting an open one of lower severity whose switch mark is not fixed. In a storm the next incident is taken and closed, one per mark. -/
def execIncidentOpen (c : Fin 8) (s : State) : Result :=
  let cur := s.faults.opened.getD c none
  let open1 : Incident → State → State := fun i t =>
    { t with faults := { t.faults with opened := setNth t.faults.opened c (some i), queue := removeOne i t.faults.queue } }
  .next (if s.role.silent || !s.atMark then s
    else if s.faults.storm then
      (match s.faults.stormNext with
       | some i =>
         if i.cls ≠ c || s.faults.takenAt == some s.mark then s
         else
           let f := s.faults
           ({ s with faults := { f with takenAt := some s.mark, opened := if f.opened.getD c none = some i then setNth f.opened c none else f.opened, queue := removeOne i f.queue } }).stormTake i
       | none => s)
    else match s.faults.queuedOf c, cur with
      | none, _ => s
      | some i, none => open1 i s
      | some i, some j =>
        if sevRank j.sev < sevRank i.sev && s.canSuspend j then
          let t := open1 i ((s.suspend j).raise .incidentPreempted 0 s.summitIdx (le 2 j.ev.code))
          { t with faults := { t.faults with queue := j :: t.faults.queue } }
        else s)

/-- ERROR_STORM (R451): an incident has found the queue full; it is taken at once, like every one that arrives so in the storm. -/
def execErrorStorm (s : State) : Result :=
  .next (match s.faults.overflow with
    | [] => s
    | is =>
      let t := { s with faults := { s.faults with overflow := [], storm := true } }
      (t.each is State.stormTake).when (!s.faults.storm) fun u => u.raise .errorStorm 0 s.summitIdx [])

/-! ## FATAL (R452, R533, R534) -/

/-- The FATAL events after which some field can no longer follow a change (R452). -/
def strands (e : Ev) : Bool := e == .colLost || e == .ridgeLost || e == .summitLost

/-- The fatal signal to the die is driven, with its source (R534): the first one stays. -/
def State.driveFatal (s : State) (src : Nat) : State :=
  { s with boot := { s.boot with pinFatal := true }, faults := { s.faults with src := if s.faults.src = 0 then src else s.faults.src } }

/-- FATAL_EVENT (R452): the oldest FATAL event not yet acted on: the signal, the codes on the command lane, SAFE in every domain, the staged sets cancelled, the plan stopped. -/
def execFatalEvent (s : State) : Result :=
  .next (match s.faults.pending with
    | [] => s
    | e :: rest =>
      let code := e.ev.code
      let t := ({ s with faults := { s.faults with
          pending := rest, code := if s.faults.fatal then s.faults.code else code, fatal := true, forceSafe := true
          vglCode := if s.faults.vglCode = 0 then code else s.faults.vglCode
          noStage := s.faults.noStage || strands e.ev, otherFatal := s.faults.otherFatal || e.ev != Ev.errorStorm } }).driveFatal 1
      let t := (t.sendLane (.fatal code)).each (List.range 25) fun u f => u.record f code false false false
      let t := (t.unstageSets fun _ => true).baseMoved
      ({ t with hri := { t.hri with stopped := true, reading := false, readAgain := false } }).cancelPlan)

/-- CLEAR (R452, R455): after ERROR_STORM alone, with no incident queued, the forced SAFE is lifted; otherwise CFG_BUSY. -/
def execClear (s : State) : Result :=
  .next (s.take 0x704 0x10000#32 .rw fun t =>
    if t.faults.storm && t.faults.queue.isEmpty && t.faults.overflow.isEmpty && !t.faults.otherFatal && t.faults.forceSafe then
      ({ t with faults := { t.faults with storm := false, forceSafe := false } }).baseMoved
    else t.cfgEvent .cfgBusy 0x704 0x10000#32)

end Sys2Proof.Machine
end

