-- ==== Sys2Proof/Machine/Lifecycle.lean ====
section
/-! DEFINITION. Life-cycle states, unlock, test access and perturbations (R495 to R511). -/

namespace Sys2Proof.Machine

/-! ## Changes of state (R495 to R499) -/

/-- The changes of R495: BLANK to PROVISIONED, PROVISIONED to DEPLOYED, DEPLOYED to SERVICE or RETURNED, SERVICE to DEPLOYED or RETURNED; RETURNED is never left. -/
def lcsMoves : LifeCycle → LifeCycle → Bool
  | .blank, .provisioned => true
  | .provisioned, .deployed => true
  | .deployed, .service => true
  | .deployed, .returned => true
  | .service, .deployed => true
  | .service, .returned => true
  | _, _ => false

/-- The perturbation registers whose fields are RWL (R511). -/
def prtLocked : List Nat := [0x20, 0x24, 0x28, 0x2C, 0x30]

/-- A perturbation register back at its reset value, with PERTURB_CLEARED where it was in force (R497, R509). -/
def State.clearPrt (s : State) (o : Nat) : State :=
  let v := s.word (0xC0000 + o)
  (s.setWord (0xC0000 + o) (resetWord (0xC0000 + o))).when (v.bit 31) fun t => t.raise .perturbCleared 9 o (le 4 v.toNat)

/-- The guard-rated value put in the shadow of every ceiling of a register above it (R497). -/
def State.guardShadow (n : Nat) (s : State) (hi : Bool) : State :=
  let a := sprAddr n (if hi then 0x94 else 0x90)
  let w := s.shadowed a
  let g := fun (c : Nat) => nth (s.spur n).cal.guards ((if hi then 4 else 0) + c)
  let v := (List.range 4).foldl (fun (u : Word) c => if g c < u.bits (8 * c + 6) (8 * c) then u.put (8 * c + 6) (8 * c) (g c) else u) w
  if v = w then s else s.setShadow a v

/-- A trim register of a Spur or a Saddle window: a held write of one is dropped with the staged ones (R443, R497). -/
def isTrim (a : Nat) : Bool :=
  match winOf a with
  | .spr _ o => o == 0x44 || o == 0xCC || o == 0xD0 || o == 0xD4 || o == 0xD8
  | _ => false

/-- What a change into DEPLOYED does, in the order of R497. -/
def State.enterDeployed (s : State) : State :=
  let t := { s with lcs := { s.lcs with segs := List.replicate 5 false, injNext := none } }
  let t := t.when t.testRuns fun u => u.bistStop 6
  let t := t.each prtLocked State.clearPrt
  let t := t.mapSpurs fun _ x => { x with cal := { x.cal with writes := [] }, str := { x.str with injNext := 0, fdNext := 0 } }
  let t := t.mapSads fun _ x => { x with writes := [] }
  let t := { t with held := t.held.filter fun h => !isTrim h.1 }
  (t.each (List.range 425) fun u n => u.each [false, true] (State.guardShadow n)).baseMoved

/-- A SAVE_F that runs when the state leaves PROVISIONED is abandoned (R499); the step it had reached is a free value. -/
def State.dropSaveF (s : State) : State :=
  let c := { s.crn with saveF := false }
  if c.saving && c.goal == 2 then
    (({ s with crn := { c with saving := false, f := { c.f with commit := none } } }).tookFree).raise .crnSaveAbort 7 2 (le 1 s.free.toNat)
  else { s with crn := c }

/-- A change of life-cycle state (R495 to R499): LCS_CHANGE; an unlock that was under way is over. -/
def State.changeLcs (s : State) (new : LifeCycle) : State :=
  let old := s.lcs.st
  if !lcsMoves old new then s
  else
    let t := { s with lcs := { s.lcs with st := new, relock := false, asked := false, ustat := 0, chal := 0, expired := false } }
    let t := t.raise .lcsChange 0 t.summitIdx (le 1 (lcsCode old) ++ le 1 (lcsCode new))
    let t := if old = .provisioned then t.dropSaveF else t
    if new = .deployed then t.enterDeployed else t

/-- A change reported by the security block (R495): applied at ridge tick 0 of the next mark, and at once before the start pulse, where no marks are. -/
def State.lcsReport (s : State) (st : LifeCycle) : State :=
  if s.rdg.started then { s with lcs := { s.lcs with due := s.lcs.due ++ [st] } } else s.changeLcs st

/-- LCS_CHANGE (R495): the security block reports a change; before stage 3 the block has no state yet. -/
def execLcsChange (st : LifeCycle) (s : State) : Result := .next (if s.boot.stage < 3 then s else s.lcsReport st)

/-- The changes reported, and a relock, are applied at the next mark (R495, R503). -/
def State.relockMark (s : State) : State :=
  let t := ({ s with lcs := { s.lcs with due := [] } } : State).each s.lcs.due State.changeLcs
  if s.lcs.relock then t.changeLcs .deployed else t

/-! ## Unlock (R500 to R503) -/

/-- A refusal (R501, R509): UNLOCK_FAIL, USTAT 0, no challenge. -/
def State.unlockFail (s : State) (reason : Nat) : State :=
  ({ s with lcs := { s.lcs with ustat := 0, chal := 0, asked := false, expired := false } }).raise .unlockFail 0 s.summitIdx (le 1 reason ++ le 1 s.lcs.fails)

/-- REQ (R501, R502): a challenge is asked of the security block. -/
def execReq (s : State) : Result :=
  .next (s.take 0xC0004 1#32 .rw fun t =>
    if t.lcs.lockout then t.unlockFail 3
    else if t.lcs.st ≠ .deployed then t.unlockFail 4
    else ({ t with lcs := { t.lcs with asked := true } }).send .secChallenge)

/-- CHALLENGE_ISSUED (R501). -/
def execChallengeIssued (c : BitVec 64) (s : State) : Result :=
  .next (if s.lcs.asked then { s with lcs := { s.lcs with asked := false, chal := c, issued := s.mark, expired := false, ustat := 1 } } else s)

/-- The life of a challenge, marks (R501). -/
def challengeMarks : Nat := 46875000

/-- SUBMIT (R501): the response goes to the security block, or the request is refused. -/
def execSubmit (s : State) : Result :=
  .next (s.take 0xC0004 2#32 .rw fun t =>
    if t.lcs.lockout then t.unlockFail 3
    else if t.lcs.ustat ≠ 1 then t.unlockFail 4
    else if t.lcs.expired || decide (challengeMarks < t.since t.lcs.issued) then t.unlockFail 2
    else ({ t with lcs := { t.lcs with ustat := 2 } }).send (.secVerify (t.word 0xC0014 ++ t.word 0xC0010)))

/-- UNLOCK_VERDICT (R495, R502): a pass enters SERVICE, at the next mark; a wrong response counts, and the third in a row locks the unit out. -/
def execUnlockVerdict (pass : Bool) (s : State) : Result :=
  .next (if s.lcs.ustat ≠ 2 then s
    else if pass then ({ s with lcs := { s.lcs with fails := 0, ustat := 0, chal := 0 } }).lcsReport .service
    else
      let n := min 3 (s.lcs.fails + 1)
      ({ s with lcs := { s.lcs with fails := n, lockout := s.lcs.lockout || n == 3 } }).unlockFail 1)

/-- CHALLENGE_EXPIRED (R501): more than 30 s after its issue a challenge is no longer good; the refusal comes with the SUBMIT. -/
def execChallengeExpired (s : State) : Result :=
  .next (if s.lcs.ustat = 1 ∧ challengeMarks < s.since s.lcs.issued then { s with lcs := { s.lcs with expired := true } } else s)

/-- RELOCK (R503): SERVICE returns to DEPLOYED at the next mark; in DEPLOYED it cancels a verification; elsewhere it is ignored. -/
def execRelock (s : State) : Result :=
  .next (s.take 0xC0004 4#32 .rw fun t =>
    if t.lcs.st = .service then { t with lcs := { t.lcs with relock := true } }
    else if t.lcs.st = .deployed ∧ t.lcs.ustat = 2 then { t with lcs := { t.lcs with ustat := 0, chal := 0 } }
    else t)

/-! ## Test access (R504, R505) -/

/-- The block's IDCODE (R504), which the TAP controller shifts out in every life-cycle state: version 2, part number 0x564F, Octeel's code 0x053, and 1. -/
def tapIdcode : BitVec 32 := 2#4 ++ 0x564F#16 ++ 0x053#11 ++ 1#1

/-- TAP_SEGMENT_SET (R505): the segment opens; in DEPLOYED TAP_DENIED, once per mark. -/
def execTapSegmentSet (seg : Fin 5) (s : State) : Result :=
  .next (if !s.locked then { s with lcs := { s.lcs with segs := setNth s.lcs.segs seg true } }
    else if s.lcs.denied = some s.mark then s
    else ({ s with lcs := { s.lcs with denied := some s.mark } }).raise .tapDenied 0 s.summitIdx (le 1 seg))

/-! ## Perturbations (R507, R511) -/

/-- A unit U: 425 to 510 are undefined (R511). -/
def unitFld (hi lo : Nat) : Fld := ⟨hi, lo, .rwl, 511, 424⟩

/-- The fields of a perturbation register (R511). -/
def prtFields (o : Nat) : List Fld :=
  if o = 0x20 then [fldAll 31 31 .rwl, ⟨30, 29, .rwl, 1, 3⟩, unitFld 28 20, ⟨19, 12, .rwl, 1, 255⟩, fldAll 11 0 .rwl]
  else if o = 0x24 then [fldAll 31 31 .rwl, ⟨30, 29, .rwl, 1, 3⟩, unitFld 28 20, fldAll 19 16 .rwl, ⟨9, 0, .rwl, 1, 1023⟩]
  else if o = 0x28 then [fldAll 31 31 .rwl, fldAll 30 30 .rwl, fldAll 29 29 .rwl, ⟨25, 16, .rwl, 0, 759⟩, fldAll 4 0 .rwl]
  else if o = 0x2C then [fldAll 31 31 .rwl, unitFld 24 16, fldAll 15 0 .rwl]
  else if o = 0x30 then [fldAll 31 31 .rwl, ⟨20, 16, .rwl, 0, 24⟩, fldAll 15 0 .rwl]
  else if o = 0x40 then [fldAll 23 16 .rw, fldAll 7 0 .rw]
  else [fldAll 11 0 .rw]

/-- A write to a perturbation register (R511), PERTURB_ON where it sets EN or turns a register without EN on, and then `f`, what it starts. -/
def State.perturb (s : State) (o : Nat) (v : Word) (f : State → State) : State :=
  let a := 0xC0000 + o
  let gs := prtFields o
  let chk := fun (g : Fld) => g.check s.locked true v
  let old := s.word a
  let new := putFields (fun g => (chk g).isNone) v gs old
  let on : Bool := if o = 0x40 ∨ o = 0x44 then old == 0 && new != 0 else new.bit 31 && v.bit 31
  if !s.answers a then s
  else
    let t := (s.tellFields a v (gs.map chk)).setWord a new
    if gs.all fun g => (chk g).isSome then t
    else f (t.when on fun u => u.raise .perturbOn 9 o (le 4 v.toNat))

/-- The Spurs that a unit names start their edges at their next tally mark; the others keep none. -/
def State.startInjection (s : State) : State :=
  let w := s.word 0xC0020
  s.mapSpurs fun n x =>
    { x with str := { x.str with
      injNext := if w.bit 31 && s.hits (w.bits 28 20) n then w.bits 19 12 else 0
      injAmount := if s.hits (w.bits 28 20) n then w.bits 30 29 else x.str.injAmount } }

/-- STRETCH_INJECTION (R507): bursts from each named Spur's next tally mark, repeated every PERIOD marks. -/
def execStretchInjection (value : Word) (s : State) : Result :=
  .next (s.perturb 0x20 value fun t =>
    let w := t.word 0xC0020
    let u := t.startInjection
    { u with lcs := { u.lcs with injNext := if w.bit 31 && w.bits 11 0 != 0 then some (t.mark + BitVec.ofNat 40 (w.bits 11 0)) else none } })

/-- INJECTION_BURST (R507): PERIOD marks after the last, the next burst begins. -/
def execInjectionBurst (s : State) : Result :=
  let w := s.word 0xC0020
  .next (match s.lcs.injNext with
    | none => s
    | some m => if !w.bit 31 || decide (m ≠ s.mark) then s
      else
        let u := s.startInjection
        { u with lcs := { u.lcs with injNext := some (m + BitVec.ofNat 40 (w.bits 11 0)) } })

/-- FALSE_DROOP (R507): the named detectors stand at LEVEL for EDGES edges from the next tally mark. -/
def execFalseDroop (value : Word) (s : State) : Result :=
  .next (s.perturb 0x24 value fun t =>
    let w := t.word 0xC0024
    t.mapSpurs fun n x =>
      let hit := t.hits (w.bits 28 20) n
      { x with str := { x.str with
        fdNext := if w.bit 31 && hit then w.bits 9 0 else 0
        fdLevel := if hit then w.bits 30 29 else x.str.fdLevel
        fdQuad := if hit then w.bits 19 16 else x.str.fdQuad } })

/-- EXTRA_SADDLE_DELAY (R507): the delay enters the named direction at the receiver's next tally mark. -/
def execExtraSaddleDelay (value : Word) (s : State) : Result := .next (s.perturb 0x28 value id)

/-- TEMPERATURE_OVERRIDE (R507): TEMP stands in for both readings of the named Spurs. -/
def execTemperatureOverride (value : Word) (s : State) : Result := .next (s.perturb 0x2C value id)

/-- FIELD_POWER_OVERRIDE (R507): PWR stands in for P_f of the named field. -/
def execFieldPowerOverride (value : Word) (s : State) : Result := .next (s.perturb 0x30 value id)

/-- RING_FLOW (R507): fewer fetches, held completions. -/
def execRingFlow (value : Word) (s : State) : Result := .next (s.perturb 0x40 value id)

/-- DOORBELL_DELAY (R507): control block reads start later. -/
def execDoorbellDelay (value : Word) (s : State) : Result := .next (s.perturb 0x44 value id)

end Sys2Proof.Machine
end

