-- ==== Sys2Proof/Machine/Restart.lean ====
section
/-! DEFINITION. What a start leaves of the state (R480, R515, R533, R545): power-up, block reset and wake. -/

namespace Sys2Proof.Machine

/-- Lookout through a block reset or V2 (R408, R480): everything is kept but the lock of its timer, which the root loop loses, and what names marks of the count that ends. -/
def Lookout.kept (l : Lookout) : Lookout :=
  { l with
    timerLock := false, bgRef := false, density := false, lastDens := none, staged := none, ppsAt := none, loAt := none, snapAt := none, trip1Rel := none, snapMark := 0
    ch := bmap l.ch fun _ c => { c with armed := false, owner := .none } }

/-- A Col keeps its fatal record through a block reset (R480, R533). -/
def Col.keptRecord (c : Col) : Col :=
  { Col.reset with recValid := c.recValid, recSummit := c.recSummit, recRidge := c.recRidge, recDrove := c.recDrove, recCode := c.recCode }

/-- Ridgeline after a block reset or a wake: the detectors and counters of the inputs keep running in Lookout (R480, R481). -/
def Ridgeline.kept (r : Ridgeline) : Ridgeline := { Ridgeline.reset with a := r.a, b := r.b }

/-- The registers of Lookout's window, which outlive a block reset and V2 (R480). -/
def RegFile.lookoutPart (r : RegFile) : RegFile := r.filter fun p => decide (0x10000 ≤ p.1) && decide (p.1 < 0x10500)

/-- The reference section of the board table that Lookout keeps, applied from the start (R90, R97, R480). -/
def State.keepTable (s : State) : State :=
  if !s.lko.tableKept then s
  else
    let t := (s.setField 0x18000 0 0 (if s.lko.tabPrefer then 1 else 0)).setField 0x18000 1 1 (if s.lko.tabRevert then 1 else 0)
    (t.setWord 0x18050 s.lko.tabStk).setWord 0x18054 s.lko.tabEth

/-- The store at the beginning of a start: what the flash device holds is kept (R371, R387). -/
def Cairn.kept (c : Cairn) (powerUp : Bool) : Cairn :=
  { Cairn.reset with a := c.a, b := c.b, f := c.f, unusable := c.unusable && !powerUp }

/-- The block as power-up leaves it (R480): every unit reset; the flash device keeps its contents. The queue, the record of messages and the count of free values belong to the model. -/
def State.powerUp (s : State) : State :=
  { State.reset with crn := s.crn.kept true, out := s.out, freeCtr := s.freeCtr, pending := s.pending }

/-- The block at the beginning of a block reset (kind 1) or a wake (kind 2): every unit but Lookout from reset (R480). Wrong answers and the lockout are kept by the security block (R502). -/
def State.restart (s : State) (kind : Nat) : State :=
  ({ s.powerUp with
    words := s.words.lookoutPart, latches := s.latches.lookoutPart
    cols := if kind = 1 then bmap s.cols fun _ c => c.keptRecord else State.reset.cols
    rdg := s.rdg.kept, lko := s.lko.kept, crn := s.crn.kept false
    lcs := { Lcs.reset with fails := s.lcs.fails, lockout := s.lcs.lockout }
    boot := { Boot.reset with stage := if s.lko.oscOk then 1 else 0, kind := kind } }).keepTable

/-- POWER_UP (R480): the always-on rail rises through SUP0. -/
def execPowerUp (s : State) : Result := .next s.powerUp

/-- BLK_RESET_ASSERT (R480, R545): every unit but Lookout is held in reset; BLK_FATAL, BLK_PARKRDY and BLK_WAKE stay until the release. A parked block stays parked. -/
def execBlkResetAssert (s : State) : Result :=
  let b := s.boot
  .next (if !b.resetN then s
    else
      let t := s.restart 1
      { t with boot := { t.boot with
          kind := b.kind, pst := if b.pst = .v2 ∨ b.pst = .v3 then b.pst else .v0, reasserted := true, pinFatal := b.pinFatal, pinPark := b.pinPark, pinWake := b.pinWake } })

/-- BLOCK_RESET (R480, R545): the release of BLK_RESET_N: the pins fall and, unless a power-up or a wake already began this start, a block reset begins. -/
def execBlockReset (s : State) : Result :=
  .next (if s.boot.resetN then s
    else if s.boot.reasserted then
      let t := s.restart 1
      { t with boot := { t.boot with resetN := true } }
    else { s with boot := { s.boot with resetN := true, pinFatal := false, pinPark := false, pinWake := false } })

end Sys2Proof.Machine
end

