-- ==== Sys2Proof/Machine/Power.lean ====
section
/-! DEFINITION. Regulators, heat and power states (R445, R459 to R479): the AVSBus link, the governor, the trips and supplies, V1, V2, V3 and wake. -/

namespace Sys2Proof.Machine

/-! ## The AVSBus link (R445, R461 to R463) -/

/-- A regulator link changed. -/
def State.modAvs (s : State) (f : Nat) (g : Avs → Avs) : State := s.modCol f fun c => { c with avs := g c.avs }

/-- A self-test of one of a field's units runs (R461). -/
def State.testIn (s : State) (f : Nat) : Bool := s.testRuns && (if s.bist.kind = 0 then fieldOf s.bist.unit else s.bist.unit) == f

/-- Every Spur of a field that drives a region and works has applied what is due to it. -/
def State.appliedAll (s : State) (f : Nat) : Bool :=
  (fieldSpurs f).all fun n => !s.drives n || (s.spur n).gates.failed || !(s.spur n).gen.entries.any fun e => e.st == .armed && !e.applied && notAfter e.target s.mark

/-- The lower request that has fallen due: after ridge tick 16 of the mark of the commit, once every Spur of the field has applied it (R183). -/
def State.takeLower (s : State) (f : Nat) : State :=
  match (s.col f).avs.lowerDue with
  | none => s
  | some m => if (m = s.mark ∧ s.tick < 16) ∨ !s.appliedAll f then s else s.modAvs f fun a => { a with req := s.wantVolt f, lowerDue := none, hold := 0 }

/-- Ridge ticks of a slew of `dv` mV at the field's rate (R461); 400 ridge ticks in 1 µs. -/
def State.slewTicks (s : State) (f dv : Nat) : Nat := ceilDiv (400 * dv) (max 1 (nth s.hri.slew f))

/-- A voltage write (R461): a rise waits for its acknowledgement, a fall counts from the write. -/
def State.writeVolt (s : State) (f : Nat) : State :=
  let a := (s.col f).avs
  let dv := max a.req a.written - min a.req a.written
  (s.modAvs f fun x => { x with
    written := a.req, waiting := decide (a.acked < a.req), acked := min a.acked a.req
    slewEnd := s.rdg.ridge + BitVec.ofNat 48 (512 + s.slewTicks f dv) }).send (.avsWrite f a.req)

/-- A slot of the link can begin (R461): at ridge tick 32 of every even-numbered mark, once; before the start pulse back to back. -/
def State.slotBegins (s : State) (f : Nat) : Bool :=
  3 ≤ s.boot.stage && s.boot.pst != .v2 && s.boot.pst != .v3 &&
    (!s.rdg.started || (s.tick == 32 && s.mark.toNat % 2 == 0 && (s.col f).avs.slotAt != some s.rdg.ridge))

/-- A transaction sent, whose reply is awaited: 1 voltage write, 2 status read, 3 rail voltage, 4 rail current (R461). -/
def State.transact (s : State) (f k : Nat) : State :=
  let a := (s.col f).avs
  let t := s.modAvs f fun x => { x with openTx := k }
  match k with
  | 1 => t.writeVolt f
  | 2 => t.send (.avsStatus f)
  | 3 => (t.modAvs f fun x => { x with turn := true }).send (.avsTelem f 0)
  | _ => (t.modAvs f fun x => { x with turn := !a.turn }).send (.avsTelem f 1)

/-- The transaction of a slot (R461): a voltage write, a status read of a rise whose slew ends before the slot does, or a telemetry read. -/
def State.slotChoice (s : State) (f : Nat) : Nat :=
  let a := (s.col f).avs
  if a.req ≠ a.written then 1
  else if a.waiting && (!s.rdg.started || (a.slewEnd - s.rdg.ridge).toNat < 512 || decide (2 ^ 47 ≤ (a.slewEnd - s.rdg.ridge).toNat)) then 2
  else if a.turn && !s.testIn f then 4
  else 3

/-- The message of an unanswered transaction, sent once more (R445). -/
def State.resendTx (s : State) (f : Nat) : State :=
  let a := (s.col f).avs
  match a.openTx with
  | 1 => s.send (.avsWrite f a.written)
  | 2 => s.send (.avsStatus f)
  | k => s.send (.avsTelem f (k - 3))

/-- AVS_SLOT (R445, R461): one transaction, or the wait for the reply of one: after 8 frames without it the Col sends the transaction once more, and after 8 further ones it has failed. That the slots carry nothing else meanwhile: DEDUCED, notes/assumptions/84.md. -/
def execAvsSlot (f : Fin 25) (s : State) : Result :=
  .next (if !s.slotBegins f then s
    else
      let a := (s.col f).avs
      let t := s.modAvs f fun x => { x with slotAt := some s.rdg.ridge, frames := x.frames + 1 }
      if a.openTx ≠ 0 ∧ a.frames + 1 < 8 then t
      else if a.openTx ≠ 0 ∧ a.frames + 1 = 8 then t.resendTx f
      else if a.openTx ≠ 0 ∧ a.frames + 1 < 16 then t
      else
        let u := (if a.openTx = 0 then t else t.modAvs f fun x => { x with bad := x.bad + 1, good := 0 }).takeLower f
        (u.modAvs f fun x => { x with frames := 0 }).transact f (u.slotChoice f))

/-- A good transaction (R445): a failed link counts as recovered after 64 in a row. -/
def State.avsGood (s : State) (f : Nat) : State :=
  let a := (s.col f).avs
  if !a.failed then s.modAvs f fun x => { x with bad := 0 }
  else if a.good + 1 < 64 then s.modAvs f fun x => { x with bad := 0, good := x.good + 1 }
  else ((s.modAvs f fun x => { x with bad := 0, good := 0, failed := false }).raise .regLinkFail 11 f (le 1 1)).baseMoved

/-- RAIL_BAND (R462, R463, R476). -/
def State.railBand (s : State) (f alert : Nat) : State :=
  let a := (s.col f).avs
  s.raise .railBand 11 f (le 2 a.rail ++ le 2 a.acked ++ le 1 alert)

/-- A status alert at any read (R462). -/
def State.alerted (s : State) (f : Nat) (alert : Bool) : State := s.when alert fun t => t.railBand f 1

/-- The FCODE in force in the domain of a field. -/
def State.fieldFcode (s : State) (f : Nat) : Nat := s.fab.fcodeOf (s.fab.domOf f)

/-- A rail voltage reading against its band (R463): the 4th in a row outside caps the grant, the 16th in a row inside lifts the cap. -/
def State.railRead (s : State) (f mv : Nat) : State :=
  let a := (s.col f).avs
  let off := max mv a.acked - min mv a.acked
  let left := (a.slewEnd - s.rdg.ridge).toNat
  let slewing : Bool := 1 ≤ left && left < 2 ^ 47
  let t := s.modAvs f fun x => { x with rail := mv }
  if slewing then t
  else if a.acked < 20 * off then
    let u := t.modAvs f fun x => { x with outBand := min 4 (x.outBand + 1), inBand := 0 }
    if a.outBand ≠ 3 then u
    else ((u.modAvs f fun x => { x with capped := true, capFcode := if x.failed then x.capFcode else s.fieldFcode f }).railBand f 0).baseMoved
  else
    let u := t.modAvs f fun x => { x with outBand := 0, inBand := if x.capped then x.inBand + 1 else 0 }
    if a.capped ∧ 15 ≤ a.inBand then (u.modAvs f fun x => { x with capped := false, inBand := 0 }).baseMoved else u

/-- The transaction that a reply answers (R461). -/
def replyTx : AvsReply → Nat
  | .written => 1
  | .status _ _ => 2
  | .rail _ _ => 3
  | .current _ _ => 4

/-- AVS_REPLY (R445, R462, R463): a valid reply of the field's regulator: one that answers the transaction sent. -/
def execAvsReply (f : Fin 25) (r : AvsReply) (s : State) : Result :=
  .next (if (s.col f).avs.openTx ≠ replyTx r then s else
    let t := (s.modAvs f fun a => { a with openTx := 0, frames := 0 }).avsGood f
    match r with
    | .written => t
    | .status vdone alert =>
      let u := if vdone && !alert then t.modAvs f fun a => if a.waiting then { a with waiting := false, acked := a.written } else a else t
      u.alerted f alert
    | .rail mv alert => (t.railRead f mv).alerted f alert
    | .current lsb alert => (t.modAvs f fun a => { a with amps := lsb }).alerted f alert)

/-- A running test of one of a field's units ends with ABORTED_ENV (R420); its signature so far is a free value. -/
def State.envAbort (s : State) (f src : Nat) : State :=
  if !s.testIn f then s
  else
    let t := s.tookFree
    t.tookFree.bistAbort 4 src s.patternsNow (t.free ++ s.free)

/-- REG_LINK_FAIL (R445, R485): the link has failed, by 3 consecutive failed transactions, or in stage 3 with no acknowledgement of the BOOT voltage within the millisecond whose end the command tells: the grant is capped at the FCODE in force, the field acknowledges nothing, and a test of its units ends. -/
def execRegLinkFail (f : Fin 25) (s : State) : Result :=
  .next (if (s.col f).avs.failed || !(decide (3 ≤ (s.col f).avs.bad) || (s.boot.stage == 3 && (s.col f).avs.acked != (s.col f).avs.req)) then s
    else
      let t := s.modAvs f fun a => { a with failed := true, good := 0, reported := 0, capFcode := if a.capped then a.capFcode else s.fieldFcode f }
      let t := t.raise .regLinkFail 11 f (le 1 0)
      let t := (t.incident { cls := 5, sev := .degraded, ev := .regLinkFail, unit := f }).closeIncident 5 f
      let t := if s.boot.stage = 3 then { t with boot := { t.boot with noBist := t.boot.noBist ++ [f.val] } } else t
      (t.envAbort f 3).baseMoved)

/-! ## The governor (R463, R465 to R467) -/

/-- P_f in microwatts, from the latest readings (R463): mV times mA. -/
def State.railPower (s : State) (f : Nat) : Nat := (s.col f).avs.rail * (s.col f).avs.amps * s.hri.ampLsb

/-- P_f in microwatts, or what PRT_PWR puts in its place for the governor and the grades (R507). -/
def State.power (s : State) (f : Nat) : Nat :=
  let w := s.word 0xC0030
  if w.bit 31 && w.bits 20 16 == f then 1000000 * w.bits 15 0 else s.railPower f

/-- The sum of the first `n` values. -/
def sumOf (n : Nat) (l : List Nat) : Nat := (l.take n).foldl (· + ·) 0

/-- How many values a mean over `n` marks has: all there are, where fewer. -/
def countOf (n : Nat) (l : List Nat) : Nat := max 1 (l.take n).length

/-- The next lower entry of a ladder, not below SAFE. -/
def Dom.entryUnder (x : Dom) (g : Nat) : Nat :=
  let v := (x.ladder.filter fun e => decide (e < g)).foldl max 0
  if v < x.fcode x.safe then g else v

/-- The next higher entry of a ladder, or the value itself where there is none. -/
def Dom.entryOver (x : Dom) (g : Nat) : Nat :=
  match x.ladder.filter fun e => decide (g < e) with
  | [] => g
  | e :: es => es.foldl min e

/-- The domain whose ladder moves G: the lowest-numbered in use with exponent 0 (R466). -/
def Fabric.govDom (fb : Fabric) : Nat := (fb.used.find? fun d => (fb.dom d).k == 0).getD 0

/-- GOV_LIMIT (R476). -/
def State.govLimit (s : State) (reason d fc : Nat) : State := s.raise .govLimit 0 s.summitIdx (le 1 reason ++ le 1 d ++ le 1 fc)

/-- A thermal cap put in force, at the highest allowed (R465). -/
def State.setTcap (s : State) (n : Nat) : State :=
  ({ s with gov := { s.gov with tcap := min n s.hri.maxTcap } }).when (decide (s.hri.maxTcap < n)) fun t =>
    t.raise .budgetClamp 0 s.summitIdx (le 1 0 ++ le 1 s.hri.maxTcap)

/-- CAP and TCAP of SUM_PROFILE taken at the first evaluation after their write (R304, R467). -/
def State.takeCaps (s : State) : State :=
  if !s.gov.capDue || !s.basic then s
  else ({ s with gov := { s.gov with capDue := false, cap := 100 * (s.word 0x300).bits 23 16 } }).setTcap ((s.word 0x300).bits 15 8)

/-- The governor stands still from TRIP1 to 1,024 marks after its release (R468). -/
def State.govHeld (s : State) : Bool := s.lko.trips.getD 0 false || s.lko.trip1Rel.isSome

/-- GOVERNOR_EVAL (R466): at ridge tick 0 of every mark whose number is a multiple of 16 (R475), once. The means are compared exactly; P16 and Pw keep them in whole watts for SUM_DIEPWR. -/
def execGovernorEval (s : State) : Result :=
  .next (if !s.atMark || s.role.silent || s.mark.toNat % 16 != 0 || s.gov.evalAt == some s.mark || s.govHeld then s
    else
      let t := ({ s with gov := { s.gov with evalAt := some s.mark } } : State).takeCaps
      let d := t.fab.govDom
      let g := t.gov
      let k := 16 * 4 ^ g.sprint
      let p16 := sumOf 16 g.hist
      let pw := sumOf k g.hist
      let watts16 := 1000000 * countOf 16 g.hist
      let wattsw := 1000000 * countOf k g.hist
      let u := { t with gov := { g with p16 := min 0xFFFF (p16 / watts16), pw := min 0xFFFF (pw / wattsw) } }
      if 24000 * watts16 < p16 ∨ g.cap * wattsw < pw then
        let why := if 24000 * watts16 < p16 then 2 else 1
        let n := (t.fab.dom d).entryUnder g.g
        let v := { u with gov := { u.gov with g := n, hold := 4, reason := why } }
        if n = g.g then v else (v.govLimit why d n).baseMoved
      else if p16 < 21600 * watts16 ∧ 10 * pw < 9 * (g.cap * wattsw) then
        (if 0 < g.hold then { u with gov := { u.gov with hold := g.hold - 1 } }
         else
          let n := min 96 ((t.fab.dom d).entryOver g.g)
          if n = g.g then u else ({ u with gov := { u.gov with g := n } }).baseMoved)
      else u)

/-- Tmax of a domain (R466); none where no sensor works. -/
def State.tmax (s : State) (d : Nat) : Option Int :=
  match (s.fab.regions d).flatMap s.hottest with
  | [] => none
  | t :: ts => some (ts.foldl max t)

/-- The thermal grant of one domain evaluated (R466). -/
def State.thermalOne (s : State) (d : Nat) : State :=
  match s.tmax d with
  | none => s
  | some t =>
    let g := s.gov
    let cap : Int := 16 * g.tcap
    let gd := nth g.gd d
    let put : Nat → State := fun v => { s with gov := { g with gd := setNth g.gd d v, changed := setNth g.changed d s.mark, hot := if cap ≤ t then setNth g.hot d s.mark else g.hot } }
    if cap ≤ t then
      (let n := (s.fab.dom d).entryUnder gd
       if n = gd then { s with gov := { g with hot := setNth g.hot d s.mark } } else ((put n).govLimit 3 d n).baseMoved)
    else if cap - 80 < t then { s with gov := { g with hot := setNth g.hot d s.mark } }
    else if 256 ≤ s.since (g.hot.getD d 0) ∧ 256 ≤ s.since (g.changed.getD d 0) then
      (let n := (s.fab.dom d).entryOver gd
       if n = gd then s else (put n).baseMoved)
    else s

/-- THERMAL_EVAL (R466): at ridge tick 0 of every mark whose number is a multiple of 64, once. -/
def execThermalEval (s : State) : Result :=
  .next (if !s.atMark || s.role.silent || s.mark.toNat % 64 != 0 || s.gov.thermAt == some s.mark || s.govHeld then s
    else ({ s with gov := { s.gov with thermAt := some s.mark } } : State).each s.fab.used State.thermalOne)

/-! ## V1 (R470, R471) -/

/-- PSTATE (R476). -/
def State.tellState (s : State) (st : Nat) : State := s.raise .pstate 0 s.summitIdx (le 1 st ++ le 1 s.boot.wake)

/-- The steps of V1 entry that follow the end of a running test: unarmed sets cancelled, their descriptors completed with CANCELLED, step 0 requested everywhere. STAGE_SET then fixes the mark of the gates; where no set can be staged it is the earliest one. -/
def State.startHold (s : State) : State :=
  let gone := s.plan.sets.filter fun c => !c.final
  let ms := (gone.flatMap CommitSet.members).filterMap s.plan.entry
  let t := s.each gone fun u c => (u.unstage c).modPlan fun p => p.dropSet c.seq
  let t := (t.finishAll ms .cancelled).closeOut
  let t := { t with bist := { t.bist with holdWaits := false } }
  let t := ((t.patchFab (fun _ => false) fun fb => ({ fb with baseReq := fb.lowBase fun _ => 0 }).derive).rebind).baseMoved
  if s.faults.noStage then { t with boot := { t.boot with gateAt := some (s.mark + 5) } } else t

/-- Entry to V1 (R429, R470): a running on-demand test ends first. -/
def State.enterHold (s : State) : State :=
  let t := { s with boot := { s.boot with req := 1, moving := true, gateAt := none } }
  let t := t.bistStop 6
  if t.testRuns then { t with bist := { t.bist with holdWaits := true } } else t.startHold

/-- Summit takes part: neither parked nor off. -/
def State.awake (s : State) : Bool := s.boot.pst != .v2 && s.boot.pst != .v3

/-- A write of SUM_PSTATE.REQ: before READY, once the block answers, it is ignored with CFG_BUSY (R483, R492). -/
def State.takeReq (s : State) (v : Word) (f : State → State) : State :=
  if !s.boot.ready && decide (3 ≤ s.boot.stage) && s.awake then s.cfgEvent .cfgBusy 0x810 v else s.take 0x810 v .rw f

/-- HOLD_ENTRY (R470, R475): a write of 1 to SUM_PSTATE.REQ. -/
def execHoldEntry (s : State) : Result :=
  .next (s.takeReq 1#32 fun t =>
    if t.boot.moving || !(t.basic || t.hri.idle) then t.cfgEvent .cfgBusy 0x810 1#32
    else if t.boot.pst = .v1 then t
    else t.enterHold)

/-- HOLD_EXIT (R471): a write of 0 in V1: the gates open 2 marks later, and the next native window falls one interval after that. -/
def execHoldExit (s : State) : Result :=
  .next (s.takeReq 0#32 fun t =>
    if t.boot.moving then t.cfgEvent .cfgBusy 0x810 0#32
    else if t.boot.pst ≠ .v1 then t
    else if t.lko.trips.getD 1 false then t.cfgEvent .cfgBusy 0x810 0#32
    else
      let m := t.mark + 2
      let u := { t with boot := { t.boot with req := 0, moving := true, gateAt := some m } }
      if u.nativeOk then { u with cal := u.cal.after m } else u)

/-! ## Trips and supplies (R468) -/

/-- A trip's state put in place. -/
def State.setTrip (s : State) (k : Nat) (v : Bool) : State := { s with lko := { s.lko with trips := setNth s.lko.trips k v } }

/-- THERM_TRIP (R476). -/
def State.thermTrip (s : State) (level rel : Nat) : State := s.when s.awake fun t => t.raise .thermTrip 4 0xFFFF (le 1 level ++ le 1 rel)

/-- Every thermal grant at the SAFE entry of its domain (R468). -/
def State.safeGrants (s : State) : State :=
  let t := { s with gov := { s.gov with
    gd := (List.range 8).map fun d => min (nth s.gov.gd d) ((s.fab.dom d).fcode (s.fab.dom d).safe), changed := List.replicate 8 s.mark } }
  (t.each (s.fab.used.filter fun d => nth t.gov.gd d < nth s.gov.gd d) fun u d => u.govLimit 3 d (nth t.gov.gd d)).baseMoved

/-- TRIP1 (R468). -/
def execTrip1 (s : State) : Result :=
  .next (if s.lko.trips.getD 0 false || s.boot.pst == .v3 then s
    else
      let t := s.setTrip 0 true
      let t := { t with lko := { t.lko with trip1Rel := none } }
      if s.awake then t.safeGrants.thermTrip 1 0 else t)

/-- TRIP2 (R468): entry to V1 as for a host request, without its conditions; before READY it is made at the first mark of service (R475). -/
def execTrip2 (s : State) : Result :=
  .next (if s.lko.trips.getD 1 false || s.boot.pst == .v3 then s
    else
      let t := (s.setTrip 1 true).thermTrip 2 0
      if s.boot.ready && s.awake && s.boot.req == 0 then t.enterHold else t)

/-- TRIP3 (R468): Lookout drives the fatal signal itself, in every state but V3. -/
def execTrip3 (s : State) : Result :=
  .next (if s.lko.trips.getD 2 false || s.boot.pst == .v3 then s
    else ((s.setTrip 2 true).driveFatal 2).when s.awake fun t => t.raise .thermCrit 4 0xFFFF [])

/-- GOVERNOR_RESUME (R468). -/
def execGovernorResume (s : State) : Result :=
  .next (match s.lko.trip1Rel with
    | none => s
    | some m => if s.atMark ∧ 1024 ≤ s.since m then { s with lko := { s.lko with trip1Rel := none } } else s)

/-- SUP0 (R468, R474): the always-on rail fails: V3, which only a power-up ends. -/
def execSup0 (s : State) : Result :=
  let t := s.powerUp
  .next { t with boot := { t.boot with pst := .v3 }, lko := { t.lko with sup0 := false } }

/-! ## V2 and wake (R472, R473) -/

/-- The wake code of SUM_PSTATE.WAKE (R477). -/
def wakeCode : WakeCause → Nat
  | .evt _ _ => 1
  | .host => 2
  | .rail => 3
  | .thermal => 4

/-- A wake source has fired and LKO_WAKE enables it (R473, R479): an edge of the polarity that LKO_CHi_CFG.POL sets; SUP1 returned; trip level 1 released. -/
def State.wakeOn (s : State) (c : WakeCause) : Bool :=
  let w := s.word 0x10108
  match c with
  | .evt i falling => w.bit i && polOk ((s.chCfg i).bits 1 0) falling
  | .host => w.bit 5
  | .rail => w.bit 6 && s.lko.sup1
  | .thermal => w.bit 7 && !s.lko.trips.getD 0 false

/-- A wake from V2 (R473, R480): the wake pin rises and a start begins. -/
def State.wakeNow (s : State) (code : Nat) : State :=
  let b := s.boot
  let t := s.restart 2
  { t with boot := { t.boot with wake := code, resetN := b.resetN, pinFatal := b.pinFatal, pinPark := b.pinPark, pinWake := true } }

/-- A wake event (R473, R475): in V2 at once, during V2 entry once it has completed. -/
def State.wakeBy (s : State) (c : WakeCause) : State :=
  if !s.wakeOn c then s
  else if s.boot.pst = .v2 then s.wakeNow (wakeCode c)
  else if s.boot.state = 2 ∧ s.boot.wakeDue.isNone then { s with boot := { s.boot with wakeDue := some (wakeCode c) } }
  else s

/-- WAKE (R473): an event of an enabled wake source. -/
def execWake (cause : WakeCause) (s : State) : Result := .next (s.wakeBy cause)

/-- TRIP_RELEASE (R468, R473): a trip releases 5 °C below its level; level 1 is a wake source. -/
def execTripRelease (level : Fin 3) (s : State) : Result :=
  .next (if !s.lko.trips.getD level false then s
    else
      let t := s.setTrip level false
      let t := t.when (level.val != 2) fun u => u.thermTrip (level.val + 1) 1
      if level.val ≠ 0 then t
      else
        let u := if s.awake then { t with lko := { t.lko with trip1Rel := some s.mark } } else t
        u.wakeBy .thermal)

/-- SUP1 (R468, R473, R492): the field 1 core rail crosses its threshold. -/
def execSup1 (above : Bool) (s : State) : Result :=
  let t := { s with lko := { s.lko with sup1 := above } }
  .next (if s.boot.pst = .v3 ∨ s.lko.sup1 = above then s
    else if above then (({ t with boot := { t.boot with stage := if s.boot.stage = 0 ∧ s.lko.oscOk then 1 else s.boot.stage } }).wakeBy .rail)
    else if s.boot.ready && s.awake then t.raise .supplyLost 4 0xFFFF (le 1 1)
    else t)

/-- Every measurement ends at entry to V2 (R407). -/
def State.endMeasures (s : State) : State :=
  s.each (List.range 6) fun t c =>
    match (t.chan c).armed, (t.chan c).owner with
    | true, .descriptor i => ((t.plan.entry i).elim (t.freeChan c) fun e => (t.freeChan c).finish e .cancelled s.mark 0 0 false).closeOut
    | _, _ => t.endMeasure c false false

/-- PARK_ENTRY (R472): a write of 2 in V1: saves and measurements end, and the Cols request the park voltage. -/
def execParkEntry (s : State) : Result :=
  .next (s.takeReq 2#32 fun t =>
    if t.boot.moving || t.boot.pst != .v1 then t.cfgEvent .cfgBusy 0x810 2#32
    else
      let u := (t.abandonSave.endMeasures).mapCols fun _ c => { c with avs := { c.avs with req := t.hri.park, lowerDue := none, hold := 0 } }
      ({ u with boot := { u.boot with req := 2, state := 2, moving := true, parkAt := some t.mark } }).tellState 2)

/-- PARK_READY (R472, R475): at the 16th mark after the park request: park-ready, and the root loop stops. -/
def execParkReady (s : State) : Result :=
  .next (match s.boot.parkAt with
    | none => s
    | some m =>
      if s.boot.state ≠ 2 || !s.atMark || s.boot.pst == .v2 || decide (s.since m < 16) then s
      else
        let t := { s with
          boot := { s.boot with pst := .v2, moving := false, parkAt := none, pinPark := true }
          rdg := { s.rdg with lock := false, started := false }
          lko := { s.lko with timerLock := false, bgRef := false, density := false } }
        match s.boot.wakeDue with
        | none => t
        | some c => t.wakeNow c)

end Sys2Proof.Machine
end

