-- ==== Sys2Proof/Machine/SelfTest.lean ====
section
/-! DEFINITION. Logic self-test (R413 to R433): on-demand tests, their results and return, the environment check, the repeat of the power-on run. -/

namespace Sys2Proof.Machine

/-- BST_REQ. -/
def State.bstReq (s : State) : Word := s.word 0xB0004

/-- The PRPG seed of a request (R416, R431). -/
def State.bstSeed (s : State) : BitVec 64 := if s.bstReq.bit 21 then s.word 0xB000C ++ s.word 0xB0008 else Config.factorySeed

/-- The configuration hash H (R415). -/
def cfgHash (seed : BitVec 64) (p capmode kind : Nat) : Word :=
  crc32 (le 8 seed.toNat ++ le 1 p ++ le 1 capmode ++ le 1 kind ++ [Config.unitRev kind] ++ le 4 0)

/-- F_cap of a Spur's test (R418): the FCODE of step min(MAX_STEP, step in force) of its domain. -/
def State.bstFcap (s : State) (n : Nat) : Nat :=
  let d := s.fab.dom (s.domOfSpur n)
  d.fcode (min ((s.word 0xB0010).bits 3 0) d.step)

/-- The configuration fields of a Spur copied into its field spare (R424, step 1). -/
def State.copyConfig (s : State) (n sp : Nat) : State :=
  s.each [0, 0x60, 0x64, 0x80, 0x90, 0x94, 0xA0] fun t o => t.setWord (sprAddr sp o) (s.word (sprAddr n o))

/-- The other instance of a Col is healthy (R423). -/
def State.otherHealthy (s : State) (f copy : Nat) : Bool := if copy = 0 then !(s.col f).sFailed else !(s.col f).pFailed

/-- A refused request (R423): REFUSED, with its event; a running test is unaffected. -/
def State.refuseTest (s : State) (ev : Ev) (idx : Nat) (detail : List Byte) : State :=
  (if s.testRuns then s else { s with bist := { s.bist with result := 7, done := false } }).raise ev 8 idx detail

/-- The test of a request accepted (R423 to R428): KIND, UNIT and the rest of BST_STAT, and its first phase. -/
def State.beginTest (s : State) (phase : Nat) (handover : Bool) (fcap : Nat) : State :=
  let w := s.bstReq
  { s with bist := { s.bist with
      kind := w.bits 31 30, unit := w.bits 8 0, copy := if w.bits 31 30 = 1 then w.bits 14 14 else 0, fcap := fcap, result := 0, done := false
      phase := phase, since := s.mark + 1, patterns := 0, maxStep := (s.word 0xB0010).bits 3 0, locked := false, pow := w.bits 19 15, misr := 0, exp := 0
      hash := cfgHash s.bstSeed (w.bits 19 15) (w.bits 20 20) (w.bits 31 30), handover := handover, holdWaits := false } }

/-- START (R423): the request of BST_REQ is refused, or its test begins. A field spare that tracks or drives a region is busy (R427). -/
def execStart (s : State) : Result :=
  .next (s.take 0xB0000 1#32 .rw fun t =>
    let w := t.bstReq
    let kind := w.bits 31 30
    let unit := w.bits 8 0
    let copy := w.bits 14 14
    let idx := bistIdx kind unit copy
    let f := if kind = 0 then fieldOf unit else unit
    let own : Bool := kind == 0 && decide (unit < 400) && (t.spur unit).gates.driver == .own
    let spareBusy : Bool := (own || (kind == 0 && decide (400 ≤ unit))) && !t.spareFree f
    if t.lcs.st = .blank ∨ t.lcs.st = .deployed then t.refuseTest .bistRefused idx (le 1 1 ++ le 2 idx)
    else if t.testRuns || spareBusy then t.refuseTest .bistBusy idx (le 2 idx)
    else if kind = 0 ∧ t.bstFcap unit < 16 then t.refuseTest .bistRefused idx (le 1 3 ++ le 2 idx)
    else if kind = 1 ∧ !t.otherHealthy unit copy then t.refuseTest .bistRefused idx (le 1 4 ++ le 2 idx)
    else if kind = 1 then t.beginTest (if (t.col unit).active == (copy == 1) then 1 else 3) false 0
    else if own && (t.spur (400 + f)).gates.failed then
      let u := t.beginTest 0 false (t.bstFcap unit)
      ({ u with bist := { u.bist with result := 5, done := true } }).raise .bistAborted 8 idx (le 1 5)
    else if own then ((t.beginTest 1 true (t.bstFcap unit)).copyConfig unit (400 + f)).track f unit
    else (t.beginTest 2 false (t.bstFcap unit)).beginScan)

/-- ABORT (R429, R431): the running test ends with ABORTED_STOP. -/
def execAbort (s : State) : Result := .next (s.take 0xB0000 2#32 .rw fun t => t.bistStop 6)

/-- The expected signature of the running test (R416): of bank F, for the factory seed and capture mode 0. -/
def State.expected (s : State) : Option (BitVec 64) :=
  let b := s.bist
  if s.bstReq.bit 21 || s.bstReq.bit 20 || !s.crn.fOk then none
  else if b.kind = 0 then ((s.crn.spurSigs.getD b.unit [])[b.pow - 12]?) else ((s.crn.colSigs.getD (2 * b.unit + b.copy) [])[b.pow - 12]?)

/-- BIST_DONE, or BIST_FAIL with the expected signature (R430). -/
def State.tellTest (s : State) (ev : Ev) (sig : BitVec 64) : State :=
  let b := s.bist
  s.raise ev 8 (bistIdx b.kind b.unit b.copy) (le 1 b.result ++ le 1 b.pow ++ le 2 0 ++ le 4 b.patterns ++ le 8 sig.toNat)

/-- A Col instance that failed its test is out of service (R428, R434). -/
def Col.testFails (c : Col) (copy : Nat) : Col := if copy = 0 then { c with pFailed := true, testPassed := false } else { c with sFailed := true, testPassed := false }

/-- BIST_PATTERNS_DONE (R414, R417): all P patterns are applied and 6 marks have unloaded the last response; the signature is finished, the result judged. -/
def execBistPatternsDone (signature : BitVec 64) (s : State) : Result :=
  let b := s.bist
  .next (if b.phase ≠ 4 ∨ s.bistAge < 6 then s
    else
      let res : Nat := match s.expected with | none => 3 | some e => if signature = e then 1 else 2
      let t := { s with bist := { b with result := res, patterns := 2 ^ b.pow, misr := signature, exp := (s.expected).getD 0 } }
      if res = 2 then
        let u := (t.tellTest .bistFail t.bist.exp).testOver
        if b.kind = 0 then u.spurFails b.unit 3 .bistFail else u.modCol b.unit fun c => c.testFails b.copy
      else
        let u := if res ≠ 1 then t
          else if b.kind = 0 then t.modSpur b.unit fun x => { x with gates := { x.gates with testPassed := x.gates.failed } }
          else t.modCol b.unit fun c => { c with testPassed := if b.copy = 0 then c.pFailed else c.sFailed }
        if b.kind = 1 then (u.tellTest .bistDone signature).testOver else { u with bist := { u.bist with phase := 5, since := s.mark } })

/-- The setpoints between which the rail of a field may lie (R419): that of the step in force, and one requested or written and not yet acknowledged. -/
def Avs.setpoints (a : Avs) : List Nat := [a.inForce] ++ (if a.req = a.written then [] else [a.req]) ++ (if a.waiting then [a.written] else [])

/-- The last reading of the rail lies outside 97 % of the lowest to 103 % of the highest of its setpoints (R419). -/
def Avs.railOut (a : Avs) : Bool :=
  100 * a.rail < 97 * a.setpoints.foldl min a.inForce || 103 * a.setpoints.foldl max a.inForce < 100 * a.rail

/-- F_cap of the running test lies above the FCODE in force, or above that of MAX_STEP (R418). -/
def State.capAbove (s : State) : Bool :=
  let d := s.fab.dom (s.domOfSpur s.bist.unit)
  decide (d.fcode d.step < s.bist.fcap) || decide (d.fcode s.bist.maxStep < s.bist.fcap)

/-- A source of R420 can have stopped a test of a field: the capture clock above its limit, the root loop unlocked, and the rail out of band by its last reading, as the state has them. That a Spur's ring has lost its code, and that a self-test comparator has tripped, only the command tells. -/
def State.envSource (s : State) (f source : Nat) : Bool :=
  match source with
  | 0 => s.rdg.started && s.bist.kind == 0 && s.capAbove
  | 1 => !s.rdg.started || s.bist.kind == 0
  | 2 => (!s.rdg.started || s.bist.kind == 1) && !s.rdg.lock
  | 3 => (s.col f).avs.railOut
  | _ => true

/-- BIST_ENV_ABORT (R420): the clock or the supply has left its range: a field of the power-on run aborts (R422), or the running test ends with ABORTED_ENV, the signature so far in the two words of BST_MISR. -/
def execBistEnvAbort (f : Fin 25) (source : Fin 5) (lo hi : Word) (s : State) : Result :=
  .next (if !s.envSource f source then s
    else if !s.rdg.started then
      (if s.boot.stage ≠ 4 ∨ s.bist.aborted.contains f.val then s else { s with bist := { s.bist with aborted := s.bist.aborted ++ [f.val] } })
    else if (if s.bist.kind = 0 then fieldOf s.bist.unit else s.bist.unit) = f then s.bistAbort 4 source s.patternsNow (hi ++ lo)
    else s)

/-- The phases that pass by the mark (R414, R424): 6 marks each for the save and the restore, and the patterns by their ridge ticks. -/
def State.bistMark (s : State) : State :=
  let b := s.bist
  let age := s.bistAge
  if b.phase = 2 ∧ 6 ≤ age then { s with bist := { b with phase := 3, since := s.mark } }
  else if b.phase = 3 ∧ patternTicks b.pow ≤ 256 * age then { s with bist := { b with phase := 4, since := s.mark, patterns := 2 ^ b.pow } }
  else if b.phase = 5 ∧ 6 ≤ age then ({ s with bist := { b with phase := 6, since := s.mark } }).restoreLoop
  else s

/-- A shadow written during the test, after the return (R425): still pending where the spare's is; else in force as the spare's commit left it. -/
def State.settleShadow (n : Nat) (s : State) (o : Nat) : State :=
  if (s.shadows.find (sprAddr n o)).isNone || (s.shadows.find (sprAddr (400 + fieldOf n) o)).isSome then s
  else (s.setShadow (sprAddr n o) (s.word (sprAddr (400 + fieldOf n) o))).applyShadow n o

/-- The return of a tested Spur can take place (R424 step 8, R427): its loop is LOCKED with the entries copied, and a Spur that drove its region is ALIGNED, at the first cycle of its tally mark, outside a native window and where no commit falls (R429). -/
def State.returns (s : State) : Bool :=
  let b := s.bist
  let c := (s.col (fieldOf b.unit)).spare
  b.phase == 6 && b.locked &&
    (!b.handover || (c.returning && c.target == b.unit && c.aligned && s.atCycle0 b.unit && s.cal.cur.isNone && !(s.spur b.unit).gen.commitHere))

/-- BIST_RETURN (R424, R426, R427): the restored Spur takes its roots back, with what was written during the test, and BIST_DONE is raised; entry to V1 that waited goes on (R429). -/
def execBistReturn (s : State) : Result :=
  let b := s.bist
  .next (if !s.returns then s
    else
      let t := if b.handover then s.regain b.unit else s
      let t := if b.handover then t.each rwsRegs (State.settleShadow b.unit) else t
      let t := t.testOver
      let t := if b.result = 1 ∨ b.result = 3 then t.tellTest .bistDone b.misr else t
      if b.holdWaits then t.startHold else t)

/-- BIST_POR_REPEAT (R422): an aborted field repeats its power-on run, once. -/
def execBistPorRepeat (f : Fin 25) (s : State) : Result :=
  .next (if s.bist.aborted.contains f.val && !s.bist.repeated.contains f.val then
      { s with bist := { s.bist with aborted := s.bist.aborted.filter (· != f.val), repeated := s.bist.repeated ++ [f.val] } }
    else s)

end Sys2Proof.Machine
end

