-- ==== Sys2Proof/Machine/Startup.lean ====
section
/-! DEFINITION. A start (R480 to R493): the stages from Lookout's oscillator to the first mark of service, what they load, and the reset of a Summit instance. -/

namespace Sys2Proof.Machine

/-- A stage of a start ends where it is in progress and SUP1 is above its threshold (R481, R492). -/
def State.inStage (s : State) (k : Nat) : Bool := s.boot.stage == k && s.lko.sup1 && s.awake

/-- The state with a stage in progress. -/
def State.toStage (s : State) (k : Nat) : State := { s with boot := { s.boot with stage := k } }

/-- The gate of an input that begins when the oscillator has settled (R65, R66). -/
def RefIn.firstGate (x : RefIn) : RefIn := { x with clean := x.present, counts := x.declared }

/-- OSCILLATOR_SETTLED (R65, R481): at power-up the first gate of each input begins; stage 0 ends, once SUP1 is above its threshold. -/
def execOscillatorSettled (s : State) : Result :=
  let t := { s with
    lko := { s.lko with oscOk := true }
    rdg := if s.lko.oscOk then s.rdg else { s.rdg with a := s.rdg.a.firstGate, b := s.rdg.b.firstGate } }
  .next (if s.boot.pst = .v3 then s else if t.inStage 0 then t.toStage 1 else t)

/-- STAGE1_DONE (R481): REFCLK_A is qualified and the die has released its reset. -/
def execStage1Done (s : State) : Result := .next (if s.inStage 1 && s.rdg.a.qual && s.boot.resetN then s.toStage 2 else s)

/-- ROOT_LOCKED (R481, R484, R485, R495, R503): the root loop locks and stage 3 begins: the instances' self-checks, the life-cycle state with SERVICE left and, in DEPLOYED, no test segment open (R505), the flash device's SFDP, the BOOT voltage requested. The step and the address of CRN_FLASH_ERR, which the spec gives no value for here, are free values. -/
def execRootLocked (field1Ok field23Ok : Bool) (st : LifeCycle) (flashOk : Bool) (s : State) : Result :=
  .next (if !s.inStage 2 then s
    else
      let t := (s.toStage 3).modRdg fun r => { r with lock := true, root := .selA }
      let t := { t with
        lko := { t.lko with timerLock := true }
        role := { t.role with active := !field1Ok && field23Ok, standbyOk := field1Ok && field23Ok, silent := !field1Ok && !field23Ok }
        lcs := { t.lcs with
          st := if st = LifeCycle.service then .deployed else st
          segs := if st = LifeCycle.service ∨ st = LifeCycle.deployed then List.replicate 5 false else t.lcs.segs } }
      let t := t.timeBase 0
      let t := t.when (field1Ok && !field23Ok) fun u => u.raise .standbyLost 0 u.summitIdx (le 1 1)
      let t := t.mapCols fun f c => { c with avs := { c.avs with req := t.volt f 16, inForce := t.volt f 16 } }
      if flashOk && !t.crn.unusable then t
      else
        let a := t.free.toNat
        let u := t.tookFree
        ({ u.tookFree with crn := { u.crn with unusable := true, bootres := [7, 7, 7] } }).raise .crnFlashErr 7 0xFFFF (le 1 a ++ le 4 u.free.toNat ++ le 1 4))

/-- The sequence that an event of a bank names: of its commit record, 0 where it has none (R386, R388). -/
def BankImg.seqOf (b : BankImg) : Nat := b.commit.getD 0

/-- CRN_BANK_BAD (R386, R388). -/
def State.bankBad (s : State) (b : Nat) (sev : Sev) (reason : Nat) : State :=
  s.raiseAs .crnBankBad sev 7 b (le 1 reason ++ le 4 (s.crn.img b).seqOf)

/-- What the verification of a bank finds (R371, R385, R389): 7 on an unusable device, 1 without a valid commit record, else the reason as read. -/
def State.bankReason (s : State) (x : BankImg) (r : Nat) : Nat := if s.crn.unusable then 7 else if x.commit.isNone then 1 else r

/-- The default ceilings of R232, by format class. -/
def ceilDefaults : List Nat := [96, 96, 92, 88, 88, 76, 72, 64]

/-- Guard-rated ceilings as the block takes them: never above the defaults (R234). -/
def guardsOf (l : List Nat) : List Nat := (List.range 8).map fun c => min (nth ceilDefaults c) (nth l c)

/-- BANK_F_VERIFIED (R381, R482): bank F is verified or rejected; guard-rated ceilings, expected signatures and the oscillator trim follow from it. -/
def execBankFVerified (reason : Fin 8) (fact : Factory) (s : State) : Result :=
  .next (if !s.inStage 3 then s
    else
      let r := s.bankReason s.crn.f reason
      let ok : Bool := r == 0
      let t := s.toStage 4
      let t := { t with
        crn := { t.crn with
          fOk := ok, bootres := setNth t.crn.bootres 2 r
          spurSigs := if ok then fact.spurSigs else [], colSigs := if ok then fact.colSigs else [] }
        lko := { t.lko with trimLoaded := t.lko.trimLoaded || ok, oscTrim := if ok then fact.oscTrim else t.lko.oscTrim } }
      let t := t.mapSpurs fun n x => { x with cal := { x.cal with guards := guardsOf (if ok then fact.guards.getD n (List.replicate 8 64) else List.replicate 8 64) } }
      t.when (!ok && t.lcs.st != .blank) fun u => u.bankBad 2 .degraded r)

/-! ## Selection and load (R376, R385, R386) -/

/-- The results of banks A and B (R385, R389), from what a verification of each would find: in the order of their sequences, A first on equal ones; 1 for a bank with no valid commit record, and 8 for the bank not examined because the other one verified before it. -/
def State.bankResults (s : State) (a b : Nat) : Nat × Nat :=
  let ra := s.bankReason s.crn.a a
  let rb := s.bankReason s.crn.b b
  let aFirst : Bool := rb == 1 || (ra != 1 && s.crn.b.seqOf ≤ s.crn.a.seqOf)
  if aFirst then (ra, if ra = 0 ∧ rb ≠ 1 then 8 else rb) else (if rb = 0 ∧ ra ≠ 1 then 8 else ra, rb)

/-- The bank selected (R385): 0 A, 1 B, 2 F, 3 design defaults, from the results of A and B. -/
def State.selectBank (s : State) (r : Nat × Nat) : Nat :=
  if r.1 = 0 then 0 else if r.2 = 0 then 1 else if s.lcs.st ≠ .blank ∧ s.crn.fOk then 2 else 3

/-- The bank in use. -/
def State.bankImg (s : State) : BankImg := if s.crn.bank = 3 then BankImg.empty else s.crn.img s.crn.bank

/-- The trims of a Spur from its bins, with no step between (R481, stage 5). -/
def State.loadTrims (s : State) (n : Nat) : State :=
  let x := (s.spur n).cal
  let bins := s.binsFor n
  match bracket (bins.map fun b => b.map SpurBin.tb) (s.temp2Of n) 2 with
  | none => s
  | some b =>
    let sens := if x.record.sens = [0, 0] then x.trims.sens else x.record.sens
    s.modSpur n fun u => { u with cal := { u.cal with
      trims := b.trims ((bins.getD b.lo none).getD (x.asBin 0)) ((bins.getD b.hi none).getD (x.asBin 0)) sens
      loBin := b.lo, hiBin := b.hi, clamped := b.clamped && x.record.bins.any Option.isSome } }

/-- A Spur loaded from a bank: its record, and its trims for its present temperature; under the design defaults with SRC_CAL as after a third reject (R386). -/
def State.loadSpur (s : State) (n : Nat) : State :=
  let d := s.fab.dom (s.domOfSpur n)
  let t := s.modSpur n fun x =>
    if s.crn.bank = 3 then { x with
      cal := { x.cal with record := { SpurRec.empty with rejects := 3 } }, lim := { x.lim with cal := some (d.fcode d.nominal) } }
    else { x with cal := { x.cal with record := s.bankImg.spurs.getD n SpurRec.empty } }
  t.loadTrims n

/-- The capture phase that a residual skew asks for, quarter phases (R202). -/
def captureFor (v : Int) : Nat := (max 24 (min 40 (roundDiv v 4))).toNat

/-- A Saddle loaded from a bank: its bins, delay lines and tracker start (R376). -/
def State.loadSaddle (s : State) (k : Nat) : State :=
  let r := s.bankImg.saddles.getD k { bins := List.replicate 6 none, rbar := 0, traced := false, rejects := 0, mark := 0 }
  let t := s.modSad k fun x => { x with
    bins := r.bins, rejects := r.rejects, traced := r.traced, calMark := r.mark, rbar := r.rbar
    capHi := if sadSeam k then x.capHi else captureFor (128 - r.rbar), capLo := if sadSeam k then x.capLo else captureFor (128 + r.rbar) }
  let bins := t.sadBinsFor k
  match bracket (bins.map fun b => b.map SaddleBin.tb) (t.sadTemp4 k) 4 with
  | none => t
  | some b => t.modSad k fun x =>
    let cur : SaddleBin := { tb := 0, dly := x.dly, bhi := x.bdlyHi, blo := x.bdlyLo }
    let lo := (bins.getD b.lo none).getD cur
    let hi := (bins.getD b.hi none).getD cur
    let v := (b.vals (ints [lo.dly, lo.bhi, lo.blo]) (ints [hi.dly, hi.bhi, hi.blo])).map Int.toNat
    { x with dly := nth v 0, bdlyHi := nth v 1, bdlyLo := nth v 2, clamped := b.clamped && x.bins.any Option.isSome }

/-- Lookout loaded from a bank at power-up; a block reset and a wake leave it as it was (R480). -/
def State.loadLookout (s : State) : State :=
  if s.boot.kind ≠ 0 ∨ s.crn.bank = 3 then s
  else
    let r := s.bankImg.lookout
    let l := { s.lko with bins := if r.bins.isEmpty then s.lko.bins else r.bins, traced := r.traced, rejects := r.rejects, calMark := r.mark }
    match bracket (l.bins.map fun b => b.map Prod.fst) l.temp 1 with
    | none => { s with lko := l }
    | some b => { s with lko := { l with widths := b.vals (((l.bins.getD b.lo none).map Prod.snd).getD l.widths) (((l.bins.getD b.hi none).map Prod.snd).getD l.widths) } }

/-- The events of the selection: the bank chosen, each bank that failed with a commit record examined, and the design defaults (R385, R386, R388). -/
def State.tellBoot (s : State) (a b : Nat) : State :=
  let bad : State → Nat → Nat → State := fun t k r => t.when (r != 0 && r != 1 && r != 8 && !t.crn.unusable) fun u => u.bankBad k .corrected r
  let t := bad (bad s 0 a) 1 b
  let t := t.raise .crnBoot 7 s.crn.bank (le 1 s.crn.bank ++ le 4 s.crn.seq)
  t.when (s.crn.bank == 3) fun u => u.raiseAs .crnNone (if s.lcs.st = .blank then .info else .degraded) 7 3 []

/-! ## The power-on run (R421, R422) -/

/-- Bits of a set of numbers below `n`. -/
def setBits (n : Nat) (l : List Nat) : Nat := flagsNat ((List.range n).map fun i => l.contains i)

/-- BIST_FAIL of the power-on run (R430): 4,096 patterns, and the expected signature. -/
def State.porFails (s : State) (idx : Nat) (exp : BitVec 64) : State :=
  s.raise .bistFail 8 idx (le 1 (2 + 128) ++ le 1 12 ++ le 2 0 ++ le 4 4096 ++ le 8 exp.toNat)

/-- The fields whose units count as healthy and untested after the power-on run (R422): aborted on the repeat, or never brought to the BOOT voltage. -/
def State.untestedFields (s : State) : List Nat := (List.range 25).filter fun f => s.bist.aborted.contains f || s.boot.noBist.contains f

/-- The end of the power-on run (R422): failed units are out of service before the first mark; without expected signatures, and in an untested field, nothing fails. -/
def State.endPor (s : State) (failed : List Nat) (p : PorCols) : State :=
  let noRef : Bool := !s.crn.fOk
  let unt := s.untestedFields
  let spurs := if noRef then [] else (List.range 425).filter fun n => failed.contains n && !unt.contains (fieldOf n)
  let prim := if noRef then [] else (List.range 25).filter fun f => p.colPFail.contains f && !unt.contains f
  let stby := if noRef then [] else (List.range 25).filter fun f => p.colSFail.contains f && !unt.contains f
  let t := { s with bist := { s.bist with
    porFail := spurs, porP := setBits 25 prim, porS := setBits 25 stby, aborted := []
    porStat := Word.flag 31 true ||| Word.flag 30 noRef ||| Word.fld 25 0 (setBits 25 unt) } }
  let t := t.each spurs fun u n => (u.modSpur n fun x => { x with gates := { x.gates with failed := true, cause := 3 } }).porFails n ((s.crn.spurSigs.getD n []).getD 0 0)
  let t := t.each prim fun u f => (u.modCol f fun c => { c with pFailed := true }).porFails (0x200 + 2 * f) ((s.crn.colSigs.getD (2 * f) []).getD 0 0)
  let t := t.each stby fun u f => (u.modCol f fun c => { c with sFailed := true }).porFails (0x201 + 2 * f) ((s.crn.colSigs.getD (2 * f + 1) []).getD 0 0)
  let untested : Bool := !unt.isEmpty || (noRef && s.lcs.st != .blank)
  t.raiseAs .bistPor (if untested then .degraded else .info) 8 0xFFFF
    (le 2 spurs.length ++ le 1 (prim.length + stby.length) ++ le 1 s.bist.repeated.length ++
      le 1 ((List.range 25).filter s.bist.aborted.contains).length ++ le 1 (if noRef then 1 else 0))

/-- A field's aborted power-on run still waits for its repeat (R422). -/
def State.repeatWaits (s : State) : Bool := s.bist.aborted.any fun f => !s.bist.repeated.contains f

/-- TEST_SELECT_DONE (R385, R386, R422, R481, R533): the power-on run ends, no field waiting for its repeat, a bank is selected, and stage 5 loads every unit from it. -/
def execTestSelectDone (a b : Fin 8) (spurs : List Nat) (cols : PorCols) (s : State) : Result :=
  .next (if !s.inStage 4 || s.repeatWaits then s
    else
      let r := s.bankResults a b
      let k := s.selectBank r
      let t := s.toStage 5
      let t := { t with
        crn := { t.crn with bank := k, seq := if k = 3 then 0 else (t.crn.img k).seqOf, bootres := [r.1, r.2, nth t.crn.bootres 2] }
        faults := { t.faults with prior := flagsNat ((List.range 25).map fun i => (s.col i).recValid) } }
      let t := (t.tellBoot r.1 r.2).endPor spurs cols
      ((t.each (List.range 425) State.loadSpur).each (List.range 760) State.loadSaddle).loadLookout)

/-! ## Start and service (R486, R487) -/

/-- A Spur at the start pulse (R486). -/
def Spur.pulse (x : Spur) : Spur :=
  { x with
    gen := { x.gen.drive (entryOf x.cal.trims.codes 16) with
      loop := .acquire, reacq := false, acqMark := 0, lockRun := 0, lossRun := 0, fcode := 16, step := 0, tallyMark := 0, tallyCyc := 0, wrap := false, tallySync := false }
    str := { x.str with debt := 0, frozen := true, leads := ⟨0, 0, 0, 0⟩ }
    gates := { x.gates with comp := true, tran := true, leaf := true } }

/-- START_PULSE (R82, R486): every ridge counter and tally loads 0, and the loops acquire behind closed gates. -/
def execStartPulse (s : State) : Result :=
  .next (if !s.inStage 5 || !s.rdg.lock then s
    else
      let t := (s.toStage 6).modRdg fun r => { r with started := true, ridge := 0, epoch := 0, tick0 := false }
      let t := t.mapSpurs fun _ x => x.pulse
      t.mapCols fun _ c => { c with aOk := true, bOk := true, aRun := 0, bRun := 0, aHit := false, bHit := false, errA := 0, errB := 0, commander := s.role.active })

/-- A Spur is fit to drive at S: healthy, and its loop LOCKED. -/
def State.fit (s : State) (n : Nat) : Bool := !(s.spur n).gates.failed && (s.spur n).gen.loop == .locked

/-- The Spurs that are to drive a region of a field (R487): its healthy ones, and the healthy field spare where one of them has failed. -/
def State.toDrive (s : State) (f : Nat) : List Nat :=
  let ok := (fieldRegions f).filter fun n => !(s.spur n).gates.failed
  if ok.length < 16 ∧ !(s.spur (400 + f)).gates.failed then ok ++ [400 + f] else ok

/-- A Spur not LOCKED by mark 64 counts as failed (R104, R487). -/
def State.timesOut (s : State) (n : Nat) : State :=
  if s.fit n || (s.spur n).gates.failed then s
  else (s.modSpur n fun x => { x with gen := { x.gen with loop := .failed }, gates := { x.gates with failed := true, cause := 2 } }).raise .acqTimeout 2 n []

/-- A region whose Spur has failed before S (R436 to R440, R487): the field spare connected directly, a borrow, or dark. -/
def State.placeRegion (s : State) (r : Nat) : State :=
  let f := fieldOf r
  if !(s.spur r).gates.failed then s
  else if s.spareIdle f then ((s.takeOver f r).tellFailed r 1).raise .spareTakeover 1 f (le 2 r)
  else match if (s.col f).borrow.isNone then s.lenderFor r none else none with
    | some l => (((s.connect { region := r, lender := l, since := s.mark, ready := true, quietAt := 0, connected := true } 0).tellFailed r 2).raise
        .borrowStart 3 (sadBetween r l) (le 2 l ++ leInt 1 0))
    | none => (s.goDark r).tellFailed r 3

/-- A field at S: failed spares told, failed regions placed, and COL_LOST where both instances have failed (R444, R487). -/
def State.placeField (s : State) (f : Nat) : State :=
  let t := if (s.spur (400 + f)).gates.failed then s.tellFailed (400 + f) 0 else s
  let t := t.each (fieldRegions f) State.placeRegion
  if (s.col f).pFailed && (s.col f).sFailed then t.raise .colLost 1 f [] else t

/-- The first cycle of S (R487, R488, R384, R475). -/
def State.service (s : State) : State :=
  let t := s.mapSpurs fun n x => { x with
    gates := if n < 400 then { x.gates with comp := false, tran := false, leaf := false } else { x.gates with leaf := false }
    str := { x.str with frozen := false, debt := 0, leads := ⟨0, 0, 0, 0⟩ } }
  let t := t.mapSads fun _ x => { x with usable := !x.disable && !x.failed, held := false }
  let t := t.each (List.range 25) State.placeField
  let t := { t with
    boot := { t.boot with stage := 7, ready := true, smark := s.mark.toNat, us := t.free }
    crn := { t.crn with pending := t.crn.pending || s.lko.savePending, holdUntil := if s.lko.savePending then some (s.mark + 1024) else none }
    lko := { t.lko with savePending := false } }
  let t := (t.tookFree.tellState 0).when (t.lko.trips.getD 0 false) State.safeGrants
  if t.lko.trips.getD 1 false then t.enterHold else t

/-- FIRST_MARK_OF_SERVICE (R487): at ridge tick 0 of mark 32 or later, once every Spur that is to drive a region is LOCKED; at mark 64 those that are not count as failed. SUM_BOOTTIME is a free value: no clock of the model measures it. -/
def execFirstMarkOfService (s : State) : Result :=
  .next (if !s.inStage 6 || !s.atMark || decide (s.mark.toNat < 32) then s
    else if (List.range 25).all fun f => (s.toDrive f).all s.fit then s.service
    else if s.mark.toNat < 64 then s
    else
      let t := s.each (List.range 400) State.timesOut
      (t.each ((List.range 25).filter fun f => (t.toDrive f).contains (400 + f)) fun u f => u.timesOut (400 + f)).service)

/-! ## A Summit instance reset (R491) -/

/-- RESET (R491): the instance that is not active is reset; CFG_LOCKED in DEPLOYED, CFG_BUSY where it is not open or is running. -/
def execReset (s : State) : Result :=
  .next (s.take 0x908 1#32 .rwl fun t =>
    if !t.testOpen || t.role.rstResult == 1 then t.cfgEvent .cfgBusy 0x908 1#32
    else { t with role := { t.role with rstResult := 1, rstMark := t.mark, standbyOk := false, mirrors := [], mirrorNext := [] } })

/-- INSTANCE_SELF_CHECK_DONE (R491): after 64 marks the instance takes mirror records, or stays failed. -/
def execInstanceSelfCheckDone (pass : Bool) (s : State) : Result :=
  .next (if s.role.rstResult ≠ 1 || decide (s.since s.role.rstMark < 64) then s
    else { s with role := { s.role with rstResult := if pass then 2 else 3, standbyOk := pass, mirrorAt := s.mark } })

end Sys2Proof.Machine
end

