-- ==== Sys2Proof/Machine/Summit.lean ====
section
/-! DEFINITION. Summit's copies, the beacon and the reports (R41 to R61, R330 to R333, R434, R435, R444, R534): what falls at ridge tick 0 of a mark, mirror records, takeover, the failover of a Col, field reports. -/

namespace Sys2Proof.Machine

/-! ## The next mark -/

/-- Ridge tick 0 of the next mark; the first beacon after the start pulse or a wrap is that of mark 0 (R43, R83). -/
def State.nextMark (s : State) : State :=
  let r := s.rdg
  if !r.tick0 then { s with rdg := { r with tick0 := true } }
  else
    let m := r.ridge.mark + 1
    { s with rdg := { r with ridge := Ridge.ofMark m, epoch := if m = 0 then min 0xFFFF (r.epoch + 1) else r.epoch } }

/-- A write of SUM_ROLE.SWAP makes the active instance assert self-check failure as its mark ends (R59). -/
def State.endSwap (s : State) : State := if s.role.swap then { s with role := { s.role with silent := true } } else s

/-- The power of the mark that has ended joins the governor's history (R466). -/
def State.pushPower (s : State) : State :=
  let p := ((List.range 25).map s.power).foldl (· + ·) 0
  { s with gov := { s.gov with hist := (p :: s.gov.hist).take 1024 } }

/-- The mirror record of the current mark (R54), with the producer and consumer index of the plan, completion and event rings. -/
def State.mirror (s : State) : Mirror :=
  { mark := s.mark, idx := [s.hri.planProd, s.hri.planCons, s.hri.cmplProd, s.hri.cmplCons, s.hri.evtProd, s.hri.evtCons], agreed := s.hri.agreed
    fab := s.fab, lastSeq := s.role.lastSeq, armed := s.plan.sets.filter CommitSet.armed, gov := s.gov, profile := s.word 0x300
    opened := s.faults.opened, queue := s.faults.queue, limits := s.spurs.toList.map Spur.lim
    ceils := (List.range 425).map fun n => (s.word (sprAddr n 0x90), s.word (sprAddr n 0x94)) }

/-- The field of the active instance (R3). -/
def State.summitField (s : State) : Nat := if s.role.active then 23 else 1

/-- The beacon on both spines (R43). -/
def State.beacon (s : State) : State :=
  let t := s.sendLane (.beacon s.mark s.summitField)
  { t with role := { t.role with lastBeacon := some s.mark } }

/-- The mirror record of the mark on its way to a healthy standby, as the state stands at ridge tick 0 with what falls due at the mark (R54). An arm of the same tick joins it (State.mirrorArm). -/
def State.sendMirror (s : State) : State :=
  { s with role := { s.role with mirrorNext := if s.role.standbyOk then ((s.role.mirrorNext ++ [s.mirror]).reverse.take 2).reverse else [] } }

/-- The grades computed in the last mark go out on the command lane; each Spur drives its own from its next tally mark but one (R256). -/
def State.sendGrades (s : State) : State :=
  if s.role.grades.isEmpty then s
  else
    let t := s.mapSpurs fun n x => if n < 400 then { x with gates := { x.gates with gradeNext := x.gates.gradeNext ++ [(s.mark + 1, nth s.role.grades n)] } } else x
    ({ t with role := { t.role with grades := [] } }).sendLane .grades

/-! ## What waits for a mark without a commit set (R290, R554) -/

/-- The halves of a version 1 ladder that fall due together (R291). -/
def State.dueHalves (s : State) (due : List Action) : List FbEntry := (due.filterMap fun a => s.plan.entry a.idx).filter fun e => e.ty == 2

/-- A change of a domain not in use takes effect (R554); under version 1 the full ladder is checked here (R291). -/
def State.idleApply (s : State) (halves : List FbEntry) (e : FbEntry) (done : Status) : State :=
  let d := e.byte 16
  let y := laddered s.v1 e halves (s.fab.dom d)
  if e.ty = 2 ∧ s.v1 ∧ !ladderOk y.ladder y.safe y.nominal then s.finish e .ladderRange s.mark 0 d false
  else
    let t := if s.fab.inUse d then s else s.patchFab (fun _ => false) fun fb =>
      if fb.inUse d then fb else if e.ty = 2 then fb.modDom d fun x => laddered s.v1 e halves x else fb.idleChange s.v1 e
    t.finish e done s.mark (if e.ty = 1 then e.byte 17 else (t.fab.dom d).step) d false

/-- An action at its target mark: a budget, a change of an idle domain, a measurement, or the completion of a CAL_WINDOW. -/
def State.runAction (halves : List FbEntry) (s : State) (a : Action) : State :=
  match s.plan.entry a.idx with
  | none => s
  | some e =>
    let done : Status := if a.late then .appliedLate else .applied
    if e.ty = 7 then
      ((({ s with gov := { s.gov with cap := e.num 16 4, capDue := false } }).setTcap (e.byte 20)).setSprint (e.byte 21)).finish e done s.mark 0 0 false
    else if e.ty = 9 then s.runMeasure e a.late
    else if e.ty = 8 then
      (if s.v1 then ({ (s.setField 0xA0008 6 0 (e.num 16 2)).setField 0xA0004 31 16 (e.num 18 4) with cal := { s.cal with interval := e.num 18 4 } }) else s).finish
        e done s.mark 0 0 false
    else s.idleApply halves e done

/-- The actions that fall due at the current mark. -/
def State.runActions (s : State) : State :=
  let due := s.plan.actions.filter fun a => a.slot.isNone && notAfter a.target s.mark
  if due.isEmpty then s
  else
    let t := s.modPlan fun p => { p with actions := p.actions.filter fun a => !due.contains a }
    (t.each due (State.runAction (s.dueHalves due))).closeOut

/-! ## Other work of a mark -/

/-- The background CALREF gate runs whenever CALREF counts and no foreground measurement needs it (R355, R407). -/
def State.startGate (s : State) : State :=
  let busy : Bool := (s.chan 5).armed || (List.range 6).any fun c => (s.chan c).armed && (s.chan c).freq
  if s.calrefOk && s.lko.timerLock && !busy then { s with lko := { s.lko with bgRef := true } } else s

/-- A gate more than 4 s old no longer traces (R356). -/
def State.staleGate (s : State) : State :=
  if s.cal.traced && s.cal.gateMark.any (fun m => decide (6250000 < s.since m)) then s.setTraced false else s

/-- V1 entry ends once every field's report shows its gates closed and every debt at 0 (R470); its exit ends once the gates have opened (R471). -/
def State.holdMark (s : State) : State :=
  match s.boot.moving, s.boot.gateAt with
  | true, some g =>
    if s.boot.req = 1 then
      (if Mark.ahead s.mark g && s.cols.toList.all Col.repHeld then
        ({ s with boot := { s.boot with pst := .v1, state := 1, moving := false, gateAt := none } }).tellState 1
       else s)
    else if s.boot.req = 0 ∧ notAfter (g + 1) s.mark then
      ({ s with boot := { s.boot with pst := .v0, state := 0, moving := false, gateAt := none } }).tellState 0
    else s
  | _, _ => s

/-- The incident of a Saddle closes once it is unusable (R220, R448). -/
def State.closeSaddle (s : State) : State :=
  match s.faults.opened.getD 4 none with
  | some i => if (s.sad i.unit).usable then s else s.closeIncident 4 i.unit
  | none => s

/-! ## The buffer after a takeover (R330 to R333) -/

/-- A buffered descriptor that is processed again (R330, R331, R407): not one of an applied set, nor completed, nor of a measurement that runs. -/
def State.again (s : State) (keep : List Nat) (e : FbEntry) : Bool :=
  e.stage != .done && !keep.contains e.idx && !(List.range 6).any fun c => (s.chan c).armed && (s.chan c).owner == .descriptor e.idx

/-- A group after a takeover (R332), with `n` of its members to be processed again. One whose COND_BEGIN is itself processed again is free until then. One that had resolved is pending again, watched from the next mark on, until the COND_END that it had; one that was skipped late stays late. -/
def Group.reborn (g : Group) (m : Mark) (n : Nat) : Group :=
  if !g.st.resolved || !g.settled then Group.free
  else
    let h := { g with endIdx := none, lastEnd := if g.endIdx.isSome then g.endIdx else g.lastEnd, members := g.members - n }
    if g.st = .late then h else { h with st := .opened, settled := false, since := m, last := 0, silent := 0, lateRaised := false }

/-- The new instance takes up the buffer (R330 to R333): the descriptors of the sets that the reports show as applied complete with their sets, every other one is processed again in ring order. -/
def State.reprocess (s : State) : State :=
  let keep := (s.plan.sets.filter CommitSet.applied).flatMap CommitSet.members
  let es := s.plan.buf.filter (s.again keep)
  let applied := (keep.filterMap s.plan.entry).length
  let p := s.plan
  let t := { s with
    role := { s.role with resumeDue := false }
    plan := { p with
      buf := p.buf.map fun (e : FbEntry) => if s.again keep e then { e with stage := Stage.fetched, set := none, late := false, slot := none } else e
      sets := p.sets.filter CommitSet.applied, actions := []
      groups := mapFrom (fun k g => g.reborn s.mark (p.openMembers k).length) 0 p.groups
      wait := none, resumeAt := none, markers := [], readSent := [], resApplied := applied, resCount := es.length } }
  match es with
  | [] => t.closeOut
  | e :: _ =>
    let u := (t.modPlan fun q => { q with nextSeq := e.seq.toNat % 2 ^ 31, resume := some e.seq.toNat }).closeOut
    u.raise .planResume 0 u.summitIdx (le 4 e.seq.toNat ++ le 1 applied ++ le 1 es.length)

/-! ## The mark -/

/-- What an active instance does at ridge tick 0: the beacon, the grades, the end of the watches of the mark before, the outcomes that its readings brought, and what is due. -/
def State.summitMark (s : State) : State :=
  let t := s.beacon.sendGrades
  let t := t.when t.role.resumeDue State.reprocess
  t.silentMarks.settleGroups.nullRequests.runActions.sendMirror

/-- A ceiling whose write reached its Spur in the mark before enters Summit's choice now (R234). -/
def State.ceilsMark (s : State) : State := s.when (s.spurs.toList.any fun x => x.cal.ceilAt == some (s.mark - 1)) State.baseMoved

/-- The deferral of native windows after a holdover ends once 2,048 marks have passed (R77). -/
def State.holdLeftMark (s : State) : State :=
  if s.rdg.holdLeft.any fun m => decide (2048 < s.since m) then { s with rdg := { s.rdg with holdLeft := none } } else s

/-- MARK_BEACON (R43): ridge tick 0 of the next mark, once the present mark's last tick has come: the beacon of an active instance with what falls due at a mark. A silent instance sends nothing, and the mark passes (R56). -/
def execMarkBeacon (s : State) : Result :=
  .next (if !s.rdg.started || (s.rdg.tick0 && s.tick != 255) then s
    else
      let t := (s.endSwap.nextMark).pushPower.relockMark
      let t := { t with hri := { t.hri with msiSent := [] }, colsPrev := t.colsMark, colsMark := t.cols }
      let t := t.mapCols fun _ c => c.endMark
      let t := t.ceilsMark.holdLeftMark
      let t := if t.role.silent then { t with role := { t.role with noAnswer := min 16 (t.role.noAnswer + 1) } }
        else ({ t with role := { t.role with noAnswer := 0, nopath := false } }).summitMark
      t.startGate.startDensity.staleGate.bistMark.holdMark.closeSaddle)

/-! ## Commands at a Col (R42) -/

/-- COMMAND_RECEIVE (R42): a Col acts on the copy from its selected spine; a difference raises SPINE_MISMATCH. It accepts commands only from the instance whose beacon it last accepted (R43). -/
def execCommandReceive (f : Fin 25) (a b : Word) (s : State) : Result :=
  let c := s.col f
  let own := if c.sel then b else a
  let other := if c.sel then a else b
  .next (if !s.heeds f then s
    else (s.modCol f fun x => { x with lastCmd := own }).when (own != other) fun t =>
      t.raise .spineMismatch 1 f (le 4 own.toNat ++ le 4 other.toNat))

/-! ## Field reports (R44, R61, R253, R435) -/

/-- The Spurs of a field whose commits count for its report: those that drive a region, and a healthy spare not under test. -/
def State.counted (s : State) (f : Nat) : List Nat :=
  (fieldSpurs f).filter fun n => !s.underTest n && (s.drives n || (decide (400 ≤ n) && !(s.spur n).gates.failed))

/-- A Spur holds an applied entry of a number. -/
def Gen.hasApplied (g : Gen) (q : Seq) : Bool := g.entries.any fun e => e.applied && e.seq == q

/-- The commits that every counted Spur of a field has applied, with their targets: those whose target mark has passed, in the order of Summit's sets and of the entries (R61). -/
def State.appliedIn (s : State) (f : Nat) : List (Mark × Seq) :=
  let held := ((fieldSpurs f).flatMap fun n => (s.spur n).gen.entries.filter Entry.applied).map fun e => (e.target, e.seq)
  (((s.plan.sets.filter CommitSet.applied).map fun c => (c.target, c.seq)) ++ held).eraseDups.filter fun p =>
    Mark.ahead s.mark p.1 && (s.counted f).all fun n => (s.spur n).gen.hasApplied p.2

/-- The last of some commits, by target. -/
def lastCommit : List (Mark × Seq) → Option (Mark × Seq)
  | [] => none
  | p :: ps => some (ps.foldl (fun a b => if Mark.ahead b.1 a.1 then b else a) p)

/-- The grade-input byte of a region (R253). -/
def State.gradeInput (s : State) (r : Nat) : Nat :=
  let x := s.spur (s.driverSpur r)
  32 * (x.wl.level % 8) + 8 * (x.str.droopMax % 4) + (s.spur r).gates.band % 8

/-- The grade inputs of a field taken by Summit (R255). -/
def State.takeInputs (s : State) (f : Nat) : State :=
  s.each (fieldRegions f) fun t r => t.modSpur r fun x => { x with
    gates := { x.gates with input := s.gradeInput r, droopHist := (s.gradeInput r / 8 % 4 :: x.gates.droopHist).take 16 } }

/-- The lowest step at which SRC_DEBT stands among the Spurs of a domain. -/
def State.debtStepOf (s : State) (d : Nat) : Option Nat :=
  match ((s.fab.fields d).flatMap fieldSpurs).filter fun m => (s.spur m).lim.debt.isSome with
  | [] => none
  | m :: ms => some (ms.foldl (fun a k => min a (s.spur k).lim.debtStep) (s.spur m).lim.debtStep)

/-- SRC_DEBT at a DEBT_LIMIT (R154): one step below the step in force, and one step lower at each further one of the domain, not below SAFE. -/
def State.debtAlarm (s : State) (n : Nat) : State :=
  let d := s.domOfSpur n
  let x := s.fab.dom d
  let v := x.nextLimit (s.debtStepOf d)
  (s.modSpur n fun y => { y with lim := { y.lim with debt := some (x.fcode v.1), debtStep := v.1 } }).baseMoved

/-- An alarm of a report: DEBT_LIMIT sets its limit at once (R154, R448); a failed Spur is an incident (R434, R435). -/
def State.takeAlarm (s : State) (a : Ev × Nat) : State :=
  if a.1 = .debtLimit then s.debtAlarm a.2 else s.incident { cls := 3, sev := .degraded, ev := a.1, unit := a.2 }

/-- The units whose telemetry a Col sends in turn: its Spurs and the Saddles that it owns (R4, R44). -/
def telemUnits (f : Nat) : List Nat :=
  (fieldSpurs f).map (fun n => sprAddr n 0) ++ ((List.range 760).filter fun k => fieldOf (sadLow k) == f).map fun k => sadAddr k 0

/-- The telemetry slice of a Spur (R44): what is in force, stretching, its temperatures, and the grade of its region, that of a port region included (R25). DESIGN CHOICE, notes/assumptions/65.md. -/
def State.spurTelem (s : State) (n : Nat) : List Word :=
  let x := s.spur n
  let g := (s.spur ((s.regionOf n).getD n)).gates
  [Word.fld 7 0 x.gen.fcode ||| Word.fld 4 8 x.gen.step ||| Word.fld 3 12 x.gen.fmt ||| Word.flag 16 x.gates.comp ||| Word.flag 17 x.gates.tran ||| Word.flag 18 x.gates.failed,
    Word.fld 6 0 x.str.debt ||| Word.fld 6 8 x.str.peak ||| Word.fld 2 16 x.str.droopMax ||| Word.fld 8 24 (twos 8 x.str.minSlack),
    Word.fld 16 16 (twos 16 ((s.sensOver n).getD x.cal.s1)) ||| Word.fld 16 0 (twos 16 ((s.sensOver n).getD x.cal.s0)),
    Word.fld 3 24 g.grade ||| Word.fld 8 16 g.input ||| Word.fld 3 12 g.pT ||| Word.fld 2 8 g.pP ||| Word.fld 2 4 g.pD ||| Word.flag 1 g.zero ||| Word.flag 0 g.cap3]

/-- The telemetry slice of a Saddle (R44). DESIGN CHOICE, notes/assumptions/65.md. -/
def State.sadTelem (s : State) (k : Nat) : List Word :=
  let x := s.sad k
  [Word.flag 0 x.usable ||| Word.flag 1 x.failed ||| Word.fld 2 4 x.borrow, Word.fld 16 0 (twos 16 x.rbar) ||| Word.fld 16 16 (twos 16 x.diff),
    Word.fld 16 0 x.tagErr.toNat ||| Word.fld 16 16 x.dropped.toNat, Word.fld 16 0 x.peak ||| Word.fld 8 16 x.minInt ||| Word.fld 8 24 (twos 8 x.slip)]

/-- The telemetry slice of a unit, by its register offset. -/
def State.telemOf (s : State) (a : Nat) : List Word :=
  match winOf a with
  | .spr n _ => s.spurTelem n
  | .sad k _ => s.sadTelem k
  | _ => []

/-- The report of a field, from the Col's state at the first tick of its slot (R44). -/
def State.reportOf (s : State) (f : Nat) : Report :=
  let c := s.col f
  let es := (fieldSpurs f).flatMap fun n => (s.spur n).gen.entries
  let us := telemUnits f
  let u := us.getD (c.telem % us.length) 0
  { field := f, seq := (lastCommit (s.appliedIn f)).elim c.repSeq Prod.snd, copy := c.active, spine := c.sel
    staged := ((es.filter fun e => e.st == .staged).map Entry.seq).eraseDups
    armed := ((es.filter fun e => e.st == .armed && !e.applied).map Entry.seq).eraseDups
    acked := !c.avs.waiting && !c.avs.failed, alarms := c.alarms, grades := (fieldRegions f).map s.gradeInput, unit := u, telem := s.telemOf u }

/-- Every root gate of a field is closed and every debt 0, over the Spurs that clock regions (R470). -/
def State.fieldHeld (s : State) (f : Nat) : Bool :=
  (fieldSpurs f).all fun n => !s.drives n || ((s.spur n).gates.comp && (s.spur n).gates.tran && (s.spur n).str.debt == 0)

/-- A Col can report: a copy of it runs, and a spine is healthy (R44, R81). -/
def Col.reports (c : Col) : Bool := !(c.pFailed && c.sFailed) && (c.aOk || c.bOk)

/-- FIELD_REPORT (R44): the report of a field at the first tick of its slot, once in a mark. Both Summit instances receive it; alarms wait while none is active. Entries that it shows as applied may be EMPTY from the second mark after their target (R116). -/
def execFieldReport (f : Fin 25) (s : State) : Result :=
  .next (if !s.rdg.started || s.tick != 10 * f.val || (s.col f).repMark == some s.mark || !(s.col f).reports then s
    else
      let r := s.reportOf f
      let done := (s.appliedIn f).map Prod.snd
      let t := s.modCol f fun x => { x with
        repSeq := r.seq, repMark := some s.mark, repArmed := r.armed, telem := (x.telem + 1) % (telemUnits f).length, repHeld := s.fieldHeld f
        alarms := if s.role.silent then x.alarms else [], avs := { x.avs with reported := if x.avs.failed then 0 else x.avs.acked } }
      let t := t.each (fieldSpurs f) fun u n => u.modSpur n fun x =>
        { x with gen := { x.gen with entries := x.gen.entries.map fun e => if e.applied && done.contains e.seq then { e with reported := true } else e } }
      let t := (t.send (.report r)).modPlan fun p => { p with sets := p.sets.map fun (x : CommitSet) =>
        if (done.contains x.seq && x.applied && !x.reported.contains f.val) then { x with reported := x.reported ++ [f.val] } else x }
      let t := t.takeInputs f
      if s.role.silent then t else t.each r.alarms State.takeAlarm)

/-! ## Mirror records and failures (R55, R56, R59, R434) -/

/-- MIRROR_RECORD (R55): the oldest record on its way arrives complete. -/
def execMirrorRecord (s : State) : Result :=
  .next (match s.role.mirrorNext with
    | [] => s
    | m :: ms => if !s.role.standbyOk then s
      else { s with role := { s.role with mirrors := (m :: s.role.mirrors).take 2, mirrorNext := ms, mirrorLate := false, mirrorAt := s.mark } })

/-- MIRROR_LATE (R55): the oldest record on its way is not complete in time; it replaces nothing. -/
def execMirrorLate (s : State) : Result :=
  .next (match s.role.mirrorNext with
    | [] => s
    | _ :: ms => { s with role := { s.role with mirrorNext := ms, mirrorLate := true } })

/-- SELF_CHECK_FAILURE (R56): the active instance falls silent. -/
def execSelfCheckFailure (s : State) : Result := .next { s with role := { s.role with silent := true } }

/-- SWAP (R59): ignored while MIRROR_OK is 0 or a takeover is in progress. -/
def execSwap (s : State) : Result :=
  .next (s.take 0x100 0x80000000#32 .rwl fun t =>
    if !t.mirrorOk || t.role.silent then t else { t with role := { t.role with swap := true } })

/-- STANDBY_LOST (R434, R444): the standby fails its self-check, or has had no complete record for 16 marks while the active instance sends beacons. -/
def execStandbyLost (selfCheck : Bool) (s : State) : Result :=
  let stale : Bool := s.rdg.started && !s.role.silent && decide (16 ≤ s.since s.role.mirrorAt)
  .next (if !s.role.standbyOk || !(selfCheck || stale) then s
    else
      let i := if s.role.active then 0 else 1
      let t := ({ s with role := { s.role with standbyOk := false, mirrors := [], mirrorNext := [], swap := false } }).raise .standbyLost 0 s.summitIdx (le 1 i)
      (t.incident { cls := 1, sev := .degraded, ev := .standbyLost, unit := i }).closeIncident 1 i)

/-! ## Takeover (R57, R330 to R333) -/

/-- A commit is applied as far as the Spurs and the reports tell (R57, R61). -/
def State.tellsApplied (s : State) (q : Seq) : Bool :=
  (s.cols.toList.any fun c => c.repSeq == q) || s.spurs.toList.any fun x => x.gen.hasApplied q

/-- The commits that the reports show as applied since a mirror record (R57), each with what it left in force: those armed in the record, and those armed after it. -/
def State.appliedSince (s : State) (m : Mirror) : List CommitSet :=
  let later := s.plan.sets.filter fun c => c.applied && !m.armed.any fun x => x.seq == c.seq
  ((m.armed.map fun c => (s.plan.find c.seq).getD c) ++ later).filter fun c => s.tellsApplied c.seq

/-- The last of some sets, by target. -/
def lastSet : List CommitSet → Option CommitSet
  | [] => none
  | c :: cs => some (cs.foldl (fun a b => if Mark.ahead b.target a.target then b else a) c)

/-- What the new instance takes from the mirror record (R54, R57): the domains with their last committed sequence numbers, brought up to the commits that the reports show since, the governor, budgets and profile, the ring version, the incidents. Where a report shows a commit that neither the record nor an armed set knows, what is in force comes from the Spurs. The ring indices, limits and ceilings stand in registers of the HRI and the Spurs, which have not failed. DEDUCED, notes/assumptions/82.md. -/
def State.fromMirror (s : State) (m : Mirror) : State :=
  let cs := s.appliedSince m
  let known : Bool := s.cols.toList.all fun c => m.lastSeq.contains c.repSeq || cs.any fun x => x.seq == c.repSeq
  let t := s.setWord 0x300 (if s.ringsOn then m.profile.put 31 31 0 else m.profile)
  let t := { t with
    gov := { m.gov with hist := s.gov.hist }, hri := { t.hri with agreed := m.agreed }
    faults := { t.faults with opened := m.opened, queue := m.queue } }
  if !known then t
  else match lastSet cs with
    | none => { t with fab := m.fab, role := { t.role with lastSeq := m.lastSeq } }
    | some c => { t with fab := c.result, role := { t.role with lastSeq := mapFrom (fun d q => if c.result.inUse d then c.seq else q) 0 m.lastSeq } }

/-- SUMMIT_TAKEOVER (R56, R57): at ridge tick 0 of the third mark after the last beacon the standby becomes active: its beacon, the mirror record where it has one, the discard. It takes up the buffer at the next mark, after the reports of this one (R57, R330). Without a record what the failed instance held stands. DEDUCED, notes/assumptions/82.md. -/
def execSummitTakeover (s : State) : Result :=
  .next (match s.role.lastBeacon with
    | none => s
    | some b =>
      if !s.atMark || !s.role.standbyOk || s.since b != 3 then s
      else
        let t := { s with role := { s.role with
          active := !s.role.active, silent := false, swap := false, standbyOk := false, mirrors := [], mirrorNext := [], mirrorLate := false
          takeovers := min 255 (s.role.takeovers + 1), noAnswer := 0, nopath := false, grades := [], resumeDue := true } }
        let t := (match s.role.mirrors with | m :: _ => t.fromMirror m | [] => t).beacon
        let t := (t.raise .summitTakeover 0 t.summitIdx (le 5 b.toNat)).sendLane .discard
        let t := (t.modPlan fun p => { p with sets := p.sets.filter CommitSet.final }).discardNew
        let t := (t.incident { cls := 1, sev := .corrected, ev := .summitTakeover, unit := s.summitIdx }).closeIncident 1 s.summitIdx
        let t := if s.calBetween (fun w => w.n - 2) (fun w => w.n - 1) && decide (s.cal.phase < 3) then { t with cal := { t.cal with lateAt := some (s.mark + 2) } } else t
        t.baseMoved.saveAgain)

/-- SUMMIT_LOST (R444, R484): a Col that has accepted no beacon for 16 marks, with no standby left, drives the fatal signal and keeps the record. -/
def execSummitLost (f : Fin 25) (s : State) : Result :=
  .next (if !s.rdg.started || !s.role.silent || s.role.standbyOk || decide ((s.col f).beaconAge < 16) then s
    else
      let t := (s.record f Ev.summitLost.code false true true).driveFatal 3
      { t with faults := { t.faults with noStage := true } })

/-- NOPATH (R534): no Summit instance has answered for 16 marks. -/
def execNopath (s : State) : Result := .next (if 16 ≤ s.role.noAnswer then { s with role := { s.role with nopath := true } } else s)

/-! ## Failover of a Col (R58, R428, R429, R444) -/

/-- The instance of a Col that takes over works from the primary's state at the preceding mark (R58). What both instances receive, over the command lane and the field link, and what is no instance's own, the spines and their counters, the alarms, the record, the spare and the borrow, stands as it is. DEDUCED, notes/assumptions/83.md. -/
def Col.failover (now old : Col) : Col :=
  { now with
    active := !now.active, skew := old.skew, switchDue := old.switchDue, switchAsked := old.switchAsked, repSeq := old.repSeq, repArmed := old.repArmed, telem := old.telem
    avs := { old.avs with
      req := now.avs.req, inForce := now.avs.inForce, lowerDue := now.avs.lowerDue, hold := now.avs.hold, rail := now.avs.rail, amps := now.avs.amps } }

/-- COL_FAILOVER (R58): at ridge tick 0 of a mark the other instance takes over. For a test of the active instance the switch is the test's own first step (R428); otherwise the active instance counts as failed, and with both failed the Col is lost. -/
def execColFailover (f : Fin 25) (s : State) : Result :=
  let c := s.col f
  let b := s.bist
  let tested : Bool := s.testRuns && b.kind == 1 && b.unit == f.val
  let old := s.colsPrev.toList.getD f.val Col.reset
  .next (if !s.atMark || (c.pFailed && c.sFailed) then s
    else if tested && b.phase == 1 then
      { s with cols := bmod s.cols f fun x => x.failover old, bist := { b with phase := 3, since := s.mark + 1 } }
    else
      let t := if tested then s.bistStop 6 else s
      let t := t.modCol f fun x => if x.active then { x with sFailed := true, testPassed := false } else { x with pFailed := true, testPassed := false }
      if (t.col f).pFailed && (t.col f).sFailed then t.raise .colLost 1 f []
      else
        let u := (t.modCol f fun x => x.failover old).raise .colFailover 1 f (le 1 (if c.active then 0 else 1))
        (u.incident { cls := 2, sev := .corrected, ev := .colFailover, unit := f }).closeIncident 2 f)

end Sys2Proof.Machine
end

