-- ==== Sys2Proof/Machine/Workload.lean ====
section
/-! DEFINITION. Clocking driven by the arithmetic (R231 to R268): INTENT and pre-stretch, checksum frames, sparing notices, grades. -/

namespace Sys2Proof.Machine

/-! ## INTENT (R237 to R242) -/

/-- A region's inputs reach the Spur that drives its trees: a compute region outside V1, whose compute tree is open, that is neither borrowed nor dark nor in a native window (R242, R252). -/
def State.listens (s : State) (r : Nat) : Bool :=
  let x := s.spur (s.driverSpur r)
  let driven : Bool := match (s.spur r).gates.driver with
    | .own => true
    | .spare => true
    | _ => false
  driven && portKind r == 0 && !x.gates.v1 && !x.gates.comp && !x.str.frozen

/-- The edges of a pre-stretch window, as bits of `preMask` (R240): bit 5 is edge a + 7, six edges after the sampling edge. -/
def preBits (c : Nat) : BitVec 16 := if c = 1 then 0x03E0#16 else if c = 2 then 0x0FE0#16 else if c = 3 then 0x3FE0#16 else 0#16

/-- How many edges it has (R240). -/
def preEdges (c : Nat) : Nat := if c = 0 then 0 else 2 * c + 3

/-- The workload state after an announcement of class `c` from 1 to 3, with SPR_INTCFG.EN and HOLD (R239 to R241): a new window keeps the older one's edges before its own first edge. A hold timer that has run out at this edge leaves A at 0 before the sample. -/
def Wl.announce (x : Wl) (en : Bool) (hold c : Nat) : Wl :=
  let a := if x.holdLeft = 0 then 0 else x.hold
  let opens : Bool := en && decide (a < c)
  { x with
    hold := max a c, holdLeft := hold, heard := true, announced := x.announced + 1
    windows := if opens then x.windows + 1 else x.windows
    ignored := if c ≤ a then x.ignored + 1 else x.ignored
    preMask := if opens then (x.preMask &&& 0x001F#16) ||| preBits c else x.preMask
    preLeft := if opens then preEdges c else x.preLeft }

/-- INTENT_ANNOUNCE (R239): an announcement sampled, at the edge just made, by the Spur that drives the region; class 0 is none, and each cycle carries one at most (R237). INTENT ends the region's idle gap, so CAL_HOLD falls (R363). -/
def execIntentAnnounce (region : Fin 400) (c : Fin 4) (s : State) : Result :=
  let n := s.driverSpur region
  let cfg := s.word (sprAddr n 0x80)
  .next (if c.val = 0 || !s.listens region || (s.spur n).wl.heard then s
    else (s.modSpur n fun x => { x with wl := x.wl.announce (cfg.bit 12) (cfg.bits 9 0) c }).modSpur region fun x =>
      { x with gates := { x.gates with calHold := false } })

/-- HOLD_EXPIRY (R239): at the edge at which the hold timer has run out, the hold class returns to 0. -/
def execHoldExpiry (n : Fin 425) (s : State) : Result :=
  .next (if (s.spur n).wl.holdLeft = 0 then s.modSpur n fun x => { x with wl := { x.wl with hold := 0 } } else s)

/-! ## Checksum mismatches (R247 to R252) -/

/-- CHECKSUM_FRAME (R247, R248): the start bit of a frame of CHK_MISMATCH is sampled, at the edge just made. The window opens or restarts; the bits that follow are sampled at the coming edges, and the mismatch counts at its parity bit (State.sampleFrame). Within a frame the line carries no start bit. -/
def execChecksumFrame (region : Fin 400) (array : Fin 8) (column parity : Bool) (s : State) : Result :=
  let n := s.driverSpur region
  .next (if !s.listens region || (s.spur n).wl.frame.isSome then s
    else s.modSpur n fun x => { x with wl := x.wl.startFrame (frameBits array column parity) })

/-- RATE_WINDOW_END (R251): at the tally mark at which the next rate window begins (R250), the counts of the one that ends are examined and its count restarts. -/
def execRateWindowEnd (n : Fin 425) (s : State) : Result :=
  let m := (s.spur n).gen.tallyMark
  .next (if s.atCycle0 n && m.toNat % rateMarks (s.word (sprAddr n 0xA0)) == 0 && (s.spur n).wl.winAt != m then
      (s.examine n).modSpur n fun x => { x with wl := { x.wl with winCount := 0, winAt := m } }
    else s)

/-- CHK_HOLD_EXPIRY (R250): Summit clears SRC_CHK at a mark, once 2^(HOLD + 10) have passed since the last CHK_RATE. -/
def execChkHoldExpiry (n : Fin 425) (s : State) : Result :=
  .next (if s.atMark && !s.role.silent && (s.spur n).lim.chk.isSome && decide (2 ^ ((s.word (sprAddr n 0xA0)).bits 3 0 + 10) ≤ s.since (s.spur n).wl.lastRate) then
      (s.modSpur n fun x => { x with lim := { x.lim with chk := none } }).baseMoved
    else s)

/-! ## Sparing notices (R244, R245) -/

/-- SPARING_NOTICE (R245): a valid notice sets SRC_SPARE of the Spur that drives the region at its domain's NOMINAL FCODE; another one before it clears changes nothing further. -/
def execSparingNotice (region array kind spare : Nat) (s : State) : Result :=
  .next (if s.role.silent then s
    else if !(region < 400 && portKind region == 0 && array < 8 && kind < 2 && spare < 2) then s.raise .spareNoteBad 0 s.summitIdx []
    else
      let n := s.driverSpur region
      let d := s.fab.dom (s.domOfSpur n)
      let t := { s with role := { s.role with spareLog := some (region, array, kind, spare) } }
      let t := (t.raise .spareChanged 2 n []).wlFlag n 1
      if (s.spur n).lim.spare.isSome then t
      else (t.modSpur n fun x => { x with lim := { x.lim with spare := some (d.fcode d.nominal) } }).baseMoved)

/-! ## Grades (R254 to R256) -/

/-- pT of a band (R255). -/
def gradeT (band : Nat) : Nat := nth [0, 0, 0, 1, 2, 3, 5, 7] band

/-- pP (R254, R255): rho is P_f × (1 + L) × 1,600 over Σ(1 + L) × C × (4 + k). -/
def gradeP (pf level sum cap sprint : Nat) : Nat :=
  let p := pf * (1 + level) * 1600
  let c := sum * cap * (4 + sprint)
  if 4 * p < 3 * c then 0 else if p < c then 1 else if 4 * p < 5 * c then 2 else 3

/-- pD of the highest DROOP_MAX (R255). -/
def gradeD (droop : Nat) : Nat := nth [0, 0, 1, 2] droop

/-- Σ(1 + L_i) over the regions of a field, from their latest grade inputs (R254). -/
def State.levelSum (s : State) (f : Nat) : Nat := ((fieldRegions f).map fun r => 1 + (s.spur r).gates.input / 32).foldl (· + ·) 0

/-- The region takes no kernel (R255): its compute tree is fenced, or it is borrowed; a dark region has no clock at all (R440). -/
def State.noKernel (s : State) (r : Nat) : Bool :=
  s.fenced r || (match (s.spur r).gates.driver with
    | .own => false
    | .spare => false
    | _ => true)

/-- Some source is set in the SPR_LIMIT of the Spur that drives the region (R255). -/
def State.limited (s : State) (r : Nat) : Bool :=
  let l := (s.spur (s.driverSpur r)).lim
  l.debt.isSome || l.spare.isSome || l.cal.isSome || l.chk.isSome

/-- The terms of a region's grade as Summit computes them: pT, pP, pD (R255). -/
def State.gradeTerms (s : State) (r : Nat) : Nat × Nat × Nat :=
  let g := (s.spur r).gates
  (gradeT (g.input % 8), gradeP (s.power (fieldOf r)) (g.input / 32) (s.levelSum (fieldOf r)) (1000000 * s.gov.cap) s.gov.sprint,
    gradeD (g.droopHist.foldl max 0))

/-- The grade of a region (R255). -/
def State.gradeOf (s : State) (r : Nat) : Nat :=
  let p := s.gradeTerms r
  let g := 7 - p.1 - p.2.1 - p.2.2
  if s.noKernel r then 0 else if s.limited r then min g 3 else g

/-- GRADE_COMPUTE (R256): after the last report slot of the mark, every region's grade, sent at ridge tick 0 of the next mark. -/
def execGradeCompute (s : State) : Result :=
  .next (if !s.rdg.started || s.role.silent || decide (s.tick < 250) || s.role.gradeAt == some s.mark then s
    else
      let t := s.mapSpurs fun n x =>
        if n < 400 then
          { x with gates := { x.gates with
            pT := (s.gradeTerms n).1, pP := (s.gradeTerms n).2.1, pD := (s.gradeTerms n).2.2, zero := s.noKernel n, cap3 := s.limited n } }
        else x
      { t with role := { t.role with grades := (List.range 400).map s.gradeOf, gradeAt := some s.mark } })

end Sys2Proof.Machine
end

