-- ==== Sys2Proof/Machine/Readback.lean ====
section
/-! DEFINITION. What a register reads (R12 to R14, R18, R517 to R535): the word that each offset of the register window shows, and the words that a read latches. -/

namespace Sys2Proof.Machine

/-! ## Spurs (R128 to R136, R159 to R165, R260 to R267, R370) -/

/-- SPR_STAT.LOOP (R129). -/
def Loop.code : Loop → Nat
  | .acquire => 0
  | .locked => 1
  | .frozen => 2
  | .failed => 3

/-- The state of a commit entry (R134). -/
def EntryState.code : EntryState → Nat
  | .empty => 0
  | .staged => 1
  | .armed => 2

/-- One field of SPR_LEAD (R162): 0x80 where there is no usable neighbour. -/
def State.leadField (s : State) (m dir : Nat) : Nat :=
  let none' : Bool := s.boot.ready && (match s.regionOf m with | none => true | some r => !s.leadUsable r dir)
  if none' then 0x80 else twos 8 (satInt 127 ((s.spur m).str.leads.get dir))

/-- Ceilings as SPR_CEIL and SPR_GUARD lay them out (R263): classes `c` to `c + 3`. -/
def ceilWord (l : List Nat) (c : Nat) : Word :=
  Word.fld 7 24 (nth l (c + 3)) ||| Word.fld 7 16 (nth l (c + 2)) ||| Word.fld 7 8 (nth l (c + 1)) ||| Word.fld 7 0 (nth l c)

/-- Four signed or unsigned bytes, the first at bit 0. -/
def byteWord (l : List Nat) : Word :=
  Word.fld 8 24 (nth l 3) ||| Word.fld 8 16 (nth l 2) ||| Word.fld 8 8 (nth l 1) ||| Word.fld 8 0 (nth l 0)

/-- A generator, stretching or settings register of Spur `m` as SPR[n] shows it (R128 to R136, R159 to R165). -/
def State.readGen (s : State) (n m o : Nat) : Word :=
  let x := s.spur m
  let g := x.gen
  let e := g.entries.getD ((s.word (sprAddr m 0x28)).bits 2 0) Entry.none
  let w := s.word (sprAddr m o)
  match o with
  | 0x00 => Word.fld 3 4 (s.domOfSpur m) ||| (w &&& 1#32)
  | 0x04 =>
    let borrowed : Bool := match (s.spur n).gates.driver with | .borrow _ => true | _ => false
    Word.fld 7 18 g.fcode ||| Word.fld 4 14 g.step ||| Word.flag 10 (g.reacq && g.loop == .acquire) ||| Word.fld 2 8 g.loop.code |||
      Word.flag 7 g.residHi ||| Word.flag 6 ((s.spur n).gates.driver == .spare) ||| Word.flag 5 borrowed ||| Word.flag 4 x.gates.leaf |||
      Word.flag 3 x.gates.tran ||| Word.flag 2 x.gates.comp
  | 0x08 => w
  | 0x10 => Word.fld 21 11 g.tallyMark.toNat ||| Word.fld 11 0 g.tallyCyc
  | 0x14 => Word.fld 19 0 (g.tallyMark.toNat / 2 ^ 21)
  | 0x18 => Word.fld 16 0 (twos 16 g.loopErr)
  | 0x1C => Word.fld 16 0 (twos 16 g.resid)
  | 0x20 => Word.flag 11 x.lim.chk.isSome ||| Word.flag 10 x.lim.cal.isSome ||| Word.flag 9 x.lim.spare.isSome ||| Word.flag 8 x.lim.debt.isSome ||| Word.fld 7 0 x.lim.limit
  | 0x24 => Word.fld 8 24 g.expired ||| Word.fld 16 0 (g.entries.foldr (fun (y : Entry) a => y.st.code + 4 * a) 0)
  | 0x28 => w
  | 0x2C => Word.fld 16 16 e.seq.toNat ||| Word.fld 4 8 e.step ||| Word.flag 7 e.up ||| Word.fld 7 0 e.fcode
  | 0x30 => Word.fld 32 0 e.target.toNat
  | 0x34 => Word.fld 8 0 (e.target.toNat / 2 ^ 32)
  | 0x40 => w
  | 0x44 => Word.fld 16 0 (entryOf x.cal.trims.codes ((s.word (sprAddr m 0x40)).bits 6 0)).toNat
  | 0x50 =>
    let c := (s.col (m - 400)).spare
    if n < 400 then 0 else Word.flag 11 c.driving ||| Word.flag 10 c.aligned ||| Word.flag 9 c.track ||| Word.fld 9 0 c.target
  | 0x60 => w
  | 0x64 => w
  | 0x68 => Word.flag 17 (x.str.frozen || x.gates.v1) ||| Word.flag 16 x.str.cap2 ||| Word.fld 6 8 x.str.peak ||| Word.fld 6 0 x.str.debt
  | 0x6C => byteWord ((List.range 4).map (s.leadField m))
  | 0x70 => Word.fld 16 16 x.str.followed.toNat ||| Word.fld 16 0 x.str.stretched.toNat
  | 0x74 => Word.fld 16 16 x.str.capped.toNat ||| Word.fld 16 0 x.str.short.toNat
  | 0x78 => w
  | 0x7C => Word.fld 2 12 x.str.droopMax ||| Word.fld 3 8 x.str.mon ||| Word.fld 8 0 (twos 8 x.str.minSlack)
  | _ => 0

/-- A workload register of Spur `m` as SPR[n] shows it (R260 to R267): in a port region every one but the class 0 fields reads its reset value. -/
def State.readWl (s : State) (n m o : Nat) : Word :=
  let x := s.spur m
  let w := s.word (sprAddr m o)
  let port : Bool := decide (n < 400) && portKind n != 0
  let r := if n < 400 then n else (s.regionOf n).getD n
  let g := (s.spur r).gates
  let class0 := fun (v : Word) => if port then (resetWord (sprAddr m o) &&& ~~~ Word.mask 6 0) ||| (v &&& Word.mask 6 0) else v
  let own := fun (v : Word) => if port then resetWord (sprAddr m o) else v
  match o with
  | 0x80 => own w
  | 0x84 => own (Word.fld 16 16 x.wl.ignored.toNat ||| Word.fld 2 6 x.wl.hold ||| Word.flag 5 (x.wl.preLeft != 0) ||| Word.fld 4 0 x.wl.preLeft)
  | 0x88 => own (Word.fld 16 16 x.wl.windows.toNat ||| Word.fld 16 0 x.wl.announced.toNat)
  | 0x8C => own (Word.fld 3 16 x.wl.level ||| Word.fld 13 0 x.wl.act)
  | 0x90 => class0 w
  | 0x94 => own w
  | 0x98 => ceilWord x.cal.guards 0
  | 0x9C => ceilWord x.cal.guards 4
  | 0xA0 => own w
  | 0xA4 => own (Word.fld 16 16 x.wl.chkTotal.toNat ||| Word.fld 4 8 x.wl.winCount ||| Word.flag 7 (x.wl.chkLeft != 0) ||| Word.fld 7 0 x.wl.chkLeft)
  | 0xA8 => own (Word.fld 32 0 (x.wl.arrays.foldr (fun (v a : Nat) => v % 16 + 16 * a) 0))
  | 0xAC => own w
  | 0xB0 => own (Word.fld 3 24 (s.gradeOut r) ||| Word.fld 8 16 g.input ||| Word.fld 3 12 g.pT ||| Word.fld 2 8 g.pP ||| Word.fld 2 4 g.pD ||| Word.flag 1 g.zero ||| Word.flag 0 g.cap3)
  | _ => 0

/-- A calibration register of Spur `n` (R370). -/
def State.readCal (s : State) (n o : Nat) : Word :=
  let c := (s.spur n).cal
  let t := c.trims
  match o with
  | 0xC0 =>
    Word.flag 22 (c.staged.isSome || !c.writes.isEmpty) ||| Word.fld 2 20 (min 3 c.record.rejects) ||| Word.flag 18 c.record.gap ||| Word.flag 17 c.record.traced |||
      Word.flag 16 c.clamped ||| Word.fld 3 12 c.hiBin ||| Word.fld 3 8 c.loBin ||| Word.fld 6 0 (filledBins c.record.bins)
  | 0xC4 => Word.fld 16 16 (twos 16 ((s.sensOver n).getD c.s1)) ||| Word.fld 16 0 (twos 16 ((s.sensOver n).getD c.s0))
  | 0xC8 => Word.fld 8 24 (c.gain / 10) ||| Word.fld 8 16 c.dnl ||| Word.fld 8 8 (twos 8 c.det) ||| Word.fld 8 0 (twos 8 (satInt 127 c.ppm))
  | 0xCC => byteWord (t.offs.map (twos 8))
  | 0xD0 => byteWord t.mon
  | 0xD4 => byteWord (t.mon.drop 4)
  | 0xD8 => Word.fld 8 8 (twos 8 (t.sens.getD 1 0)) ||| Word.fld 8 0 (twos 8 (t.sens.getD 0 0))
  | _ => 0

/-- A register of SPR[n], redirected to the field spare while it serves the region (R425, R443), its shadow readback included (R516). -/
def State.readSpr (s : State) (n o : Nat) : Word :=
  let m := s.homeSpur n o
  if o < 0x80 then s.readGen n m o
  else if o < 0xC0 then s.readWl n m o
  else if o < 0x100 then s.readCal n o
  else
    let q := o - 0x100
    let h := s.homeSpur n q
    if rwsRegs.contains q then
      let v := if q < 0x80 then s.readGen n h q else s.readWl n h q
      let port : Bool := decide (n < 400) && portKind n != 0 && decide (0x80 ≤ q)
      let mask := if port then (if q = 0x90 then 0x7F#32 else 0#32) else rwsMask q
      (v &&& ~~~ mask) ||| (s.shadowed (sprAddr h q) &&& mask)
    else 0

/-! ## Saddles (R222 to R230) -/

/-- BDLY as the register shows and takes it: toward the lower region where the higher one lends, else toward the higher. DESIGN CHOICE, notes/assumptions/29.md. -/
def Saddle.bdly (x : Saddle) : Nat := if x.borrow = 2 then x.bdlyLo else x.bdlyHi

/-- A register of SAD[k]. -/
def State.readSad (s : State) (k o : Nat) : Word :=
  let x := s.sad k
  let seam := sadSeam k
  match o with
  | 0x00 => Word.flag 1 x.holdTrack ||| Word.flag 0 x.disable
  | 0x04 =>
    Word.flag 15 x.usable ||| Word.flag 14 x.failed ||| Word.fld 2 12 x.borrow ||| Word.fld 2 10 (if x.ratio = 4 then 2 else if x.ratio = 2 then 1 else 0) |||
      Word.flag 9 (x.fastHigh && x.ratio != 1) ||| Word.flag 8 seam ||| Word.flag 0 s.cal.cur.isSome
  | 0x08 => Word.fld 12 16 x.peak ||| Word.fld 12 0 (twos 12 x.diff)
  | 0x0C => Word.fld 8 24 (twos 8 (satInt 127 x.rbar)) ||| (if seam then 0 else Word.fld 8 8 x.capHi ||| Word.fld 8 0 x.capLo)
  | 0x10 => Word.fld 8 8 x.dly ||| Word.fld 8 0 (twos 8 (satInt 127 x.residPs))
  | 0x14 => if seam then Word.fld 8 8 x.minInt else 0
  | 0x18 => if seam then 0 else Word.fld 8 24 (twos 8 x.slip) ||| Word.fld 8 8 x.bdly ||| Word.flag 0 x.active
  | 0x1C => s.word (sadAddr k 0x1C)
  | 0x20 => Word.fld 16 16 x.tagErr.toNat ||| Word.fld 16 0 x.dropped.toNat
  | _ => 0

/-! ## Cols (R98, R456 to R458, R478, R494, R535) -/

/-- COL_FAULT.BORROWED (R456): 0x1F for none, from the first mark of service on (R487). -/
def State.borrowedPos (s : State) (f : Nat) : Nat :=
  match (s.col f).borrow with
  | some b => localPos b.region
  | none => if s.boot.ready then 0x1F else 0

/-- A register of COL[f]. -/
def State.readCol (s : State) (f o : Nat) : Word :=
  let c := s.col f
  match o with
  | 0x00 => Word.fld 5 8 f ||| Word.fld 4 0 Config.colRev.toNat
  | 0x10 => Word.fld 8 24 (twos 8 (satInt 127 c.skew)) ||| Word.fld 8 16 c.mismatches ||| Word.flag 3 c.bOk ||| Word.flag 2 c.aOk ||| Word.flag 0 c.sel
  | 0x40 => Word.fld 8 24 (twos 8 c.slip) ||| Word.flag 23 (s.darkIn f != 0) ||| Word.fld 5 17 (s.borrowedPos f) ||| Word.fld 17 0 (s.failedMask f)
  | 0x44 => Word.flag 3 c.sFailed ||| Word.flag 2 c.pFailed ||| Word.flag 0 c.active
  | 0x48 => Word.fld 5 0 c.relPos
  | 0x80 =>
    Word.flag 31 c.avs.failed ||| Word.flag 30 (c.avs.written != 0 && !c.avs.waiting && decide (c.avs.written ≤ c.avs.acked)) |||
      Word.fld 10 16 c.avs.inForce ||| Word.fld 10 0 c.avs.req
  | 0x84 => Word.fld 16 16 (min 0xFFFF (s.railPower f / 1000000)) ||| Word.fld 10 0 c.avs.rail
  | 0xC0 =>
    Word.flag 31 c.recValid ||| Word.flag 28 c.recSummit ||| Word.flag 27 c.recRidge ||| Word.flag 26 c.recDrove ||| Word.fld 8 16 (min 255 c.beaconAge) ||| Word.fld 16 0 c.recCode
  | _ => 0

/-! ## Ridgeline and Lookout (R91 to R97, R410 to R412, R479) -/

/-- RDG_REFSTAT.STATE (R92). -/
def Root.code : Root → Nat
  | .selA => 0
  | .selB => 1
  | .holdover => 2
  | .failed => 3

/-- A register of the RDG_ window: the ridge count is that of the counter in Col 1 that its selected spine clocks (R95). -/
def State.readRdg (s : State) (o : Nat) : Word :=
  let r := s.rdg
  let count := s.counter 1 (s.col 1).sel
  let bits := fun (p : Col → Bool) => Word.fld 25 0 (flagsNat ((List.range 25).map fun f => p (s.col f)))
  match o with
  | 0x00 => s.word 0x18000
  | 0x04 =>
    Word.fld 16 16 (if r.root = .holdover then min 0xFFFF (15625 - s.since r.holdStart) else 0) ||| Word.fld 2 8 r.root.code ||| Word.flag 5 r.lock |||
      Word.flag 4 r.fanHold ||| Word.flag 3 r.b.qual ||| Word.flag 2 r.a.qual ||| Word.flag 1 r.b.present ||| Word.flag 0 r.a.present
  | 0x08 => s.word 0x18008
  | 0x0C => Word.flag 31 r.a.valid ||| Word.fld 18 0 r.a.count
  | 0x10 => Word.flag 31 r.b.valid ||| Word.fld 18 0 r.b.count
  | 0x20 => Word.fld 32 0 count.toNat
  | 0x24 => Word.fld 16 16 r.epoch ||| Word.fld 16 0 (count.toNat / 2 ^ 32)
  | 0x40 => bits Col.aOk
  | 0x44 => bits Col.bOk
  | 0x48 => bits Col.sel
  | 0x50 => s.word 0x18050
  | 0x54 => s.word 0x18054
  | _ => 0

/-- The words of a time of day: fraction, nanoseconds, seconds low and high (R411). -/
def Tod.word (t : Tod) (i : Nat) : Word :=
  match i with
  | 0 => Word.fld 16 0 (t.sub / 2 ^ 16)
  | 1 => Word.fld 30 0 t.ns
  | 2 => Word.fld 32 0 t.secs
  | _ => Word.fld 16 0 (t.secs / 2 ^ 32)

/-- A register of Lookout's own window. -/
def State.readLko (s : State) (o : Nat) : Word :=
  let l := s.lko
  let w := s.word (0x10000 + o)
  match o with
  | 0x00 =>
    Word.flag 7 l.density ||| Word.flag 6 l.bgRef ||| Word.fld 2 4 l.todSrc ||| Word.flag 3 s.todHeld ||| Word.flag 2 l.todSet ||| Word.flag 1 s.slewing ||| Word.flag 0 l.timerLock
  | 0x04 => Word.fld 8 24 l.ppsSkip.toNat ||| Word.fld 8 16 l.densAbort.toNat ||| Word.fld 16 0 l.refSkip.toNat
  | 0x08 => match l.loErr with | none => 0 | some v => Word.flag 31 true ||| Word.fld 24 0 (twos 24 v)
  | 0x10 => w
  | 0x14 => w
  | 0x18 => w
  | 0x1C => w
  | 0x20 => w
  | 0x24 => w
  | 0x28 => w
  | 0x2C => Word.fld 32 0 (twos 32 l.slewLeft)
  | 0x30 => l.snap.word 0
  | 0x34 => l.snap.word 1
  | 0x38 => l.snap.word 2
  | 0x3C => l.snap.word 3
  | 0x40 => Word.fld 32 0 l.snapMark.toNat
  | 0x44 => Word.fld 8 0 (l.snapMark.toNat / 2 ^ 32)
  | 0x50 => w
  | 0x54 => l.pps.word 0
  | 0x58 => l.pps.word 1
  | 0x5C => l.pps.word 2
  | 0x60 => Word.fld 16 16 l.ppsCount.toNat ||| l.pps.word 3
  | 0x100 =>
    Word.flag 31 (l.trips.getD 2 false) ||| Word.flag 30 (l.trips.getD 1 false) ||| Word.flag 29 (l.trips.getD 0 false) |||
      Word.fld 8 16 (nth l.tripLevels 2) ||| Word.fld 8 8 (nth l.tripLevels 1) ||| Word.fld 8 0 (nth l.tripLevels 0)
  | 0x104 => Word.flag 1 l.sup1 ||| Word.flag 0 l.sup0
  | 0x108 => w
  | _ => 0

/-- LKO_CHc_STAT.OWNER (R412). -/
def Owner.code : Owner → Nat
  | .none => 0
  | .register => 1
  | .descriptor _ => 2
  | .claimed => 3

/-- A register of a channel's window (R412). -/
def State.readChan (s : State) (c o : Nat) : Word :=
  let x := s.chan c
  match o with
  | 0x00 => s.word (chanAddr c 0)
  | 0x04 => s.word (chanAddr c 4)
  | 0x08 => s.word (chanAddr c 8)
  | 0x10 =>
    Word.fld 16 16 (min 0xFFFF x.edges) ||| Word.flag 8 x.freq ||| Word.fld 2 6 x.owner.code ||| Word.flag 5 x.done ||| Word.fld 3 2 x.reason |||
      Word.flag 1 x.calOk ||| Word.flag 0 x.armed
  | 0x14 => Word.fld 16 16 (twos 16 x.offset) ||| Word.fld 16 0 x.scale
  | 0x18 => Word.fld 32 0 x.lastTs.toNat
  | 0x1C => Word.fld 32 0 (x.lastTs.toNat / 2 ^ 32)
  | _ => if 0x20 ≤ o ∧ o < 0x60 ∧ o % 4 = 0 then Word.fld 32 0 (field x.res (o - 0x20) 4) else 0

/-! ## Summit (R59, R191 to R196, R268, R311, R335 to R339, R455, R477, R493) -/

/-- A word of a domain's window at 0x400 + 0x40 d (R192 to R196). -/
def State.readDom (s : State) (d o : Nat) : Word :=
  let x := s.fab.dom d
  if o < 0x20 then Word.fld 7 16 (x.fcode (o / 4 * 2 + 1)) ||| Word.fld 7 0 (x.fcode (o / 4 * 2))
  else match o with
  | 0x20 => Word.fld 4 8 x.safe ||| Word.fld 4 0 x.nominal
  | 0x24 => Word.fld 2 28 x.k ||| Word.fld 4 24 x.req ||| Word.fld 4 20 x.step ||| Word.fld 3 16 x.fmt ||| Word.fld 7 8 (s.fab.fcodeOf d) ||| Word.fld 4 4 (nth s.role.bind d)
  | 0x28 => Word.fld 7 24 (s.limitOf s.fab d) ||| Word.fld 7 16 (s.grantOf s.fab d) ||| Word.fld 7 8 (s.ceilOf s.fab d)
  | 0x2C => Word.fld 25 0 (flagsNat ((List.range 25).map fun f => s.fab.domOf f == d))
  | _ => 0

/-- The sets that hold commit entries, earliest target first decides DEFERS (R191). -/
def State.firstDefers (s : State) : Nat :=
  match s.plan.sets.filter fun c => c.staged || c.armed with
  | [] => 0
  | c :: cs => (cs.foldl (fun (m x : CommitSet) => if notAfter m.target x.target then m else x) c).defers

/-- SUM_PLANSTAT.STALL (R315, R335). -/
def State.stallCode (s : State) : Nat :=
  if s.plan.wait.isSome then 1
  else if s.plan.head.any fun e => !s.roomFor e then 2
  else if 64 ≤ s.hri.held then 3
  else if s.hri.stopped || s.hri.disabling then 4
  else 0

/-- SUM_GRPk_A.STATE (R337). -/
def GroupState.code : GroupState → Nat
  | .free => 0
  | .opened => 1
  | .closed => 2
  | .applies => 3
  | .loses => 4
  | .late => 5

/-- SUM_GRPk_A and SUM_GRPk_B (R337). -/
def State.groupWord (s : State) (k : Nat) (b : Bool) : Word :=
  let g := s.plan.group k
  if b then
    Word.fld 8 24 (if g.unresolved && Mark.ahead (s.deadline k) s.mark then min 255 (Mark.dist (s.deadline k) s.mark) else 0) ||| Word.fld 15 0 g.obj
  else Word.fld 3 29 g.st.code ||| Word.fld 6 21 g.members ||| Word.fld 16 0 g.num

/-- SUM_WAITLEFT.LEFT (R319, R338). -/
def State.waitLeft (s : State) : Nat :=
  match s.plan.wait with
  | none => 0
  | some w => if notAfter w.since s.mark then w.timeout - (s.mark - w.since).toNat else w.timeout

/-- A register of Summit's window; the shadow readbacks of the ladders lie at 0xA00 (R516). -/
def State.readSum (s : State) (o : Nat) : Word :=
  if 0x400 ≤ o ∧ o < 0x600 then s.readDom ((o - 0x400) / 0x40) (o % 0x40)
  else if 0xA00 ≤ o ∧ o < 0xBE4 then
    (if (o - 0xA00) % 0x40 ≤ 0x20 then (s.shadows.find (o - 0x600)).getD (s.readDom ((o - 0xA00) / 0x40) (o % 0x40)) else 0)
  else if 0x610 ≤ o ∧ o < 0x630 then s.groupWord ((o - 0x610) / 8) ((o - 0x610) % 8 == 4)
  else match o with
  | 0x100 =>
    Word.flag 31 s.role.swap ||| Word.fld 8 16 s.role.takeovers ||| Word.fld 4 4 s.mirrorAge ||| Word.flag 1 s.mirrorOk ||| Word.flag 0 s.role.active
  | 0x200 => Word.fld 10 16 s.fab.base ||| Word.fld 4 8 s.heldSets ||| Word.fld 5 0 s.firstDefers
  | 0x300 => s.word 0x300
  | 0x310 =>
    match s.role.spareLog with
    | none => 0
    | some p => Word.flag 31 true ||| Word.fld 9 16 p.1 ||| Word.fld 3 8 p.2.1 ||| Word.fld 1 4 p.2.2.1 ||| Word.fld 1 0 p.2.2.2
  | 0x600 => s.word 0x600
  | 0x604 =>
    Word.fld 8 24 s.plan.buf.length ||| Word.fld 8 16 (s.plan.sets.filter fun c => !(c.staged || c.armed || c.applied || c.isNull)).length |||
      Word.fld 3 8 s.stallCode ||| Word.fld 3 0 (s.plan.groups.filter fun g => g.st != .free).length
  | 0x608 => Word.fld 31 0 s.plan.nextSeq
  | 0x630 => match s.plan.wait with | none => 0 | some w => Word.flag 31 true ||| Word.fld 15 0 w.obj
  | 0x634 => Word.fld 25 0 s.waitLeft
  | 0x638 => match s.plan.resume with | none => 0 | some q => Word.flag 31 true ||| Word.fld 31 0 q
  | 0x63C => Word.fld 8 8 s.plan.resApplied ||| Word.fld 8 0 s.plan.resCount
  | 0x700 => Word.fld 8 16 (flagsNat (s.faults.opened.map Option.isSome)) ||| Word.fld 6 0 s.faults.queue.length
  | 0x704 => Word.flag 31 s.faults.fatal ||| Word.fld 16 0 s.faults.code
  | 0x800 => Word.fld 7 8 s.gov.g ||| Word.fld 2 4 s.gov.reason ||| Word.fld 4 0 s.gov.hold
  | 0x804 => Word.fld 16 16 s.gov.pw ||| Word.fld 16 0 s.gov.p16
  | 0x808 => Word.fld 16 16 s.gov.cap ||| Word.fld 8 8 s.gov.tcap ||| Word.fld 2 0 s.gov.sprint
  | 0x810 => Word.fld 4 8 s.boot.wake ||| Word.fld 2 4 s.boot.state ||| Word.fld 2 0 s.boot.req
  | 0x900 => Word.flag 31 s.boot.ready ||| Word.fld 3 24 s.boot.kind ||| Word.fld 3 16 s.boot.stage ||| Word.fld 7 0 s.boot.smark
  | 0x904 => s.boot.us
  | 0x908 => Word.fld 2 1 s.role.rstResult
  | _ => 0

/-! ## Engines (R368, R369, R389, R431 to R433, R510, R511) -/

/-- CAL_STAT.STATE (R368). -/
def State.calCode (s : State) : Nat :=
  if s.cal.cur.isSome then 2 else if (s.cal.next.toList ++ s.cal.extras).any Window.fixed then 1
  else if (List.range 400).any fun r => (s.spur r).gates.calHold then 3 else 0

/-- The window that CAL_NEXT shows: the earliest one not yet begun (R369). -/
def State.nextWindow (s : State) : Option Window :=
  match s.cal.next.toList ++ s.cal.extras with
  | [] => none
  | w :: ws => some (ws.foldl (fun (a b : Window) => if notAfter a.w b.w then a else b) w)

/-- A register of the CAL_ window. -/
def State.readCalEng (s : State) (o : Nat) : Word :=
  let c := s.cal
  match o with
  | 0x00 => s.word 0xA0000
  | 0x04 => s.word 0xA0004
  | 0x08 => s.word 0xA0008
  | 0x0C => Word.fld 16 16 c.windows.toNat ||| Word.fld 8 8 c.gapAborts.toNat ||| Word.flag 5 s.calrefOk ||| Word.flag 4 c.traced ||| Word.fld 2 0 s.calCode
  | 0x10 => match s.nextWindow with | none => 0 | some w => Word.fld 32 0 w.w.toNat
  | 0x14 => match s.nextWindow with | none => 0 | some w => Word.flag 31 w.fixed ||| Word.fld 8 16 w.n ||| Word.fld 8 0 (w.w.toNat / 2 ^ 32)
  | 0x18 => match c.refErr with | none => 0 | some v => Word.flag 31 true ||| Word.flag 30 c.inBand ||| Word.fld 24 0 (twos 24 v)
  | 0x1C => Word.fld 9 16 (s.spurs.toList.filter fun x => x.lim.cal.isSome).length ||| Word.fld 16 0 c.rejects.toNat
  | _ => 0

/-- A register of the CRN_ window. -/
def State.readCrn (s : State) (o : Nat) : Word :=
  let c := s.crn
  match o with
  | 0x04 => s.word 0xA0804
  | 0x08 => Word.fld 16 16 c.saves.toNat ||| Word.fld 8 8 c.fails ||| Word.flag 3 (c.pending || c.saveF) ||| Word.flag 2 c.saving ||| Word.fld 2 0 c.bank
  | 0x0C => Word.fld 32 0 c.seq
  | 0x10 => Word.fld 4 8 (nth c.bootres 2) ||| Word.fld 4 4 (nth c.bootres 1) ||| Word.fld 4 0 (nth c.bootres 0)
  | 0x14 => Word.fld 32 0 c.a.erase
  | 0x18 => Word.fld 32 0 c.b.erase
  | _ => 0

/-- A register of the BST_ window. -/
def State.readBst (s : State) (o : Nat) : Word :=
  let b := s.bist
  match o with
  | 0x04 => s.word 0xB0004
  | 0x08 => s.word 0xB0008
  | 0x0C => s.word 0xB000C
  | 0x10 => s.word 0xB0010
  | 0x20 =>
    Word.fld 2 30 b.kind ||| Word.fld 9 21 b.unit ||| Word.fld 1 20 b.copy ||| Word.fld 7 13 b.fcap ||| Word.fld 3 5 b.result ||| Word.flag 4 b.done ||| Word.fld 3 0 b.phase
  | 0x24 => Word.fld 21 0 (if b.phase = 3 then s.patternsNow else b.patterns)
  | 0x28 => Word.fld 32 0 b.misr.toNat
  | 0x2C => Word.fld 32 0 (b.misr.toNat / 2 ^ 32)
  | 0x30 => Word.fld 32 0 b.exp.toNat
  | 0x34 => Word.fld 32 0 (b.exp.toNat / 2 ^ 32)
  | 0x38 => b.hash
  | 0x3C => Word.fld 3 0 b.src
  | 0x140 => Word.fld 25 0 b.porP
  | 0x144 => Word.fld 25 0 b.porS
  | 0x148 => b.porStat
  | _ =>
    if 0x100 ≤ o ∧ o < 0x138 ∧ o % 4 = 0 then Word.fld 32 0 (flagsNat ((List.range 32).map fun j => b.porFail.contains (8 * (o - 0x100) + j))) else 0

/-- A register of the PRT_ window. -/
def State.readPrt (s : State) (o : Nat) : Word :=
  let l := s.lcs
  let c := if l.ustat = 0 then 0 else l.chal.toNat
  match o with
  | 0x00 => Word.fld 2 8 l.fails ||| Word.flag 7 l.lockout ||| Word.fld 3 0 (lcsCode l.st)
  | 0x04 => Word.fld 2 4 l.ustat
  | 0x08 => Word.fld 32 0 c
  | 0x0C => Word.fld 32 0 (c / 2 ^ 32)
  | 0x48 => Word.fld 7 0 s.perturbs
  | _ => if o = 0x20 ∨ o = 0x24 ∨ o = 0x28 ∨ o = 0x2C ∨ o = 0x30 ∨ o = 0x40 ∨ o = 0x44 then s.word (0xC0000 + o) else 0

/-! ## Host ring interface (R307 to R310, R528 to R534) -/

/-- A register of the HRI_ window. -/
def State.readHri (s : State) (o : Nat) : Word :=
  let h := s.hri
  match o with
  | 0x00 => Word.flag 0 s.ringsOn
  | 0x04 =>
    Word.fld 7 16 h.held ||| Word.fld 2 4 h.bdt ||| Word.flag 2 h.stopped ||| Word.flag 1 h.idle ||| Word.flag 0 (s.ringsOn && !h.stopped)
  | 0x08 => Word.fld 4 24 2 ||| Word.fld 4 16 s.agreedNow ||| Word.fld 4 0 (s.word 0xD0008).toNat
  | 0x0C => 0
  | _ => if o < 0x54 ∧ o % 4 = 0 ∧ o ≠ 0x1C then s.word (0xD0000 + o) else 0

/-- VGL_LAST as the last recorded event gives it (R532). -/
def State.lastWord (s : State) (f : EventRec → Word) : Word :=
  match s.evs.last with
  | none => 0
  | some e => f e

/-- A register of the VGL_ window. -/
def State.readVgl (s : State) (o : Nat) : Word :=
  match o with
  | 0x00 => 0x564F0002#32
  | 0x04 => 0x22000202#32 ||| Word.fld 8 16 Config.stepping.toNat
  | 0x08 => 0xBE353986#32
  | 0x10 => Word.flag 31 s.fatalActive ||| Word.fld 2 12 s.lastSev ||| s.evs.bits
  | 0x14 => s.evs.groups
  | 0x20 => s.evs.counts.getD 0 0
  | 0x24 => s.evs.counts.getD 1 0
  | 0x28 => s.evs.counts.getD 2 0
  | 0x2C => s.evs.counts.getD 3 0
  | 0x30 => s.lastWord lastA
  | 0x34 => s.lastWord lastB
  | 0x38 => s.lastWord lastTlo
  | 0x3C => s.lastWord lastThi
  | 0x40 => Word.flag 31 s.fatalActive ||| Word.flag 20 s.role.nopath ||| Word.fld 2 18 s.faults.src ||| Word.fld 16 0 s.faults.vglCode
  | 0x44 => Word.flag 31 (s.faults.prior != 0) ||| Word.fld 25 0 s.faults.prior
  | _ => 0

/-! ## The whole window -/

/-- The present value of the register at an offset, before latching; 0 where no register lies (R13). -/
def State.now (s : State) (a : Nat) : Word :=
  match winOf a with
  | .sum o => s.readSum o
  | .lko o => s.readLko o
  | .chan c o => s.readChan c o
  | .rdg o => s.readRdg o
  | .col f o => s.readCol f o
  | .spr n o => s.readSpr n o
  | .sad k o => s.readSad k o
  | .cal o => s.readCalEng o
  | .crn o => s.readCrn o
  | .bst o => s.readBst o
  | .prt o => s.readPrt o
  | .hri o => s.readHri o
  | .vgl o => s.readVgl o
  | .none => 0

/-- The low words of quantities wider than 32 bits (R14). -/
def isLowWord (a : Nat) : Bool :=
  match winOf a with
  | .rdg o => o == 0x20
  | .spr _ o => o == 0x10 || o == 0x30
  | .chan _ o => o == 0x18
  | .lko o => o == 0x1C
  | .cal o => o == 0x10
  | .bst o => o == 0x08 || o == 0x28 || o == 0x30
  | .prt o => o == 0x08
  | .hri o => o == 0x20 || o == 0x28 || o == 0x30 || o == 0x38 || o == 0x40
  | _ => false

/-- The words that are read as latched (R14, R405, R532): high words, the words of a snapshot after its fraction, and VGL_LAST after its first. -/
def isLatched (a : Nat) : Bool :=
  (decide (4 ≤ a) && isLowWord (a - 4)) ||
    (match winOf a with
     | .lko o => (0x34 ≤ o && o < 0x48) || (0x58 ≤ o && o < 0x64)
     | .vgl o => 0x34 ≤ o && o < 0x40
     | _ => false)

/-- The windows that answer a read (R483, R514): from the end of stage 2 until READY only VGL_ID, SUM_BOOT and SUM_BOOTTIME. -/
def State.readable (s : State) (a : Nat) : Bool :=
  if s.boot.ready then s.answers a else decide (3 ≤ s.boot.stage) && (a == 0xF0000 || a == 0x900 || a == 0x904)

/-- What an aligned 32-bit read of an offset returns (R12 to R14). -/
def State.read (s : State) (a : Nat) : Word :=
  if a % 4 ≠ 0 || !s.readable a then 0 else if isLatched a then (s.latches.find a).getD 0 else s.now a

/-- What a read of a width, in bytes, returns (R12): 0 unless it is an aligned 32-bit read. -/
def State.readAs (s : State) (a width : Nat) : Word := if width = 4 then s.read a else 0

/-- A word latched. -/
def State.latch (s : State) (a : Nat) : State := { s with latches := s.latches.insert a (s.now a) }

/-- WIDE_LOW_WORD_READ (R12, R14): an aligned 32-bit read of the low word latches the high word; a read of another width returns 0 and latches nothing. -/
def execWideLowWordRead (load : Load) (s : State) : Result :=
  .next (if load.width == 4 && isLowWord load.addr && load.addr % 4 == 0 && s.readable load.addr then s.latch (load.addr + 4) else s)

/-- SNAPSHOT_FRAC_READ (R405): the other words of the snapshot, or of the PPS_IN capture, are latched. -/
def execSnapshotFracRead (load : FracLoad) (s : State) : Result :=
  .next (if load.width != 4 || !s.readable 0x10030 then s
    else if load.pps then s.each [0x10058, 0x1005C, 0x10060] State.latch
    else s.each [0x10034, 0x10038, 0x1003C, 0x10040, 0x10044] State.latch)

/-- LAST_EVENT_READ (R532): VGL_LAST_B, VGL_LAST_TLO and VGL_LAST_THI are latched. The command is the aligned 32-bit read of VGL_LAST_A; one of another width returns 0 and latches nothing (R12, State.readAs). -/
def execLastEventRead (s : State) : Result :=
  .next (if !s.readable 0xF0030 then s else s.each [0xF0034, 0xF0038, 0xF003C] State.latch)

end Sys2Proof.Machine
end

