-- ==== Sys2Proof/Machine/Registers.lean ====
section
/-! DEFINITION. REGISTER_WRITE (R12 to R18): a write to a register whose fields have no command of their own. -/

namespace Sys2Proof.Machine

/-- The fields of a write that take effect, by what each access code asks (R15, R16). -/
def State.okFields (s : State) (w : Win) (v : Word) (gs : List Fld) : List Fld :=
  gs.filter fun g => (g.check s.locked (s.quiet w) v).isNone

/-- The events of a write (R15, R16). -/
def State.tellWrite (s : State) (a : Nat) (v : Word) (gs : List Fld) : State :=
  s.tellFields a v (gs.map fun g => g.check s.locked (s.quiet (winOf a)) v)

/-- A write to a register whose fields are held as one word. -/
def State.writeWord (s : State) (a : Nat) (v : Word) : State :=
  let gs := fieldsOf (winOf a) v
  let ok := s.okFields (winOf a) v gs
  let t := s.tellWrite a v gs
  t.setWord a (putFields (fun _ => true) (s.clearing a v) (ok.filter fun g => g.acc == .w1c) (putFields (fun _ => true) v (ok.filter fun g => g.acc != .w1c) (s.word a)))

/-- A write to SUM_DOM_LADDERk or SUM_DOM_NAMED (R16, R191 to R193): to the shadow, in force at the domain's next commit. -/
def State.writeDom (s : State) (o : Nat) (v : Word) : State :=
  let gs := fieldsOf (.sum o) v
  let ok := s.okFields (.sum o) v gs
  (s.tellWrite o v gs).when (!ok.isEmpty) fun t => t.setShadow o (putFields (fun _ => true) v ok ((s.shadows.find o).getD (s.now o)))

/-- A write to a Saddle's register (R222, R226, R228, R229, R361): the trims stage for the second mark after. -/
def State.writeSad (s : State) (k o : Nat) (v : Word) : State :=
  let a := sadAddr k o
  let gs := fieldsOf (.sad k o) v
  let t := s.tellWrite a v gs
  if (s.okFields (.sad k o) v gs).isEmpty then t
  else if o = 0 then t.modSad k fun x => { x with holdTrack := v.bit 1 }
  else if o = 0x1C then t.setWord a (s.word a &&& ~~~ s.clearing a v)
  else t.modSad k fun x =>
    { x with writes := x.writes ++ [(s.mark + 2, if o = 0x10 then 0 else if x.borrow = 2 then 2 else 1, v.bits 15 8)] }

/-- A write to a Col's register (R458, R535): POS, and VALID with the record it clears. -/
def State.writeCol (s : State) (f o : Nat) (v : Word) : State :=
  let gs := fieldsOf (.col f o) v
  let t := s.tellWrite (colAddr f o) v gs
  if (s.okFields (.col f o) v gs).isEmpty then t
  else if o = 0x48 then t.modCol f fun c => { c with relPos := v.bits 4 0 }
  else if (s.clearing (colAddr f o) v).bit 31 then t.modCol f fun c => { c with recValid := false, recSummit := false, recRidge := false, recDrove := false, recCode := 0 }
  else t

/-- A write to CAL_CTRL (R368): NATIVE_EN is only cleared here; NATIVE_ENABLE sets it again (R342). -/
def State.writeCalCtrl (s : State) (v : Word) : State :=
  if s.locked then s.cfgEvent .cfgLocked 0xA0000 v else s.setField 0xA0000 2 0 (v &&& (6#32 ||| s.word 0xA0000)).toNat

/-- A write to BST_SEED (R431): a seed of 0 is undefined, so a write that would leave both halves 0 leaves the field as it is. -/
def State.writeSeed (s : State) (a : Nat) (v : Word) : State :=
  if !s.testRuns && v == 0 && s.word (if a = 0xB0008 then 0xB000C else 0xB0008) == 0 then s.cfgEvent .cfgRange a v else s.writeWord a v

/-- A write to VGL_EVSUM or VGL_EVGRP (R531). -/
def State.writeVgl (s : State) (o : Nat) (v : Word) : State :=
  if o = 0x10 then ({ s with evs := { s.evs with bits := s.evs.bits &&& ~~~ s.clearing 0xF0010 v } }).setField 0xF0010 13 12 (v.bits 13 12)
  else if o = 0x14 then { s with evs := { s.evs with groups := s.evs.groups &&& ~~~ s.clearing 0xF0014 v } }
  else s

/-- SUM_PSTATE.REQ of 3 is undefined (R477); 0, 1 and 2 have commands of their own. -/
def State.writePstate (s : State) (v : Word) : State := if v.bits 1 0 = 3 then s.cfgEvent .cfgRange 0x810 v else s

/-- A write that the block carries out at an offset of the window (R12 to R18). Fields with a command of their own are that command's. -/
def State.writeAt (s : State) (a : Nat) (v : Word) : State :=
  match winOf a with
  | .sum o => if 0x400 ≤ o ∧ o < 0x600 then s.writeDom o v else if o = 0x810 then s.writePstate v else s.writeWord a v
  | .spr n o => if o = 0x90 ∨ o = 0x94 then s else s.writeSpr n o v
  | .sad k o => s.writeSad k o v
  | .col f o => s.writeCol f o v
  | .cal o => if o = 0 then s.writeCalCtrl v else s.writeWord a v
  | .bst o => if o = 0x08 ∨ o = 0x0C then s.writeSeed a v else s.writeWord a v
  | .vgl o => s.writeVgl o v
  | .none => s
  | _ => s.writeWord a v

/-- A register of a Col, a Spur or a Saddle: Summit reaches it over the command lane (R41, R43). -/
def onLane (a : Nat) : Bool :=
  match winOf a with
  | .col _ _ => true
  | .spr _ _ => true
  | .sad _ _ => true
  | _ => false

/-- A write to an offset of the window; one for a Col, a Spur or a Saddle goes out on the command lane (R41). -/
def State.write (s : State) (a : Nat) (v : Word) : State := (s.when (onLane a) fun t => t.sendLane (.register a v)).writeAt a v

/-- A write through the register window after one through IEEE 1687 to the same register in the same control cycle: the block applies the window write first, so the other stands (R506). -/
def State.writeUnder (s : State) (a : Nat) (v : Word) : State :=
  match s.cyc.tap.find a with
  | none => s.write a v
  | some u =>
    let t := s.write a v
    { t.writeAt a u with raised := t.raised, faults := t.faults }

/-- REGISTER_WRITE (R12, R16, R17, R506): only a naturally aligned 32-bit write to a window that answers takes effect. `how.tap` tells a write through IEEE 1687, which obeys the access codes like any other and reaches only what an open segment holds (R504 to R506). `how.same` tells that the write falls in the control cycle of what has come since the last ridge tick or the last write without it. DESIGN CHOICE, notes/assumptions/68.md. -/
def execRegisterWrite (addr : Nat) (value : Word) (how : WritePath) (s : State) : Result :=
  let s := if how.same then s else { s with cyc := ⟨[], []⟩ }
  .next (if how.width ≠ 4 || addr % 4 ≠ 0 || !s.answers addr then s
    else if how.tap then
      (if s.tapReaches addr then ({ s with cyc := { s.cyc with tap := s.cyc.tap.insert addr value } }).write addr value else s)
    else s.writeUnder addr value)

end Sys2Proof.Machine
end

