-- ==== Sys2Proof/Machine/Dispatch.lean ====
section
/-! DEFINITION. What each command does: one arm for each constructor of Instr, each a call of that command's meaning. -/

namespace Sys2Proof.Machine

/-- The effect of a command on everything but the queue of waiting commands. -/
def exec (i : Instr) (s : State) : Host.Outcome State Fault Refusal :=
  match i with
  | .registerWrite addr value how => Sys2Proof.Machine.execRegisterWrite addr value how s
  | .wideLowWordRead load => Sys2Proof.Machine.execWideLowWordRead load s
  | .snapshotFracRead load => Sys2Proof.Machine.execSnapshotFracRead load s
  | .lastEventRead => Sys2Proof.Machine.execLastEventRead s
  | .markBeacon => Sys2Proof.Machine.execMarkBeacon s
  | .beaconArrival f m sender driftA driftB skew => Sys2Proof.Machine.execBeaconArrival f m sender driftA driftB skew s
  | .ridgeCounterReload f => Sys2Proof.Machine.execRidgeCounterReload f s
  | .ridgeCountWrap => Sys2Proof.Machine.execRidgeCountWrap s
  | .commandReceive f a b => Sys2Proof.Machine.execCommandReceive f a b s
  | .fieldReport f => Sys2Proof.Machine.execFieldReport f s
  | .mirrorRecord => Sys2Proof.Machine.execMirrorRecord s
  | .mirrorLate => Sys2Proof.Machine.execMirrorLate s
  | .selfCheckFailure => Sys2Proof.Machine.execSelfCheckFailure s
  | .summitTakeover => Sys2Proof.Machine.execSummitTakeover s
  | .swap => Sys2Proof.Machine.execSwap s
  | .standbyLost selfCheck => Sys2Proof.Machine.execStandbyLost selfCheck s
  | .summitLost f => Sys2Proof.Machine.execSummitLost f s
  | .colFailover f => Sys2Proof.Machine.execColFailover f s
  | .refEdgeLoss b => Sys2Proof.Machine.execRefEdgeLoss b s
  | .freqGate b count => Sys2Proof.Machine.execFreqGate b count s
  | .safeCapLift => Sys2Proof.Machine.execSafeCapLift s
  | .holdoverExpired => Sys2Proof.Machine.execHoldoverExpired s
  | .rootUnlock => Sys2Proof.Machine.execRootUnlock s
  | .revertSwitch => Sys2Proof.Machine.execRevertSwitch s
  | .refSwitchRequest => Sys2Proof.Machine.execRefSwitchRequest s
  | .requestedSwitch => Sys2Proof.Machine.execRequestedSwitch s
  | .spineFault f b cause => Sys2Proof.Machine.execSpineFault f b cause s
  | .spineSwitch f => Sys2Proof.Machine.execSpineSwitch f s
  | .spineRecover f b => Sys2Proof.Machine.execSpineRecover f b s
  | .spineRequest f => Sys2Proof.Machine.execSpineRequest f s
  | .loopCompare n e ppm => Sys2Proof.Machine.execLoopCompare n e ppm s
  | .acqTimeout n => Sys2Proof.Machine.execAcqTimeout n s
  | .spurEdge n slacks => Sys2Proof.Machine.execSpurEdge n slacks s
  | .noticeDelivery sd toHigher flip => Sys2Proof.Machine.execNoticeDelivery sd toHigher flip s
  | .droopCrossing n q rail => Sys2Proof.Machine.execDroopCrossing n q rail s
  | .tallyMark n => Sys2Proof.Machine.execTallyMark n s
  | .commit n => Sys2Proof.Machine.execCommit n s
  | .stage d c => Sys2Proof.Machine.execStage d c s
  | .arm d seq => Sys2Proof.Machine.execArm d seq s
  | .cancel d seq => Sys2Proof.Machine.execCancel d seq s
  | .discard => Sys2Proof.Machine.execDiscard s
  | .discardGroup g => Sys2Proof.Machine.execDiscardGroup g s
  | .stageSet => Sys2Proof.Machine.execStageSet s
  | .lastReevaluation => Sys2Proof.Machine.execLastReevaluation s
  | .armDecision => Sys2Proof.Machine.execArmDecision s
  | .armRefusedAll => Sys2Proof.Machine.execArmRefusedAll s
  | .setAppliedReport => Sys2Proof.Machine.execSetAppliedReport s
  | .bulkWord sd toHigher k rc data => Sys2Proof.Machine.execBulkWord sd toHigher k rc data s
  | .saddleMeasure sd m number interval => Sys2Proof.Machine.execSaddleMeasure sd m number interval s
  | .saddleDisable sd v => Sys2Proof.Machine.execSaddleDisable sd v s
  | .spareTrack f region => Sys2Proof.Machine.execSpareTrack f region s
  | .spareAligned f => Sys2Proof.Machine.execSpareAligned f s
  | .spareHandover f => Sys2Proof.Machine.execSpareHandover f s
  | .spareForced f region => Sys2Proof.Machine.execSpareForced f region s
  | .spurFailed n => Sys2Proof.Machine.execSpurFailed n s
  | .faultFence region => Sys2Proof.Machine.execFaultFence region s
  | .borrowQuietMark f => Sys2Proof.Machine.execBorrowQuietMark f s
  | .borrowStart f region => Sys2Proof.Machine.execBorrowStart f region s
  | .borrowRelease f => Sys2Proof.Machine.execBorrowRelease f s
  | .intentAnnounce region c => Sys2Proof.Machine.execIntentAnnounce region c s
  | .holdExpiry n => Sys2Proof.Machine.execHoldExpiry n s
  | .checksumFrame region array column parity => Sys2Proof.Machine.execChecksumFrame region array column parity s
  | .rateWindowEnd n => Sys2Proof.Machine.execRateWindowEnd n s
  | .chkHoldExpiry n => Sys2Proof.Machine.execChkHoldExpiry n s
  | .sparingNotice region array kind spare => Sys2Proof.Machine.execSparingNotice region array kind spare s
  | .gradeCompute => Sys2Proof.Machine.execGradeCompute s
  | .ceilingWrite n hi value => Sys2Proof.Machine.execCeilingWrite n hi value s
  | .nudge => Sys2Proof.Machine.execNudge s
  | .poll => Sys2Proof.Machine.execPoll s
  | .controlBlockRead prod cmplCons evtCons => Sys2Proof.Machine.execControlBlockRead prod cmplCons evtCons s
  | .descriptorFetch bytes => Sys2Proof.Machine.execDescriptorFetch bytes s
  | .hostReadErr addr errorCompletion => Sys2Proof.Machine.execHostReadErr addr errorCompletion s
  | .completionWrite => Sys2Proof.Machine.execCompletionWrite s
  | .eventRecord => Sys2Proof.Machine.execEventRecord s
  | .ringEnable => Sys2Proof.Machine.execRingEnable s
  | .ringDisable => Sys2Proof.Machine.execRingDisable s
  | .ringDisableDone => Sys2Proof.Machine.execRingDisableDone s
  | .bdtLoad => Sys2Proof.Machine.execBdtLoad s
  | .bdtReadDone bytes => Sys2Proof.Machine.execBdtReadDone bytes s
  | .setStep => Sys2Proof.Machine.execSetStep s
  | .setLadder => Sys2Proof.Machine.execSetLadder s
  | .formatPhase => Sys2Proof.Machine.execFormatPhase s
  | .waitSync => Sys2Proof.Machine.execWaitSync s
  | .condBegin => Sys2Proof.Machine.execCondBegin s
  | .condEnd => Sys2Proof.Machine.execCondEnd s
  | .budget => Sys2Proof.Machine.execBudget s
  | .calWindow => Sys2Proof.Machine.execCalWindow s
  | .measure => Sys2Proof.Machine.execMeasure s
  | .fence => Sys2Proof.Machine.execFence s
  | .unfence => Sys2Proof.Machine.execUnfence s
  | .domainMap => Sys2Proof.Machine.execDomainMap s
  | .marker => Sys2Proof.Machine.execMarker s
  | .nop => Sys2Proof.Machine.execNop s
  | .undefinedDescriptor => Sys2Proof.Machine.execUndefinedDescriptor s
  | .planIdle => Sys2Proof.Machine.execPlanIdle s
  | .profileWrite value => Sys2Proof.Machine.execProfileWrite value s
  | .basicRaise => Sys2Proof.Machine.execBasicRaise s
  | .syncRead => Sys2Proof.Machine.execSyncRead s
  | .syncReply obj value => Sys2Proof.Machine.execSyncReply obj value s
  | .waitTimeout => Sys2Proof.Machine.execWaitTimeout s
  | .groupDeadline slot => Sys2Proof.Machine.execGroupDeadline slot s
  | .windowCommand => Sys2Proof.Machine.execWindowCommand s
  | .calWindowOpen => Sys2Proof.Machine.execCalWindowOpen s
  | .calExcursion n r => Sys2Proof.Machine.execCalExcursion n r s
  | .calLoopRestore => Sys2Proof.Machine.execCalLoopRestore s
  | .calPlausibility rs => Sys2Proof.Machine.execCalPlausibility rs s
  | .calApply => Sys2Proof.Machine.execCalApply s
  | .calWindowClose => Sys2Proof.Machine.execCalWindowClose s
  | .calRecompute => Sys2Proof.Machine.execCalRecompute s
  | .trimApply u => Sys2Proof.Machine.execTrimApply u s
  | .calHoldRise region => Sys2Proof.Machine.execCalHoldRise region s
  | .gapStepDone n item => Sys2Proof.Machine.execGapStepDone n item s
  | .gapStepAbort n => Sys2Proof.Machine.execGapStepAbort n s
  | .calrefGate ppb => Sys2Proof.Machine.execCalrefGate ppb s
  | .calrefLost => Sys2Proof.Machine.execCalrefLost s
  | .calWincfgWrite value => Sys2Proof.Machine.execCalWincfgWrite value s
  | .nativeEnable => Sys2Proof.Machine.execNativeEnable s
  | .sensorConversion n which raw => Sys2Proof.Machine.execSensorConversion n which raw s
  | .save => Sys2Proof.Machine.execSave s
  | .cairnSave r => Sys2Proof.Machine.execCairnSave r s
  | .saveF r => Sys2Proof.Machine.execSaveF r s
  | .lookoutEdge c time falling => Sys2Proof.Machine.execLookoutEdge c time falling s
  | .disarm c => Sys2Proof.Machine.execDisarm c s
  | .measureTimeout c => Sys2Proof.Machine.execMeasureTimeout c s
  | .todTick roundUp => Sys2Proof.Machine.execTodTick roundUp s
  | .todSnapshot ns16 => Sys2Proof.Machine.execTodSnapshot ns16 s
  | .set => Sys2Proof.Machine.execSet s
  | .step => Sys2Proof.Machine.execStep s
  | .slew => Sys2Proof.Machine.execSlew s
  | .ppsInMissing => Sys2Proof.Machine.execPpsInMissing s
  | .loErrorMeasure ppb => Sys2Proof.Machine.execLoErrorMeasure ppb s
  | .lookoutDensity widths temp => Sys2Proof.Machine.execLookoutDensity widths temp s
  | .timerUnlock => Sys2Proof.Machine.execTimerUnlock s
  | .lookoutLost => Sys2Proof.Machine.execLookoutLost s
  | .start => Sys2Proof.Machine.execStart s
  | .abort => Sys2Proof.Machine.execAbort s
  | .bistPatternsDone signature => Sys2Proof.Machine.execBistPatternsDone signature s
  | .bistEnvAbort f source lo hi => Sys2Proof.Machine.execBistEnvAbort f source lo hi s
  | .bistReturn => Sys2Proof.Machine.execBistReturn s
  | .bistPorRepeat f => Sys2Proof.Machine.execBistPorRepeat f s
  | .incidentOpen c => Sys2Proof.Machine.execIncidentOpen c s
  | .errorStorm => Sys2Proof.Machine.execErrorStorm s
  | .fatalEvent => Sys2Proof.Machine.execFatalEvent s
  | .clear => Sys2Proof.Machine.execClear s
  | .spur f pos => Sys2Proof.Machine.execSpur f pos s
  | .inst f => Sys2Proof.Machine.execInst f s
  | .avsSlot f => Sys2Proof.Machine.execAvsSlot f s
  | .avsReply f r => Sys2Proof.Machine.execAvsReply f r s
  | .regLinkFail f => Sys2Proof.Machine.execRegLinkFail f s
  | .governorEval => Sys2Proof.Machine.execGovernorEval s
  | .thermalEval => Sys2Proof.Machine.execThermalEval s
  | .trip1 => Sys2Proof.Machine.execTrip1 s
  | .trip2 => Sys2Proof.Machine.execTrip2 s
  | .trip3 => Sys2Proof.Machine.execTrip3 s
  | .tripRelease level => Sys2Proof.Machine.execTripRelease level s
  | .governorResume => Sys2Proof.Machine.execGovernorResume s
  | .sup0 => Sys2Proof.Machine.execSup0 s
  | .sup1 above => Sys2Proof.Machine.execSup1 above s
  | .holdEntry => Sys2Proof.Machine.execHoldEntry s
  | .holdExit => Sys2Proof.Machine.execHoldExit s
  | .parkEntry => Sys2Proof.Machine.execParkEntry s
  | .parkReady => Sys2Proof.Machine.execParkReady s
  | .wake cause => Sys2Proof.Machine.execWake cause s
  | .powerUp => Sys2Proof.Machine.execPowerUp s
  | .blockReset => Sys2Proof.Machine.execBlockReset s
  | .oscillatorSettled => Sys2Proof.Machine.execOscillatorSettled s
  | .stage1Done => Sys2Proof.Machine.execStage1Done s
  | .rootLocked field1Ok field23Ok st flashOk => Sys2Proof.Machine.execRootLocked field1Ok field23Ok st flashOk s
  | .bankFVerified reason fact => Sys2Proof.Machine.execBankFVerified reason fact s
  | .testSelectDone a b spurs cols => Sys2Proof.Machine.execTestSelectDone a b spurs cols s
  | .startPulse => Sys2Proof.Machine.execStartPulse s
  | .firstMarkOfService => Sys2Proof.Machine.execFirstMarkOfService s
  | .reset => Sys2Proof.Machine.execReset s
  | .instanceSelfCheckDone pass => Sys2Proof.Machine.execInstanceSelfCheckDone pass s
  | .lcsChange st => Sys2Proof.Machine.execLcsChange st s
  | .req => Sys2Proof.Machine.execReq s
  | .challengeIssued c => Sys2Proof.Machine.execChallengeIssued c s
  | .submit => Sys2Proof.Machine.execSubmit s
  | .unlockVerdict pass => Sys2Proof.Machine.execUnlockVerdict pass s
  | .challengeExpired => Sys2Proof.Machine.execChallengeExpired s
  | .relock => Sys2Proof.Machine.execRelock s
  | .tapSegmentSet seg => Sys2Proof.Machine.execTapSegmentSet seg s
  | .stretchInjection value => Sys2Proof.Machine.execStretchInjection value s
  | .injectionBurst => Sys2Proof.Machine.execInjectionBurst s
  | .falseDroop value => Sys2Proof.Machine.execFalseDroop value s
  | .extraSaddleDelay value => Sys2Proof.Machine.execExtraSaddleDelay value s
  | .temperatureOverride value => Sys2Proof.Machine.execTemperatureOverride value s
  | .fieldPowerOverride value => Sys2Proof.Machine.execFieldPowerOverride value s
  | .ringFlow value => Sys2Proof.Machine.execRingFlow value s
  | .doorbellDelay value => Sys2Proof.Machine.execDoorbellDelay value s
  | .nopath => Sys2Proof.Machine.execNopath s
  | .refEdgeReturn b => Sys2Proof.Machine.execRefEdgeReturn b s
  | .calrefReturn => Sys2Proof.Machine.execCalrefReturn s
  | .timerRelock => Sys2Proof.Machine.execTimerRelock s
  | .registerArm c own stop => Sys2Proof.Machine.execRegisterArm c own stop s
  | .blkResetAssert => Sys2Proof.Machine.execBlkResetAssert s

end Sys2Proof.Machine
end

