-- ==== Sys2Proof/Safety.lean ====
section
/-! DEFINITION. What a safe state of the block is, and what it is for a command to complete, in the terms that claims use. -/

namespace Sys2Proof.Safety

open Sys2Proof.Machine

/-- A sparse register file is in its one canonical form: its offsets rise strictly, and no entry equals what an unlisted offset holds. -/
def fileOk (dflt : Nat → Word) (r : RegFile) : Bool :=
  RegFile.sortedFrom none r && r.all fun p => p.2 != dflt p.1

/-- The register words of a state are in canonical form. -/
def WordsOk (s : State) : Prop := fileOk resetWord s.words = true

/-- The command completes from a state, and `P` holds of the state after it. -/
def Runs (c : Instr) (s : State) (P : State → Prop) : Prop := ∃ t, exec c s = .next t ∧ P t

/-- An event of a code, severity, source and detail has been raised at the present ridge count of `s` and is the latest of `t` that waits to be recorded. -/
def RaisedLast (s t : State) (ev : Ev) (sev : Sev) (kind idx : Nat) (detail : List Byte) : Prop :=
  t.raised.getLast? = some (s.event ev sev kind idx detail)

/-- An event of a code, severity, source and detail, raised at the present ridge count of `s`, waits in `t` to be recorded. -/
def Raises (s t : State) (ev : Ev) (sev : Sev) (kind idx : Nat) (detail : List Byte) : Prop :=
  s.event ev sev kind idx detail ∈ t.raised

/-- The descriptor types that each command of plan processing takes (R288). -/
def takesType (c : Instr) (ty : Nat) : Bool :=
  match c with
  | .setStep => ty == 1
  | .setLadder => ty == 2
  | .formatPhase => ty == 3
  | .waitSync => ty == 4
  | .condBegin => ty == 5
  | .condEnd => ty == 6
  | .budget => ty == 7
  | .calWindow => ty == 8
  | .measure => ty == 9
  | .fence => ty == 10
  | .unfence => ty == 11
  | .domainMap => ty == 12
  | .marker => ty == 13
  | .nop => ty == 14
  | .undefinedDescriptor => ty == 0 || decide (14 < ty)
  | _ => false

/-- A command of plan processing is due (R315): the descriptor at the head is of its type, processing is not stalled, and there is room for it. -/
def Due (s : State) (c : Instr) (e : FbEntry) : Prop :=
  s.plan.head = some e ∧ takesType c e.ty = true ∧ s.processing = true ∧ s.roomFor e = true

/-- A completion for a descriptor, with a status, its mark and byte 13 (R296), waits to be written. -/
def Completes (t : State) (e : FbEntry) (st : Status) (m : Mark) (detail : Nat) : Prop :=
  ∃ q ∈ t.hri.cmplQ, q.seq = e.seq ∧ q.ty = e.ty ∧ q.status = st ∧ q.mark = m ∧ q.detail = detail ∧ q.ringIdx = e.idx

/-- The lists of the state that hold a fixed number of parts have that number, those of the mirror records included, and its register words are in canonical form. -/
def Inv (s : State) : Prop :=
  WordsOk s ∧ s.plan.groups.length = 4 ∧ s.faults.opened.length = 8 ∧ ∀ m ∈ s.role.mirrors ++ s.role.mirrorNext, m.opened.length = 8

/-- How far a start has come (R481, R483, R487): READY is 1 in stage 7 alone, marks run from stage 6 on unless the block is parked, and only a block in service is asked to park. -/
def StartOk (s : State) : Prop :=
  (s.boot.stage < 7 → s.boot.ready = false) ∧ (s.boot.stage = 6 → s.rdg.started = true) ∧
    (s.boot.ready = true → s.awake = true → s.rdg.started = true) ∧ (s.boot.parkAt.isSome = true → s.boot.ready = true)

/-- Every perturbation register that is RWL holds its reset value (R497, R511). -/
def PrtShut (s : State) : Prop := ∀ o ∈ prtLocked, s.word (0xC0000 + o) = resetWord (0xC0000 + o)

/-- In DEPLOYED no RWL perturbation is in force and no test segment is open (R496, R497, R505); before service no perturbation is (R483). -/
def Shut (s : State) : Prop :=
  (s.boot.ready = false → PrtShut s) ∧ (s.lcs.st = .deployed → PrtShut s ∧ s.lcs.segs = List.replicate 5 false)

end Sys2Proof.Safety
end

