-- ==== Sys2Proof/Certificates/Slice0/Obligations.lean ====
section
/-! DEFINITION. The statements for the provers. `Runs c s P` says that the command c completes from the state s, in a next state of which P holds. -/

open Sys2Proof Sys2Proof.Machine Sys2Proof.Safety

/-- An aligned 32-bit write through the register window, in a control cycle of its own, to a register of the Lookout, channel, Ridgeline, store, host ring or perturbation windows that answers completes: each of its fields whose access code and encoding allow the write takes the value written, and a W1C field loses the bits written as 1; each other field keeps its value and its event is raised: CFG_LOCKED for an RWL field in DEPLOYED, CFG_BUSY for an RWQ field of a unit that is not quiesced, CFG_RANGE for an undefined encoding, with the unit that owns the register as source and the offset and the word written as detail. Bits outside the register's writable fields, every other register word and everything else in the state but the events raised and the record of the present control cycle are unchanged. In one control cycle with the block's setting of a bit of a W1C field, the bit stays set. A write of another width, at another alignment or to a window that does not answer, and one through IEEE 1687 whose segment is closed, changes nothing but that record. Where a register has been written through IEEE 1687 in the same control cycle, the fields that allow it hold what IEEE 1687 wrote after a window write. Where a locked or busy field's encoding is undefined too, the event raised is the model's choice of log entry 67. Words are taken in canonical form. -/
def Obligations.RegisterWriteFollowsTheAccessCodes : Prop :=
  (∀ (s : State) (a : Nat) (v : Word), WordsOk s → a % 4 = 0 → s.answers a = true →
    (∃ o c, winOf a = .lko o ∨ winOf a = .chan c o ∨ winOf a = .rdg o ∨ winOf a = .crn o ∨ winOf a = .hri o ∨ winOf a = .prt o) →
    Runs (.registerWrite a v ⟨4, false, false⟩) s fun t => t = { s with words := t.words, raised := t.raised, cyc := ⟨[], []⟩ } ∧ (∀ b, b ≠ a → t.word b = s.word b) ∧
      (∀ i, (∀ g ∈ fieldsOf (winOf a) v, i < g.lo ∨ g.hi < i) → (t.word a).bit i = (s.word a).bit i) ∧
      (∀ g ∈ fieldsOf (winOf a) v, g.check s.locked (s.quiet (winOf a)) v = none →
        (t.word a).bits g.hi g.lo = (if g.acc = .w1c then s.word a &&& ~~~ v else v).bits g.hi g.lo) ∧
      (∀ g ∈ fieldsOf (winOf a) v, ∀ ev, g.check s.locked (s.quiet (winOf a)) v = some ev →
        (t.word a).bits g.hi g.lo = (s.word a).bits g.hi g.lo ∧ Raises s t ev ev.sev (s.ownerOf a).1 (s.ownerOf a).2 (le 4 a ++ le 4 v.toNat))) ∧
  (∀ (s : State) (a i : Nat) (v : Word), WordsOk s → a % 4 = 0 → s.answers a = true →
    (∃ o c, winOf a = .lko o ∨ winOf a = .chan c o ∨ winOf a = .rdg o ∨ winOf a = .crn o ∨ winOf a = .hri o ∨ winOf a = .prt o) →
    s.cyc.tap.find a = none → ((s.cyc.sets.find a).getD 0).bit i = true → (∃ g ∈ fieldsOf (winOf a) v, g.acc = .w1c ∧ g.lo ≤ i ∧ i ≤ g.hi) →
    Runs (.registerWrite a v ⟨4, false, true⟩) s fun t => (t.word a).bit i = (s.word a).bit i) ∧
  (∀ (s : State) (a w : Nat) (v : Word) (tap : Bool), w ≠ 4 ∨ a % 4 ≠ 0 ∨ s.answers a = false ∨ (tap = true ∧ s.tapReaches a = false) →
    exec (.registerWrite a v ⟨w, tap, true⟩) s = .next s) ∧
  (∀ (s : State) (a : Nat) (u v : Word), WordsOk s → a = 0xC0010 ∨ a = 0xC0014 → s.answers a = true → s.cyc.tap.find a = some u →
    Runs (.registerWrite a v ⟨4, false, true⟩) s fun t => t.word a = u ∧ ∀ b, b ≠ a → t.word b = s.word b) ∧
  (∀ (s : State) (a : Nat) (v : Word), WordsOk s → a = 0xC0010 ∨ a = 0xC0014 → s.answers a = true → s.tapReaches a = true →
    Runs (.registerWrite a v ⟨4, true, true⟩) s fun t => t.word a = v ∧ t.cyc.tap.find a = some v ∧ ∀ b, b ≠ a → t.word b = s.word b)

/-- WIDE_LOW_WORD_READ, 32 bits wide and aligned, of the low word of a quantity wider than 32 bits that is readable: the high word reads from then on as it stood. SNAPSHOT_FRAC_READ latches the other five words of the time-of-day snapshot, or the three of the PPS_IN capture. LAST_EVENT_READ latches VGL_LAST_B, VGL_LAST_TLO and VGL_LAST_THI. Every other latched word is unchanged, and nothing else changes. A read of another width returns 0, latches nothing and changes nothing. -/
def Obligations.ReadsOfLowWordsLatch : Prop :=
  (∀ (s : State) (a : Nat), isLowWord a = true → a % 4 = 0 → s.readable a = true → Runs (.wideLowWordRead ⟨a, 4⟩) s fun t =>
    t = { s with latches := t.latches } ∧ t.readAs (a + 4) 4 = (if s.readable (a + 4) then s.now (a + 4) else 0) ∧
    ∀ b, b ≠ a + 4 → t.latches.find b = s.latches.find b) ∧
  (∀ (s : State) (pps : Bool), s.readable 0x10030 = true → Runs (.snapshotFracRead ⟨pps, 4⟩) s fun t => t = { s with latches := t.latches } ∧
    (∀ b ∈ (if pps then [0x10058, 0x1005C, 0x10060] else [0x10034, 0x10038, 0x1003C, 0x10040, 0x10044]), t.latches.find b = some (s.now b)) ∧
    ∀ b ∉ (if pps then [0x10058, 0x1005C, 0x10060] else [0x10034, 0x10038, 0x1003C, 0x10040, 0x10044]), t.latches.find b = s.latches.find b) ∧
  (∀ s : State, s.readable 0xF0030 = true → Runs .lastEventRead s fun t => t = { s with latches := t.latches } ∧
    (∀ b ∈ [0xF0034, 0xF0038, 0xF003C], t.latches.find b = some (s.now b)) ∧ ∀ b ∉ [0xF0034, 0xF0038, 0xF003C], t.latches.find b = s.latches.find b) ∧
  (∀ (s : State) (a w : Nat) (pps : Bool), w ≠ 4 → s.readAs a w = 0 ∧ exec (.wideLowWordRead ⟨a, w⟩) s = .next s ∧ exec (.snapshotFracRead ⟨pps, w⟩) s = .next s)

/-- While marks run and the last tick of the mark has come, MARK_BEACON is ridge tick 0 of the next mark: the mark number goes up by 1 modulo 2^40 with tick 0; the first beacon after the start pulse or a wrap is that of mark 0 and moves no count (the flag tick0 is the model's own, notes/assumptions/3.md). Every Col's beacon age goes up by 1, saturating at 255, and the Cols as they stood are kept for a failover. Where the active instance is not silent and is not about to be swapped, the beacon of the new mark with the field of the active instance, 1 or 23, is among the messages sent, and that mark is kept as the last beacon. Where it is silent, no beacon is kept and the count of marks without an answer goes up to at most 16. Before the last tick of a mark it changes nothing. -/
def Obligations.MarkBeaconBeginsTheNextMark : Prop :=
  (∀ s : State, s.rdg.started = true → s.rdg.tick0 = true → s.tick = 255 →
    Runs .markBeacon s fun t => t.mark = s.mark + 1 ∧ t.tick = 0 ∧ ∀ f : Fin 25, (t.col f).beaconAge = min 255 ((s.col f).beaconAge + 1)) ∧
  (∀ s : State, s.rdg.started = true → s.rdg.tick0 = false →
    Runs .markBeacon s fun t => t.rdg.ridge = s.rdg.ridge ∧ t.rdg.tick0 = true) ∧
  (∀ s : State, s.rdg.started = true → s.rdg.tick0 = false ∨ s.tick = 255 → s.role.silent = false → s.role.swap = false →
    Runs .markBeacon s fun t => Message.lane (.beacon t.mark (if s.role.active then 23 else 1)) ∈ t.out ∧ t.role.lastBeacon = some t.mark ∧ t.role.noAnswer = 0 ∧
      t.colsPrev = s.colsMark) ∧
  (∀ s : State, s.rdg.started = true → s.rdg.tick0 = false ∨ s.tick = 255 → s.role.silent = true →
    Runs .markBeacon s fun t => t.role.lastBeacon = s.role.lastBeacon ∧ t.role.noAnswer = min 16 (s.role.noAnswer + 1)) ∧
  (∀ s : State, s.rdg.started = false ∨ (s.rdg.tick0 = true ∧ s.tick ≠ 255) → exec .markBeacon s = .next s)

/-- MIRROR_RECORD with a record on its way and a healthy standby puts that record in front of the latest, keeps at most two, and sets MIRROR_OK's late flag back. MIRROR_LATE drops it and sets the late flag, with the kept records unchanged. SELF_CHECK_FAILURE makes the active instance silent and changes nothing else; a silent instance puts nothing on the command lane. SWAP, where the window answers, the life cycle is not DEPLOYED, MIRROR_OK is 1 and no takeover is in progress, only notes that the active instance asserts self-check failure at the end of the mark; while MIRROR_OK is 0 or a takeover is in progress it changes nothing. -/
def Obligations.MirrorRecordsAndSwap : Prop :=
  (∀ (s : State) (m : Mirror) (ms : List Mirror), s.role.mirrorNext = m :: ms → s.role.standbyOk = true →
    exec .mirrorRecord s = .next { s with role := { s.role with mirrors := (m :: s.role.mirrors).take 2, mirrorNext := ms, mirrorLate := false, mirrorAt := s.mark } }) ∧
  (∀ (s : State) (m : Mirror) (ms : List Mirror), s.role.mirrorNext = m :: ms →
    exec .mirrorLate s = .next { s with role := { s.role with mirrorNext := ms, mirrorLate := true } }) ∧
  (∀ s : State, exec .selfCheckFailure s = .next { s with role := { s.role with silent := true } }) ∧
  (∀ (s : State) (c : LaneCmd), s.role.silent = true → s.sendLane c = s) ∧
  (∀ s : State, s.answers 0x100 = true → s.locked = false → s.mirrorOk = true → s.role.silent = false →
    exec .swap s = .next { s with role := { s.role with swap := true } }) ∧
  (∀ s : State, s.answers 0x100 = true → s.locked = false → s.mirrorOk = false ∨ s.role.silent = true → exec .swap s = .next s)

/-- With a healthy standby, at ridge tick 0 of the third mark after the last beacon, SUMMIT_TAKEOVER makes the other instance active and not silent, counts the takeover up to 255, leaves no standby, sends the new instance's beacon and a discard command, raises SUMMIT_TAKEOVER with the new instance as index and the last beacon's mark, keeps only the sets that are armed or applied, and no Spur is left with a STAGED entry; it needs no mirror record. With a record, the ring version and the governor, but for its history of power, are those of the record; and where no commit has been applied since it, as the reports tell, the domains and the base are the record's. At any other mark, or without a standby, it changes nothing. That it happens at tick 0 alone is the model's choice of log entry 66. -/
def Obligations.TakeoverHandsTheActiveRoleOver : Prop :=
  (∀ (s : State) (b : Mark), s.atMark = true → s.role.lastBeacon = some b → s.role.standbyOk = true → s.since b = 3 →
    Runs .summitTakeover s fun t => t.role.active = !s.role.active ∧ t.role.silent = false ∧ t.role.standbyOk = false ∧ t.role.lastBeacon = some s.mark ∧
      t.role.takeovers = min 255 (s.role.takeovers + 1) ∧ Message.lane .discard ∈ t.out ∧
      Message.lane (.beacon s.mark (if s.role.active then 1 else 23)) ∈ t.out ∧
      Raises s t .summitTakeover .corrected 0 (if s.role.active then 0 else 1) (le 5 b.toNat) ∧
      t.plan.sets = s.plan.sets.filter CommitSet.final ∧ ∀ n : Fin 425, ∀ e ∈ (t.spur n).gen.entries, e.st ≠ .staged) ∧
  (∀ (s : State) (m : Mirror) (ms : List Mirror) (b : Mark), s.atMark = true → s.role.lastBeacon = some b → s.role.standbyOk = true → s.since b = 3 →
    s.role.mirrors = m :: ms → Runs .summitTakeover s fun t => t.hri.agreed = m.agreed ∧ t.gov = { m.gov with hist := s.gov.hist } ∧
      ((∀ f : Fin 25, (s.col f).repSeq ∈ m.lastSeq) → (∀ c ∈ m.armed ++ s.plan.sets.filter CommitSet.applied, s.tellsApplied c.seq = false) →
        t.fab = m.fab ∧ t.role.lastSeq = m.lastSeq)) ∧
  (∀ (s : State) (b : Mark), s.role.lastBeacon = some b → s.atMark = false ∨ s.since b ≠ 3 ∨ s.role.standbyOk = false → exec .summitTakeover s = .next s)

/-- STANDBY_LOST of a healthy standby whose self-check fails, or which has had no complete record for 16 marks of a started block whose active instance is not silent, leaves no standby and no mirror record and raises STANDBY_LOST (DEGRADED) with the active instance as index. SUMMIT_LOST at a Col whose beacon is 16 marks old, with the active instance silent and no standby, keeps the code in the Col's record and drives the fatal signal. RESET, where the window answers and the life cycle is PROVISIONED, SERVICE or RETURNED and no reset runs, starts the reset of the instance that is not active; in DEPLOYED it is ignored with CFG_LOCKED. INSTANCE_SELF_CHECK_DONE 64 marks after a reset began makes a passing instance the standby and leaves a failing one failed. NOPATH is set once no instance has answered for 16 marks, and not before. -/
def Obligations.SummitCopiesFailAndReturn : Prop :=
  (∀ (s : State) (sc : Bool), s.role.standbyOk = true → sc = true ∨ (s.rdg.started = true ∧ s.role.silent = false ∧ 16 ≤ s.since s.role.mirrorAt) →
    Runs (.standbyLost sc) s fun t =>
    t.role.standbyOk = false ∧ t.role.mirrors = [] ∧ t.role.active = s.role.active ∧ RaisedLast s t .standbyLost .degraded 0 s.summitIdx (le 1 (if s.role.active then 0 else 1))) ∧
  (∀ (s : State) (f : Fin 25), s.rdg.started = true → s.role.silent = true → s.role.standbyOk = false → 16 ≤ (s.col f).beaconAge →
    Runs (.summitLost f) s fun t => (t.col f).recValid = true ∧ (t.col f).recSummit = true ∧ (t.col f).recDrove = true ∧ t.boot.pinFatal = true) ∧
  (∀ s : State, s.answers 0x908 = true → s.locked = false → s.testOpen = true → s.role.rstResult ≠ 1 →
    exec .reset s = .next { s with role := { s.role with rstResult := 1, rstMark := s.mark, standbyOk := false, mirrors := [], mirrorNext := [] } }) ∧
  (∀ s : State, s.answers 0x908 = true → s.locked = true → Runs .reset s fun t => t.role = s.role ∧ RaisedLast s t .cfgLocked .info 0 s.summitIdx (le 4 0x908 ++ le 4 1)) ∧
  (∀ (s : State) (pass : Bool), s.role.rstResult = 1 → 64 ≤ s.since s.role.rstMark →
    exec (.instanceSelfCheckDone pass) s = .next { s with role := { s.role with rstResult := if pass then 2 else 3, standbyOk := pass, mirrorAt := s.mark } }) ∧
  (∀ s : State, 16 ≤ s.role.noAnswer → exec .nopath s = .next { s with role := { s.role with nopath := true } }) ∧
  (∀ s : State, s.role.noAnswer < 16 → exec .nopath s = .next s)

/-- COMMAND_RECEIVE at a Col whose commander is the instance that sends acts on the copy of the selected spine; a difference raises SPINE_MISMATCH (CORRECTED) with the words received on the selected and on the other spine, and leaves the action; with equal copies nothing is raised; a Col that has accepted another instance's beacon acts on nothing. FIELD_REPORT of a Col that can report, at the first tick of its slot, 10 times its field, and not yet sent in this mark, sends the report of its state as it then stands, and with an active Summit leaves no alarm waiting in the Col; the acknowledged voltage (0 while the link has failed) is carried. At another tick, or again in the mark, nothing is sent. COL_FAILOVER at ridge tick 0 outside a test, with both instances healthy, switches the Col to its other instance, which goes on from the reported number, the spine difference and the due switch that the Col held at the mark before, counts the former one as failed and raises COL_FAILOVER; with the other already failed it raises COL_LOST (FATAL). What else the other instance goes on from is the model's reading of log entry 83. -/
def Obligations.ColActsReportsAndFailsOver : Prop :=
  (∀ (s : State) (f : Fin 25) (a b : Word), (s.col f).commander = s.role.active →
    let own : Word := if (s.col f).sel then b else a
    let other : Word := if (s.col f).sel then a else b
    Runs (.commandReceive f a b) s fun t => (t.col f).lastCmd = own ∧ (a = b → t.raised = s.raised) ∧
      (a ≠ b → RaisedLast s t .spineMismatch .corrected 1 f (le 4 own.toNat ++ le 4 other.toNat)) ∧ ∀ k : Fin 25, k ≠ f → t.col k = s.col k) ∧
  (∀ (s : State) (f : Fin 25) (a b : Word), (s.col f).commander ≠ s.role.active → exec (.commandReceive f a b) s = .next s) ∧
  (∀ (s : State) (f : Fin 25), s.rdg.started = true → s.tick = 10 * f.val → (s.col f).repMark ≠ some s.mark → (s.col f).reports = true → Runs (.fieldReport f) s fun t =>
    Message.report (s.reportOf f) ∈ t.out ∧ (t.col f).repMark = some s.mark ∧ (t.col f).repSeq = (s.reportOf f).seq ∧
      (t.col f).alarms = (if s.role.silent then (s.col f).alarms else []) ∧
      (t.col f).avs.reported = (if (s.col f).avs.failed then 0 else (s.col f).avs.acked)) ∧
  (∀ (s : State) (f : Fin 25), s.tick ≠ 10 * f.val ∨ (s.col f).repMark = some s.mark → exec (.fieldReport f) s = .next s) ∧
  (∀ (s : State) (f : Fin 25), s.atMark = true → (s.col f).pFailed = false → (s.col f).sFailed = false → s.bist.phase = 0 → Runs (.colFailover f) s fun t =>
    let old := bget s.colsPrev Col.reset f
    (t.col f).active = !(s.col f).active ∧ (t.col f).pFailed = !(s.col f).active ∧ (t.col f).sFailed = (s.col f).active ∧
      (t.col f).repSeq = old.repSeq ∧ (t.col f).skew = old.skew ∧ (t.col f).switchDue = old.switchDue ∧
      RaisedLast s t .colFailover .corrected 1 f (le 1 (if (s.col f).active then 0 else 1))) ∧
  (∀ (s : State) (f : Fin 25), s.atMark = true → (s.col f).active = true → (s.col f).pFailed = true → (s.col f).sFailed = false → s.bist.phase = 0 →
    Runs (.colFailover f) s fun t => (t.col f).sFailed = true ∧ (t.col f).pFailed = true ∧ RaisedLast s t .colLost .fatal 1 f [])

/-- REF_EDGE_LOSS clears the input's presence and, where the input is declared, its qualification. REF_EDGE_RETURN makes it present again and leaves its qualification. FREQ_GATE takes the count (held to 18 bits, the model's choice of log entry 77) and whether the gate was free of loss; an off-frequency count sets FREQ in RDG_REFEVT, whether or not the input is present, and ends the qualification of a declared input; a gate free of loss, in frequency, that counts for a present declared input qualifies it. The gate bound is 39 counts once the running gate began after the oscillator trim was loaded. -/
def Obligations.ReferenceInputsLoseAndQualify : Prop :=
  (∀ (s : State) (b : Bool), (s.rdg.ref b).declared = true →
    Runs (.refEdgeLoss b) s fun t => (t.rdg.ref b).present = false ∧ (t.rdg.ref b).qual = false ∧ t.rdg.ref (!b) = s.rdg.ref (!b)) ∧
  (∀ (s : State) (b : Bool), Runs (.refEdgeReturn b) s fun t =>
    (t.rdg.ref b).present = true ∧ (t.rdg.ref b).qual = (s.rdg.ref b).qual ∧ t.rdg.ref (!b) = s.rdg.ref (!b)) ∧
  (∀ (s : State) (b : Bool) (n : Nat), Runs (.freqGate b n) s fun t =>
    (t.rdg.ref b).count = min n (2 ^ 18 - 1) ∧ (t.rdg.ref b).valid = (s.rdg.ref b).clean) ∧
  (∀ (s : State) (b : Bool) (n : Nat), WordsOk s → (s.rdg.ref b).strict = true → n + 39 < 131072 ∨ 131072 + 39 < n →
    Runs (.freqGate b n) s fun t => (t.word 0x18008).bit 2 = true ∧ ((s.rdg.ref b).declared = true → (t.rdg.ref b).qual = false)) ∧
  (∀ (s : State) (b : Bool) (n : Nat), (s.rdg.ref b).declared = true → (s.rdg.ref b).present = true → (s.rdg.ref b).clean = true →
    (s.rdg.ref b).counts = true → 131072 ≤ n + 39 → n ≤ 131072 + 39 → Runs (.freqGate b n) s fun t => (t.rdg.ref b).qual = true)

/-- In V0 or V1 with marks running, where the selected input is declared and qualified and loses its edges: with the other input qualified, the root loop is locked to the other input, and REF_LOST with cause 0 and REF_SWITCH are raised; with the other input not qualified, the loop is in HOLDOVER with its word frozen and the fan-out held, the SAFE cap is in force from the present mark on, and REF_LOST and HOLDOVER are raised. ROOT_UNLOCK treats the selected qualified input as lost with cause 2, whose running gate no longer counts, and raises ROOT_UNLOCK. -/
def Obligations.SelectedReferenceLossSwitchesOrHoldsOver : Prop :=
  (∀ (s : State) (b : Bool), s.rdg.started = true → s.boot.pst = .v0 ∨ s.boot.pst = .v1 → s.rdg.selected = some b →
    (s.rdg.ref b).declared = true → (s.rdg.ref b).qual = true → (s.rdg.ref (!b)).qual = true →
    Runs (.refEdgeLoss b) s fun t => t.rdg.selected = some (!b) ∧ t.rdg.lock = true ∧
      Raises s t .refLost .corrected 5 (refIdx b) (le 1 0) ∧ Raises s t .refSwitch .info 5 (refIdx (!b)) []) ∧
  (∀ (s : State) (b : Bool), s.rdg.started = true → s.boot.pst = .v0 ∨ s.boot.pst = .v1 → s.rdg.selected = some b →
    (s.rdg.ref b).declared = true → (s.rdg.ref b).qual = true → (s.rdg.ref (!b)).qual = false →
    Runs (.refEdgeLoss b) s fun t => t.rdg.root = .holdover ∧ t.rdg.wordFrozen = true ∧ t.rdg.fanHold = true ∧ t.rdg.safeCap = true ∧
      t.rdg.holdStart = s.mark ∧ Raises s t .refLost .corrected 5 (refIdx b) (le 1 0) ∧ Raises s t .holdover .degraded 5 2 []) ∧
  (∀ (s : State) (b : Bool), s.rdg.selected = some b → (s.rdg.ref b).declared = true → (s.rdg.ref b).qual = true →
    Runs .rootUnlock s fun t => (t.rdg.ref b).qual = false ∧ (t.rdg.ref b).counts = false ∧
      Raises s t .rootUnlock .degraded 5 2 [] ∧ Raises s t .refLost .corrected 5 (refIdx b) (le 1 2))

/-- A write of 1 to RDG_REFCFG.SWITCH, where the window answers, notes a request and does nothing else. At the next mark the block performs the switch with the other input qualified; otherwise it ignores the request and raises REF_NOT_QUAL (INFO) with source kind Ridgeline and the other input as index. With no request nothing changes. With no input selected the request is dropped without an event, the model's choice of log entry 80. A switchover for a loss is one step of the model, so that no request falls inside one. -/
def Obligations.RequestedSwitchNeedsQualifiedInput : Prop :=
  (∀ s : State, s.answers 0x18000 = true → exec .refSwitchRequest s = .next { s with rdg := { s.rdg with reqSwitch := true } }) ∧
  (∀ (s : State) (b : Bool), s.atMark = true → s.rdg.reqSwitch = true → s.rdg.selected = some b → (s.rdg.ref (!b)).qual = true →
    Runs .requestedSwitch s fun t => t.rdg.selected = some (!b) ∧ t.rdg.reqSwitch = false ∧ RaisedLast s t .refSwitch .info 5 (refIdx (!b)) []) ∧
  (∀ (s : State) (b : Bool), s.atMark = true → s.rdg.reqSwitch = true → s.rdg.selected = some b → (s.rdg.ref (!b)).qual = false →
    exec .requestedSwitch s = .next (({ s with rdg := { s.rdg with reqSwitch := false } }).raise .refNotQual 5 (refIdx (!b)) [])) ∧
  (∀ s : State, s.rdg.reqSwitch = false → exec .requestedSwitch s = .next s) ∧
  (∀ s : State, s.atMark = true → s.rdg.selected = none → exec .requestedSwitch s = .next { s with rdg := { s.rdg with reqSwitch := false } })

/-- In HOLDOVER an input that qualifies is locked to and HOLDOVER_END is raised, and the mark of the end is kept; HOLDOVER_EXPIRED 15,625 marks after the mark in which holdover began puts the root loop in FAILED and raises HOLDOVER_EXPIRED (FATAL); earlier it changes nothing. At ridge tick 0 of a mark SAFE_CAP_LIFT with the loop locked lifts the cap and changes nothing else, and REVERT_SWITCH, where a revertive switch to the qualified preferred input is due, locks the loop to it with REF_SWITCH. -/
def Obligations.HoldoverEndsExpiresAndReverts : Prop :=
  (∀ (s : State) (b : Bool) (n : Nat), s.rdg.root = .holdover → (s.rdg.ref b).declared = true → (s.rdg.ref b).present = true →
    (s.rdg.ref b).clean = true → (s.rdg.ref b).counts = true → (s.rdg.ref b).qual = false → 131072 ≤ n + 39 → n ≤ 131072 + 39 →
    Runs (.freqGate b n) s fun t => t.rdg.selected = some b ∧ t.rdg.lock = true ∧ t.rdg.fanHold = false ∧ t.rdg.holdLeft = some s.mark ∧
      t.rdg.safeCap = s.rdg.safeCap ∧ RaisedLast s t .holdoverEnd .corrected 5 2 []) ∧
  (∀ s : State, s.rdg.root = .holdover → 15625 ≤ s.since s.rdg.holdStart →
    Runs .holdoverExpired s fun t => t.rdg.root = .failed ∧ RaisedLast s t .holdoverExpired .fatal 5 2 []) ∧
  (∀ s : State, s.since s.rdg.holdStart < 15625 → exec .holdoverExpired s = .next s) ∧
  (∀ s : State, s.atMark = true → s.rdg.safeCap = true → s.rdg.lock = true → exec .safeCapLift s = .next { s with rdg := { s.rdg with safeCap := false } }) ∧
  (∀ (s : State) (b : Bool), s.atMark = true → s.rdg.selected = some b → s.rdg.revertDue = true → (s.rdg.ref (!b)).qual = true → s.reverts = true → s.prefersB = (!b) →
    Runs .revertSwitch s fun t => t.rdg.selected = some (!b) ∧ t.rdg.revertDue = false ∧ RaisedLast s t .refSwitch .info 5 (refIdx (!b)) [])

/-- RIDGE_COUNT_WRAP at the last tick of the last mark, 2^40 - 1, of a block whose marks run sets the ridge count to 0 and raises EPOCH by 1, saturating at 0xFFFF, and changes no other part of the state: nothing in the block pauses or resets. At any other count it changes nothing. The beacon of mark 0 is then still to come: a flag of the model's own, tick0, says so (DESIGN CHOICE, notes/assumptions/3.md). -/
def Obligations.RidgeCountWrapsAndEpochCounts : Prop :=
  (∀ s : State, s.rdg.started = true → s.rdg.ridge = BitVec.allOnes 48 →
    exec .ridgeCountWrap s = .next { s with rdg := { s.rdg with ridge := 0, epoch := min 0xFFFF (s.rdg.epoch + 1), tick0 := false } }) ∧
  (∀ s : State, s.rdg.ridge ≠ BitVec.allOnes 48 → exec .ridgeCountWrap s = .next s)

/-- SPINE_FAULT on a healthy selected spine with the other healthy marks the spine faulty, makes a switch due and raises SPINE_LOST; where the other is faulty the Col's 17 Spurs freeze their loops unless they have failed, and RIDGE_LOST (FATAL) is raised. SPINE_SWITCH at ridge tick 0, when due with the other spine healthy, takes the other spine, and when it was asked for and the other is faulty raises SPINE_NOT_OK. SPINE_RECOVER after 16 faultless marks makes a faulty spine healthy unless it must stay faulty. SPINE_REQUEST makes a switch due. No other Col changes. -/
def Obligations.SpinesFailSwitchAndRecover : Prop :=
  (∀ (s : State) (f : Fin 25) (cause : Fin 3) (b : Bool), (s.col f).sel = b → (s.col f).ok b = true → (s.col f).ok (!b) = true →
    Runs (.spineFault f b cause) s fun t => (t.col f).ok b = false ∧ (t.col f).switchDue = true ∧ (t.col f).sel = b ∧
      RaisedLast s t .spineLost .corrected 1 f [] ∧ ∀ g : Fin 25, g ≠ f → t.col g = s.col g) ∧
  (∀ (s : State) (f : Fin 25) (cause : Fin 3) (b : Bool), (s.col f).ok b = true → (s.col f).ok (!b) = false →
    Runs (.spineFault f b cause) s fun t => (t.col f).ok b = false ∧ RaisedLast s t .ridgeLost .fatal 1 f [] ∧
      ∀ n ∈ fieldSpurs f, (s.spur n).gen.loop ≠ .failed → (t.spur n).gen.loop = .frozen) ∧
  (∀ (s : State) (f : Fin 25), s.atMark = true → (s.col f).switchDue = true → (s.col f).ok (!(s.col f).sel) = true →
    Runs (.spineSwitch f) s fun t => (t.col f).sel = !(s.col f).sel ∧ (t.col f).switchDue = false ∧ ∀ g : Fin 25, g ≠ f → t.col g = s.col g) ∧
  (∀ (s : State) (f : Fin 25), s.atMark = true → (s.col f).switchDue = true → (s.col f).switchAsked = true → (s.col f).ok (!(s.col f).sel) = false →
    Runs (.spineSwitch f) s fun t => (t.col f).sel = (s.col f).sel ∧ RaisedLast s t .spineNotOk .info 1 f []) ∧
  (∀ (s : State) (f : Fin 25), (s.col f).aOk = false → (s.col f).aStuck = false → 16 ≤ (s.col f).aRun →
    Runs (.spineRecover f false) s fun t => (t.col f).aOk = true ∧ (t.col f).bOk = (s.col f).bOk ∧ (t.col f).sel = (s.col f).sel) ∧
  (∀ (s : State) (f : Fin 25), (s.col f).bOk = false → (s.col f).bStuck = false → 16 ≤ (s.col f).bRun →
    Runs (.spineRecover f true) s fun t => (t.col f).bOk = true ∧ (t.col f).aOk = (s.col f).aOk ∧ (t.col f).sel = (s.col f).sel) ∧
  (∀ (s : State) (f : Fin 25), s.answers (colAddr f 0x10) = true →
    Runs (.spineRequest f) s fun t => (t.col f).switchDue = true ∧ (t.col f).switchAsked = true ∧ (t.col f).sel = (s.col f).sel)

/-- A counter passes where its bits [47:8] equal the beacon's mark number and its bits [7:0] equal 0x0C. BEACON_ARRIVAL at ridge tick 12, of the beacon sent in this mark, at a Col that has not yet taken it, makes the instance that sent it the Col's commander, keeps the spine difference measured, and makes the beacon age 0. A counter then stands where the true count does but for what it has gone wrong by. With both right against the mark number that the beacon carries it raises nothing and leaves the health of the spines. With exactly one wrong, that counter's spine is faulty, its counter is due for reload, MISMATCHES counts up to 255 and RIDGE_MISMATCH (CORRECTED) is raised. With both wrong the counters and the spines stay and RIDGE_MISMATCH (DEGRADED) is raised (that no spine then counts as faulty is the model's reading, notes/assumptions/10.md). At another tick, at a Col that has taken the beacon, and of another sender than the active instance, nothing changes. RIDGE_COUNTER_RELOAD at ridge tick 0 loads a counter due from the other where that spine is healthy. -/
def Obligations.BeaconChecksBothRidgeCounters : Prop :=
  (∀ (m : Mark) (r : Ridge), counterOk m r = true ↔ r = (Ridge.ofMark m) + 0x0C#48) ∧
  (∀ (s : State) (f : Fin 25) (m : Mark) (da db : Ridge) (k : Int), s.rdg.started = true → s.tick = 12 → s.role.lastBeacon = some s.mark → (s.col f).beaconAge ≠ 0 →
    let a : Ridge := (s.col f).errA + da
    let b : Ridge := (s.col f).errB + db
    let okA : Bool := decide (s.rdg.ridge + a = Ridge.ofMark m + 0x0C#48)
    let okB : Bool := decide (s.rdg.ridge + b = Ridge.ofMark m + 0x0C#48)
    Runs (.beaconArrival f m s.role.active da db k) s fun t => (t.col f).commander = s.role.active ∧ (t.col f).beaconAge = 0 ∧ (t.col f).skew = k ∧
      t.counter f false = s.rdg.ridge + a ∧ t.counter f true = s.rdg.ridge + b ∧
      (okA = true → okB = true → (t.col f).aOk = (s.col f).aOk ∧ (t.col f).bOk = (s.col f).bOk ∧ t.raised = s.raised) ∧
      (okA = false → okB = true → (t.col f).aOk = false ∧ (t.col f).bOk = (s.col f).bOk ∧ (t.col f).reloadA = true ∧
        (t.col f).mismatches = min 255 ((s.col f).mismatches + 1) ∧ RaisedLast s t .ridgeMismatch .corrected 1 f []) ∧
      (okA = true → okB = false → (t.col f).bOk = false ∧ (t.col f).aOk = (s.col f).aOk ∧ (t.col f).reloadB = true ∧
        (t.col f).mismatches = min 255 ((s.col f).mismatches + 1) ∧ RaisedLast s t .ridgeMismatch .corrected 1 f []) ∧
      (okA = false → okB = false → (t.col f).aOk = (s.col f).aOk ∧ (t.col f).bOk = (s.col f).bOk ∧ RaisedLast s t .ridgeMismatch .degraded 1 f [])) ∧
  (∀ (s : State) (f : Fin 25) (m : Mark) (q : Bool) (da db : Ridge) (k : Int), s.tick ≠ 12 ∨ s.role.lastBeacon ≠ some s.mark ∨ q ≠ s.role.active ∨ (s.col f).beaconAge = 0 →
    exec (.beaconArrival f m q da db k) s = .next s) ∧
  (∀ (s : State) (f : Fin 25), s.atMark = true → (s.col f).reloadA = true → (s.col f).bOk = true →
    Runs (.ridgeCounterReload f) s fun t => t.counter f false = s.counter f true ∧ (t.col f).reloadA = false) ∧
  (∀ (s : State) (f : Fin 25), s.atMark = true → (s.col f).reloadA = false → (s.col f).reloadB = true → (s.col f).aOk = true →
    Runs (.ridgeCounterReload f) s fun t => t.counter f true = s.counter f false ∧ (t.col f).reloadB = false)

/-- LOOP_COMPARE at a comparison that falls due (at a ridge tick divisible by 16, once there, of a running loop that no excursion and no scan holds open), of a Spur not under test. In ACQUIRE: the 16th consecutive comparison with |e| of 1/16 phase or less gives LOCKED; a farther one starts the count again. In LOCKED the 4th consecutive comparison with |e| above 2 phases gives FAILED, raises LOOP_UNLOCK (DEGRADED) and the Spur counts as failed; one within 2 phases starts that count again. A loop that still runs takes the filter's next value, by its bandwidth, the phase error and the integrator before (the filter's gains, which the spec does not give, are constants without a value), e is kept, and the tally does not move. Where no comparison is due nothing changes. ACQ_TIMEOUT in an ACQUIRE that a commit cycle or a native window began, 8 marks after it or later, gives FAILED and raises ACQ_TIMEOUT (DEGRADED); otherwise nothing changes. -/
def Obligations.SpurLoopLocksFailsAndTimesOut : Prop :=
  (∀ (s : State) (n : Fin 425) (e ppm : Int), s.compares n = true → s.underTest n = false → Runs (.loopCompare n e ppm) s fun t =>
    let g := (s.spur n).gen
    let h := (t.spur n).gen
    h.loopErr = e ∧ h.tallyMark = g.tallyMark ∧ h.tallyCyc = g.tallyCyc ∧
    (h.loop ≠ .failed → h.integ = Config.filterInteg ((s.word (sprAddr n 8)).bit 0) g.integ e ∧ h.fcw = Config.filterOut ((s.word (sprAddr n 8)).bit 0) h.integ e) ∧
    (g.loop = .acquire → -1 ≤ e → e ≤ 1 → 15 ≤ g.lockRun → h.loop = .locked) ∧
    (g.loop = .acquire → -1 ≤ e → e ≤ 1 → g.lockRun < 15 → h.loop = .acquire ∧ h.lockRun = g.lockRun + 1) ∧
    (g.loop = .acquire → e < -1 ∨ 1 < e → h.loop = .acquire ∧ h.lockRun = 0) ∧
    (g.loop = .locked → e < -32 ∨ 32 < e → 3 ≤ g.lossRun → h.loop = .failed ∧ (t.spur n).gates.failed = true ∧ Raises s t .loopUnlock .degraded 2 n []) ∧
    (g.loop = .locked → e < -32 ∨ 32 < e → g.lossRun < 3 → h.loop = .locked ∧ h.lossRun = g.lossRun + 1) ∧
    (g.loop = .locked → -32 ≤ e → e ≤ 32 → h.loop = .locked ∧ h.lossRun = 0)) ∧
  (∀ (s : State) (n : Fin 425) (e ppm : Int), s.rdg.started = false ∨ s.tick % 16 ≠ 0 ∨ (s.spur n).gen.cmpAt = some s.rdg.ridge ∨ (s.spur n).gen.loop = .frozen ∨
    (s.spur n).gen.loop = .failed → exec (.loopCompare n e ppm) s = .next s) ∧
  (∀ (s : State) (n : Fin 425), (s.spur n).gen.loop = .acquire → (s.spur n).gen.reacq = true ∨ s.cal.cur.isSome = true → 8 ≤ s.since (s.spur n).gen.acqMark →
    Runs (.acqTimeout n) s fun t => (t.spur n).gen.loop = .failed ∧ (t.spur n).gates.failed = true ∧ Raises s t .acqTimeout .degraded 2 n []) ∧
  (∀ (s : State) (n : Fin 425), (s.spur n).gen.loop ≠ .acquire ∨ s.since (s.spur n).gen.acqMark < 8 → exec (.acqTimeout n) s = .next s)

/-- For every demand of a Spur's own sources, follow demand, stretch cap and debt: with a demand and room below the ceiling of 47 phases, the debt rises by the largest demand capped at the stretch cap and the notice is that amount; a stretch that would take the debt above 47 is cut so that the debt reaches 47, or to nothing where the debt is 47 or more, and that edge counts as one with an unmet demand; with no demand the debt falls by 1 where repayment is allowed, with notice 4, and else stays, with notice 0; a demand above the cap is counted as capped exactly then. A stretch never takes the debt above 47. -/
def Obligations.EdgeDecisionStretchesByLargestDemandUnderCapAndCeiling : Prop :=
  ∀ (demand follow cap debt : Nat) (repay : Bool), cap ≤ 3 →
    let want := max demand follow
    let d := decide1 demand follow cap debt repay
    (0 < d.change → (debt : Int) + d.change ≤ 47) ∧
    (want ≠ 0 → debt + min want cap ≤ 47 → d.change = (min want cap : Nat) ∧ d.notice = BitVec.ofNat 3 (min want cap) ∧ d.unmet = false) ∧
    (want ≠ 0 → 47 < debt + min want cap → d.change = (47 - debt : Nat) ∧ d.notice = BitVec.ofNat 3 (47 - debt) ∧ d.unmet = true) ∧
    (want = 0 → repay = true → d.change = -1 ∧ d.notice = 4 ∧ d.unmet = false) ∧
    (want = 0 → repay = false → d.change = 0 ∧ d.notice = 0 ∧ d.unmet = false) ∧
    (d.capped = true ↔ cap < want)

/-- SPUR_EDGE once the ring can make its next edge. Of a Spur that drives its own region and lends to none, its gates not those of V1 and its debt not frozen: the debt changes by the decision for the Spur's demand, follow, cap, debt and right to repay, every lead estimate falls by that change, the decision's notice is sent, the slacks are kept for the next decision, and the tally moves on by one cycle. With the debt frozen by a native window the debt and the lead estimates are held and notice 5 is sent. In V1 the debt falls by 1 where 7 edges have passed since the last short cycle, with notice 5, and with the debt at 0 every lead estimate is 0. A Spur that drives no tree and tracks none sends notice 0. Before the ring can make an edge nothing changes. DROOP_CROSSING sets the level at which the detector stands, and no other detector's, to what the rail and the levels L1 to L3 ask: a rail below a level's threshold stands at that level or above, and one 0.5 % above every threshold at level 0. NOTICE_DELIVERY of the oldest notice of a Saddle that carries notices, once it is due, at ratio 1 and with no fault on the wires, changes the receiver's estimate toward the sender by the phases the code stands for; a code of 6 or 7 raises NOTICE_BAD and changes no estimate; before it is due nothing changes. -/
def Obligations.SpurEdgeAppliesTheDecision : Prop :=
  (∀ (s : State) (n : Fin 425) (slacks : List Int), s.edgeReady n = true → n.val < 400 → s.regionOf n = some n.val → s.lentTo n = none → (s.spur n).gates.v1 = false →
    (s.spur n).str.frozen = false → Runs (.spurEdge n slacks) s fun t =>
      let d := decide1 (s.demand n) (s.follow n (s.spur n).str.leads).toNat (if (s.spur n).str.cap2 then 2 else 3) (s.spur n).str.debt (s.repayAllowed n n)
      (t.spur n).str.debt = ((s.spur n).str.debt + d.change).toNat ∧ (t.spur n).str.notice = d.notice ∧
      (t.spur n).str.leads = (s.spur n).str.leads.map (fun _ v => v - d.change) ∧ (t.spur n).gen = (s.spur n).gen.tallyEdge ∧ (t.spur n).str.slacks = slacks) ∧
  (∀ (s : State) (n : Fin 425) (r : Nat) (slacks : List Int), s.edgeReady n = true → s.regionOf n = some r → (s.spur n).str.frozen = true →
    Runs (.spurEdge n slacks) s fun t => (t.spur n).str.debt = (s.spur n).str.debt ∧ (t.spur n).str.leads = (s.spur n).str.leads ∧ (t.spur n).str.notice = 5 ∧
      (t.spur n).gen = (s.spur n).gen.tallyEdge) ∧
  (∀ (s : State) (n : Fin 425) (r : Nat) (slacks : List Int), s.edgeReady n = true → s.regionOf n = some r → (s.spur n).str.frozen = false → (s.spur n).gates.v1 = true →
    Runs (.spurEdge n slacks) s fun t => (t.spur n).str.notice = 5 ∧ (t.spur n).gen = (s.spur n).gen.tallyEdge ∧
      ((s.spur n).str.debt = 0 → (t.spur n).str.debt = 0 ∧ (t.spur n).str.leads = ⟨0, 0, 0, 0⟩) ∧
      (0 < (s.spur n).str.debt → (t.spur n).str.debt = (if 7 ≤ (s.spur n).str.sinceShort then (s.spur n).str.debt - 1 else (s.spur n).str.debt))) ∧
  (∀ (s : State) (n : Fin 425) (slacks : List Int), s.edgeReady n = true → s.regionOf n = none → s.tracked n = none →
    Runs (.spurEdge n slacks) s fun t => (t.spur n).str.notice = 0 ∧ (t.spur n).str.debt = (s.spur n).str.debt ∧ (t.spur n).gen = (s.spur n).gen.tallyEdge) ∧
  (∀ (s : State) (n : Fin 425) (slacks : List Int), s.edgeReady n = false → exec (.spurEdge n slacks) s = .next s) ∧
  (∀ (s : State) (n : Fin 425) (q : Fin 4) (rail : Nat), q.val < (s.spur n).str.droop.length →
    Runs (.droopCrossing n q rail) s fun t =>
      let w := s.word (sprAddr n 0x60)
      nth (t.spur n).str.droop q = droopAfter (s.col (fieldOf n)).avs.inForce (fun k => w.bits (8 * k - 1) (8 * k - 8)) (nth (s.spur n).str.droop q) rail ∧
      ∀ p : Fin 4, p ≠ q → nth (t.spur n).str.droop p = nth (s.spur n).str.droop p) ∧
  (∀ (sp cur rail : Nat) (l : Nat → Nat), (∀ k ∈ [1, 2, 3], 400 * rail < 1000 * sp * (400 - l k) → k ≤ droopAfter sp l cur rail) ∧
    ((∀ k ∈ [1, 2, 3], 1000 * sp * (402 - l k) ≤ 400 * rail) → droopAfter sp l cur rail = 0)) ∧
  (∀ (s : State) (k : Fin 760) (hi : Bool) (w : Notice) (ws : List Notice), ((s.sad k).lane hi).flight = w :: ws → w.wait = 0 → s.notices k = true → w.ratio = 1 →
    let r := if hi then sadHigh k else sadLow k
    (s.spur r).gates.driver = .own →
    Runs (.noticeDelivery k hi 0) s fun t => (t.spur r).str.leads = (s.spur r).str.leads.mod (sadDir k r) (fun v => v + noticeAmount w.code.toNat) ∧
      ((t.sad k).lane hi).flight = ws ∧
      (6 ≤ w.code.toNat → (s.sad k).raisedNow = [] → Raises s t .noticeBad (Ev.sev .noticeBad) 3 k [])) ∧
  (∀ (s : State) (k : Fin 760) (hi : Bool) (flip : BitVec 3), (∀ w ∈ ((s.sad k).lane hi).flight, w.wait ≠ 0) → exec (.noticeDelivery k hi flip) s = .next s)

/-- TALLY_MARK at the edge after the last cycle of a Spur's tally mark, once the ridge count has reached the next one, raises the Spur's tally mark by 1 modulo 2^40 and sets the cycle to 0. No entry is left STAGED with that mark as its target; every ARMED entry not yet applied, and every applied one that no report has sent yet, stays as it was; and the count of expired entries grows by the number that expired, saturating at 255. Before that it changes nothing. At the first cycle of the tally mark that an ARMED entry targets, COMMIT puts the entry's FCODE, step, format class and ceiling in force; with F_old the FCODE in force before (not 0), the new debt is the least whole number not below d x F_new / F_old; a loop that is locked is in ACQUIRE with the code table's entry for the new FCODE as its code; the tally does not move; and at any other cycle, or with no such entry, nothing changes. -/
def Obligations.TallyMarksExpireAndCommitEntries : Prop :=
  (∀ (s : State) (n : Fin 425), s.markReady n = true → Runs (.tallyMark n) s fun t =>
    (t.spur n).gen.tallyMark = (s.spur n).gen.tallyMark + 1 ∧ (t.spur n).gen.tallyCyc = 0 ∧ (t.spur n).gen.wrap = false ∧
    (∀ e ∈ (t.spur n).gen.entries, ¬ (e.st = .staged ∧ e.target = (t.spur n).gen.tallyMark)) ∧
    (∀ e ∈ (s.spur n).gen.entries, e.st = .armed → e.applied = false ∨ e.reported = false → e ∈ (t.spur n).gen.entries) ∧
    (t.spur n).gen.expired = min 255 ((s.spur n).gen.expired +
      ((s.spur n).gen.entries.filter fun e => e.st == .staged && e.target == (s.spur n).gen.tallyMark + 1).length)) ∧
  (∀ (s : State) (n : Fin 425), (s.spur n).gen.wrap = false ∨ s.rdg.started = false → exec (.tallyMark n) s = .next s) ∧
  (∀ (s : State) (n : Fin 425) (e : Entry), s.testAway n = false → s.atCycle0 n = true →
    ((s.spur n).gen.entries.find? fun e => e.st == .armed && !e.applied && e.target == (s.spur n).gen.tallyMark) = some e → 0 < (s.spur n).gen.fcode →
    Runs (.commit n) s fun t => (t.spur n).gen.fcode = e.fcode ∧ (t.spur n).gen.step = e.step ∧ (t.spur n).gen.fmt = e.fmt ∧ (t.spur n).gen.ceil = e.ceil ∧
      (s.spur n).str.debt * e.fcode ≤ (t.spur n).str.debt * (s.spur n).gen.fcode ∧
      (t.spur n).str.debt * (s.spur n).gen.fcode < (s.spur n).str.debt * e.fcode + (s.spur n).gen.fcode ∧
      (t.spur n).gen.tallyMark = (s.spur n).gen.tallyMark ∧ (t.spur n).gen.tallyCyc = (s.spur n).gen.tallyCyc ∧
      ((s.spur n).gen.loop = .locked → (t.spur n).gen.loop = .acquire ∧ (t.spur n).gen.reacq = true ∧
        (t.spur n).gen.dcoCode = (s.spur n).cal.trims.codes.getD (e.fcode - 8) 0)) ∧
  (∀ (s : State) (n : Fin 425), s.atCycle0 n = false ∨
    ((s.spur n).gen.entries.find? fun e => e.st == .armed && !e.applied && e.target == (s.spur n).gen.tallyMark) = none → exec (.commit n) s = .next s)

/-- STAGE, at a Spur that takes the commands of the domain (of the domain's fields as the set leaves them, its Col's commander the instance that sends, and not under test) whose 8 entries are all EMPTY, with the target from 3 to 2^39 - 1 marks ahead of its tally, an FCODE from 8 to 96 and 8 x F_new at most 9 x F in force: the Spur holds the STAGED entry with the command's sequence number, target, group, FCODE, step, class and ceiling. With the target fewer than 3 marks ahead of its tally, its entries stay and STAGE_LATE (DEGRADED) is raised. ARM, where no Spur of the domain refuses: every STAGED entry of that number in the domain's Spurs is ARMED with its contents unchanged, and no other entry changes. CANCEL at a Spur of the domain with no ARMED entry of the number leaves no STAGED entry of it; at a Spur with one its entries stay and CANCEL_REFUSED (INFO) is raised. Of the Spurs whose Col's commander is the instance that sends, DISCARD leaves none a STAGED entry, and DISCARD_GROUP none a STAGED entry of that group, keeping those of other groups; it changes no entry of another field. All three leave every ARMED entry of every Spur as it was. -/
def Obligations.CommitEntriesAreStagedArmedAndDropped : Prop :=
  (∀ (s : State) (d : Fin 8) (c : StageCmd) (n : Fin 425), n.val ∈ s.spursOf d c.seq →
    (s.spur n).gen.entries = List.replicate 8 Entry.none → 3 ≤ Mark.dist c.target (s.spur n).gen.tallyMark → Mark.dist c.target (s.spur n).gen.tallyMark < 2 ^ 39 →
    8 ≤ c.fcode → c.fcode ≤ 96 → 8 * c.fcode ≤ 9 * (s.spur n).gen.fcode →
    Runs (.stage d c) s fun t => ∃ e ∈ (t.spur n).gen.entries, e.st = .staged ∧ e.seq = c.seq ∧ e.target = c.target ∧ e.group = c.group ∧
      e.fcode = c.fcode ∧ e.step = c.step ∧ e.fmt = c.fmt ∧ e.ceil = c.ceil) ∧
  (∀ (s : State) (d : Fin 8) (c : StageCmd) (n : Fin 425), n.val ∈ s.spursOf d c.seq →
    Mark.dist c.target (s.spur n).gen.tallyMark < 3 →
    Runs (.stage d c) s fun t => (t.spur n).gen.entries = (s.spur n).gen.entries ∧ Raises s t .stageLate .degraded 2 n []) ∧
  (∀ (s : State) (d : Fin 8) (q : Seq), (∀ n ∈ s.spursOf d q, (s.spur n).gen.armAnswer q ≠ some false) →
    Runs (.arm d q) s fun t => ∀ n : Fin 425, n.val ∈ s.spursOf d q → (s.spur n).gen.armAnswer q = some true →
      (t.spur n).gen.entries = (s.spur n).gen.entries.map fun e => if e.st = .staged ∧ e.seq = q then { e with st := .armed } else e) ∧
  (∀ (s : State) (d : Fin 8) (q : Seq) (n : Fin 425), n.val ∈ s.spursOf d q →
    ((s.spur n).gen.entries.any fun e => e.st == .armed && e.seq == q) = false →
    Runs (.cancel d q) s fun t => ∀ e ∈ (t.spur n).gen.entries, ¬ (e.st = .staged ∧ e.seq = q)) ∧
  (∀ (s : State) (d : Fin 8) (q : Seq) (n : Fin 425), n.val ∈ s.spursOf d q →
    ((s.spur n).gen.entries.any fun e => e.st == .armed && e.seq == q) = true →
    Runs (.cancel d q) s fun t => (t.spur n).gen.entries = (s.spur n).gen.entries ∧ Raises s t .cancelRefused .info 2 n []) ∧
  (∀ s : State, Runs .discard s fun t => ∀ n : Fin 425, (s.heeds (fieldOf n) = true → ∀ e ∈ (t.spur n).gen.entries, e.st ≠ .staged) ∧
    (s.heeds (fieldOf n) = false → (t.spur n).gen = (s.spur n).gen)) ∧
  (∀ (s : State) (g : Nat), Runs (.discardGroup g) s fun t => ∀ n : Fin 425,
    (s.heeds (fieldOf n) = true → ∀ e ∈ (t.spur n).gen.entries, ¬ (e.st = .staged ∧ e.group = g)) ∧ ∀ e ∈ (s.spur n).gen.entries, e.group ≠ g → e ∈ (t.spur n).gen.entries) ∧
  (∀ (s : State) (d : Fin 8) (q : Seq) (g : Nat) (c : Instr), c = .cancel d q ∨ c = .discard ∨ c = .discardGroup g →
    Runs c s fun t => ∀ n : Fin 425, ∀ e ∈ (s.spur n).gen.entries, e.st = .armed → e ∈ (t.spur n).gen.entries)

/-- With staging allowed, no set to restage, no drop due and fewer than 8 sets in the commit entries and fewer than 64 completions held, STAGE_SET at ridge tick 0 stages the first formed host set, from the mark after its last descriptor was processed: where its descriptors pass their checks, its target can be met, no native window covers it, it needs no raise series and lies within the horizon, the set is staged with its target unchanged, its descriptors' disposition is Staged, and a stage command for it has left for every domain in use. LAST_REEVALUATION at T-3 of a staged set with descriptors, tied to no group, whose contents change nothing in force, sends its cancel command and leaves it to complete at T+1. -/
def Obligations.FormedSetIsStagedAndReevaluated : Prop :=
  (∀ (s : State) (c : CommitSet), s.atMark = true → s.role.silent = false → s.role.resumeDue = false → s.faults.noStage = false → s.role.baseDue = false →
    (s.plan.sets.find? fun x => x.restage && x.staged && !x.armed && notAfter x.ready s.mark) = none →
    (s.plan.sets.find? fun x => !x.staged && !x.armed && !x.applied && !x.isNull) = some c → s.plan.find c.seq = some c → c.kind = .host →
    c.members ≠ [] → s.mayStage = true → notAfter c.ready s.mark = true → Mark.dist c.target s.mark ≤ (s.word 0x600).bits 23 16 →
    (s.contents c [] none).bad = [] → notAfter (s.floorFor c) c.target = true → s.windowOver c.target = none →
    needsSeries (s.viewFor c.seq c.target) (s.contents c [] none) = false →
    Runs .stageSet s fun t => (∃ x ∈ t.plan.sets, x.seq = c.seq ∧ x.staged = true ∧ x.target = c.target) ∧
      (∀ e ∈ t.plan.buf, e.idx ∈ c.members → e.stage = .staged) ∧
      ∀ d ∈ (s.contents c [] none).fb.used, ∃ k, Message.lane (.stage d k) ∈ t.out ∧ k.seq = c.seq ∧ k.target = c.target) ∧
  (∀ (s : State) (c : CommitSet), s.setAhead 3 = some c → s.plan.find c.seq = some c → c.kind = .host → c.restage = false → c.members ≠ [] → c.slots = [] →
    (s.contents c [] (some c.result.base)).bad = [] →
    s.nullSet (s.viewFor c.seq c.target) (s.fencesFor c.seq c.target) (s.contents c [] (some c.result.base)) = true →
    Runs .lastReevaluation s fun t => Message.lane (.cancel c.seq) ∈ t.out ∧ ∃ x ∈ t.plan.sets, x.seq = c.seq ∧ x.isNull = true ∧ x.staged = false)

/-- At T-2 of a staged set with no unresolved group, outside every native window, each raised field acknowledged: ARM_DECISION sends its arm command, marks it armed and adds it to the mirror record of the mark, and changes nothing else. With an acknowledgement missing and fewer than 16 deferrals, the set is not armed, and CHANGE_DEFERRED (INFO) with bits [15:0] of its number as index is raised at its first deferral. With 16 deferrals, VOLT_LATE (DEGRADED) is raised with the first such field as source, each of its descriptors completes with VOLT_LATE at the present mark, and, where no set of another series is staged, no unarmed, unapplied set of its series is left. ARM_REFUSED_ALL at T-1 of a set that no Spur holds ARMED counts a refused arm, and the set is armed no longer. -/
def Obligations.AllowedSetIsArmedAndOthersWait : Prop :=
  (∀ (s : State) (c : CommitSet), s.setAhead 2 = some c → c.slots = [] → s.plan.find c.headSeq = some c → s.faults.noStage = false → s.windowOver c.target = none →
    s.unacked c = [] → Runs .armDecision s fun t => t = { s with plan := t.plan, role := t.role, out := s.out ++ [.lane (.arm c.seq)] } ∧
      t.plan = { s.plan with sets := s.plan.sets.map fun (x : CommitSet) => if x.seq = c.seq then { x with armed := true } else x } ∧
      t.role = { s.role with mirrorNext := t.role.mirrorNext } ∧ ∀ m ∈ t.role.mirrorNext, m.mark = s.mark → ∃ x ∈ m.armed, x.seq = c.seq ∧ x.armed = true) ∧
  (∀ (s : State) (c : CommitSet) (f : Nat) (fs : List Nat), s.setAhead 2 = some c → c.slots = [] → s.plan.find c.headSeq = some c → s.faults.noStage = false →
    s.windowOver c.target = none → s.unacked c = f :: fs → c.defers < 16 → c.deferRaised = false → (∀ x ∈ s.plan.sets, x.seq = c.seq → x = c) →
    Runs .armDecision s fun t => Raises s t .changeDeferred .info 0 (c.seq.toNat % 65536) [] ∧ ∀ x ∈ t.plan.sets, x.seq = c.seq → x.armed = false) ∧
  (∀ (s : State) (c : CommitSet) (f : Nat) (fs : List Nat), s.setAhead 2 = some c → c.slots = [] → s.plan.find c.headSeq = some c → s.faults.noStage = false →
    s.windowOver c.target = none → s.unacked c = f :: fs → 16 ≤ c.defers →
    Runs .armDecision s fun t => Raises s t .voltLate .degraded 1 f [] ∧
      (∀ e ∈ c.members.filterMap s.plan.entry, ∃ q ∈ t.hri.cmplQ, q.seq = e.seq ∧ q.ty = e.ty ∧ q.status = .voltLate ∧ q.mark = s.mark) ∧
      ((∀ x ∈ s.plan.sets, x.staged = true → x.inSeries c.headSeq = true) → ∀ x ∈ t.plan.sets, x.inSeries c.headSeq = true → x.armed = true ∨ x.applied = true)) ∧
  (∀ (s : State) (c : CommitSet), (s.plan.sets.find? fun x => !s.role.silent && s.atMark && x.armed && !x.applied && x.target == s.mark + 1 && s.armedNowhere x.seq) = some c →
    Runs .armRefusedAll s fun t => ∀ x ∈ t.plan.sets, x.seq = c.seq → x.armed = false)

/-- For the first set that is applied and reported by all 25 fields, or cancelled as null with its target passed, while a Summit instance is active and has taken up the buffer: each buffered descriptor of the set gets a completion that carries its sequence number, type and NOTIFY flag and the set's target mark, and no set of that number is left. With no such set nothing changes. -/
def Obligations.AppliedSetCompletesItsDescriptors : Prop :=
  (∀ (s : State) (c : CommitSet),
    (s.plan.sets.find? fun c => !s.role.silent && !s.role.resumeDue && ((c.applied && (List.range 25).all fun f => c.reported.contains f) || (c.isNull && Mark.passed c.target s.mark))) = some c →
    Runs .setAppliedReport s fun t => t.plan.find c.seq = none ∧
      ∀ e ∈ c.members.filterMap s.plan.entry, ∃ k ∈ t.hri.cmplQ, k.seq = e.seq ∧ k.ty = e.ty ∧ k.mark = c.target ∧ k.notify = e.flag 2) ∧
  (∀ s : State,
    (s.plan.sets.find? fun c => !s.role.silent && !s.role.resumeDue && ((c.applied && (List.range 25).all fun f => c.reported.contains f) || (c.isNull && Mark.passed c.target s.mark))) = none →
    exec .setAppliedReport s = .next s)

/-- BULK_WORD of a word launched at cycle c across a Saddle that carries its lanes. Inner: taken at receiver cycle c + 1 (by bit 0), the sampling point (capture phase and difference of the edges) inside 1.5 to 14.5 phases, the word itself is presented and only the Saddle changes; otherwise nothing valid is presented, TAG_ERR rises by 1 and WINDOW_EXCEEDED (DEGRADED) is raised, at most once per mark (that a point outside the range meets a wrong tag is the model's choice, notes/assumptions/75.md). Seam at ratio 1, the sides in one mode with no change at hand, the edges no more than 15 phases apart: taken at cycle c + 2 (by bits [1:0]) the word itself is presented, and only the Saddle changes. Seam in ratio mode: toward the faster side the word is presented at a coincident edge; off a coincident edge of the faster sender it is not presented, DROPPED rises by 1, and RATIO_DROP is raised at most once per mark. The same while the two sides work in different modes. A Saddle that does not carry its lanes presents nothing valid. No other Saddle changes. -/
def Obligations.BulkWordsAreCapturedByTheirTags : Prop :=
  (∀ (s : State) (k : Fin 760) (h : Bool) (c rc : Nat) (w : Word), s.carries k = true → sadSeam k = false → c % 2 = (rc + 1) % 2 →
    24 ≤ 4 * ((if h then (s.sad k).capHi else (s.sad k).capLo : Nat) : Int) + s.edgeDiff k h → 4 * ((if h then (s.sad k).capHi else (s.sad k).capLo : Nat) : Int) + s.edgeDiff k h ≤ 232 →
    Runs (.bulkWord k h c rc w) s fun t => ((t.sad k).lane h).out = some w ∧ t = { s with saddles := t.saddles } ∧ ∀ j : Fin 760, j ≠ k → t.sad j = s.sad j) ∧
  (∀ (s : State) (k : Fin 760) (h : Bool) (c rc : Nat) (w : Word), s.carries k = true → sadSeam k = false →
    c % 2 ≠ (rc + 1) % 2 ∨ 4 * ((if h then (s.sad k).capHi else (s.sad k).capLo : Nat) : Int) + s.edgeDiff k h < 24 ∨
      232 < 4 * ((if h then (s.sad k).capHi else (s.sad k).capLo : Nat) : Int) + s.edgeDiff k h →
    Runs (.bulkWord k h c rc w) s fun t => ((t.sad k).lane h).out = none ∧ (t.sad k).tagErr = (s.sad k).tagErr + 1 ∧ (t.sad k).lastErr = some s.mark ∧
      ((s.sad k).raisedNow.contains .windowExceeded = false → Raises s t .windowExceeded .degraded 3 k []) ∧ ∀ j : Fin 760, j ≠ k → t.sad j = s.sad j) ∧
  (∀ (s : State) (k : Fin 760) (h : Bool) (c rc : Nat) (w : Word),
    let g := (s.spur ((s.clockedBy (if h then sadLow k else sadHigh k)).getD 0)).gen
    s.carries k = true → sadSeam k = true → (s.sad k).ratio = 1 → (s.sad k).modeOf true = (s.sad k).modeOf false →
    s.modeEdge k true g c c = false → s.modeEdge k false g c c = false → ((s.sad k).lane h).entries.length = 2 → rc % 4 = (c + 2) % 4 →
    -240 ≤ s.edgeDiff k h → s.edgeDiff k h ≤ 240 →
    Runs (.bulkWord k h c rc w) s fun t => ((t.sad k).lane h).out = some w ∧ t = { s with saddles := t.saddles } ∧ ∀ j : Fin 760, j ≠ k → t.sad j = s.sad j) ∧
  (∀ (s : State) (k : Fin 760) (h : Bool) (c rc : Nat) (w : Word),
    let g := (s.spur ((s.clockedBy (if h then sadLow k else sadHigh k)).getD 0)).gen
    s.carries k = true → sadSeam k = true → (s.sad k).fastOf h = true → (s.sad k).modeOf true = (s.sad k).modeOf false →
    s.modeEdge k true g c c = false → s.modeEdge k false g c c = false → ((s.sad k).lane h).entries.length = 2 → rc % (s.sad k).ratio = 0 →
    (rc / (s.sad k).ratio) % 4 = (c + 2) % 4 → -240 ≤ s.edgeDiff k h → s.edgeDiff k h ≤ 240 →
    Runs (.bulkWord k h c rc w) s fun t => ((t.sad k).lane h).out = some w ∧ t = { s with saddles := t.saddles }) ∧
  (∀ (s : State) (k : Fin 760) (h : Bool) (c rc : Nat) (w : Word), s.carries k = true → sadSeam k = true →
    (s.sad k).modeOf true ≠ (s.sad k).modeOf false ∨ (s.sad k).fastOf (!h) = true ∧ c % (s.sad k).ratio ≠ 0 →
    Runs (.bulkWord k h c rc w) s fun t => ((t.sad k).lane h).out = none ∧ (t.sad k).dropped = (s.sad k).dropped + 1 ∧
      ((s.sad k).raisedNow.contains .ratioDrop = false → Raises s t .ratioDrop .degraded 3 k [])) ∧
  (∀ (s : State) (k : Fin 760) (h : Bool) (c rc : Nat) (w : Word), s.carries k = false →
    Runs (.bulkWord k h c rc w) s fun t => ((t.sad k).lane h).out = none ∧ t = { s with saddles := t.saddles } ∧ ∀ j : Fin 760, j ≠ k → t.sad j = s.sad j)

/-- SADDLE_MEASURE of m within 32 phases, a measurement due (the slower side's cycles 8, 24 and so on), on a usable Saddle with both regions clocked, outside native windows. Not at cycle 8, with |m - r| of at most 6.5 phases or on a seam, only the Saddle's peak, its shortest interval and the number of the measurement change. On an inner Saddle with |m - r| above 6.5 phases WINDOW_EXCEEDED (DEGRADED) is raised, at most once per mark. At cycle 8, with both regions driven by their own Spurs, neither lent, and e = m - D - r for the lower Spur's estimate D as it stood at cycle 8: r and its kept remainder move by e/16 where |e| is at most 1 phase and HOLD_TRACK is 0, and else stay; DIFF is m; and each Spur's estimate is m - r, with the sign of its side, in its own phases, rounded to the nearest whole phase, adjusted for the notices and own edges after cycle 8. With no measurement of that number due nothing changes. SADDLE_DISABLE of 1, where its window answers and the field is not locked, sets DISABLE and makes the Saddle unusable from the next mark; in DEPLOYED it raises CFG_LOCKED and changes nothing else. -/
def Obligations.SaddleMeasuresTracksAndResynchronises : Prop :=
  (∀ (s : State) (k : Fin 760) (m : Int) (v : Nat) (p : Mark × Nat), -512 ≤ m → m ≤ 512 → s.measureDue k = some p → p.2 ≠ 0 → (s.sad k).usable = true → s.cal.cur = none →
    s.clocked (sadLow k) = true → s.clocked (sadHigh k) = true → sadSeam k = true ∨ (m - (s.sad k).rbar).natAbs ≤ 104 →
    exec (.saddleMeasure k m p.2 v) s = .next (s.modSad k fun x => { x with
      meas := some p, peakNow := max x.peakNow (m - (s.sad k).rbar).natAbs, minNow := if sadSeam k then min x.minNow (min 255 v) else x.minNow })) ∧
  (∀ (s : State) (k : Fin 760) (m : Int) (v : Nat) (p : Mark × Nat), -512 ≤ m → m ≤ 512 → s.measureDue k = some p → (s.sad k).usable = true → s.cal.cur = none →
    s.clocked (sadLow k) = true → s.clocked (sadHigh k) = true → sadSeam k = false → 104 < (m - (s.sad k).rbar).natAbs → (s.sad k).raisedNow.contains .windowExceeded = false →
    Runs (.saddleMeasure k m p.2 v) s fun t => (t.sad k).lastErr = some s.mark ∧ Raises s t .windowExceeded .degraded 3 k []) ∧
  (∀ (s : State) (k : Fin 760) (m : Int) (v : Nat) (p : Mark), -512 ≤ m → m ≤ 512 → s.measureDue k = some (p, 0) → (s.sad k).usable = true → s.cal.cur = none →
    s.clocked (sadLow k) = true → s.clocked (sadHigh k) = true →
    (s.spur (sadLow k)).gates.driver = .own → (s.spur (sadHigh k)).gates.driver = .own → s.lentTo (sadLow k) = none → s.lentTo (sadHigh k) = none →
    Runs (.saddleMeasure k m 0 v) s fun t =>
      let x := s.sad k
      let y := t.sad k
      let e := m - 16 * ((s.spur (sadLow k)).str.leads.get (sadDir k (sadLow k)) - x.toLo.since8) / (x.factor false : Int) - x.rbar
      y.diff = m ∧ (x.holdTrack = false → -16 ≤ e → e ≤ 16 → 16 * y.rbar + y.rfrac = 16 * x.rbar + x.rfrac + e) ∧
      (x.holdTrack = true ∨ e < -16 ∨ 16 < e → y.rbar = x.rbar) ∧
      (t.spur (sadLow k)).str.leads.get (sadDir k (sadLow k)) = roundDiv ((m - y.rbar) * x.factor false) 16 + x.toLo.since8 ∧
      (t.spur (sadHigh k)).str.leads.get (sadDir k (sadHigh k)) = roundDiv (-(m - y.rbar) * x.factor true) 16 + x.toHi.since8) ∧
  (∀ (s : State) (k : Fin 760) (m : Int) (i v : Nat), (s.measureDue k).all (fun p => p.2 != i) = true → exec (.saddleMeasure k m i v) s = .next s) ∧
  (∀ (s : State) (k : Fin 760), s.answers (sadAddr k 0) = true → s.locked = false →
    exec (.saddleDisable k true) s = .next (s.modSad k fun x => { x with disable := true, disableNext := true, enableNext := false })) ∧
  (∀ (s : State) (k : Fin 760), s.answers (sadAddr k 0) = true → s.locked = true →
    exec (.saddleDisable k true) s = .next (s.raise .cfgLocked 3 k (le 4 (sadAddr k 0) ++ le 4 1)))

/-- For an announcement of class c from 1 to 3 in a region whose Spur samples INTENT, with A the hold class before it (0 where its timer has run out), the first announcement at its edge: the hold class is the larger of A and c, the hold timer is SPR_INTCFG.HOLD, and ANNOUNCED counts it. With c above A and SPR_INTCFG.EN at 1 a window opens and is counted: 2c + 3 edges are left; of the next 5 edges those of an older window stay, and of the later ones exactly the sixth to the (2c + 8)th ask for a stretch. With c at most A no window opens and IGNORED counts it; with c above A and EN at 0 neither happens. Only Spurs change. Class 0, and a region whose Spur does not sample INTENT or has sampled it at this edge already, change nothing. HOLD_EXPIRY with the timer run out sets the hold class to 0 and changes nothing else. -/
def Obligations.IntentOpensAPreStretchWindowAboveTheHoldClass : Prop :=
  (∀ (s : State) (r : Fin 400) (c : Fin 4), c.val ≠ 0 → s.listens r = true → (s.spur (s.driverSpur r)).wl.heard = false →
    Runs (.intentAnnounce r c) s fun t =>
    let x := (s.spur (s.driverSpur r)).wl
    let A := if x.holdLeft = 0 then 0 else x.hold
    let y := (t.spur (s.driverSpur r)).wl
    let cfg := s.word (sprAddr (s.driverSpur r) 0x80)
    t = { s with spurs := t.spurs } ∧ y.hold = max A c ∧ y.holdLeft = cfg.bits 9 0 ∧ y.announced = x.announced + 1 ∧
    (A < c.val → cfg.bit 12 = true → y.windows = x.windows + 1 ∧ y.ignored = x.ignored ∧ y.preLeft = 2 * c.val + 3 ∧
      ∀ j < 16, y.preMask.getLsbD j = if j < 5 then x.preMask.getLsbD j else decide (j < 2 * c.val + 8)) ∧
    (c.val ≤ A → y.windows = x.windows ∧ y.ignored = x.ignored + 1 ∧ y.preMask = x.preMask ∧ y.preLeft = x.preLeft) ∧
    (A < c.val → cfg.bit 12 = false → y.windows = x.windows ∧ y.ignored = x.ignored ∧ y.preMask = x.preMask ∧ y.preLeft = x.preLeft)) ∧
  (∀ (s : State) (r : Fin 400) (c : Fin 4), c.val = 0 ∨ s.listens r = false ∨ (s.spur (s.driverSpur r)).wl.heard = true → exec (.intentAnnounce r c) s = .next s) ∧
  (∀ (s : State) (n : Fin 425), (s.spur n).wl.holdLeft = 0 →
    exec (.holdExpiry n) s = .next (s.modSpur n fun x => { x with wl := { x.wl with hold := 0 } }))

/-- CHECKSUM_FRAME in a region whose Spur samples the line, with no frame in progress: 64 edges of the checksum window are left, and the frame's five other bits are sampled at the next five edges; nothing else changes. Of a Spur that drives its own region and lends to none, in normal running, at the edge of a frame's parity bit: TOTAL and the mark's count rise by 1; the window count too, where it stays below RATE; a frame whose array, kind and parity bit hold an odd number of ones counts for its array (saturating at 15) and no other; one with bad parity, the first of its mark, raises CHK_FRAME_BAD (DEGRADED). At the frame that brings the count to RATE, CHK_RATE is raised, the count restarts, and SRC_CHK, clear until then, is the FCODE one step below the step in force, not below SAFE (at SAFE, with severity DEGRADED). CHK_HOLD_EXPIRY at a mark, 2^(HOLD + 10) marks after the last CHK_RATE, clears SRC_CHK. RATE_WINDOW_END at the tally mark at which a window ends, where the counts name one array alone with CAND mismatches and no bad parity, raises SPARE_CANDIDATE (INFO) for it, and the counts are 0. -/
def Obligations.ChecksumFramesStretchCountAndLimit : Prop :=
  (∀ (s : State) (r : Fin 400) (a : Fin 8) (col p : Bool), s.listens r = true → (s.spur (s.driverSpur r)).wl.frame = none →
    exec (.checksumFrame r a col p) s = .next (s.modSpur (s.driverSpur r) fun x => { x with wl := { x.wl with
      chkLeft := 64, frame := some (BitVec.ofNat 5 (a + 8 * col.toNat + 16 * p.toNat), 5) } })) ∧
  (∀ (s : State) (n : Fin 425) (slacks : List Int) (b : BitVec 5), s.edgeReady n = true → n.val < 400 → s.regionOf n = some n.val → s.lentTo n = none →
    (s.spur n).gates.v1 = false → (s.spur n).str.frozen = false → (s.spur n).wl.frame = some (b, 1) →
    (s.spur n).wl.winCount + 1 < (s.word (sprAddr n 0xA0)).bits 19 16 → Runs (.spurEdge n slacks) s fun t =>
    let x := (s.spur n).wl
    let y := (t.spur n).wl
    y.frame = none ∧ y.chkLeft = x.chkLeft - 1 ∧ y.chkTotal = x.chkTotal + 1 ∧ y.winCount = x.winCount + 1 ∧ y.markMis = x.markMis + 1 ∧
    (parityOk b = true → ∀ a < x.arrays.length, nth y.arrays a = if a = b.toNat % 8 then min 15 (nth x.arrays a + 1) else nth x.arrays a) ∧
    (parityOk b = false → y.arrays = x.arrays ∧ (x.markBad = false → Raises s t .chkFrameBad .degraded 2 n []))) ∧
  (∀ (s : State) (n : Fin 425) (slacks : List Int) (b : BitVec 5), s.edgeReady n = true → n.val < 400 → s.regionOf n = some n.val → s.lentTo n = none →
    (s.spur n).gates.v1 = false → (s.spur n).str.frozen = false → (s.spur n).wl.frame = some (b, 1) → (s.spur n).lim.chk = none →
    (s.word (sprAddr n 0xA0)).bits 19 16 ≤ (s.spur n).wl.winCount + 1 → Runs (.spurEdge n slacks) s fun t =>
    let d := s.fab.dom (s.domOfSpur n)
    (t.spur n).lim.chk = some (d.fcode (max d.safe (d.step - 1))) ∧ (t.spur n).wl.winCount = 0 ∧
    Raises s t .chkRate (if d.step ≤ d.safe then .degraded else .corrected) 2 n []) ∧
  (∀ (s : State) (n : Fin 425) (v : Nat), s.atMark = true → s.role.silent = false → (s.spur n).lim.chk = some v →
    2 ^ ((s.word (sprAddr n 0xA0)).bits 3 0 + 10) ≤ s.since (s.spur n).wl.lastRate →
    Runs (.chkHoldExpiry n) s fun t => (t.spur n).lim.chk = none ∧ ∀ m : Fin 425, m ≠ n → t.spur m = s.spur m) ∧
  (∀ (s : State) (n : Fin 425) (a : Nat), s.atCycle0 n = true → (s.spur n).wl.winAt ≠ (s.spur n).gen.tallyMark →
    (s.spur n).gen.tallyMark.toNat % rateMarks (s.word (sprAddr n 0xA0)) = 0 →
    (s.spur n).wl.candidate ((s.word (sprAddr n 0xA0)).bits 11 8) = some a → Runs (.rateWindowEnd n) s fun t =>
      Raises s t .spareCandidate .info 2 n (le 1 a ++ le 1 (nth (s.spur n).wl.rows a) ++ le 1 (nth (s.spur n).wl.cols a)) ∧
      (t.spur n).wl.arrays = List.replicate 8 0 ∧ (t.spur n).wl.winCount = 0)

/-- With a Summit instance active, SPARING_NOTICE of a compute region, an array from 0 to 7, a kind and a spare from 0 to 1 is recorded in SUM_SPARELOG, raises SPARE_CHANGED (CORRECTED), and sets SRC_SPARE, where it is clear, to the FCODE of its domain's NOMINAL step; any other notice raises SPARE_NOTE_BAD (DEGRADED) and changes nothing else. GRADE_COMPUTE after the last report slot of a mark, once: each region's grade is 7 less pT, pP and pD, not below 0; at most 3 with a limit source set; 0 where it is fenced, borrowed or dark. CEILING_WRITE to the window of a Spur that drives its own region: each class from 8 to 96, in DEPLOYED not above its guard-rated ceiling, is the shadow's from then on, which the base takes into account from the next mark; in DEPLOYED a class above its guard-rated ceiling keeps its shadow, and CFG_LOCKED is raised. -/
def Obligations.SparingNoticesGradesAndCeilings : Prop :=
  (∀ (s : State) (r : Fin 400) (a k sp : Nat), s.role.silent = false → portKind r = 0 → a < 8 → k < 2 → sp < 2 → Runs (.sparingNotice r a k sp) s fun t =>
    t.role.spareLog = some (r.val, a, k, sp) ∧ Raises s t .spareChanged .corrected 2 (s.driverSpur r) [] ∧
    ((s.spur (s.driverSpur r)).lim.spare = none → (t.spur (s.driverSpur r)).lim.spare =
      some ((s.fab.dom (s.domOfSpur (s.driverSpur r))).fcode (s.fab.dom (s.domOfSpur (s.driverSpur r))).nominal))) ∧
  (∀ (s : State) (r a k sp : Nat), s.role.silent = false → 400 ≤ r ∨ portKind r ≠ 0 ∨ 8 ≤ a ∨ 2 ≤ k ∨ 2 ≤ sp →
    exec (.sparingNotice r a k sp) s = .next (s.raise .spareNoteBad 0 s.summitIdx [])) ∧
  (∀ s : State, s.rdg.started = true → s.role.silent = false → 250 ≤ s.tick → s.role.gradeAt ≠ some s.mark → Runs .gradeCompute s fun t => ∀ r : Fin 400,
    let p := s.gradeTerms r
    nth t.role.grades r = if s.noKernel r then 0 else if s.limited r then min 3 (7 - p.1 - p.2.1 - p.2.2) else 7 - p.1 - p.2.1 - p.2.2) ∧
  (∀ (s : State) (n : Fin 425) (hi : Bool) (v : Word), s.answers (sprAddr n 0x90) = true → s.locked = true → (s.spur n).gates.driver = .own →
    Runs (.ceilingWrite n hi v) s fun t => ∀ p ∈ ceilClasses n hi v, nth (s.spur n).cal.guards p.1 < p.2 →
      (t.shadowed (sprAddr n (if hi then 0x94 else 0x90))).bits (8 * (p.1 % 4) + 6) (8 * (p.1 % 4)) =
        (s.shadowed (sprAddr n (if hi then 0x94 else 0x90))).bits (8 * (p.1 % 4) + 6) (8 * (p.1 % 4)) ∧
      (8 ≤ p.2 → p.2 ≤ 96 → Raises s t .cfgLocked .info 2 n (le 4 (sprAddr n (if hi then 0x94 else 0x90)) ++ le 4 v.toNat))) ∧
  (∀ (s : State) (n : Fin 425) (hi : Bool) (v : Word), s.answers (sprAddr n 0x90) = true → (s.spur n).gates.driver = .own →
    Runs (.ceilingWrite n hi v) s fun t => ∀ p ∈ ceilClasses n hi v, 8 ≤ p.2 → p.2 ≤ 96 → s.locked = false ∨ p.2 ≤ nth (s.spur n).cal.guards p.1 →
      (t.shadowed (sprAddr n (if hi then 0x94 else 0x90))).bits (8 * (p.1 % 4) + 6) (8 * (p.1 % 4)) = p.2 ∧ (t.spur n).cal.ceilAt = some s.mark)

/-- At a read of the control block, PLAN_PROD must lie from its previous value to PLAN_CONS + N inclusive, CMPL_CONS from its previous value to CMPL_PROD and EVT_CONS from its previous value to EVT_PROD, all modulo 2^32. Each word that passes takes effect; each that fails keeps its previous value and raises DOORBELL_BAD (DEGRADED) with the value read, the previous value and the word's number, whatever the others do. -/
def Obligations.ControlBlockWordsAreChecked : Prop :=
  ∀ (s : State) (p c e : Word), s.hri.reading = true → Runs (.controlBlockRead p c e) s fun t =>
    let okP := (p - s.hri.planProd).toNat ≤ (s.hri.planCons + BitVec.ofNat 32 s.planN - s.hri.planProd).toNat
    let okC := (c - s.hri.cmplCons).toNat ≤ (s.hri.cmplProd - s.hri.cmplCons).toNat
    let okE := (e - s.hri.evtCons).toNat ≤ (s.hri.evtProd - s.hri.evtCons).toNat
    (okP → t.hri.planProd = p) ∧ (¬ okP → t.hri.planProd = s.hri.planProd ∧ Raises s t .doorbellBad .degraded 10 3 (le 4 p.toNat ++ le 4 s.hri.planProd.toNat ++ le 1 0)) ∧
    (okC → t.hri.cmplCons = c) ∧ (¬ okC → t.hri.cmplCons = s.hri.cmplCons ∧ Raises s t .doorbellBad .degraded 10 3 (le 4 c.toNat ++ le 4 s.hri.cmplCons.toNat ++ le 1 1)) ∧
    (okE → t.hri.evtCons = e) ∧ (¬ okE → t.hri.evtCons = s.hri.evtCons ∧ Raises s t .doorbellBad .degraded 10 3 (le 4 e.toNat ++ le 4 s.hri.evtCons.toNat ++ le 1 2)) ∧
    (okP → okC → okE → t.raised = s.raised)

/-- With the rings enabled and not stopped and no read in flight, a write to HRI_NUDGE (where its window answers) and the poll period start a read of 12 bytes at the control block's address; a nudge while a read is in flight causes one further read. DESCRIPTOR_FETCH, where R314 allows it, puts the descriptor in the fetch buffer behind the others with PLAN_CONS as ring index, reads it as one read of the agreed size at its slot, advances PLAN_CONS by 1 and writes it to the control block; where it is not allowed, nothing changes. -/
def Obligations.NudgePollAndFetch : Prop :=
  (∀ (s : State) (c : Instr), (c = .nudge ∧ s.answers 0xD000C = true) ∨ c = .poll → s.ringsOn = true → s.hri.stopped = false → s.hri.reading = false →
    exec c s = .next (({ s with hri := { s.hri with reading := true } } : State).send (.hostRead (s.hriAddr 0x20) 12))) ∧
  (∀ s : State, s.answers 0xD000C = true → s.ringsOn = true → s.hri.stopped = false → s.hri.reading = true →
    exec .nudge s = .next { s with hri := { s.hri with readAgain := true } }) ∧
  (∀ (s : State) (bytes : List Byte), s.canFetch = true → bytes.length = s.descSize → Runs (.descriptorFetch bytes) s fun t =>
    t.plan.buf = s.plan.buf ++ [{ idx := s.hri.planCons.toNat, bytes := bytes, stage := .fetched, set := none, late := false, slot := none }] ∧
    t.hri.planCons = s.hri.planCons + 1 ∧
    t.out = s.out ++ [.hostRead (s.hriAddr 0x28 + s.hri.planCons.toNat % s.planN * s.descSize) s.descSize,
      .hostWrite (s.hriAddr 0x20 + 16) (le 4 (s.hri.planCons + 1).toNat)]) ∧
  (∀ (s : State) (bytes : List Byte), s.canFetch = false → exec (.descriptorFetch bytes) s = .next s)

/-- COMPLETION_WRITE of the oldest completion, not held back by the perturbation unit and with room in the completion ring, writes its 16 bytes with the PHASE of its index at the ring slot, advances CMPL_PROD by 1, takes it from the queue, and no done buffer entry of its ring index is left; with the ring full it stays first in the queue, and CMPL_FULL (DEGRADED) is raised where no episode is open. EVENT_RECORD of the oldest raised event updates the event summary; with the rings on, the severity at least MINSEV and room in the event ring, its 32 bytes are written with PHASE and LOST at the ring slot and EVT_PROD advances by 1; with no room it is dropped, EVT_LOST counts it, and its word of the control block is written. -/
def Obligations.CompletionsAndEventsAreWritten : Prop :=
  (∀ (s : State) (c : Completion) (q : List Completion), s.hri.cmplQ = c :: q → s.onHold c = false → s.cmplFull = false → Runs .completionWrite s fun t =>
    t.hri.cmplQ = q ∧ t.hri.cmplProd = s.hri.cmplProd + 1 ∧
    Message.hostWrite (s.hriAddr 0x30 + s.hri.cmplProd.toNat % s.cmplN * 16) (c.bytes (if s.hri.cmplProd.toNat / s.cmplN % 2 = 0 then 1 else 0)) ∈ t.out ∧
    ∀ e ∈ t.plan.buf, ¬ (e.idx = c.ringIdx ∧ e.stage = .done)) ∧
  (∀ (s : State) (c : Completion) (q : List Completion), s.hri.cmplQ = c :: q → s.onHold c = false → s.cmplFull = true → s.hri.fullOpen = false →
    Runs .completionWrite s fun t => t.hri.cmplQ = c :: q ∧ t.hri.cmplProd = s.hri.cmplProd ∧ t.hri.held = min 64 (q.length + 1) ∧
      RaisedLast s t .cmplFull .degraded 10 1 (le 2 (min 64 (q.length + 1)))) ∧
  (∀ (s : State) (e : EventRec) (r : List EventRec), s.raised = e :: r → s.ringsOn = true → (s.word 0xD004C).bits 1 0 ≤ e.sev.code →
    (s.hri.evtProd - s.hri.evtCons).toNat < s.evtN → Runs .eventRecord s fun t => t.hri.evtProd = s.hri.evtProd + 1 ∧
    Message.hostWrite (s.hriAddr 0x38 + s.hri.evtProd.toNat % s.evtN * 32)
      (e.bytes (if s.hri.evtProd.toNat / s.evtN % 2 = 0 then 1 else 0) s.hri.lostFlag) ∈ t.out ∧ t.hri.lostFlag = false) ∧
  (∀ (s : State) (e : EventRec) (r : List EventRec), s.raised = e :: r → s.ringsOn = true → (s.word 0xD004C).bits 1 0 ≤ e.sev.code →
    s.evtN ≤ (s.hri.evtProd - s.hri.evtCons).toNat → Runs .eventRecord s fun t => t.hri.evtProd = s.hri.evtProd ∧
    t.hri.evtLost = min 0xFFFFFFFF (s.hri.evtLost + 1) ∧ t.hri.lostFlag = true ∧ Message.hostWrite (s.hriAddr 0x20 + 28) (le 4 t.hri.evtLost) ∈ t.out)

/-- RING_ENABLE, where its window answers, with the rings off and idle and every base address nonzero, sets ENABLE, clears BASIC, sets every index to 0, the expected number to HRI_SEQ_START and the agreed version to the lower of HOST_MAX and 2. While the disable actions still run it is ignored with CFG_BUSY. RING_DISABLE of enabled rings clears ENABLE, starts the disable, and leaves no commit set that is neither armed nor applied. RING_DISABLE_DONE with no host set, no other set with a descriptor and no completion left sets IDLE and writes the final indices. HOST_READ_ERR sets STOPPED and raises HOST_READ_ERR with the address; of the table's read, HRI_STAT.BDT reads 3 as well. Words are taken in canonical form. -/
def Obligations.RingsAreEnabledAndDisabled : Prop :=
  (∀ s : State, WordsOk s → s.answers 0xD0000 = true → s.ringsOn = false → s.hri.idle = true → s.hriAddr 0x20 ≠ 0 → s.hriAddr 0x28 ≠ 0 → s.hriAddr 0x30 ≠ 0 →
    s.hriAddr 0x38 ≠ 0 → Runs .ringEnable s fun t => t.ringsOn = true ∧ t.basicBit = false ∧ t.hri.planProd = 0 ∧ t.hri.planCons = 0 ∧ t.hri.cmplProd = 0 ∧
      t.hri.cmplCons = 0 ∧ t.hri.evtProd = 0 ∧ t.hri.evtCons = 0 ∧ t.plan.nextSeq = (s.word 0xD0018).bits 30 0 ∧ t.hri.agreed = min 2 ((s.word 0xD0008).bits 3 0)) ∧
  (∀ s : State, s.answers 0xD0000 = true → s.ringsOn = false → s.hri.idle = false →
    exec .ringEnable s = .next (s.raise .cfgBusy 10 0xFFFF (le 4 0xD0000 ++ le 4 1))) ∧
  (∀ s : State, WordsOk s → s.answers 0xD0000 = true → s.ringsOn = true → Runs .ringDisable s fun t => t.ringsOn = false ∧ t.hri.disabling = true ∧
    ∀ c ∈ t.plan.sets, c.armed = true ∨ c.applied = true) ∧
  (∀ s : State, s.hri.disabling = true → (s.plan.sets.any fun c => c.kind == .host || !c.members.isEmpty) = false → s.hri.cmplQ = [] → Runs .ringDisableDone s fun t =>
    t.hri.idle = true ∧ t.hri.disabling = false ∧ t.out = s.out ++ [.hostWrite (s.hriAddr 0x20 + 16)
      (le 4 s.hri.planCons.toNat ++ le 4 s.hri.cmplProd.toNat ++ le 4 s.hri.evtProd.toNat ++ le 4 s.hri.evtLost)]) ∧
  (∀ (s : State) (a : BitVec 64) (e : Bool), Runs (.hostReadErr a e) s fun t => t.hri.stopped = true ∧ t.hri.reading = false ∧ (s.readIdx a.toNat = 4 → t.hri.bdt = 3) ∧
    Raises s t .hostReadErr .degraded 10 (s.readIdx a.toNat) (le 8 a.toNat ++ le 1 (if e then 1 else 0)))

/-- BDT_LOAD, where its window answers and the interface is quiesced, reads 512 bytes at the table's address; not quiesced it is ignored with CFG_BUSY. BDT_READ_DONE of a table with a failing byte raises BOARD_RANGE with the offset of the first one and changes nothing else but HRI_STAT.BDT, which reads 3. Of a table with none, HRI_STAT.BDT reads 2, and the presence of the references, the trip levels, the voltage curve and the cooling limits are those of the table. -/
def Obligations.BoardTableIsTakenWholeOrNotAtAll : Prop :=
  (∀ s : State, s.answers 0xD0000 = true → s.hriQuiet = true →
    exec .bdtLoad s = .next (({ s with hri := { s.hri with bdt := 1 } } : State).send (.hostRead (s.hriAddr 0x40) 512))) ∧
  (∀ s : State, s.answers 0xD0000 = true → s.hriQuiet = false → exec .bdtLoad s = .next (s.raise .cfgBusy 10 0xFFFF (le 4 0xD0000 ++ le 4 2))) ∧
  (∀ (s : State) (bs : List Byte) (k : Nat), bs.length = 512 → s.hri.bdt = 1 → s.tabBad bs = some k →
    exec (.bdtReadDone bs) s = .next (({ s with hri := { s.hri with bdt := 3 } } : State).raise .boardRange 10 4 (le 2 k))) ∧
  (∀ (s : State) (bs : List Byte), bs.length = 512 → s.hri.bdt = 1 → s.tabBad bs = none → Runs (.bdtReadDone bs) s fun t =>
    t.hri.bdt = 2 ∧ t.rdg.a.declared = refFlagBit bs 0 ∧ t.rdg.b.declared = refFlagBit bs 1 ∧ t.lko.calrefDeclared = refFlagBit bs 2 ∧
      t.lko.tripLevels = [field bs 322 1, field bs 323 1, field bs 324 1] ∧ t.hri.curve = (List.range 12).map (fun j => field bs (82 + 2 * j) 2) ∧
      t.hri.cooling = field bs 320 1 ∧ t.hri.maxTcap = field bs 321 1)

/-- For each of the fifteen commands that process a descriptor: with a descriptor of its type at the head of processing, processing not stalled and room for it, and a check of R287 that fails, the descriptor completes at the current mark with the status of the first failing check and the offset of the first failing byte in byte 13, the expected sequence number is the one after its own (bits [30:0]), and nothing but the plan's buffer and the completions changes: no set, no action, no domain. A descriptor of an undefined type fails with DESC_TYPE, and so completes. Where the head is of another type, or processing is stalled, or no descriptor waits, nothing changes. -/
def Obligations.DescriptorsAreCheckedBeforeTheyAct : Prop :=
  (∀ (s : State) (c : Instr) (e : FbEntry) (st : Status) (k : Nat), Due s c e → s.check e = some (st, k) → Runs c s fun t =>
    Completes t e st s.mark k ∧ t.plan.nextSeq = (e.seq.toNat % 2 ^ 31 + 1) % 2 ^ 31 ∧ t.plan.sets = s.plan.sets ∧ t.plan.actions = s.plan.actions ∧
    t = { s with plan := t.plan, hri := { s.hri with cmplQ := t.hri.cmplQ } }) ∧
  (∀ (s : State) (e : FbEntry), Due s .undefinedDescriptor e → s.check e = some (.descType, 0)) ∧
  (∀ (s : State) (e : FbEntry), Due s .undefinedDescriptor e → Runs .undefinedDescriptor s fun t => Completes t e .descType s.mark 0 ∧
    t = { s with plan := t.plan, hri := { s.hri with cmplQ := t.hri.cmplQ } }) ∧
  (∀ (s : State) (c : Instr) (ty : Nat), takesType c ty = true → (∀ e, s.plan.head = some e → takesType c e.ty = false ∨ s.processing = false ∨ s.roomFor e = false) →
    exec c s = .next s)

/-- For a descriptor of these six types that passes its checks, in no group, not ASAP, with its target 5 or more marks ahead, its domain in use where it names one, and for UNFENCE no fence set on a fault: where no set takes its target, a set with its sequence number, its target and it as only member is formed; where one alone takes it, not armed and holding no group, it becomes that set's last member; a host set not yet staged takes its number, and a staged set keeps its own and is to be restaged; where that set is armed, the descriptor completes with TOO_LATE. Nothing but the plan and the completions changes. An UNFENCE of a region under a fence set on a fault completes with FAULT_FENCED. -/
def Obligations.CommitDescriptorsJoinTheSetOfTheirTarget : Prop :=
  (∀ (s : State) (c : Instr) (e : FbEntry), c ∈ [.setStep, .setLadder, .formatPhase, .fence, .unfence, .domainMap] → Due s c e →
    s.check e = none → s.plan.openGroup e.idx = none → e.flag 1 = false →
    Mark.ahead e.target s.mark = true → 5 ≤ Mark.dist e.target s.mark → (e.ty ≤ 3 → s.inUseAt (e.byte 16) e.target = true) →
    (e.ty = 11 → (s.spur (s.driverSpur e.region)).gates.faultFence = false) →
    (s.plan.sets.filter (fun x => x.takes e.target) = [] → Runs c s fun t =>
      (∃ x ∈ t.plan.sets, x.kind = .host ∧ x.seq = e.seq ∧ x.target = e.target ∧ x.members = [e.idx] ∧ x.staged = false) ∧
      t = { s with plan := t.plan, hri := { s.hri with cmplQ := t.hri.cmplQ } }) ∧
    (∀ x, s.plan.sets.filter (fun x => x.takes e.target) = [x] → x.armed = false → x.slots = [] → Runs c s fun t =>
      (∃ y ∈ t.plan.sets, y.seq = (if x.kind = .host ∧ x.staged = false then e.seq else x.seq) ∧ y.target = e.target ∧ y.members = x.members ++ [e.idx] ∧ y.restage = x.staged) ∧
      t = { s with plan := t.plan, hri := { s.hri with cmplQ := t.hri.cmplQ } }) ∧
    (∀ x, s.plan.sets.filter (fun x => x.takes e.target) = [x] → x.armed = true → Runs c s fun t =>
      Completes t e .tooLate s.mark 0 ∧ t.plan.sets = s.plan.sets)) ∧
  (∀ (s : State) (e : FbEntry), Due s .unfence e → s.check e = none → s.plan.openGroup e.idx = none → (s.spur (s.driverSpur e.region)).gates.faultFence = true →
    Runs .unfence s fun t => Completes t e .faultFenced s.mark 0 ∧ t.plan.sets = s.plan.sets)

/-- For a descriptor that passes its checks. NOP in no group completes with APPLIED at once. MARKER with no earlier descriptor in a commit set completes with APPLIED and its tag in byte 13. WAIT_SYNC in no group holds processing with its object, condition, value and timeout, watched from the next mark. COND_BEGIN opens a group with its number, object, condition, value and sense in a slot that was free. COND_END of an open group closes it, unresolved. BUDGET and MEASURE in no group wait for their target where it lies ahead, and else for the next mark, late. CAL_WINDOW waits for its target where it lies 16 or more marks ahead, and else for the 16th mark ahead, late; under ring version 2, without ONCE, it sets the window length and interval. The state is one with four group slots, as every run keeps it. -/
def Obligations.OtherDescriptorsWaitForTheirActionOrComplete : Prop :=
  (∀ (s : State) (e : FbEntry), Due s .nop e → s.check e = none → s.plan.openGroup e.idx = none → Runs .nop s fun t =>
    Completes t e .applied s.mark 0 ∧ t = { s with plan := t.plan, hri := { s.hri with cmplQ := t.hri.cmplQ } }) ∧
  (∀ (s : State) (e : FbEntry), Due s .marker e → s.check e = none → s.plan.openGroup e.idx = none → s.plan.entry e.idx = some e →
    ((s.plan.buf.takeWhile fun x => x.idx != e.idx).all fun x => x.set.isNone) = true → Runs .marker s fun t =>
    Completes t e .applied s.mark (e.byte 16) ∧ t = { s with plan := t.plan, hri := { s.hri with cmplQ := t.hri.cmplQ } }) ∧
  (∀ (s : State) (e : FbEntry), Due s .waitSync e → s.check e = none → s.plan.openGroup e.idx = none → Runs .waitSync s fun t =>
    t.plan.wait = some { idx := e.idx, obj := e.num 16 2, cond := e.num 18 1, value := BitVec.ofNat 32 (e.num 20 4), timeout := e.num 24 4,
                         since := s.mark + 1, last := 0, silent := 0, lateRaised := false } ∧ t = { s with plan := t.plan }) ∧
  (∀ (s : State) (e : FbEntry), s.plan.groups.length = 4 → Due s .condBegin e → s.check e = none → Runs .condBegin s fun t => t = { s with plan := t.plan } ∧
    ∃ k < 4, (s.plan.group k).st = .free ∧ (t.plan.group k).st = .opened ∧ (t.plan.group k).num = e.group ∧ (t.plan.group k).obj = e.num 16 2 ∧
      (t.plan.group k).cond = e.num 18 1 ∧ (t.plan.group k).value = BitVec.ofNat 32 (e.num 20 4) ∧ (t.plan.group k).beginIdx = e.idx) ∧
  (∀ (s : State) (e : FbEntry) (k : Nat), Due s .condEnd e → s.check e = none → s.plan.openGroup e.idx = some k → (s.plan.group k).st = .opened → Runs .condEnd s fun t =>
    (t.plan.group k).st = .closed ∧ (t.plan.group k).endIdx = some e.idx ∧ t = { s with plan := t.plan, hri := { s.hri with cmplQ := t.hri.cmplQ } }) ∧
  (∀ (s : State) (c : Instr) (e : FbEntry), c = .budget ∨ c = .measure → Due s c e → s.check e = none → s.plan.openGroup e.idx = none → e.flag 1 = false → Runs c s fun t =>
    t = { s with plan := t.plan } ∧ ∃ a ∈ t.plan.actions, a.idx = e.idx ∧
      (Mark.ahead e.target s.mark = true → a.target = e.target ∧ a.late = false) ∧ (Mark.ahead e.target s.mark = false → a.target = s.mark + 1 ∧ a.late = true)) ∧
  (∀ (s : State) (e : FbEntry), Due s .calWindow e → s.check e = none → s.plan.openGroup e.idx = none → e.flag 1 = false → Runs .calWindow s fun t =>
    (∃ a ∈ t.plan.actions, a.idx = e.idx ∧
      (Mark.ahead e.target s.mark = true → 16 ≤ Mark.dist e.target s.mark → a.target = e.target ∧ a.late = false) ∧
      (Mark.ahead e.target s.mark = false ∨ Mark.dist e.target s.mark < 16 → a.target = s.mark + 16 ∧ a.late = true)) ∧
    (s.hri.agreed = 2 → e.byte 22 = 0 → t.cal.length = e.num 16 2 ∧ t.cal.interval = e.num 18 4))

/-- With a Summit instance active that has taken up the buffer. SYNC_READ in ridge tick 16 sends one read for each object watched, once per mark, and notes the mark. SYNC_REPLY of an object whose read left in this mark, by ridge tick 192: a wait on it, within its timeout, whose condition holds completes with APPLIED at this mark, and processing resumes at the next; a posted value before its deadline resolves an unresolved watched group, which then applies if the condition holds and the sense is 0, or fails and the sense is 1, and loses otherwise, with this mark as the mark of its outcome, and nothing completes yet. In the mark after, the COND_BEGIN of a resolved group completes accordingly, with the mark of the reading. A reply that comes later, or to no read, changes nothing. WAIT_TIMEOUT after its timeout completes the wait with WAIT_TIMEOUT and raises WAIT_TIMEOUT (INFO). GROUP_DEADLINE at ridge tick 0 from the deadline of an unresolved group on raises COND_LATE (INFO), and its COND_BEGIN completes with COND_LATE. -/
def Obligations.SynchronisationReadsEndWaitsAndGroups : Prop :=
  (∀ s : State, s.role.silent = false → s.role.resumeDue = false → s.rdg.started = true → s.tick = 16 → s.plan.readMark ≠ some s.mark →
    Runs .syncRead s fun t => t.plan.readSent = s.watched ∧ t.plan.readMark = some s.mark ∧ t.out = s.out ++ s.watched.map Message.syncRead) ∧
  (∀ (s : State) (o : Nat) (v : Word) (w : Wait) (e : FbEntry), s.role.silent = false → s.plan.readSent.contains o = true → s.plan.readMark = some s.mark → s.tick ≤ 192 →
    s.waits = some w → w.obj = o → s.timedOut w = false → holds w.cond v w.value = true → s.plan.entry w.idx = some e → Runs (.syncReply o v) s fun t =>
    Completes t e .applied s.mark 0 ∧ t.plan.wait = none ∧ t.plan.resumeAt = some (s.mark + 1)) ∧
  (∀ (s : State) (o : Nat) (v : Word) (k : Fin 4), s.role.silent = false → s.plan.readSent.contains o = true → s.plan.readMark = some s.mark → s.tick ≤ 192 →
    s.waits = none → (∀ j : Fin 4, j ≠ k → s.watches j = false) → s.watches k = true → (s.plan.group k).obj = o → notAfter (s.deadline k) s.mark = false →
    v.bit 31 = true → Runs (.syncReply o v) s fun t =>
    (t.plan.group k).st = (if holds (s.plan.group k).cond v (s.plan.group k).value != (s.plan.group k).sense then .applies else .loses) ∧
      (t.plan.group k).mark = s.mark ∧ (t.plan.group k).last = v ∧ (t.plan.group k).settled = (s.plan.group k).settled ∧ t = { s with plan := t.plan }) ∧
  (∀ (s : State) (k : Fin 4) (e : FbEntry), (s.plan.group k).st.resolved = true → s.plan.entry (s.plan.group k).beginIdx = some e → e.stage ≠ .done →
    Completes (s.settleGroup k) e (s.plan.group k).st.status (s.plan.group k).mark 0) ∧
  (∀ (s : State) (o : Nat) (v : Word), s.plan.readSent.contains o = false ∨ s.plan.readMark ≠ some s.mark ∨ 192 < s.tick → exec (.syncReply o v) s = .next s) ∧
  (∀ (s : State) (w : Wait) (e : FbEntry), s.role.silent = false → s.role.resumeDue = false → s.plan.wait = some w → notAfter (w.since + BitVec.ofNat 40 w.timeout) s.mark = true →
    s.plan.entry w.idx = some e → Runs .waitTimeout s fun t => Completes t e .waitTimeout s.mark 0 ∧ t.plan.wait = none ∧ t.plan.resumeAt = some (s.mark + 1) ∧
      Raises s t .waitTimeout .info 0 s.summitIdx (le 4 e.seq.toNat ++ le 2 w.obj ++ le 2 0 ++ le 4 w.last.toNat)) ∧
  (∀ (s : State) (k : Fin 4) (e : FbEntry), s.role.silent = false → s.role.resumeDue = false → s.atMark = true → (s.plan.group k).unresolved = true →
    notAfter (s.deadline k) s.mark = true → s.plan.entry (s.plan.group k).beginIdx = some e → e.stage ≠ .done →
    Runs (.groupDeadline k) s fun t => Completes t e .condLate s.mark 0 ∧ (t.plan.group k).unresolved = false ∧
      Raises s t .condLate .info 0 s.summitIdx (le 2 (s.plan.group k).num ++ le 2 (s.plan.group k).obj ++ le 4 (s.plan.group k).last.toNat ++ le 5 (s.deadline k).toNat))

/-- PROFILE_WRITE, where its window answers, with the plan ring disabled: each field with a defined encoding takes its value, the others stay, the base is to be recomputed and the governor takes the caps at its next evaluation; with the plan ring enabled it raises CFG_BUSY and changes nothing else. PLAN_IDLE with the watchdog enabled, its limit passed, the rings on and some domain in use above NOMINAL: no base request above the lowest base that the NOMINAL steps of those domains name, and PLAN_IDLE raised with the marks since the last fetch. BASIC_RAISE under basic control at ridge tick 0, outside V1 and park, with staging allowed and room for one more set, no series in flight and no raise within 64 marks: where the contents that the profile asks for do not rise above the base ahead, nothing changes; where they do, and no set has Summit's next number, a basic set with that number is added. Words are taken in canonical form. -/
def Obligations.BasicControlAndTheWatchdog : Prop :=
  (∀ (s : State) (v : Word), WordsOk s → s.answers 0x300 = true → s.ringsOn = false → Runs (.profileWrite v) s fun t =>
    (∀ g ∈ profileFields, (t.word 0x300).bits g.hi g.lo = (if g.defined (v.bits g.hi g.lo) then v else s.word 0x300).bits g.hi g.lo) ∧
    t.role.baseDue = true ∧ t.gov.capDue = true) ∧
  (∀ (s : State) (v : Word), s.answers 0x300 = true → s.ringsOn = true → exec (.profileWrite v) s = .next (s.raise .cfgBusy 0 s.summitIdx (le 4 0x300 ++ le 4 v.toNat))) ∧
  (∀ s : State, (s.word 0xD0050).bit 31 = true → s.ringsOn = true → s.aboveNominal ≠ [] → 1024 * (s.word 0xD0050).bits 15 0 ≤ s.since s.plan.lastFetch →
    Runs .planIdle s fun t => t.fab.baseReq ≤ s.fab.baseReq ∧ (∀ d ∈ s.aboveNominal, t.fab.baseReq ≤ (s.fab.dom d).baseOf (s.fab.dom d).nominal) ∧
      t.role.baseDue = true ∧ RaisedLast s t .planIdle .info 10 0 (le 4 (s.since s.plan.lastFetch))) ∧
  (∀ s : State, s.basic = true → s.role.silent = false → s.faults.noStage = false → s.atMark = true → s.mayStage = true → s.boot.req = 0 →
    (s.plan.sets.any fun c => c.kind != .host && c.kind != .drop) = false → (s.plan.lastRaise.any fun m => decide (s.since m < 64)) = false →
    let view := s.viewFor s.plan.freshSeq (s.mark + 4)
    ((s.plainContents .basic view (s.fencesFor s.plan.freshSeq (s.mark + 4)) [] none).fb.base ≤ view.base → exec .basicRaise s = .next s) ∧
    (view.base < (s.plainContents .basic view (s.fencesFor s.plan.freshSeq (s.mark + 4)) [] none).fb.base → (∀ x ∈ s.plan.sets, x.seq ≠ s.plan.freshSeq) → Runs .basicRaise s fun t =>
      ∃ x ∈ t.plan.sets, x.seq = s.plan.freshSeq ∧ x.kind = .basic))

/-- WINDOW_COMMAND at ridge tick 0 with a window due, native windows allowed, a Summit instance active, in V0, outside holdover and its guard, and no earlier window's end in the way: the window is fixed for the mark 16 ahead with its N, and the window command leaves. CAL_WINDOW_OPEN at the first mark W of a fixed window: it is the window in progress, and every Spur whose tally has begun W already, or that clocks no region, has its leaf gates closed, its debt and estimates frozen as they stand, hold class 0 and no open window; another Spur at the first cycle of its own tally mark W. CAL_LOOP_RESTORE at W + N - 13, once: a Spur whose loop can run, not failed and not under test, is in ACQUIRE at the code it held before its excursions. CAL_WINDOW_CLOSE at W + N: no window is in progress, WINDOWS counts it, and every Spur frozen by it whose tally has begun W + N, or that clocks no region, has its leaf gates open and its debt no longer frozen, CAL_WARN low, and where it drives a compute region it asks for a stretch at its first 9 edges; another Spur at the first cycle of its own tally mark W + N. -/
def Obligations.NativeWindowIsFixedOpenedAndClosed : Prop :=
  (∀ (s : State) (w : Window), s.windowDue = some w → s.atMark = true → s.nativeOk = true → s.role.silent = false → s.boot.pst = .v0 → s.rdg.root ≠ .holdover → s.rdg.calFrom = none →
    s.cal.floor { w with w := s.mark + 16, fixed := true } = s.mark + 16 → Runs .windowCommand s fun t =>
      Message.lane (.window (s.mark + 16) w.n) ∈ t.out ∧ ∃ x ∈ t.cal.next.toList ++ t.cal.extras, x.fixed = true ∧ x.w = s.mark + 16 ∧ x.n = w.n) ∧
  (∀ (s : State) (w : Window), s.atMark = true → (s.cal.next.toList ++ s.cal.extras).find? (fun w => w.fixed && w.w == s.mark) = some w → Runs .calWindowOpen s fun t =>
    t.cal.cur = some w ∧ ∀ n : Fin 425, s.atWindow n s.mark = true → (t.spur n).gates.leaf = true ∧ (t.spur n).str.frozen = true ∧ (t.spur n).str.debt = (s.spur n).str.debt ∧
      (t.spur n).str.leads = (s.spur n).str.leads ∧ (t.spur n).wl.hold = 0 ∧ (t.spur n).wl.preLeft = 0 ∧ (t.spur n).wl.chkLeft = 0) ∧
  (∀ (s : State) (n : Fin 425) (w : Window), s.markReady n = true → (s.spur n).gates.splitAt = none → s.cal.cur = some w → w.w = (s.spur n).gen.tallyMark + 1 →
    Runs (.tallyMark n) s fun t => (t.spur n).gates.leaf = true ∧ (t.spur n).str.frozen = true ∧ (t.spur n).str.debt = (s.spur n).str.debt) ∧
  (∀ (s : State) (n : Fin 425), s.markReady n = true → (s.spur n).gates.splitAt = none → s.cal.cur = none → s.cal.prevEnd = some ((s.spur n).gen.tallyMark + 1) →
    (s.spur n).str.frozen = true → Runs (.tallyMark n) s fun t => (t.spur n).gates.leaf = false ∧ (t.spur n).str.frozen = false) ∧
  (∀ (s : State), s.calLeft 13 = true → s.cal.phase = 0 → Runs .calLoopRestore s fun t => ∀ n : Fin 425,
    (s.spur n).gates.failed = false → s.underTest n = false → (s.spur n).gen.loop = .acquire ∨ (s.spur n).gen.loop = .locked →
      (t.spur n).gen.loop = .acquire ∧ (t.spur n).gen.dcoCode = (s.spur n).cal.heldCode.getD (s.spur n).gen.dcoCode) ∧
  (∀ (s : State) (w : Window), s.cal.cur = some w → s.atMark = true → s.mark = w.w + BitVec.ofNat 40 w.n → Runs .calWindowClose s fun t =>
    t.cal.cur = none ∧ t.cal.windows = s.cal.windows + 1 ∧
    ∀ n : Fin 425, s.atWindow n s.mark = true → (s.spur n).str.frozen = true → (t.spur n).gates.leaf = false ∧ (t.spur n).str.frozen = false ∧ (t.spur n).gates.calWarn = false ∧
      ∀ r, s.regionOf n = some r → portKind r = 0 → (t.spur n).wl.preLeft = 9 ∧ ∀ j < 9, (t.spur n).wl.preMask.getLsbD j = true)

/-- CAL_EXCURSION in the last mark of a slot, for a Spur not failed and not under test: of the gain, in slot 0, it drives the ring 128 FINE LSB above the code held and adds a gain result; of an entry, in a later slot, whose corrected FINE lies from 102 to 921 it adds that code for it. After CAL_PLAUSIBILITY in W + N - 2 of a window that is not voided every Spur that delivers results holds only results inside the limits of R357; a single result outside, no code and no gain, of such a Spur with none from its loop or excursions, is dropped, marks the Spur rejected and raises CAL_REJECT, DEGRADED from the third consecutive one. CAL_APPLY in W + N - 1, of a voided window, drops every result and changes no trim. CAL_APPLY for a Spur with results and no reject in a bin's range: the bin takes them at the window's temperature, the trims in force are that bin's, its rejects are 0 and SRC_CAL is clear. -/
def Obligations.OnlyPlausibleResultsTakeEffect : Prop :=
  (∀ (s : State) (n : Fin 425) (lo hi : Nat), (s.spur n).cal.slot = 0 → s.slotEnds 0 = true → (s.spur n).gates.failed = false → s.underTest n = false → 0 < lo →
    Runs (.calExcursion n (.gain lo hi)) s fun t => (t.spur n).gen.dcoCode = (s.spur n).cal.heldCode.getD (s.spur n).gen.dcoCode + 128 ∧
      (t.spur n).cal.results = (s.spur n).cal.results ++ [.gain (roundDiv (((hi : Int) - lo) * 10000000) (256 * lo)).toNat]) ∧
  (∀ (s : State) (n : Fin 425) (hz : Nat), (s.spur n).cal.slot ≠ 0 → s.slotEnds (s.spur n).cal.slot = true → (s.spur n).gates.failed = false → s.underTest n = false → 0 < hz →
    let c := (s.spur n).cal
    let fine : Int := codeFine c.due.2 + roundDiv (((c.due.1 * 25000000 : Nat) - (hz : Int)) * 10000000) (hz * c.gainNow)
    0 < c.gainNow → 102 ≤ fine → fine ≤ 921 → Runs (.calExcursion n (.entry hz)) s fun t => (t.spur n).gen.dcoCode = c.due.2 ∧
      (t.spur n).cal.results = c.results ++ [.code c.due.1 (mkCode (codeBand c.due.2) fine.toNat)]) ∧
  (∀ (s : State) (rs : List CalResult), s.judges = true → s.cal.voided = false → Runs (.calPlausibility rs) s fun t =>
    (∀ n : Fin 425, s.noResults n = false → ∀ i ∈ (t.spur n).cal.results, itemFault Saddle.reset i = none) ∧
    (∀ (n : Fin 425) (i : CalItem) (p : Nat × Int), rs = [{ unit := .spur n, item := i }] → s.noResults n = false → (s.spur n).cal.results = [] →
      (s.spur n).cal.cntInteg = 0 → brought i = true →
      itemFault Saddle.reset i = some p → (t.spur n).cal.results = [] ∧ (t.spur n).cal.rejected = true ∧
        Raises s t .calReject (if 3 ≤ (s.spur n).cal.record.rejects + 1 then .degraded else .corrected) 6 n
          (le 1 p.1 ++ le 3 0 ++ le 4 (twos 32 p.2) ++ le 1 ((s.spur n).cal.record.rejects + 1)))) ∧
  (∀ s : State, s.role.silent = false → s.cal.phase = 2 → s.cal.lateAt = none → s.calLeft 1 = true → s.cal.voided = true → Runs .calApply s fun t => ∀ n : Fin 425, (t.spur n).cal.results = [] ∧ (t.spur n).cal.trims = (s.spur n).cal.trims) ∧
  (∀ (s : State) (n : Fin 425) (tb : Int) (b : Nat), s.role.silent = false → s.cal.phase = 2 → s.cal.lateAt = none → s.calLeft 1 = true → s.cal.voided = false → (s.spur n).cal.results ≠ [] → (s.spur n).cal.rejected = false →
    (s.spur n).cal.winTemp = some tb → binOf tb = some b → Runs .calApply s fun t =>
    let x := (s.spur n).cal
    let bin := ({ x.binAt b tb with tb := tb } : SpurBin).take (s.spur n).gen.fcode x.results
    let y := (t.spur n).cal
    y.trims.codes = bin.codes ∧ y.trims.offs = bin.offs ∧ y.trims.thr = bin.thr ∧ y.trims.mon = bin.mon ∧ y.results = [] ∧ y.record.rejects = 0 ∧
      (t.spur n).lim.cal = none ∧ (b < x.record.bins.length → y.record.bins.getD b none = some bin))

/-- CAL_RECOMPUTE but at ridge tick 0 of a mark that is a multiple of 1,024, or with INTERP_EN 0, or a second time in its mark, changes nothing; otherwise, outside ring version 1, no Spur's trims in force change, and trims newly staged are for the fourth mark ahead. TRIM_APPLY at the first cycle of a Spur's tally mark puts staged trims in force that are due by that mark; of trims for a later mark it leaves the trims as they are. CAL_HOLD_RISE is taken in a compute region, with the time, and ignored in a port region. GAP_STEP_DONE of a Spur that may run gap steps, of an item its sweep lacks, with the step's time free and inside the gap: a timer's step below its 16th is counted and gives no result; a detector result inside its limit waits for the next recomputation. GAP_STEP_ABORT in a compute region counts the aborted step. -/
def Obligations.TrimsMoveOnlyAtTheirMark : Prop :=
  (∀ s : State, s.atMark = false ∨ s.mark.toNat % 1024 ≠ 0 ∨ (s.word 0xA0000).bit 2 = false ∨ s.cal.recompAt = some s.mark → exec .calRecompute s = .next s) ∧
  (∀ s : State, s.atMark = true → s.mark.toNat % 1024 = 0 → (s.word 0xA0000).bit 2 = true → s.cal.recompAt ≠ some s.mark → s.hri.agreed ≠ 1 → Runs .calRecompute s fun t => ∀ n : Fin 425,
    (t.spur n).cal.trims = (s.spur n).cal.trims ∧ ((t.spur n).cal.staged = (s.spur n).cal.staged ∨ ∃ x, (t.spur n).cal.staged = some (s.mark + 4, x))) ∧
  (∀ (s : State) (n : Fin 425) (m : Mark) (x : Trims), (s.spur n).cal.staged = some (m, x) → (s.spur n).cal.writes = [] → s.atCycle0 n = true → Runs (.trimApply (.spur n)) s fun t =>
    (notAfter m (s.spur n).gen.tallyMark = true → (t.spur n).cal.trims = x ∧ (t.spur n).cal.staged = none) ∧
    (notAfter m (s.spur n).gen.tallyMark = false → (t.spur n).cal.trims = (s.spur n).cal.trims ∧ (t.spur n).cal.staged = some (m, x)) ∧ ∀ k : Fin 425, k ≠ n → t.spur k = s.spur k) ∧
  (∀ (s : State) (r : Fin 400), portKind r = 0 → (s.spur r).gates.calHold = false →
    exec (.calHoldRise r) s = .next (s.modSpur r fun x => { x with gates := { x.gates with calHold := true, holdAt := s.rdg.ridge } })) ∧
  (∀ (s : State) (r : Fin 400), portKind r ≠ 0 → exec (.calHoldRise r) s = .next s) ∧
  (∀ (s : State) (n : Fin 425) (q : Fin 8) (ws : List Int), s.gapOpen n = true → s.gapFits n q = true → s.sweepLacks n q = true → nth (s.spur n).cal.gapSteps q < 15 → (s.spur n).cal.gapSteps.length = 8 →
    Runs (.gapStepDone n (.timer q ws)) s fun t => nth (t.spur n).cal.gapSteps q = nth (s.spur n).cal.gapSteps q + 1 ∧ (t.spur n).cal.results = (s.spur n).cal.results) ∧
  (∀ (s : State) (n : Fin 425) (q : Fin 4) (raw dac res : Int) (thr : List Nat), s.gapOpen n = true → s.gapFits n (8 + q) = true → s.sweepLacks n (8 + q) = true → -96 ≤ raw → raw ≤ 96 →
    Runs (.gapStepDone n (.detector q raw dac res thr)) s fun t => (t.spur n).cal.results = (s.spur n).cal.results ++ [.detector q raw dac res thr] ∧
      (t.spur n).cal.trims = (s.spur n).cal.trims) ∧
  (∀ (s : State) (n : Fin 425) (r : Nat), s.gapMode = true → s.noResults n = false → s.regionOf n = some r → portKind r = 0 → Runs (.gapStepAbort n) s fun t => t.cal.gapAborts = s.cal.gapAborts + 1 ∧
    ∀ k : Fin 425, (t.spur k).cal = (s.spur k).cal)

/-- CALREF_GATE while the background gate runs keeps epsilon; results are traced afterwards exactly where it lies within the declared tolerance plus 0.1 ppm and CALREF is declared and shows edges; outside, CAL_REF_BAND (DEGRADED) is raised. CALREF_LOST leaves results untraced, CALREF_RETURN shows edges again. CAL_WINCFG_WRITE, where its window answers and with the rings disabled, sets the window interval and length to the fields of the word it leaves; with the rings enabled it raises CFG_BUSY. NATIVE_ENABLE, where the window answers and the field is not locked, sets NATIVE_EN. SENSOR_CONVERSION (a first one, one in a native window, or 16 marks after the last) of a sensor whose offset is c keeps the reading less c, in 1/16 of a degree, where no temperature override acts; outside -20 to 130 degrees the sensor counts as failed. Words are taken in canonical form. -/
def Obligations.TraceabilityWindowSettingsAndSensors : Prop :=
  (∀ (s : State) (ppb : Int), s.lko.bgRef = true → Runs (.calrefGate ppb) s fun t => t.cal.refErr = some ppb ∧ t.cal.inBand = decide (ppb.natAbs ≤ 1000 * s.lko.tolerance + 100) ∧
    t.cal.traced = (decide (ppb.natAbs ≤ 1000 * s.lko.tolerance + 100) && s.lko.calrefDeclared && s.lko.calref) ∧
    (1000 * s.lko.tolerance + 100 < ppb.natAbs → Raises s t .calRefBand .degraded 6 0xFFFF (le 4 (twos 32 ppb) ++ le 2 s.lko.tolerance))) ∧
  (∀ s : State, Runs .calrefLost s fun t => t.cal.traced = false ∧ t.lko.calref = false) ∧
  (∀ s : State, exec .calrefReturn s = .next { s with lko := { s.lko with calref := true } }) ∧
  (∀ (s : State) (v : Word), WordsOk s → s.answers 0xA0004 = true → s.ringsOn = false → Runs (.calWincfgWrite v) s fun t =>
    t.cal.interval = (t.word 0xA0004).bits 31 16 ∧ t.cal.length = (t.word 0xA0004).bits 6 0 ∧
    (500 ≤ v.bits 31 16 → v.bits 31 16 ≤ 60000 → t.cal.interval = v.bits 31 16) ∧ (24 ≤ v.bits 6 0 → v.bits 6 0 ≤ 96 → t.cal.length = v.bits 6 0)) ∧
  (∀ (s : State) (v : Word), s.answers 0xA0004 = true → s.ringsOn = true → exec (.calWincfgWrite v) s = .next (s.raise .cfgBusy 6 0xFFFF (le 4 0xA0004 ++ le 4 v.toNat))) ∧
  (∀ s : State, WordsOk s → s.answers 0xA0000 = true → s.locked = false → Runs .nativeEnable s fun t => (t.word 0xA0000).bit 0 = true) ∧
  (∀ (s : State) (n : Fin 425) (raw : Int), s.sensOver n = none → (s.spur n).cal.had0 = false ∨ s.cal.cur ≠ none ∨ 16 ≤ s.since (s.spur n).cal.conv0 → Runs (.sensorConversion n 0 raw) s fun t =>
    (t.spur n).cal.s0 = raw - 4 * (s.spur n).cal.trims.sens.getD 0 0 ∧
    ((t.spur n).cal.s0 < -320 ∨ 2080 < (t.spur n).cal.s0 → (t.spur n).cal.bad0 = true) ∧ (t.spur n).cal.s1 = (s.spur n).cal.s1) ∧
  (∀ (s : State) (n : Fin 425) (raw : Int), s.sensOver n = none → (s.spur n).cal.had1 = false ∨ s.cal.cur ≠ none ∨ 16 ≤ s.since (s.spur n).cal.conv1 → Runs (.sensorConversion n 1 raw) s fun t =>
    (t.spur n).cal.s1 = raw - 4 * (s.spur n).cal.trims.sens.getD 1 0 ∧
    ((t.spur n).cal.s1 < -320 ∨ 2080 < (t.spur n).cal.s1 → (t.spur n).cal.bad1 = true) ∧ (t.spur n).cal.s0 = (s.spur n).cal.s0)

/-- SAVE, where its window answers and the device is usable, makes a save pending with no wait for the spacing, and changes nothing else; with an unusable device it changes nothing. CAIRN_SAVE's start of a save that may start and whose sequence is not exhausted: a save of the target bank runs, and no bank and no record changes; a save that may not start changes nothing. Its taking of the first n Spur records, none taken before and none of the Spurs with trims staged: those records as the Spurs now stand are kept, with the mark, and nothing else changes. Its commit: the target holds the Spur records taken before, and of the other Spurs the records as they now stand, with 1 more than the highest sequence (1 for bank F) and the counted erase, it is the bank in use, SAVES counts it, FAILS is 0, CRN_SAVED is raised, and the other banks are unchanged. Its failure: the bank in use and the other banks stay, the target has no commit record, FAILS counts to 255, and CRN_FLASH_ERR (DEGRADED) tells step, address and cause. SAVE_F in PROVISIONED with no save running, begun and committed: bank F is in use with sequence 1. With a save running it waits. Outside PROVISIONED it raises CFG_LOCKED and changes nothing else. -/
def Obligations.SavesGoToTheBankNotInUse : Prop :=
  (∀ s : State, s.answers 0xA0800 = true → s.crn.unusable = false →
    exec .save s = .next { s with crn := { s.crn with pending := true, urgent := true } }) ∧
  (∀ s : State, s.crn.unusable = true → exec .save s = .next s) ∧
  (∀ s : State, s.saveReady = true → s.crn.nextSeq s.crn.target < 0xFFFFFFFF → Runs (.cairnSave .started) s fun t =>
    t.crn.saving = true ∧ t.crn.goal = s.crn.target ∧ t.crn.bank = s.crn.bank ∧ t.crn.a = s.crn.a ∧ t.crn.b = s.crn.b ∧ t.crn.f = s.crn.f ∧
    (s.crn.saveF = true → t.crn.goal = 2 ∧ t.crn.pending = s.crn.pending) ∧
    (s.crn.saveF = false → t.crn.goal ≠ s.crn.bank ∧ t.crn.goal < 2 ∧ t.crn.pending = false ∧ t.crn.lastSave = some s.mark) ∧ t = { s with crn := t.crn }) ∧
  (∀ s : State, s.saveReady = false → exec (.cairnSave .started) s = .next s) ∧
  (∀ (s : State) (n : Nat), s.crn.saving = true → s.crn.recSpurs = [] → n ≤ 425 → s.spurs.toList.all Spur.recordable = true →
    exec (.cairnSave (.taken n)) s = .next { s with crn := { s.crn with recSpurs := (s.spurs.toList.take n).map fun x => x.cal.record, took := s.mark } }) ∧
  (∀ s : State, s.crn.saving = true → Runs (.cairnSave .done) s fun t =>
    t.crn.saving = false ∧ t.crn.bank = s.crn.goal ∧ t.crn.seq = s.crn.nextSeq s.crn.goal ∧ t.crn.saves = s.crn.saves + 1 ∧ t.crn.fails = 0 ∧
    (t.crn.img s.crn.goal).commit = some (s.crn.nextSeq s.crn.goal) ∧ (t.crn.img s.crn.goal).erase = s.crn.nextErase s.crn.goal ∧
    (t.crn.img s.crn.goal).spurs = s.crn.recSpurs ++ (s.spurs.toList.drop s.crn.recSpurs.length).map (fun x => x.cal.record) ∧
    (∀ b < 3, s.crn.goal < 3 → b ≠ s.crn.goal → t.crn.img b = s.crn.img b) ∧
    Raises s t .crnSaved .info 7 s.crn.goal (le 4 (s.crn.nextSeq s.crn.goal) ++ le 4 (s.crn.nextErase s.crn.goal))) ∧
  (∀ (s : State) (step addr : Nat) (cause : Fin 3), s.crn.saving = true → Runs (.cairnSave (.failed step addr cause)) s fun t =>
    t.crn.saving = false ∧ t.crn.bank = s.crn.bank ∧ t.crn.seq = s.crn.seq ∧ (t.crn.img s.crn.goal).commit = none ∧ t.crn.fails = min 255 (s.crn.fails + 1) ∧
    (∀ b < 3, s.crn.goal < 3 → b ≠ s.crn.goal → t.crn.img b = s.crn.img b) ∧
    Raises s t .crnFlashErr .degraded 7 s.crn.goal (le 1 step ++ le 4 addr ++ le 1 cause)) ∧
  (∀ s : State, s.answers 0xA0800 = true → s.lcs.st = .provisioned → s.crn.unusable = false →
    (s.crn.saving = false → Runs (.saveF .done) s fun t => t.crn.bank = 2 ∧ t.crn.seq = 1 ∧ t.crn.f.commit = some 1 ∧ t.crn.saveF = false ∧
      t.crn.a = s.crn.a ∧ t.crn.b = s.crn.b ∧ Raises s t .crnSaved .info 7 2 (le 4 1 ++ le 4 (s.crn.f.erase + 1))) ∧
    (s.crn.saving = true → ∀ r, exec (.saveF r) s = .next { s with crn := { s.crn with saveF := true } })) ∧
  (∀ (s : State) (r : FlashResult), s.answers 0xA0800 = true → s.lcs.st ≠ .provisioned →
    exec (.saveF r) s = .next (s.raise .cfgLocked 7 0xFFFF (le 4 0xA0800 ++ le 4 2)))

/-- REGISTER_ARM where its window answers: with no ground for a refusal and the calibration of the channel, and of its stop channel, in range the channel is armed with its scale, offset, COUNT and limit and nothing taken, the stop channel is calibrated and claimed, no other channel changes; with ground BUSY it raises CFG_BUSY; with another ground it ends with that reason, with a calibration out of range with reason 3. LOOKOUT_EDGE with the timer locked, on an armed free channel that no other claims, of the polarity that POL asks for, its timestamp the one that root period and raw code give: within the dead time, or while the channel is being armed, it only counts as missed; else, within the limit and short of COUNT, it is taken, as the first timestamp or as an interval after the last; at COUNT the measurement ends. A start edge of a paired channel opens a start, or, within 8 fine units after a stop that found none open, makes a tie with it, which then is no stray; a stop edge 8 fine units or more after an open start is a pair with their difference, within 8 a tie, with none open a stray. Without lock nothing changes. DISARM of a register-armed measurement, and MEASURE_TIMEOUT at ridge tick 0 once the limit has passed, end it: reason 0 where something was taken, else 1. TIMER_UNLOCK ends all with TIMER_UNLOCK (DEGRADED); TIMER_RELOCK locks. -/
def Obligations.MeasurementsArmTakeEdgesAndEnd : Prop :=
  (∀ (s : State) (c : Fin 6) (own stop : Readings), s.answers (chanAddr c 0xC) = true →
    (s.armRefusal c false = none → s.armPasses c false own stop = true → Runs (.registerArm c own stop) s fun t =>
      (t.chan c).armed = true ∧ (t.chan c).owner = .register ∧ (t.chan c).freq = false ∧ (t.chan c).taken = 0 ∧ (t.chan c).armMark = s.mark ∧
      (t.chan c).scale = (calScale own).toNat ∧ (t.chan c).offset = calOffset own ∧ (t.chan c).count = (s.word (chanAddr c 0)).bits 31 16 ∧
      (t.chan c).limit = (s.word (chanAddr c 8)).bits 24 0 ∧
      ∀ j : Fin 6, j ≠ c → t.chan j = if s.stopOf c false = some j.val then { (s.chan j).calibrate stop with owner := .claimed } else s.chan j) ∧
    (s.armRefusal c false = some 2 → exec (.registerArm c own stop) s = .next (s.raise .cfgBusy 4 c (le 4 (chanAddr c 0xC) ++ le 4 1))) ∧
    (∀ r, s.armRefusal c false = some r → r ≠ 2 → Runs (.registerArm c own stop) s fun t =>
      (t.chan c).armed = (s.chan c).armed ∧ (t.chan c).done = true ∧ (t.chan c).reason = r ∧ Raises s t .measureDone .info 4 c (le 1 r ++ le 4 0)) ∧
    (s.armRefusal c false = none → s.armPasses c false own stop = false → Runs (.registerArm c own stop) s fun t =>
      (t.chan c).armed = (s.chan c).armed ∧ (t.chan c).done = true ∧ (t.chan c).reason = 3 ∧ Raises s t .measureDone .info 4 c (le 1 3 ++ le 4 0))) ∧
  (∀ (s : State) (c : Fin 6) (root : Fin 10) (code : Nat) (fl : Bool), s.lko.timerLock = true → (s.chan c).armed = true → (s.chan c).freq = false → (s.chan c).paired = false →
    s.claimer c = none → polOk ((s.chCfg c).bits 1 0) fl = true →
    let ts := s.stamp c root code
    let dead : Bool := ((s.chan c).lastTs != 0 && decide (fineOf ts < fineOf (s.chan c).lastTs + s.deadTime c)) || s.stillArming c ts
    (dead = true → exec (.lookoutEdge c ⟨root, code⟩ fl) s = .next (s.modChan c fun y => { y with missed := y.missed + 1 })) ∧
    (dead = false → s.overtime (s.chan c) = false → (s.chan c).taken + 1 < (s.chan c).count → Runs (.lookoutEdge c ⟨root, code⟩ fl) s fun t =>
      (t.chan c).armed = true ∧ (t.chan c).taken = (s.chan c).taken + 1 ∧ (t.chan c).lastTs = ts ∧ (t.chan c).lastResTs = ts ∧
      ((s.chan c).taken = 0 → (t.chan c).firstTs = ts) ∧
      (0 < (s.chan c).taken → (t.chan c).firstTs = (s.chan c).firstTs ∧ (t.chan c).sumIv = (s.chan c).sumIv + ((fineOf ts : Int) - fineOf (s.chan c).lastResTs)) ∧
      ∀ j : Fin 6, j ≠ c → t.chan j = s.chan j) ∧
    (dead = false → s.overtime (s.chan c) = false → (s.chan c).owner = .register → (s.chan c).count = (s.chan c).taken + 1 → Runs (.lookoutEdge c ⟨root, code⟩ fl) s fun t =>
      (t.chan c).armed = false ∧ (t.chan c).done = true ∧ (t.chan c).reason = 0 ∧ Raises s t .measureDone .info 4 c (le 1 0 ++ le 4 ((s.chan c).taken + 1)))) ∧
  (∀ (s : State) (c k : Fin 6) (root : Fin 10) (code : Nat) (fl : Bool),
    let ts := s.stamp c root code
    s.lko.timerLock = true → k ≠ c → s.claimer c = some k.val → (s.chan c).armed = false → (s.chCfg k).bit 10 = fl → (s.chan c).lastTs = 0 → s.stillArming c ts = false →
    s.overtime (s.chan k) = false → (s.chan k).taken + 1 < (s.chan k).count → Runs (.lookoutEdge c ⟨root, code⟩ fl) s fun t =>
      ((s.chan k).openTs = none → (t.chan k).strays = (s.chan k).strays + 1 ∧ (t.chan k).taken = (s.chan k).taken ∧ (t.chan k).strayTs = some ts) ∧
      (∀ o, (s.chan k).openTs = some o →
        (fineOf o + 8 ≤ fineOf ts → (t.chan k).openTs = none ∧ (t.chan k).taken = (s.chan k).taken + 1 ∧
          (t.chan k).sumIv = (s.chan k).sumIv + ((fineOf ts : Int) - fineOf o) ∧ (t.chan k).ties = (s.chan k).ties) ∧
        (fineOf ts < fineOf o + 8 → fineOf o < fineOf ts + 8 → (t.chan k).openTs = none ∧ (t.chan k).taken = (s.chan k).taken + 1 ∧
          (t.chan k).sumIv = (s.chan k).sumIv ∧ (t.chan k).ties = (s.chan k).ties + 1) ∧
        (fineOf ts + 8 ≤ fineOf o → (t.chan k).strays = (s.chan k).strays + 1 ∧ (t.chan k).taken = (s.chan k).taken))) ∧
  (∀ (s : State) (c : Fin 6) (root : Fin 10) (code : Nat) (fl : Bool),
    let ts := s.stamp c root code
    s.lko.timerLock = true → (s.chan c).armed = true → (s.chan c).freq = false → (s.chan c).paired = true → s.claimer c = none →
    polOk ((s.chCfg c).bits 1 0) fl = true → (s.chan c).lastTs = 0 → s.stillArming c ts = false → s.overtime (s.chan c) = false → Runs (.lookoutEdge c ⟨root, code⟩ fl) s fun t =>
      ((s.chan c).strayTs = none → (t.chan c).openTs = some ts ∧ (t.chan c).taken = (s.chan c).taken ∧
        (t.chan c).missed = (s.chan c).missed + (if (s.chan c).openTs = none then 0 else 1)) ∧
      (∀ o, (s.chan c).strayTs = some o → fineOf ts < fineOf o + 8 → (s.chan c).taken + 1 < (s.chan c).count →
        (t.chan c).taken = (s.chan c).taken + 1 ∧ (t.chan c).ties = (s.chan c).ties + 1 ∧ (t.chan c).strays = (s.chan c).strays - 1)) ∧
  (∀ (s : State) (c : Fin 6) (root : Fin 10) (code : Nat) (fl : Bool), s.lko.timerLock = false → exec (.lookoutEdge c ⟨root, code⟩ fl) s = .next s) ∧
  (∀ (s : State) (c : Fin 6), (s.chan c).armed = true → (s.chan c).owner = .register → (s.chan c).freq = false →
    let done (t : State) : Prop := (t.chan c).armed = false ∧ (t.chan c).done = true ∧ (t.chan c).reason = (if (s.chan c).taken = 0 then 1 else 0) ∧
      Raises s t .measureDone .info 4 c (le 1 (if (s.chan c).taken = 0 then 1 else 0) ++ le 4 (s.chan c).taken)
    (s.answers (chanAddr c 0xC) = true → Runs (.disarm c) s done) ∧ (s.atMark = true → (s.chan c).limit ≤ s.since (s.chan c).armMark → Runs (.measureTimeout c) s done) ∧
    (s.since (s.chan c).armMark < (s.chan c).limit → exec (.measureTimeout c) s = .next s)) ∧
  (∀ s : State, s.lko.timerLock = true → Runs .timerUnlock s fun t =>
    t.lko.timerLock = false ∧ Raises s t .timerUnlock .degraded 4 0xFFFF [] ∧ ∀ c : Fin 6, (t.chan c).armed = false) ∧
  (∀ s : State, exec .timerRelock s = .next { s with lko := { s.lko with timerLock := true } })

/-- TOD_TICK outside V2 and V3 with Lookout present: time of day rises by the increment of R402 and of the slew, which never passes what remains; at rate 0 with no slew it rises by 10 ns exactly; PPS_OUT rises exactly where OUT_EN is set and the seconds change, unless still high. In V3 nothing changes. SET, STEP and SLEW where the window answers: a set or a step waits for the mark, a slew replaces the remainder. TOD_SNAPSHOT at ridge tick 0 of a mark, once: the time at the ridge edge is latched with the mark and sent; a set that waits makes the time at that edge the value set, ends any slew and raises TOD_STEP; a step that waits adds LKO_ADJ_PHASE. PPS_IN_MISSING with IN_EN is raised (DEGRADED) 2,343,750 marks after the last edge, once an episode. LO_ERROR_MEASURE keeps the error while the root is locked to a qualified input, 2,048 marks after the last, and nothing elsewhere. LOOKOUT_DENSITY of a running density: widths inside their limits fill the bin of their temperature and end the rejects; others are dropped and counted. LOOKOUT_LOST marks Lookout lost, with its event, once. -/
def Obligations.TimeOfDayTicksIsSetAndSnapshot : Prop :=
  (∀ (s : State) (up : Bool), s.boot.pst ≠ .v2 → s.boot.pst ≠ .v3 → s.lko.lost = false → Runs (.todTick up) s fun t =>
    let l := s.lko
    let d := tickSlew l.rateS l.rateE l.slewRaw
    t.lko.tod = Tod.ofRaw (l.tod.raw + tickBase l.rateA l.rateE up + d) ∧ t.lko.slewRaw = l.slewRaw - d ∧
    (0 < l.slewRaw → 0 ≤ l.rateS → -1000000000 < l.rateE → 0 ≤ t.lko.slewRaw ∧ t.lko.slewRaw ≤ l.slewRaw) ∧
    (l.rateA = 0 → l.rateE = 0 → l.slewRaw = 0 → l.tod.raw + 10 * 2 ^ 32 < 2 ^ 48 * 1000000000 * 2 ^ 32 → t.lko.tod.raw = l.tod.raw + 10 * 2 ^ 32) ∧
    ((s.word 0x10050).bit 31 = true → t.lko.tod.secs ≠ l.tod.secs → t.lko.ppsOut = true ∧ t.lko.ppsLeft = (s.word 0x10050).bits 23 16 * 100000) ∧
    (l.ppsOut = false → (s.word 0x10050).bit 31 = false ∨ t.lko.tod.secs = l.tod.secs → t.lko.ppsOut = false)) ∧
  (∀ (s : State) (up : Bool), s.boot.pst = .v3 → exec (.todTick up) s = .next s) ∧
  (∀ s : State, s.answers 0x10010 = true → exec .set s = .next { s with lko := { s.lko with setDue := true } } ∧
    exec .step s = .next { s with lko := { s.lko with stepDue := true } } ∧
    Runs .slew s fun t => t.lko.slewRaw = fromTwos 32 (s.word 0x10024).toNat * 2 ^ 24 ∧ t.lko.tod = s.lko.tod) ∧
  (∀ (s : State) (ns16 : Nat), s.atMark = true → s.lko.lost = false → s.lko.snapAt ≠ some s.mark → Runs (.todSnapshot ns16) s fun t =>
    let edge := atRate (ns16 * 2 ^ 16) s.lko.rateA s.lko.rateS s.lko.rateE
    t.lko.snap = Tod.ofRaw (t.lko.tod.raw + edge) ∧ t.lko.snapMark = s.mark ∧ t.lko.setDue = false ∧ t.lko.stepDue = false ∧
    Message.todSnap t.lko.snap.secs t.lko.snap.ns t.lko.snap.frac (s.mark.toNat % 65536) ∈ t.out ∧
    (s.lko.setDue = false → s.lko.stepDue = false → t.lko.tod = s.lko.tod) ∧
    (s.lko.setDue = true → t.lko.todSet = true ∧ t.lko.slewRaw = 0 ∧
      Raises s t .todStep .info 4 0xFFFF (leInt 8 (sat63 ((s.todSetValue.raw - (s.lko.tod.raw + edge)) / 2 ^ 24))) ∧
      (s.lko.stepDue = false → t.lko.tod = Tod.ofRaw (s.todSetValue.raw - edge))) ∧
    (s.lko.setDue = false → s.lko.stepDue = true → t.lko.tod = Tod.ofRaw (s.lko.tod.raw + fromTwos 32 (s.word 0x10024).toNat * 2 ^ 24))) ∧
  (∀ s : State, (s.word 0x10050).bit 30 = true → (∀ m, s.lko.ppsMissing = false → s.lko.ppsAt = some m → 2343750 ≤ s.since m → Runs .ppsInMissing s fun t => t.lko.ppsMissing = true ∧
    Raises s t .ppsInMissing .degraded 4 4 (le 6 s.lko.pps.secs)) ∧ (s.lko.ppsMissing = true → exec .ppsInMissing s = .next s)) ∧
  (∀ (s : State) (ppb : Int), (∀ b, s.rdg.selected = some b → s.rdg.lock = true → (s.rdg.ref b).qual = true → (s.lko.loAt.all fun m => decide (2048 ≤ s.since m)) = true →
    exec (.loErrorMeasure ppb) s = .next { s with lko := { s.lko with loErr := some ppb, loAt := some s.mark } }) ∧ (s.rdg.selected = none → exec (.loErrorMeasure ppb) s = .next s)) ∧
  (∀ (s : State) (ws : List Int) (temp : Int), s.lko.density = true →
    (∀ b, itemFault Saddle.reset (.timer 0 ws) = none → binOf temp = some b → b < s.lko.bins.length → Runs (.lookoutDensity ws temp) s fun t =>
      t.lko.density = false ∧ t.lko.bins.getD b none = some (temp, ws) ∧ t.lko.rejects = 0 ∧ t.lko.calMark = s.mark) ∧
    (∀ p, itemFault Saddle.reset (.timer 0 ws) = some p → Runs (.lookoutDensity ws temp) s fun t =>
      t.lko.density = false ∧ t.lko.bins = s.lko.bins ∧ t.lko.rejects = min 255 (s.lko.rejects + 1) ∧ t.cal.rejects = s.cal.rejects + 1)) ∧
  (∀ s : State, (s.lko.lost = false → exec .lookoutLost s = .next (({ s with lko := { s.lko with lost := true } } : State).raise .lookoutLost 4 0xFFFF [])) ∧
    (s.lko.lost = true → exec .lookoutLost s = .next s))

/-- START where its window answers: in BLANK or DEPLOYED BIST_REFUSED with reason 1 and no unit touched; with a test running BIST_BUSY and nothing else. With none running, for a Spur that drives its own region with its field spare idle and fit and F_cap of 16 or more: the spare gets its configuration and tracks it, and the test waits for that handover with P and F_cap fixed; where the spare has failed it ends ABORTED_SPARE; for a Spur that drives none it goes straight to the save of its state, its oscillator at the entry of F_cap; for a Col instance with a healthy other one it begins with the patterns, or with the failover where the instance is active. ABORT of a running test of a Spur that holds saved state: ABORTED_STOP, restore follows, BIST_ABORTED with the patterns applied. BIST_PATTERNS_DONE 6 marks or more after the last pattern: PASS, NO_REF or FAIL by the expected signature; after a FAIL the Spur counts as failed and BIST_FAIL (DEGRADED) is raised; a Col instance is done at once. BIST_ENV_ABORT of the field under test, for a source that can have stopped it: ABORTED_ENV with its source, signature and the patterns by the ridge ticks. BIST_RETURN of a test with handover where the return can take place: the test is over, the Spur drives its region, and BIST_DONE tells PASS or NO_REF. BIST_POR_REPEAT repeats an aborted field once. That an unstated signature is a free value, and when the repeat comes, are the model's choices (notes/assumptions/13.md, 88.md). -/
def Obligations.OnDemandTestsRunJudgeAndReturn : Prop :=
  (∀ s : State, s.answers 0xB0000 = true →
    let w := s.word 0xB0004
    let idx := bistIdx (w.bits 31 30) (w.bits 8 0) (w.bits 14 14)
    (s.lcs.st = .blank ∨ s.lcs.st = .deployed → s.testRuns = false →
      exec .start s = .next (({ s with bist := { s.bist with result := 7, done := false } } : State).raise .bistRefused 8 idx (le 1 1 ++ le 2 idx))) ∧
    (s.testOpen = true → s.testRuns = true → exec .start s = .next (s.raise .bistBusy 8 idx (le 2 idx)))) ∧
  (∀ (s : State) (n : Fin 400), s.answers 0xB0000 = true → WordsOk s → s.testOpen = true → s.testRuns = false → (s.word 0xB0004).bits 31 30 = 0 → (s.word 0xB0004).bits 8 0 = n →
    (s.spur n).gates.driver = .own → s.spareIdle (fieldOf n) = true → 16 ≤ s.bstFcap n →
    Runs .start s fun t => t.bist.phase = 1 ∧ t.bist.unit = n ∧ t.bist.pow = (s.word 0xB0004).bits 19 15 ∧ t.bist.fcap = s.bstFcap n ∧ t.bist.result = 0 ∧
      t.bist.handover = true ∧ (t.col (fieldOf n)).spare.track = true ∧ (t.col (fieldOf n)).spare.target = n ∧
      ∀ o ∈ [0, 0x60, 0x64, 0x80, 0x90, 0x94, 0xA0], t.word (sprAddr (400 + fieldOf n) o) = s.word (sprAddr n o)) ∧
  (∀ (s : State) (n : Fin 425), s.answers 0xB0000 = true → s.testOpen = true → s.testRuns = false → (s.word 0xB0004).bits 31 30 = 0 → (s.word 0xB0004).bits 8 0 = n →
    (400 ≤ n.val ∧ s.spareFree (fieldOf n) = true) ∨ (n.val < 400 ∧ (s.spur n).gates.driver ≠ .own) → 16 ≤ s.bstFcap n →
    Runs .start s fun t => t.bist.phase = 2 ∧ t.bist.unit = n ∧ t.bist.fcap = s.bstFcap n ∧ t.bist.handover = false ∧
      t = ({ s with bist := t.bist } : State).modSpur n fun x => { x with gen := { x.gen with dcoCode := entryOf x.cal.trims.codes (s.bstFcap n) } }) ∧
  (∀ (s : State) (n : Fin 400), s.answers 0xB0000 = true → s.testOpen = true → s.testRuns = false → (s.word 0xB0004).bits 31 30 = 0 → (s.word 0xB0004).bits 8 0 = n →
    (s.spur n).gates.driver = .own → s.spareFree (fieldOf n) = true → 16 ≤ s.bstFcap n → (s.spur (400 + fieldOf n)).gates.failed = true →
    Runs .start s fun t => t.bist.phase = 0 ∧ t.bist.result = 5 ∧ t.bist.done = true ∧ Raises s t .bistAborted .info 8 n (le 1 5) ∧ t.spurs = s.spurs ∧ t.cols = s.cols) ∧
  (∀ (s : State) (f : Fin 25), s.answers 0xB0000 = true → s.testOpen = true → s.testRuns = false → (s.word 0xB0004).bits 31 30 = 1 → (s.word 0xB0004).bits 8 0 = f →
    s.otherHealthy f ((s.word 0xB0004).bits 14 14) = true →
    Runs .start s fun t => t.bist.phase = (if (s.col f).active = ((s.word 0xB0004).bits 14 14 == 1) then 1 else 3) ∧ t.bist.unit = f ∧
      t.bist.copy = (s.word 0xB0004).bits 14 14 ∧ t = { s with bist := t.bist }) ∧
  (∀ s : State, s.answers 0xB0000 = true → s.bist.kind = 0 → 2 ≤ s.bist.phase → s.bist.phase ≤ 4 → Runs .abort s fun t => t.bist.result = 6 ∧ t.bist.phase = 5 ∧
    t.bist.patterns = s.patternsNow ∧ t.spurs = s.spurs ∧ t.cols = s.cols ∧
    Raises s t .bistAborted .info 8 s.bist.unit (le 1 6 ++ le 1 0 ++ le 2 0 ++ le 4 s.patternsNow)) ∧
  (∀ (s : State) (sig : BitVec 64), s.bist.kind = 0 → s.bist.unit < 425 → s.bist.phase = 4 → 6 ≤ s.bistAge → Runs (.bistPatternsDone sig) s fun t =>
    t.bist.misr = sig ∧ t.bist.patterns = 2 ^ s.bist.pow ∧
    (s.expected = none → t.bist.result = 3 ∧ t.bist.phase = 5) ∧ (s.expected = some sig → t.bist.result = 1 ∧ t.bist.phase = 5) ∧
    (∀ e, s.expected = some e → e ≠ sig → t.bist.result = 2 ∧ t.bist.phase = 0 ∧ (t.spur s.bist.unit).gates.failed = true ∧
      Raises s t .bistFail .degraded 8 s.bist.unit (le 1 2 ++ le 1 s.bist.pow ++ le 2 0 ++ le 4 (2 ^ s.bist.pow) ++ le 8 e.toNat))) ∧
  (∀ (s : State) (sig : BitVec 64), s.bist.kind = 1 → s.bist.phase = 4 → 6 ≤ s.bistAge → s.expected = some sig → Runs (.bistPatternsDone sig) s fun t =>
    t.bist.phase = 0 ∧ t.bist.result = 1 ∧ t.bist.done = true ∧ t.spurs = s.spurs ∧
    Raises s t .bistDone .info 8 (0x200 + 2 * s.bist.unit + s.bist.copy) (le 1 1 ++ le 1 s.bist.pow ++ le 2 0 ++ le 4 (2 ^ s.bist.pow) ++ le 8 sig.toNat)) ∧
  (∀ (s : State) (f : Fin 25) (src : Fin 5) (lo hi : Word), s.rdg.started = true → s.bist.kind = 0 → fieldOf s.bist.unit = f → 2 ≤ s.bist.phase → s.bist.phase ≤ 4 → s.envSource f src = true →
    Runs (.bistEnvAbort f src lo hi) s fun t => t.bist.result = 4 ∧ t.bist.src = src ∧ t.bist.patterns = s.patternsNow ∧ t.bist.misr = hi ++ lo ∧ t.bist.phase = 5 ∧
      Raises s t .bistAborted .info 8 s.bist.unit (le 1 4 ++ le 1 src ++ le 2 0 ++ le 4 s.patternsNow)) ∧
  (∀ s : State, s.returns = true → s.bist.handover = true → s.bist.kind = 0 → s.bist.unit < 400 → (s.spur s.bist.unit).gates.driver = .spare → s.bist.holdWaits = false →
    Runs .bistReturn s fun t => t.bist.phase = 0 ∧ t.bist.done = true ∧ (t.spur s.bist.unit).gates.driver = .own ∧
      (s.bist.result = 1 ∨ s.bist.result = 3 → Raises s t .bistDone .info 8 s.bist.unit
        (le 1 s.bist.result ++ le 1 s.bist.pow ++ le 2 0 ++ le 4 s.bist.patterns ++ le 8 s.bist.misr.toNat))) ∧
  (∀ (s : State) (f : Fin 25), f.val ∈ s.bist.aborted → f.val ∉ s.bist.repeated → exec (.bistPorRepeat f) s =
    .next { s with bist := { s.bist with aborted := s.bist.aborted.filter (· != f.val), repeated := s.bist.repeated ++ [f.val] } })

/-- SPARE_TRACK of a region of the field, not dark, with the spare idle: the spare tracks it with the debt and tally of the Spur that clocks it, not yet ALIGNED. SPARE_ALIGNED after 16 cycles within 1 phase sets ALIGNED. SPARE_HANDOVER with the spare aligned and tracking, at the first cycle of its tally mark, outside every native window and with no armed set due there: the spare drives the region, tracks no more, and has the region Spur's debt, lead estimates, edges since the last short cycle and tally; where that Spur had failed, SPARE_TAKEOVER (CORRECTED) is raised. With the own Spur, not under test, aligned for its return and at the first cycle of its tally mark, it drives its region again with the spare's debt, estimates and tally. SPARE_FORCED of a spare that has tracked for 4 marks without ALIGNED hands over all the same at such a cycle, keeps in COL_FAULT the SLIP between the two tallies, saturating at 127, and raises SPARE_FORCED (DEGRADED). -/
def Obligations.FieldSpareTracksAndTakesTheRegion : Prop :=
  (∀ (s : State) (f : Fin 25) (r : Fin 400), fieldOf r = f.val → (s.col f).spare.driving = false → s.spareIdle f = true → s.dark r = false →
    Runs (.spareTrack f r) s fun t => (t.col f).spare.track = true ∧ (t.col f).spare.aligned = false ∧ (t.col f).spare.target = r ∧
      (∀ n, s.clockedBy r = some n → (t.spur (400 + f)).str.debt = (s.spur n).str.debt ∧ (t.spur (400 + f)).gen.tallyMark = (s.spur n).gen.tallyMark ∧
        (t.spur (400 + f)).gen.tallyCyc = (s.spur n).gen.tallyCyc)) ∧
  (∀ (s : State) (f : Fin 25), (s.col f).spare.track = true → (s.col f).spare.run = 16 →
    exec (.spareAligned f) s = .next (s.modCol f fun c => { c with spare := { c.spare with aligned := true } })) ∧
  (∀ (s : State) (f : Fin 25) (r : Fin 400), (s.col f).spare.target = r → (s.col f).spare.aligned = true → (s.col f).spare.track = true →
    (s.col f).spare.returning = false → (s.spur r).gates.driver = .own → s.cal.cur = none → s.atCycle0 (400 + f) = true → (s.spur (400 + f)).gen.commitHere = false →
    Runs (.spareHandover f) s fun t => (t.spur r).gates.driver = .spare ∧ (t.col f).spare.driving = true ∧ (t.col f).spare.track = false ∧
      (t.col f).spare.target = r ∧ (t.spur (400 + f)).str.debt = (s.spur r).str.debt ∧ (t.spur (400 + f)).str.leads = (s.spur r).str.leads ∧
      (t.spur (400 + f)).str.sinceShort = (s.spur r).str.sinceShort ∧ (t.spur (400 + f)).gen.tallyMark = (s.spur r).gen.tallyMark ∧
      (t.spur (400 + f)).gen.tallyCyc = (s.spur r).gen.tallyCyc ∧ ((s.spur r).gates.failed = true → Raises s t .spareTakeover .corrected 1 f (le 2 r))) ∧
  (∀ (s : State) (f : Fin 25) (r : Fin 400), (s.col f).spare.target = r → (s.col f).spare.aligned = true → (s.col f).spare.returning = true →
    (s.spur r).gates.driver = .spare → s.underTest r = false → s.cal.cur = none → s.atCycle0 r = true → (s.spur (400 + f)).gen.commitHere = false →
    Runs (.spareHandover f) s fun t => (t.spur r).gates.driver = .own ∧ (t.col f).spare.driving = false ∧ (t.col f).spare.returning = false ∧
      (t.spur r).str.debt = (s.spur (400 + f)).str.debt ∧ (t.spur r).str.leads = (s.spur (400 + f)).str.leads ∧
      (t.spur r).gen.tallyMark = (s.spur (400 + f)).gen.tallyMark) ∧
  (∀ (s : State) (f : Fin 25) (r : Fin 400), (s.col f).spare.target = r → (s.col f).spare.track = true → (s.col f).spare.aligned = false → s.cal.cur = none →
    s.atCycle0 (400 + f) = true → (s.spur (400 + f)).gen.commitHere = false → notAfter ((s.col f).spare.since + 4) (s.spur (400 + f)).gen.tallyMark = true →
    let v := slipOf (s.spur r).gen (s.spur (400 + f)).gen
    Runs (.spareForced f r) s fun t => (t.spur r).gates.driver = .spare ∧ (t.col f).spare.driving = true ∧ (t.col f).slip = v ∧ -127 ≤ v ∧ v ≤ 127 ∧
      (t.spur (400 + f)).str.debt = (s.spur r).str.debt ∧ Raises s t .spareForced .degraded 1 f (le 2 r ++ le 1 (twos 8 v)))

/-- SPUR_FAILED at ridge tick 0, after the mark of the Col's report, of a failed Spur whose incident is open, outside a storm, with no test running and the Spur not a lender. For a region's own Spur with the spare idle: the spare tracks the region, and SPUR_FAILED (DEGRADED) tells the cause and response 1. With the spare neither idle nor tracking it (or the failed Spur a field spare that drives the region), no borrow in the field and a lender l: the borrow of the region from l waits for its quiet mark, the region's Saddles are held, response 2. With no lender: at the first cycle of the tally mark of the Spur that clocks it, at once or due there, both root gates close and the region is dark with grade 0; FIELD_DEGRADED names it with the count of dark regions, response 3. A Spur that drives no region, and is no refuser of a split arm: response 0 and nothing else but the close of the incident. FAULT_FENCE outside a native window, for a region whose failed driver the Col has reported and that no spare takes over, fences the Spur that drives the region: the compute gate closes where that is the first cycle of its tally mark, and no register word changes. -/
def Obligations.FailedSpurIsAnsweredBySpareBorrowOrDark : Prop :=
  (∀ (s : State) (n : Fin 425) (i : Incident), s.faults.opened.getD 3 none = some i → i.unit = n → s.faults.storm = false → s.role.silent = false → s.atMark = true → (s.col (fieldOf n)).repMark ≠ some s.mark →
    (s.spur n).gates.failed = true → s.testRuns = false → n.val < 400 → s.regionOf n = some n.val → s.spareIdle (fieldOf n) = true →
    Runs (.spurFailed n) s fun t => (t.col (fieldOf n)).spare.track = true ∧ (t.col (fieldOf n)).spare.target = n ∧
      Raises s t .spurFailed .degraded 2 n (le 1 (s.spur n).gates.cause ++ le 1 1)) ∧
  (∀ (s : State) (n : Fin 425) (i : Incident) (r : Fin 400), s.faults.opened.getD 3 none = some i → i.unit = n → s.faults.storm = false → s.role.silent = false → s.atMark = true → (s.col (fieldOf n)).repMark ≠ some s.mark →
    (s.spur n).gates.failed = true → s.testRuns = false → s.regionOf n = some r.val → s.clockedBy r = some n.val → 400 ≤ n.val ∨ (s.spareIdle (fieldOf n) = false ∧ (s.col (fieldOf n)).spare.track = false) →
    s.lentTo r = none → (s.col (fieldOf r)).borrow = none →
    (∀ l, s.lenderFor r none = some l → Runs (.spurFailed n) s fun t =>
      (t.col (fieldOf r)).borrow = some { region := r, lender := l, since := s.mark, ready := false, quietAt := 0, connected := false } ∧
      (∀ k ∈ sadsOf r, (t.sad k).held = true) ∧ Raises s t .spurFailed .degraded 2 n (le 1 (s.spur n).gates.cause ++ le 1 2)) ∧
    (s.lenderFor r none = none → Runs (.spurFailed n) s fun t => 
      (s.atCycle0 n = true → (t.spur r).gates.driver = .dark ∧ (t.spur r).gates.comp = true ∧ (t.spur r).gates.tran = true ∧ (t.spur r).gates.grade = 0) ∧
      (s.atCycle0 n = false → (t.spur r).gates.darkDue = true) ∧ Raises s t .fieldDegraded .degraded 1 (fieldOf r) (le 2 r ++ le 1 (t.darkIn (fieldOf r))) ∧
      Raises s t .spurFailed .degraded 2 n (le 1 (s.spur n).gates.cause ++ le 1 3))) ∧
  (∀ (s : State) (n : Fin 425) (i : Incident), s.faults.opened.getD 3 none = some i → i.unit = n → s.faults.storm = false → s.role.silent = false → s.atMark = true → (s.col (fieldOf n)).repMark ≠ some s.mark →
    (s.spur n).gates.failed = true → s.testRuns = false → s.regionOf n = none → s.splitDark n = false → s.splitTaken n = false →
    exec (.spurFailed n) s = .next ((s.raise .spurFailed 2 n (le 1 (s.spur n).gates.cause ++ le 1 0)).closeIncident 3 n)) ∧
  (∀ (s : State) (r : Fin 400), s.cal.cur = none → s.failureTold (s.driverSpur r) = true → s.noSpareFor (s.driverSpur r) r = true → Runs (.faultFence r) s fun t =>
    (t.spur (s.driverSpur r)).gates.comp = (s.atCycle0 (s.driverSpur r) || (s.spur (s.driverSpur r)).gates.comp) ∧ (t.spur (s.driverSpur r)).gates.faultFence = true ∧ t = { s with spurs := t.spurs })

/-- BORROW_QUIET_MARK of a waiting borrow at the first cycle of the lender's tally mark: with every neighbour's driver at a debt of 1 phase or less, its switch mark is fixed and nothing else changes; without, before 64 marks nothing changes, and from then on the switch mark is fixed and BORROW_FORCED (DEGRADED) names the lender. BORROW_START of a borrow whose switch mark is fixed, at the first cycle of a later tally mark of the lender, outside a native window: the lender clocks the region, its compute gate is closed by the fault fence, the Saddle between them shows who lends, ACTIVE and SLIP as the tallies tell it, the lender has the cap of 2 phases and its estimate toward the region is 0, and BORROW_START (CORRECTED) tells lender and SLIP. BORROW_RELEASE with the own Spur, not under test, aligned for its return at the first cycle of its tally mark: it drives its region with the debt of the Spur that clocked it, the fault fence is lifted, the field has no borrow, the lender's Saddle is no longer ACTIVE. -/
def Obligations.BorrowWaitsConnectsAndEnds : Prop :=
  (∀ (s : State) (f : Fin 25) (b : Borrow), (s.col f).borrow = some b → b.connected = false → b.ready = false → s.atCycle0 (s.driverSpur b.lender) = true →
    let fixed := s.modCol f fun c => { c with borrow := some { b with ready := true, quietAt := (s.spur (s.driverSpur b.lender)).gen.tallyMark } }
    (s.quietMark b.region = true → exec (.borrowQuietMark f) s = .next fixed) ∧
    (s.quietMark b.region = false → s.since b.since < 64 → exec (.borrowQuietMark f) s = .next s) ∧
    (s.quietMark b.region = false → 64 ≤ s.since b.since → exec (.borrowQuietMark f) s = .next (fixed.raise .borrowForced 3 (sadBetween b.region b.lender) (le 2 b.lender)))) ∧
  (∀ (s : State) (f : Fin 25) (b : Borrow) (r : Fin 400) (k : Fin 760), (s.col f).borrow = some b → b.connected = false → b.ready = true → s.cal.cur = none →
    b.region = r → fieldOf b.region = f → sadBetween b.region b.lender = k → sadOther k b.region = b.lender → k.val ∈ sadsOf b.region → b.lender < 400 →
    (s.spur b.lender).gates.driver = .own → s.atCycle0 b.lender = true → Mark.ahead (s.spur b.lender).gen.tallyMark b.quietAt = true →
    let v := slipOf (s.spur ((s.clockedBy b.region).getD b.region)).gen (s.spur b.lender).gen
    Runs (.borrowStart f r) s fun t => (t.spur b.region).gates.driver = .borrow b.lender ∧ (t.spur b.region).gates.comp = true ∧ (t.spur b.region).gates.faultFence = true ∧
      (t.col f).borrow = some { b with ready := true, connected := true } ∧ (t.sad k).active = true ∧ (t.sad k).borrow = (if sadLow k = b.lender then 1 else 2) ∧
      (t.sad k).slip = v ∧ (t.spur b.lender).str.cap2 = true ∧ (t.spur b.lender).str.leads.get (sadDir k b.lender) = 0 ∧
      Raises s t .borrowStart .corrected 3 k (le 2 b.lender ++ le 1 (twos 8 v))) ∧
  (∀ (s : State) (f : Fin 25) (b : Borrow) (r : Fin 400), (s.col f).borrow = some b → b.region = r → fieldOf r = f.val → b.connected = true → (s.col f).spare.aligned = true →
    (s.col f).spare.target = r → (s.col f).spare.returning = true → s.underTest r = false → s.atCycle0 r = true →
    Runs (.borrowRelease f) s fun t => (t.spur r).gates.driver = .own ∧ (t.spur r).gates.faultFence = false ∧ (∀ n, s.clockedBy r = some n → (t.spur r).str.debt = (s.spur n).str.debt) ∧ (t.col f).borrow = none ∧
      ∀ k ∈ sadsOf r, (t.sad k).active = false)

/-- INCIDENT_OPEN by an active Summit at ridge tick 0, outside a storm: the first queued incident of a class opens where none is open; one of higher severity preempts an open one that can be suspended, which returns to the queue's head with INCIDENT_PREEMPTED; with none queued nothing changes. In a storm, once per mark, the first incident to have arrived is closed, a Spur's region made dark with no quiet mark. ERROR_STORM with an incident that found the queue full: the storm begins and ERROR_STORM (FATAL) is raised; with none nothing changes. FATAL_EVENT of the oldest one waiting: the fatal signal, the command lane message of an instance that is not silent, SAFE forced, descriptor processing stopped, only armed or applied sets left, the first code kept. CLEAR, where its window answers, after a storm alone with nothing queued, lifts the forced SAFE and keeps FATAL and the signal; otherwise CFG_BUSY. SPUR of a failed Spur tested since, not dark by a storm, in a state with tests open: it is released, and a region's own Spur that does not drive it tracks for its return; without the test CFG_BUSY. INST releases a failed Col instance tested since. -/
def Obligations.IncidentsStormFatalStateAndRelease : Prop :=
  (∀ (s : State) (c : Fin 8), s.role.silent = false → s.atMark = true → s.faults.storm = false →
    (s.faults.queuedOf c = none → exec (.incidentOpen c) s = .next s) ∧
    (∀ i, s.faults.queuedOf c = some i → s.faults.opened.getD c none = none → exec (.incidentOpen c) s =
      .next { s with faults := { s.faults with opened := setNth s.faults.opened c (some i), queue := removeOne i s.faults.queue } }) ∧
    (∀ i j, s.faults.queuedOf c = some i → s.faults.opened.getD c none = some j → s.faults.opened.length = 8 → sevRank j.sev < sevRank i.sev → s.canSuspend j = true →
      Runs (.incidentOpen c) s fun t => t.faults.opened.getD c none = some i ∧ t.faults.queue = j :: removeOne i s.faults.queue ∧
        Raises s t .incidentPreempted .info 0 s.summitIdx (le 2 j.ev.code))) ∧
  (∀ (s : State) (i : Incident) (r : Fin 400), s.role.silent = false → s.atMark = true → s.faults.storm = true → s.faults.stormNext = some i → i.cls = 3 → s.faults.takenAt ≠ some s.mark →
    s.regionOf i.unit = some r.val → s.clockedBy r = some i.unit → Runs (.incidentOpen 3) s fun t => (s.faults.opened.getD 3 none = some i → t.faults.opened.getD 3 none = none) ∧
      (s.atCycle0 i.unit = true → (t.spur r).gates.driver = .dark ∧ (t.spur r).gates.comp = true ∧ (t.spur r).gates.tran = true) ∧
      (s.atCycle0 i.unit = false → (t.spur r).gates.darkDue = true) ∧
      r.val ∈ t.faults.stormDark ∧ t.faults.queue = removeOne i s.faults.queue ∧ t.faults.takenAt = some s.mark) ∧
  (∀ s : State, (s.faults.overflow = [] → exec .errorStorm s = .next s) ∧
    (s.faults.overflow ≠ [] → s.faults.storm = false → Runs .errorStorm s fun t => t.faults.storm = true ∧ t.faults.overflow = [] ∧
      Raises s t .errorStorm .fatal 0 s.summitIdx [] ∧ s.event .errorStorm .fatal 0 s.summitIdx [] ∈ t.faults.pending)) ∧
  (∀ s : State, (s.faults.pending = [] → exec .fatalEvent s = .next s) ∧
    (∀ e rest, s.faults.pending = e :: rest → Runs .fatalEvent s fun t => t.boot.pinFatal = true ∧ t.faults.fatal = true ∧ t.faults.forceSafe = true ∧
      t.faults.code = (if s.faults.fatal then s.faults.code else e.ev.code) ∧ t.faults.pending = rest ∧ t.hri.stopped = true ∧
      (strands e.ev = true → t.faults.noStage = true) ∧ (s.role.silent = false → Message.lane (.fatal e.ev.code) ∈ t.out) ∧ ∀ x ∈ t.plan.sets, x.armed = true ∨ x.applied = true)) ∧
  (∀ s : State, s.answers 0x704 = true →
    (s.faults.storm = true → s.faults.queue = [] → s.faults.overflow = [] → s.faults.otherFatal = false → s.faults.forceSafe = true →
      Runs .clear s fun t => t.faults.forceSafe = false ∧ t.faults.storm = false ∧ t.faults.fatal = s.faults.fatal ∧ t.faults.code = s.faults.code ∧ t.boot.pinFatal = s.boot.pinFatal) ∧
    (s.faults.storm = false ∨ s.faults.queue ≠ [] → exec .clear s = .next (s.raise .cfgBusy 0 s.summitIdx (le 4 0x704 ++ le 4 0x10000)))) ∧
  (∀ (s : State) (f : Fin 25) (p : Fin 17), s.answers (colAddr f 0x48) = true → s.testOpen = true →
    let n := spurAt f p
    ((s.spur n).gates.failed = true → (s.spur n).gates.testPassed = true → n ∉ s.faults.stormDark → Runs (.spur f p) s fun t =>
      (t.spur n).gates.failed = false ∧ (t.col f).relPos = p ∧ (n < 400 → (s.spur n).gates.driver ≠ .own → (t.col f).spare.returning = true ∧ (t.col f).spare.target = n) ∧
      ∀ k : Fin 425, k.val ≠ n → t.spur k = s.spur k) ∧
    ((s.spur n).gates.testPassed = false → exec (.spur f p) s =
      .next ((s.modCol f fun c => { c with relPos := p }).raise .cfgBusy 1 f (le 4 (colAddr f 0x48) ++ le 4 (0x10000 + p))))) ∧
  (∀ (s : State) (f : Fin 25), s.answers (colAddr f 0x48) = true → s.testOpen = true → (s.col f).testPassed = true → (s.col f).pFailed = true ∨ (s.col f).sFailed = true →
    exec (.inst f) s = .next (s.modCol f fun c => { c with pFailed := false, sFailed := false, testPassed := false }))

/-- AVS_SLOT that begins at ridge tick 32 of an even mark, or before the start pulse, unparked, from stage 3 on, with no reply awaited and no lower request due: a request that differs from the last value written is written, a rise then waiting for its acknowledgement; else a waiting rise whose slew ends before the slot does is asked for status; else rail current is read when it is its turn and no test runs in the field, or rail voltage. With a reply awaited the slot carries nothing new before the 8th frame, and then the same message once more (that the slots wait so is the model's reading, notes/assumptions/84.md). AVS_REPLY of the transaction sent, on a good link: VDone without alert acknowledges the value written; a current is kept; a rail reading within 5 % with no cap changes only the reading; the fourth in a row outside caps the grant at the FCODE in force, with RAIL_BAND. The 64th good reply on a failed link ends its failure. REG_LINK_FAIL after 3 failed transactions fails the link with its event, once. GOVERNOR_EVAL at ridge tick 0 of a multiple of 16, once, its caps taken: above the envelope or the cap, G takes the next lower entry and HOLD is 4; below 90 % of both, HOLD counts down, then G takes the next higher one; at another mark nothing changes. THERMAL_EVAL at a multiple of 64: a domain in use at or above its thermal cap lowers g_d, within 5 degrees below keeps it, and after 256 cool marks since the last change raises it. -/
def Obligations.RegulatorLinksAndGovernor : Prop :=
  (∀ (s : State) (f : Fin 25), s.slotBegins f = true →
    let a := (s.col f).avs
    (a.openTx = 0 → a.lowerDue = none → a.req ≠ a.written → Runs (.avsSlot f) s fun t => Message.avsWrite f a.req ∈ t.out ∧ (t.col f).avs.written = a.req ∧
      (t.col f).avs.waiting = decide (a.acked < a.req) ∧ (t.col f).avs.acked = min a.acked a.req ∧ (t.col f).avs.openTx = 1) ∧
    (a.openTx = 0 → a.lowerDue = none → a.req = a.written → a.waiting = true → (a.slewEnd - s.rdg.ridge).toNat < 512 → Runs (.avsSlot f) s fun t =>
      Message.avsStatus f ∈ t.out ∧ (t.col f).avs.openTx = 2 ∧ (t.col f).avs.written = a.written) ∧
    (a.openTx = 0 → a.lowerDue = none → a.req = a.written → a.waiting = false → Runs (.avsSlot f) s fun t =>
      let amps : Bool := a.turn && !s.testIn f
      Message.avsTelem f (if amps then 1 else 0) ∈ t.out ∧ (t.col f).avs.openTx = (if amps then 4 else 3) ∧ (t.col f).avs.turn = !amps ∧ (t.col f).avs.written = a.written) ∧
    (a.openTx ≠ 0 → a.frames < 7 → exec (.avsSlot f) s = .next (s.modAvs f fun x => { x with slotAt := some s.rdg.ridge, frames := a.frames + 1 })) ∧
    (a.openTx = 1 → a.frames = 7 → exec (.avsSlot f) s = .next ((s.modAvs f fun x => { x with slotAt := some s.rdg.ridge, frames := 8 }).send (.avsWrite f a.written)))) ∧
  (∀ (s : State) (f : Fin 25), (s.col f).avs.failed = false →
    let a := (s.col f).avs
    (a.openTx = 2 → a.waiting = true → Runs (.avsReply f (.status true false)) s fun t =>
      (t.col f).avs.waiting = false ∧ (t.col f).avs.acked = a.written ∧ (t.col f).avs.openTx = 0 ∧ t = { s with cols := t.cols }) ∧
    (∀ lsb, a.openTx = 4 → Runs (.avsReply f (.current lsb false)) s fun t => (t.col f).avs.amps = lsb ∧ (t.col f).avs.rail = a.rail ∧ t = { s with cols := t.cols }) ∧
    (∀ mv, a.openTx = 3 → a.capped = false → 20 * (max mv a.acked - min mv a.acked) ≤ a.acked → Runs (.avsReply f (.rail mv false)) s fun t =>
      (t.col f).avs.rail = mv ∧ (t.col f).avs.capped = false ∧ (t.col f).avs.amps = a.amps ∧ t = { s with cols := t.cols }) ∧
    (∀ mv, a.openTx = 3 → a.outBand = 3 → a.slewEnd = s.rdg.ridge → a.acked < 20 * (max mv a.acked - min mv a.acked) → Runs (.avsReply f (.rail mv false)) s fun t =>
      (t.col f).avs.capped = true ∧ (t.col f).avs.capFcode = s.fieldFcode f ∧ t.role.baseDue = true ∧
      Raises s t .railBand .degraded 11 f (le 2 mv ++ le 2 a.acked ++ le 1 0))) ∧
  (∀ (s : State) (f : Fin 25), (s.col f).avs.openTx = 1 → (s.col f).avs.failed = true → (s.col f).avs.good = 63 → Runs (.avsReply f .written) s fun t =>
    (t.col f).avs.failed = false ∧ Raises s t .regLinkFail .degraded 11 f (le 1 1)) ∧
  (∀ (s : State) (f : Fin 25), ((s.col f).avs.failed = true → exec (.regLinkFail f) s = .next s) ∧
    ((s.col f).avs.failed = false → 3 ≤ (s.col f).avs.bad → Runs (.regLinkFail f) s fun t => (t.col f).avs.failed = true ∧ t.role.baseDue = true ∧
      ((s.col f).avs.capped = false → (t.col f).avs.capFcode = s.fieldFcode f) ∧ Raises s t .regLinkFail .degraded 11 f (le 1 0))) ∧
  (∀ s : State, s.mark.toNat % 16 ≠ 0 → exec .governorEval s = .next s) ∧
  (∀ s : State, s.atMark = true → s.role.silent = false → s.mark.toNat % 16 = 0 → s.gov.evalAt ≠ some s.mark → s.govHeld = false → s.gov.capDue = false →
    let x := s.fab.dom s.fab.govDom
    let k := 16 * 4 ^ s.gov.sprint
    let n16 := 1000000 * countOf 16 s.gov.hist
    let nw := 1000000 * countOf k s.gov.hist
    let p16 := sumOf 16 s.gov.hist
    let pw := sumOf k s.gov.hist
    Runs .governorEval s fun t => t.gov.gd = s.gov.gd ∧
      (24000 * n16 < p16 ∨ s.gov.cap * nw < pw → t.gov.g = x.entryUnder s.gov.g ∧ t.gov.hold = 4 ∧ t.gov.reason = (if 24000 * n16 < p16 then 2 else 1) ∧
        (t.gov.g ≠ s.gov.g → Raises s t .govLimit .info 0 s.summitIdx (le 1 t.gov.reason ++ le 1 s.fab.govDom ++ le 1 t.gov.g))) ∧
      (p16 < 21600 * n16 → 10 * pw < 9 * (s.gov.cap * nw) → 0 < s.gov.hold → t.gov.g = s.gov.g ∧ t.gov.hold = s.gov.hold - 1) ∧
      (p16 < 21600 * n16 → 10 * pw < 9 * (s.gov.cap * nw) → s.gov.hold = 0 → t.gov.g = min 96 (x.entryOver s.gov.g) ∧ t.gov.hold = 0)) ∧
  (∀ (s : State) (d : Nat) (c : Int), s.atMark = true → s.role.silent = false → s.mark.toNat % 64 = 0 → s.gov.thermAt ≠ some s.mark → s.govHeld = false → d ∈ s.fab.used → d < 8 →
    s.gov.gd.length = 8 → s.tmax d = some c → Runs .thermalEval s fun t => t.gov.g = s.gov.g ∧
      (16 * (s.gov.tcap : Int) ≤ c → nth t.gov.gd d = (s.fab.dom d).entryUnder (nth s.gov.gd d)) ∧
      (16 * (s.gov.tcap : Int) - 80 < c → c < 16 * (s.gov.tcap : Int) → nth t.gov.gd d = nth s.gov.gd d) ∧
      (c ≤ 16 * (s.gov.tcap : Int) - 80 → 256 ≤ s.since (s.gov.hot.getD d 0) → 256 ≤ s.since (s.gov.changed.getD d 0) →
        nth t.gov.gd d = (s.fab.dom d).entryOver (nth s.gov.gd d)) ∧
      (c ≤ 16 * (s.gov.tcap : Int) - 80 → s.since (s.gov.changed.getD d 0) < 256 → nth t.gov.gd d = nth s.gov.gd d))

/-- TRIP1 not in force, awake: it is in force, every thermal grant is at most its domain's SAFE entry, THERM_TRIP. TRIP2 in V0 with READY and no test: THERM_TRIP, and V1 entry begins. TRIP3: the fatal signal is driven and, awake, THERM_CRIT (FATAL) raised. TRIP_RELEASE of level 1: THERM_TRIP of the release, the governor waits. GOVERNOR_RESUME at ridge tick 0, 1,024 marks after it lets the governor go on, before that nothing changes. SUP0: V3, with time of day lost. SUP1 falling in V0 or V1 with READY raises SUPPLY_LOST (FATAL). In service, HOLD_ENTRY under basic control or with IDLE, nothing under way, in V0 with no test: V1 entry begins with the base recomputed; with a move under way CFG_BUSY. HOLD_EXIT in V1 without TRIP2: the gates are to open 2 marks later. PARK_ENTRY in V1: no save runs, no channel is armed, every field requests the park voltage, PSTATE tells 2; elsewhere CFG_BUSY. PARK_READY at ridge tick 0 of the 16th mark, with no wake waiting: V2, park-ready driven, the root unlocked, time of day kept. WAKE in V2 by an enabled source: a start of kind 2 with its cause, the wake pin high and Lookout's time kept; a source not enabled changes nothing. -/
def Obligations.TripsSuppliesAndPowerStates : Prop :=
  (∀ s : State, s.lko.trips.length = 3 → s.lko.trips.getD 0 false = false → s.awake = true → Runs .trip1 s fun t => t.lko.trips.getD 0 false = true ∧
    (∀ d < 8, nth t.gov.gd d = min (nth s.gov.gd d) ((s.fab.dom d).fcode (s.fab.dom d).safe)) ∧ t.role.baseDue = true ∧
    Raises s t .thermTrip .degraded 4 0xFFFF (le 1 1 ++ le 1 0)) ∧
  (∀ s : State, s.lko.trips.getD 1 false = false → s.boot.ready = true → s.boot.pst = .v0 → s.boot.req = 0 → s.testRuns = false → Runs .trip2 s fun t =>
    t.boot.req = 1 ∧ t.boot.moving = true ∧ t.role.baseDue = true ∧ Raises s t .thermTrip .degraded 4 0xFFFF (le 1 2 ++ le 1 0)) ∧
  (∀ s : State, s.lko.trips.getD 2 false = false → s.boot.pst ≠ .v3 → Runs .trip3 s fun t => t.boot.pinFatal = true ∧ (s.faults.src = 0 → t.faults.src = 2) ∧
    (s.awake = true → Raises s t .thermCrit .fatal 4 0xFFFF [])) ∧
  (∀ s : State, s.lko.trips.length = 3 → s.lko.trips.getD 0 false = true → s.awake = true → s.boot.state ≠ 2 → Runs (.tripRelease 0) s fun t =>
    t.lko.trips.getD 0 false = false ∧ t.lko.trip1Rel = some s.mark ∧ t.govHeld = true ∧ Raises s t .thermTrip .degraded 4 0xFFFF (le 1 1 ++ le 1 1)) ∧
  (∀ (s : State) (m : Mark), s.lko.trip1Rel = some m → (s.atMark = true → 1024 ≤ s.since m → exec .governorResume s = .next { s with lko := { s.lko with trip1Rel := none } }) ∧
    (s.since m < 1024 → exec .governorResume s = .next s)) ∧
  (∀ s : State, Runs .sup0 s fun t => t.boot.pst = .v3 ∧ t.lko.sup0 = false ∧ t.lko.todSet = false ∧ t.boot.ready = false) ∧
  (∀ s : State, s.lko.sup1 = true → s.boot.ready = true → s.awake = true → Runs (.sup1 false) s fun t => t.lko.sup1 = false ∧
    Raises s t .supplyLost .fatal 4 0xFFFF (le 1 1)) ∧
  (∀ s : State, s.answers 0x810 = true → s.boot.ready = true →
    (s.boot.moving = true → exec .holdEntry s = .next (s.raise .cfgBusy 0 s.summitIdx (le 4 0x810 ++ le 4 1))) ∧
    (s.boot.moving = false → s.basic = true ∨ s.hri.idle = true → s.boot.pst = .v0 → s.testRuns = false → Runs .holdEntry s fun t =>
      t.boot.req = 1 ∧ t.boot.moving = true ∧ t.role.baseDue = true) ∧
    (s.boot.moving = false → s.boot.pst = .v1 → s.lko.trips.getD 1 false = false → Runs .holdExit s fun t =>
      t.boot.req = 0 ∧ t.boot.moving = true ∧ t.boot.gateAt = some (s.mark + 2) ∧ t = { s with boot := t.boot, cal := t.cal }) ∧
    (s.boot.pst = .v1 → s.lko.trips.getD 1 false = true → exec .holdExit s = .next (s.raise .cfgBusy 0 s.summitIdx (le 4 0x810 ++ le 4 0))) ∧
    (s.boot.moving = false → s.boot.pst = .v1 → Runs .parkEntry s fun t => t.boot.req = 2 ∧ t.boot.state = 2 ∧ t.boot.parkAt = some s.mark ∧ t.crn.saving = false ∧
      (∀ c : Fin 6, (t.chan c).armed = false) ∧ (∀ f : Fin 25, (t.col f).avs.req = s.hri.park) ∧ Raises s t .pstate .info 0 s.summitIdx (le 1 2 ++ le 1 s.boot.wake)) ∧
    (s.boot.pst ≠ .v1 → exec .parkEntry s = .next (s.raise .cfgBusy 0 s.summitIdx (le 4 0x810 ++ le 4 2)))) ∧
  (∀ (s : State) (m : Mark), s.boot.parkAt = some m → s.boot.state = 2 → s.boot.pst = .v1 → s.atMark = true →
    (s.since m < 16 → exec .parkReady s = .next s) ∧
    (16 ≤ s.since m → s.boot.wakeDue = none → Runs .parkReady s fun t => t.boot.pst = .v2 ∧ t.boot.pinPark = true ∧ t.boot.moving = false ∧ t.rdg.lock = false ∧
      t.lko.tod = s.lko.tod ∧ t.lko.savePending = s.lko.savePending ∧ t.words = s.words)) ∧
  (∀ (s : State) (c : WakeCause), (s.wakeOn c = false → exec (.wake c) s = .next s) ∧
    (s.wakeOn c = true → s.boot.pst = .v2 → Runs (.wake c) s fun t => t.boot.pst = .v0 ∧ t.boot.kind = 2 ∧ t.boot.wake = wakeCode c ∧ t.boot.pinWake = true ∧
      t.boot.ready = false ∧ t.boot.stage = (if s.lko.oscOk then 1 else 0) ∧ t.lko.tod = s.lko.tod ∧ t.rdg.ridge = 0))

/-- POWER_UP: the block as at reset but for the flash device's contents: stage 0, not READY, no word written, no time of day set, ridge count and EPOCH 0. BLK_RESET_ASSERT of a block not held: held in reset, no ridge count running, time of day, Lookout's words and every Col's fatal record kept, every other word at its reset value where no board table is kept, the pins as they are. BLOCK_RESET, the release after a reassertion: a start of kind 1 at stage 1 where the oscillator runs, the three pins low. OSCILLATOR_SETTLED ends stage 0 with SUP1 above its threshold, and waits without. STAGE1_DONE ends stage 1 exactly where REFCLK_A is qualified and the reset released. ROOT_LOCKED in stage 2 with a usable flash device: stage 3, the root and Lookout's timer locked on REFCLK_A, the state of the security block with SERVICE left for DEPLOYED, every field requesting the voltage of FCODE 16, the instance in field 23 active exactly where only it passed. BANK_F_VERIFIED in stage 3 on a usable device: with reason 0 and a valid commit record the factory guards, none above its default, and the signatures are taken; with another, or with no commit record (reason 1), every guard is 64, no signature exists and, outside BLANK, CRN_BANK_BAD (DEGRADED) tells it. -/
def Obligations.StartsKeepWhatR480SaysAndPassTheirStages : Prop :=
  (∀ s : State, Runs .powerUp s fun t => t.boot.stage = 0 ∧ t.boot.ready = false ∧ (∀ a, t.word a = resetWord a) ∧ t.lko.todSet = false ∧ t.rdg.ridge = 0 ∧ t.rdg.epoch = 0 ∧
    t.crn.a = s.crn.a ∧ t.crn.b = s.crn.b ∧ t.crn.f = s.crn.f ∧ t.spurs = State.reset.spurs ∧ t.saddles = State.reset.saddles ∧ t.plan = State.reset.plan) ∧
  (∀ s : State, s.boot.resetN = true → Runs .blkResetAssert s fun t => t.boot.resetN = false ∧ t.rdg.started = false ∧ t.lko.tod = s.lko.tod ∧
    (∀ a, 0x10000 ≤ a → a < 0x10500 → t.word a = s.word a) ∧ (s.lko.tableKept = false → ∀ a, a < 0x10000 ∨ 0x10500 ≤ a → t.word a = resetWord a) ∧
    (∀ f : Fin 25, (t.col f).recValid = (s.col f).recValid ∧ (t.col f).recCode = (s.col f).recCode) ∧
    t.boot.pinFatal = s.boot.pinFatal ∧ t.boot.pinPark = s.boot.pinPark ∧ t.boot.pinWake = s.boot.pinWake) ∧
  (∀ s : State, s.boot.resetN = true → exec .blockReset s = .next s) ∧
  (∀ s : State, s.boot.resetN = false → s.boot.reasserted = true → Runs .blockReset s fun t => t.boot.resetN = true ∧ t.boot.kind = 1 ∧
    t.boot.stage = (if s.lko.oscOk then 1 else 0) ∧ t.boot.pinFatal = false ∧ t.boot.pinPark = false ∧ t.boot.pinWake = false ∧ t.lko.tod = s.lko.tod ∧
    t.rdg.a = s.rdg.a ∧ t.rdg.ridge = 0) ∧
  (∀ s : State, s.boot.pst = .v0 → s.boot.stage = 0 → Runs .oscillatorSettled s fun t => t.lko.oscOk = true ∧ t.boot.stage = if s.lko.sup1 then 1 else 0) ∧
  (∀ s : State, s.inStage 1 = true → (s.rdg.a.qual = true → s.boot.resetN = true → exec .stage1Done s = .next (s.toStage 2)) ∧
    (s.rdg.a.qual = false ∨ s.boot.resetN = false → exec .stage1Done s = .next s)) ∧
  (∀ (s : State) (one two : Bool) (st : LifeCycle), s.inStage 2 = true → s.crn.unusable = false → Runs (.rootLocked one two st true) s fun t =>
    t.boot.stage = 3 ∧ t.rdg.lock = true ∧ t.rdg.root = .selA ∧ t.lko.timerLock = true ∧ t.lko.todSrc = 0 ∧ t.role.active = (!one && two) ∧
    t.role.silent = (!one && !two) ∧ t.lcs.st = (if st = .service then .deployed else st) ∧ ∀ f : Fin 25, (t.col f).avs.req = s.volt f 16) ∧
  (∀ (s : State) (x : Factory), s.inStage 3 = true → s.crn.unusable = false →
    (s.crn.f.commit.isSome = true → Runs (.bankFVerified 0 x) s fun t => t.boot.stage = 4 ∧ t.crn.fOk = true ∧ t.crn.spurSigs = x.spurSigs ∧ t.lko.trimLoaded = true ∧
      ∀ n : Fin 425, (t.spur n).cal.guards = guardsOf (x.guards.getD n (List.replicate 8 64))) ∧
    (∀ r : Fin 8, r ≠ 0 ∨ s.crn.f.commit = none → Runs (.bankFVerified r x) s fun t => t.boot.stage = 4 ∧ t.crn.fOk = false ∧ t.crn.spurSigs = [] ∧ t.crn.colSigs = [] ∧
      (∀ n : Fin 425, (t.spur n).cal.guards = List.replicate 8 64) ∧
      (s.lcs.st ≠ .blank → Raises s t .crnBankBad .degraded 7 2 (le 1 (if s.crn.f.commit = none then 1 else r) ++ le 4 (s.crn.f.commit.getD 0)))))

/-- TEST_SELECT_DONE in stage 4 with a usable flash device and no field waiting for its repeat: stage 5; bank A where it verified and B did not or has no higher sequence, else B where it verified, else, outside BLANK, a verified bank F, else the design defaults, under which sequence 0 is shown, every Spur is limited as after a third reject and CRN_NONE is raised, INFO in BLANK and DEGRADED elsewhere; CRN_BOOT tells the bank and its sequence; with expected signatures a Spur that failed the run, of a field that was tested, counts as failed. START_PULSE in stage 5 with the root locked: stage 6, ridge count and EPOCH at 0, and every Spur in ACQUIRE at FCODE 16, its tally at mark 0 cycle 0, its debt and estimates 0, all gates closed. FIRST_MARK_OF_SERVICE in stage 6, at ridge tick 0: before mark 32, and before mark 64 with a Spur that is to drive not LOCKED, nothing changes; with every Spur fit and TRIP2 not in force, READY, stage 7, S kept, every region's gates open with debt 0, every Saddle neither disabled nor failed usable, PSTATE 0 raised. -/
def Obligations.SelectionLoadPulseAndFirstMarkOfService : Prop :=
  (∀ (s : State) (a b : Fin 8) (failed : List Nat) (cols : PorCols), s.inStage 4 = true → s.crn.unusable = false → s.repeatWaits = false → Runs (.testSelectDone a b failed cols) s fun t =>
    let ca := s.crn.a.commit.getD 0
    let cb := s.crn.b.commit.getD 0
    let ra := if s.crn.a.commit = none then 1 else a.val
    let rb := if s.crn.b.commit = none then 1 else b.val
    t.boot.stage = 5 ∧ Raises s t .crnBoot .info 7 t.crn.bank (le 1 t.crn.bank ++ le 4 t.crn.seq) ∧
    (ra = 0 → rb ≠ 0 ∨ cb ≤ ca → t.crn.bank = 0 ∧ t.crn.seq = ca) ∧ (rb = 0 → ra ≠ 0 ∨ ca < cb → t.crn.bank = 1 ∧ t.crn.seq = cb) ∧
    (ra ≠ 0 → rb ≠ 0 → s.lcs.st ≠ .blank → s.crn.fOk = true → t.crn.bank = 2 ∧ t.crn.seq = s.crn.f.commit.getD 0) ∧
    (ra ≠ 0 → rb ≠ 0 → s.lcs.st = .blank ∨ s.crn.fOk = false → t.crn.bank = 3 ∧ t.crn.seq = 0 ∧
      (∀ n : Fin 425, (t.spur n).lim.cal.isSome = true ∧ (t.spur n).cal.record.rejects = 3) ∧
      Raises s t .crnNone (if s.lcs.st = .blank then .info else .degraded) 7 3 []) ∧
    (s.crn.fOk = true → ∀ n : Fin 425, n.val ∈ failed → fieldOf n ∉ s.untestedFields → (t.spur n).gates.failed = true ∧ (t.spur n).gates.cause = 3)) ∧
  (∀ s : State, s.inStage 5 = true → s.rdg.lock = true → Runs .startPulse s fun t => t.boot.stage = 6 ∧ t.rdg.started = true ∧ t.rdg.ridge = 0 ∧ t.rdg.epoch = 0 ∧
    ∀ n : Fin 425, (t.spur n).gen.loop = .acquire ∧ (t.spur n).gen.fcode = 16 ∧ (t.spur n).gen.tallyMark = 0 ∧ (t.spur n).gen.tallyCyc = 0 ∧ (t.spur n).str.debt = 0 ∧
      (t.spur n).str.leads = ⟨0, 0, 0, 0⟩ ∧ (t.spur n).gates.comp = true ∧ (t.spur n).gates.tran = true ∧ (t.spur n).gates.leaf = true ∧
      (t.spur n).gen.dcoCode = entryOf (s.spur n).cal.trims.codes 16) ∧
  (∀ s : State, s.inStage 6 = true →
    (s.mark.toNat < 32 → exec .firstMarkOfService s = .next s) ∧
    (∀ (f : Fin 25) (n : Nat), s.mark.toNat < 64 → n ∈ s.toDrive f → s.fit n = false → exec .firstMarkOfService s = .next s) ∧
    (s.atMark = true → 32 ≤ s.mark.toNat → (∀ n : Fin 425, s.fit n = true) → s.lko.trips.getD 1 false = false → Runs .firstMarkOfService s fun t =>
      t.boot.ready = true ∧ t.boot.stage = 7 ∧ t.boot.smark = s.mark.toNat ∧ Raises s t .pstate .info 0 s.summitIdx (le 1 0 ++ le 1 s.boot.wake) ∧
      (∀ r : Fin 400, (t.spur r).gates.comp = false ∧ (t.spur r).gates.tran = false ∧ (t.spur r).gates.leaf = false ∧ (t.spur r).str.debt = 0 ∧ (t.spur r).str.frozen = false) ∧
      ∀ k : Fin 760, (t.sad k).usable = (!(s.sad k).disable && !(s.sad k).failed)))

/-- LCS_CHANGE from stage 3 on is kept for the next mark, whose MARK_BEACON applies a move of R495's table, and a relock; before the start pulse, where no marks are, it is applied at once (the model's choice, notes/assumptions/54.md): LCS_CHANGE is raised and any unlock under way ends; any other report changes nothing. A move into DEPLOYED closes every test segment and returns the RWL perturbation registers to their reset values; leaving PROVISIONED abandons a running SAVE_F. REQ where its window answers: in DEPLOYED, not locked out, a challenge is asked for; locked out UNLOCK_FAIL with reason 3, in another state 4. CHALLENGE_ISSUED to a request sets USTAT 1 with the challenge. SUBMIT with USTAT 1 in time passes the response on and USTAT is 2; late, reason 2; with another USTAT, 4. UNLOCK_VERDICT while verifying: a pass has SERVICE entered at the next mark, with FAILS 0; a wrong response counts, refuses with reason 1 and, as the third in a row, locks out. CHALLENGE_EXPIRED marks a challenge older than 46,875,000 marks. RELOCK in SERVICE takes effect at the next mark; in DEPLOYED it cancels a verification. TAP_SEGMENT_SET outside DEPLOYED opens the segment; in DEPLOYED it raises TAP_DENIED once per mark. -/
def Obligations.LifeCycleUnlockRelockAndTap : Prop :=
  (∀ (s : State) (new : LifeCycle), 3 ≤ s.boot.stage → s.rdg.started = true →
    exec (.lcsChange new) s = .next { s with lcs := { s.lcs with due := s.lcs.due ++ [new] } }) ∧
  (∀ (s : State) (new : LifeCycle), s.rdg.started = true → s.rdg.tick0 = true → s.tick = 255 → s.lcs.due = [new] → lcsMoves s.lcs.st new = true → s.lcs.relock = false →
    Runs .markBeacon s fun t => t.lcs.st = new ∧ t.lcs.due = [] ∧ t.lcs.ustat = 0) ∧
  (∀ s : State, s.rdg.started = true → s.rdg.tick0 = true → s.tick = 255 → s.lcs.due = [] → s.lcs.st = .service → s.lcs.relock = true →
    Runs .markBeacon s fun t => t.lcs.st = .deployed ∧ t.lcs.relock = false) ∧
  (∀ (s : State) (new : LifeCycle), 3 ≤ s.boot.stage → s.rdg.started = false →
    (lcsMoves s.lcs.st new = false → exec (.lcsChange new) s = .next s) ∧
    (lcsMoves s.lcs.st new = true → Runs (.lcsChange new) s fun t => t.lcs.st = new ∧ t.lcs.ustat = 0 ∧ t.lcs.relock = false ∧
      Raises s t .lcsChange .info 0 s.summitIdx (le 1 (lcsCode s.lcs.st) ++ le 1 (lcsCode new)) ∧
      (new = .deployed → t.lcs.segs = List.replicate 5 false ∧ (WordsOk s → ∀ o ∈ prtLocked, t.word (0xC0000 + o) = resetWord (0xC0000 + o))) ∧
      (s.lcs.st = .provisioned → s.crn.saving = true → s.crn.goal = 2 → t.crn.saving = false ∧ t.crn.f.commit = none))) ∧
  (∀ s : State, s.answers 0xC0004 = true →
    (s.lcs.lockout = false → s.lcs.st = .deployed → exec .req s = .next (({ s with lcs := { s.lcs with asked := true } } : State).send .secChallenge)) ∧
    (s.lcs.lockout = true → Runs .req s fun t => t.lcs.ustat = 0 ∧ t.lcs.chal = 0 ∧ Raises s t .unlockFail .degraded 0 s.summitIdx (le 1 3 ++ le 1 s.lcs.fails)) ∧
    (s.lcs.lockout = false → s.lcs.st ≠ .deployed → Runs .req s fun t => t.lcs.ustat = 0 ∧ Raises s t .unlockFail .degraded 0 s.summitIdx (le 1 4 ++ le 1 s.lcs.fails)) ∧
    (s.lcs.lockout = false → s.lcs.ustat = 1 → s.lcs.expired = false → s.since s.lcs.issued ≤ 46875000 → exec .submit s =
      .next (({ s with lcs := { s.lcs with ustat := 2 } } : State).send (.secVerify (s.word 0xC0014 ++ s.word 0xC0010)))) ∧
    (s.lcs.lockout = false → s.lcs.ustat = 1 → s.lcs.expired = true ∨ 46875000 < s.since s.lcs.issued → Runs .submit s fun t => t.lcs.ustat = 0 ∧ t.lcs.chal = 0 ∧
      Raises s t .unlockFail .degraded 0 s.summitIdx (le 1 2 ++ le 1 s.lcs.fails)) ∧
    (s.lcs.lockout = false → s.lcs.ustat ≠ 1 → Runs .submit s fun t => Raises s t .unlockFail .degraded 0 s.summitIdx (le 1 4 ++ le 1 s.lcs.fails)) ∧
    (s.lcs.st = .service → exec .relock s = .next { s with lcs := { s.lcs with relock := true } }) ∧
    (s.lcs.st = .deployed → s.lcs.ustat = 2 → exec .relock s = .next { s with lcs := { s.lcs with ustat := 0, chal := 0 } }) ∧
    (s.lcs.st ≠ .service → s.lcs.st ≠ .deployed → exec .relock s = .next s)) ∧
  (∀ (s : State) (c : BitVec 64), s.lcs.asked = true → exec (.challengeIssued c) s =
    .next { s with lcs := { s.lcs with asked := false, chal := c, issued := s.mark, expired := false, ustat := 1 } }) ∧
  (∀ s : State, s.lcs.ustat = 2 → (s.rdg.started = true → exec (.unlockVerdict true) s = .next { s with lcs := { s.lcs with fails := 0, ustat := 0, chal := 0, due := s.lcs.due ++ [.service] } }) ∧
    Runs (.unlockVerdict false) s fun t => t.lcs.st = s.lcs.st ∧ t.lcs.ustat = 0 ∧ t.lcs.chal = 0 ∧ t.lcs.fails = min 3 (s.lcs.fails + 1) ∧
      (s.lcs.fails = 2 → t.lcs.lockout = true) ∧ (s.lcs.fails < 2 → t.lcs.lockout = s.lcs.lockout) ∧
      Raises s t .unlockFail .degraded 0 s.summitIdx (le 1 1 ++ le 1 (min 3 (s.lcs.fails + 1)))) ∧
  (∀ s : State, s.lcs.ustat = 1 → (46875000 < s.since s.lcs.issued → exec .challengeExpired s = .next { s with lcs := { s.lcs with expired := true } }) ∧
    (s.since s.lcs.issued ≤ 46875000 → exec .challengeExpired s = .next s)) ∧
  (∀ (s : State) (g : Fin 5), (s.lcs.st ≠ .deployed → exec (.tapSegmentSet g) s = .next { s with lcs := { s.lcs with segs := setNth s.lcs.segs g true } }) ∧
    (s.lcs.st = .deployed → s.lcs.denied ≠ some s.mark → Runs (.tapSegmentSet g) s fun t => t.lcs.segs = s.lcs.segs ∧ t.lcs.denied = some s.mark ∧
      Raises s t .tapDenied .info 0 s.summitIdx (le 1 g)) ∧
    (s.lcs.st = .deployed → s.lcs.denied = some s.mark → exec (.tapSegmentSet g) s = .next s))

/-- A write by one of the seven perturbation commands where the window answers, every field of it defined and, in DEPLOYED, only to PRT_HRIFLOW or PRT_HRIDLY: every field of the register holds what was written; with EN, or where a register without EN turns from 0 to nonzero, PERTURB_ON tells the value. In DEPLOYED a write to one of the five RWL registers raises CFG_LOCKED and changes nothing else. STRETCH_INJECTION with EN: each Spur that the unit names is to stretch at EDGES edges by AMOUNT from its next tally mark, each other at none, and a PERIOD other than 0 sets the mark of the next burst. INJECTION_BURST at that mark begins it and sets the next one; at any other mark it changes nothing. FALSE_DROOP with EN: the named detectors of each Spur that the unit names stand at LEVEL for EDGES edges. A temperature or field power override stands in for the reading. Words are taken in canonical form. -/
def Obligations.PerturbationsOpenActAndStayShut : Prop :=
  (∀ (s : State) (v : Word) (o : Nat) (c : Instr), (o, c) ∈ [(0x20, Instr.stretchInjection v), (0x24, .falseDroop v), (0x28, .extraSaddleDelay v), (0x2C, .temperatureOverride v),
      (0x30, .fieldPowerOverride v), (0x40, .ringFlow v), (0x44, .doorbellDelay v)] → s.answers (0xC0000 + o) = true →
    (WordsOk s → s.locked = false ∨ 0x40 ≤ o → (∀ g ∈ prtFields o, g.defined (v.bits g.hi g.lo) = true) → Runs c s fun t =>
      (∀ g ∈ prtFields o, (t.word (0xC0000 + o)).bits g.hi g.lo = v.bits g.hi g.lo) ∧ (∀ a, a ≠ 0xC0000 + o → t.word a = s.word a) ∧
      (o < 0x40 → v.bit 31 = true → Raises s t .perturbOn .info 9 o (le 4 v.toNat)) ∧
      (0x40 ≤ o → s.word (0xC0000 + o) = 0 → t.word (0xC0000 + o) ≠ 0 → Raises s t .perturbOn .info 9 o (le 4 v.toNat))) ∧
    (s.locked = true → o < 0x40 → WordsOk s → (∀ g ∈ prtFields o, g.defined (v.bits g.hi g.lo) = true) →
      exec c s = .next (s.raise .cfgLocked 9 o (le 4 (0xC0000 + o) ++ le 4 v.toNat)))) ∧
  (∀ (s : State) (v : Word), s.answers 0xC0020 = true → WordsOk s → s.locked = false → (∀ g ∈ prtFields 0x20, g.defined (v.bits g.hi g.lo) = true) → v.bit 31 = true →
    Runs (.stretchInjection v) s fun t => (∀ n : Fin 425, (s.hits (v.bits 28 20) n = true → (t.spur n).str.injNext = v.bits 19 12 ∧ (t.spur n).str.injAmount = v.bits 30 29) ∧
      (s.hits (v.bits 28 20) n = false → (t.spur n).str.injNext = 0)) ∧
      (v.bits 11 0 ≠ 0 → t.lcs.injNext = some (s.mark + BitVec.ofNat 40 (v.bits 11 0))) ∧ (v.bits 11 0 = 0 → t.lcs.injNext = none)) ∧
  (∀ (s : State) (m : Mark), s.lcs.injNext = some m → (s.word 0xC0020).bit 31 = true →
    (m = s.mark → Runs .injectionBurst s fun t => t.lcs.injNext = some (m + BitVec.ofNat 40 ((s.word 0xC0020).bits 11 0)) ∧
      ∀ n : Fin 425, s.hits ((s.word 0xC0020).bits 28 20) n = true → (t.spur n).str.injNext = (s.word 0xC0020).bits 19 12) ∧
    (m ≠ s.mark → exec .injectionBurst s = .next s)) ∧
  (∀ (s : State) (v : Word), s.answers 0xC0024 = true → WordsOk s → s.locked = false → (∀ g ∈ prtFields 0x24, g.defined (v.bits g.hi g.lo) = true) → v.bit 31 = true →
    Runs (.falseDroop v) s fun t => ∀ n : Fin 425, s.hits (v.bits 28 20) n = true → (t.spur n).str.fdNext = v.bits 9 0 ∧ (t.spur n).str.fdLevel = v.bits 30 29 ∧
      (t.spur n).str.fdQuad = v.bits 19 16) ∧
  (∀ (s : State) (v : Word) (f : Fin 25), s.answers 0xC0030 = true → WordsOk s → s.locked = false → v.bit 31 = true → v.bits 20 16 = f →
    Runs (.fieldPowerOverride v) s fun t => t.power f = 1000000 * v.bits 15 0 ∧ ∀ k : Fin 25, k ≠ f → t.power k = t.railPower k) ∧
  (∀ (s : State) (v : Word) (n : Fin 425), s.answers 0xC002C = true → WordsOk s → s.locked = false → v.bit 31 = true → (∀ g ∈ prtFields 0x2C, g.defined (v.bits g.hi g.lo) = true) →
    s.hits (v.bits 24 16) n = true → Runs (.temperatureOverride v) s fun t => t.tempOf n = fromTwos 16 (v.bits 15 0))

/-- With a command at the front of the queue, a step is exec of that command on the state with the rest of the queue. With none waiting, the ridge count of a started block goes on by 1, except at the last ridge tick of a mark, where it stays until the beacon's command, the control cycle of the writes before is over, and nothing else changes; an idle step before the start pulse changes nothing. The tick on an empty queue is the model's choice, named in log entry 3, and what a control cycle is that of entry 68. -/
def Obligations.StepRunsTheFrontCommandAndIdles : Prop :=
  (∀ (s : State) (c : Instr) (q : List Instr), step { s with pending := c :: q } = exec c { s with pending := q }) ∧
  (∀ s : State, s.pending = [] → s.rdg.started = true → s.rdg.ridge.toNat % 256 < 255 →
    step s = .next { s with rdg := { s.rdg with ridge := s.rdg.ridge + 1 }, cyc := ⟨[], []⟩ }) ∧
  (∀ s : State, s.pending = [] → s.rdg.started = false ∨ s.rdg.ridge.toNat % 256 = 255 → step s = .next s)

/-- After reset no command waits, the ridge count and EPOCH are 0, the block is in stage 0 and not READY, and the registers named here read the Reset columns of their field maps: SUM_PROFILE, SUM_GOV, SUM_BUDGET, SUM_PSTATE, SUM_BOOT, LKO_TOD_CTRL, LKO_PPS, LKO_TRIP, LKO_SUP, LKO_WAKE, CAL_CTRL, CAL_WINCFG, CRN_CFG, CRN_STAT, BST_CFG, PRT_INJ, PRT_DROOP, HRI_CTRL. The invariants of Safety hold. That the state after reset is BLANK, until stage 3 reads the security block, is the model's choice of log entry 9. -/
def Obligations.ResetHoldsTheResetColumns : Prop :=
  State.reset.pending = [] ∧ State.reset.rdg.ridge = 0 ∧ State.reset.rdg.epoch = 0 ∧ State.reset.boot.stage = 0 ∧ State.reset.boot.ready = false ∧
  State.reset.lcs.st = .blank ∧
  (∀ p ∈ [(0x300, 0x80F05F70#32), (0x800, 0x00006000#32), (0x808, 0x5DC05F00#32), (0x810, 0#32), (0x900, 0#32), (0x10010, 0x64000100#32), (0x10050, 0x00640000#32),
      (0x10100, 0x00786E69#32), (0x10104, 1#32), (0x10108, 0x20#32), (0xA0000, 7#32), (0xA0004, 0x07D00040#32), (0xA0804, 0x18#32), (0xA0808, 3#32), (0xB0010, 9#32),
      (0xC0020, 0x20001000#32), (0xC0024, 0x200F0001#32), (0xD0000, 0#32)], State.reset.now p.1 = p.2) ∧
  Inv State.reset ∧ StartOk State.reset ∧ Shut State.reset

/-- From every state in which the register words are in canonical form, there are 4 group records and 8 incident classes, and every mirror record has 8 incident classes, a step that answers a next state gives one of which the same holds. -/
def Obligations.EveryStepKeepsInv : Prop :=
  ∀ s t : State, Inv s → step s = .next t → Inv t

/-- From every state in which the start's stages are consistent, in which before READY and in DEPLOYED every perturbation register that is RWL holds its reset value, and in DEPLOYED every test segment is closed, a step that answers a next state gives one of which the same holds, whichever command it runs, the changes of life-cycle state and the starts included. Words are taken in canonical form. -/
def Obligations.EveryStepKeepsDeployedShut : Prop :=
  ∀ s t : State, WordsOk s → StartOk s → Shut s → step s = .next t → StartOk t ∧ Shut t

/-- From every state in which the life-cycle state has been read (stage 3 or later), a step that stays in stage 3 or later leaves RETURNED for no other state, and enters BLANK from none and PROVISIONED from BLANK alone. Where at most one reported change waits for the mark, the step leaves the state as it is or makes one of the moves of R495's table, and SERVICE is entered from DEPLOYED alone. -/
def Obligations.LifeCycleMovesOnlyByItsTable : Prop :=
  ∀ s t : State, 3 ≤ s.boot.stage → 3 ≤ t.boot.stage → step s = .next t →
    (s.lcs.st = .returned → t.lcs.st = .returned) ∧ (t.lcs.st = .blank → s.lcs.st = .blank) ∧ (t.lcs.st = .provisioned → s.lcs.st = .provisioned ∨ s.lcs.st = .blank) ∧
    (s.lcs.due.length ≤ 1 → (t.lcs.st = s.lcs.st ∨ lcsMoves s.lcs.st t.lcs.st = true) ∧ (t.lcs.st = .service → s.lcs.st = .service ∨ s.lcs.st = .deployed))
end

