-- ==== Sys2Proof/Laws/State.lean ====
section
/-! SUPPORT. What each shared update of the state leaves as it was: one lemma per field and update, so that no proof unfolds a record update. -/

namespace Sys2Proof.Laws

open Sys2Proof.Machine

variable (s : State)

@[simp] theorem modSpur_words (n : Nat) (f : Spur → Spur) : (s.modSpur n f).words = s.words := rfl
@[simp] theorem modSpur_shadows (n : Nat) (f : Spur → Spur) : (s.modSpur n f).shadows = s.shadows := rfl
@[simp] theorem modSpur_held (n : Nat) (f : Spur → Spur) : (s.modSpur n f).held = s.held := rfl
@[simp] theorem modSpur_latches (n : Nat) (f : Spur → Spur) : (s.modSpur n f).latches = s.latches := rfl
@[simp] theorem modSpur_cyc (n : Nat) (f : Spur → Spur) : (s.modSpur n f).cyc = s.cyc := rfl
@[simp] theorem modSpur_saddles (n : Nat) (f : Spur → Spur) : (s.modSpur n f).saddles = s.saddles := rfl
@[simp] theorem modSpur_cols (n : Nat) (f : Spur → Spur) : (s.modSpur n f).cols = s.cols := rfl
@[simp] theorem modSpur_colsMark (n : Nat) (f : Spur → Spur) : (s.modSpur n f).colsMark = s.colsMark := rfl
@[simp] theorem modSpur_colsPrev (n : Nat) (f : Spur → Spur) : (s.modSpur n f).colsPrev = s.colsPrev := rfl
@[simp] theorem modSpur_rdg (n : Nat) (f : Spur → Spur) : (s.modSpur n f).rdg = s.rdg := rfl
@[simp] theorem modSpur_lko (n : Nat) (f : Spur → Spur) : (s.modSpur n f).lko = s.lko := rfl
@[simp] theorem modSpur_fab (n : Nat) (f : Spur → Spur) : (s.modSpur n f).fab = s.fab := rfl
@[simp] theorem modSpur_plan (n : Nat) (f : Spur → Spur) : (s.modSpur n f).plan = s.plan := rfl
@[simp] theorem modSpur_hri (n : Nat) (f : Spur → Spur) : (s.modSpur n f).hri = s.hri := rfl
@[simp] theorem modSpur_gov (n : Nat) (f : Spur → Spur) : (s.modSpur n f).gov = s.gov := rfl
@[simp] theorem modSpur_faults (n : Nat) (f : Spur → Spur) : (s.modSpur n f).faults = s.faults := rfl
@[simp] theorem modSpur_evs (n : Nat) (f : Spur → Spur) : (s.modSpur n f).evs = s.evs := rfl
@[simp] theorem modSpur_role (n : Nat) (f : Spur → Spur) : (s.modSpur n f).role = s.role := rfl
@[simp] theorem modSpur_cal (n : Nat) (f : Spur → Spur) : (s.modSpur n f).cal = s.cal := rfl
@[simp] theorem modSpur_crn (n : Nat) (f : Spur → Spur) : (s.modSpur n f).crn = s.crn := rfl
@[simp] theorem modSpur_bist (n : Nat) (f : Spur → Spur) : (s.modSpur n f).bist = s.bist := rfl
@[simp] theorem modSpur_lcs (n : Nat) (f : Spur → Spur) : (s.modSpur n f).lcs = s.lcs := rfl
@[simp] theorem modSpur_boot (n : Nat) (f : Spur → Spur) : (s.modSpur n f).boot = s.boot := rfl
@[simp] theorem modSpur_raised (n : Nat) (f : Spur → Spur) : (s.modSpur n f).raised = s.raised := rfl
@[simp] theorem modSpur_out (n : Nat) (f : Spur → Spur) : (s.modSpur n f).out = s.out := rfl
@[simp] theorem modSpur_freeCtr (n : Nat) (f : Spur → Spur) : (s.modSpur n f).freeCtr = s.freeCtr := rfl
@[simp] theorem modSpur_pending (n : Nat) (f : Spur → Spur) : (s.modSpur n f).pending = s.pending := rfl

@[simp] theorem mapSpurs_words (f : Nat → Spur → Spur) : (s.mapSpurs f).words = s.words := rfl
@[simp] theorem mapSpurs_shadows (f : Nat → Spur → Spur) : (s.mapSpurs f).shadows = s.shadows := rfl
@[simp] theorem mapSpurs_held (f : Nat → Spur → Spur) : (s.mapSpurs f).held = s.held := rfl
@[simp] theorem mapSpurs_latches (f : Nat → Spur → Spur) : (s.mapSpurs f).latches = s.latches := rfl
@[simp] theorem mapSpurs_cyc (f : Nat → Spur → Spur) : (s.mapSpurs f).cyc = s.cyc := rfl
@[simp] theorem mapSpurs_saddles (f : Nat → Spur → Spur) : (s.mapSpurs f).saddles = s.saddles := rfl
@[simp] theorem mapSpurs_cols (f : Nat → Spur → Spur) : (s.mapSpurs f).cols = s.cols := rfl
@[simp] theorem mapSpurs_colsMark (f : Nat → Spur → Spur) : (s.mapSpurs f).colsMark = s.colsMark := rfl
@[simp] theorem mapSpurs_colsPrev (f : Nat → Spur → Spur) : (s.mapSpurs f).colsPrev = s.colsPrev := rfl
@[simp] theorem mapSpurs_rdg (f : Nat → Spur → Spur) : (s.mapSpurs f).rdg = s.rdg := rfl
@[simp] theorem mapSpurs_lko (f : Nat → Spur → Spur) : (s.mapSpurs f).lko = s.lko := rfl
@[simp] theorem mapSpurs_fab (f : Nat → Spur → Spur) : (s.mapSpurs f).fab = s.fab := rfl
@[simp] theorem mapSpurs_plan (f : Nat → Spur → Spur) : (s.mapSpurs f).plan = s.plan := rfl
@[simp] theorem mapSpurs_hri (f : Nat → Spur → Spur) : (s.mapSpurs f).hri = s.hri := rfl
@[simp] theorem mapSpurs_gov (f : Nat → Spur → Spur) : (s.mapSpurs f).gov = s.gov := rfl
@[simp] theorem mapSpurs_faults (f : Nat → Spur → Spur) : (s.mapSpurs f).faults = s.faults := rfl
@[simp] theorem mapSpurs_evs (f : Nat → Spur → Spur) : (s.mapSpurs f).evs = s.evs := rfl
@[simp] theorem mapSpurs_role (f : Nat → Spur → Spur) : (s.mapSpurs f).role = s.role := rfl
@[simp] theorem mapSpurs_cal (f : Nat → Spur → Spur) : (s.mapSpurs f).cal = s.cal := rfl
@[simp] theorem mapSpurs_crn (f : Nat → Spur → Spur) : (s.mapSpurs f).crn = s.crn := rfl
@[simp] theorem mapSpurs_bist (f : Nat → Spur → Spur) : (s.mapSpurs f).bist = s.bist := rfl
@[simp] theorem mapSpurs_lcs (f : Nat → Spur → Spur) : (s.mapSpurs f).lcs = s.lcs := rfl
@[simp] theorem mapSpurs_boot (f : Nat → Spur → Spur) : (s.mapSpurs f).boot = s.boot := rfl
@[simp] theorem mapSpurs_raised (f : Nat → Spur → Spur) : (s.mapSpurs f).raised = s.raised := rfl
@[simp] theorem mapSpurs_out (f : Nat → Spur → Spur) : (s.mapSpurs f).out = s.out := rfl
@[simp] theorem mapSpurs_freeCtr (f : Nat → Spur → Spur) : (s.mapSpurs f).freeCtr = s.freeCtr := rfl
@[simp] theorem mapSpurs_pending (f : Nat → Spur → Spur) : (s.mapSpurs f).pending = s.pending := rfl

@[simp] theorem modSad_words (k : Nat) (f : Saddle → Saddle) : (s.modSad k f).words = s.words := rfl
@[simp] theorem modSad_shadows (k : Nat) (f : Saddle → Saddle) : (s.modSad k f).shadows = s.shadows := rfl
@[simp] theorem modSad_held (k : Nat) (f : Saddle → Saddle) : (s.modSad k f).held = s.held := rfl
@[simp] theorem modSad_latches (k : Nat) (f : Saddle → Saddle) : (s.modSad k f).latches = s.latches := rfl
@[simp] theorem modSad_cyc (k : Nat) (f : Saddle → Saddle) : (s.modSad k f).cyc = s.cyc := rfl
@[simp] theorem modSad_spurs (k : Nat) (f : Saddle → Saddle) : (s.modSad k f).spurs = s.spurs := rfl
@[simp] theorem modSad_cols (k : Nat) (f : Saddle → Saddle) : (s.modSad k f).cols = s.cols := rfl
@[simp] theorem modSad_colsMark (k : Nat) (f : Saddle → Saddle) : (s.modSad k f).colsMark = s.colsMark := rfl
@[simp] theorem modSad_colsPrev (k : Nat) (f : Saddle → Saddle) : (s.modSad k f).colsPrev = s.colsPrev := rfl
@[simp] theorem modSad_rdg (k : Nat) (f : Saddle → Saddle) : (s.modSad k f).rdg = s.rdg := rfl
@[simp] theorem modSad_lko (k : Nat) (f : Saddle → Saddle) : (s.modSad k f).lko = s.lko := rfl
@[simp] theorem modSad_fab (k : Nat) (f : Saddle → Saddle) : (s.modSad k f).fab = s.fab := rfl
@[simp] theorem modSad_plan (k : Nat) (f : Saddle → Saddle) : (s.modSad k f).plan = s.plan := rfl
@[simp] theorem modSad_hri (k : Nat) (f : Saddle → Saddle) : (s.modSad k f).hri = s.hri := rfl
@[simp] theorem modSad_gov (k : Nat) (f : Saddle → Saddle) : (s.modSad k f).gov = s.gov := rfl
@[simp] theorem modSad_faults (k : Nat) (f : Saddle → Saddle) : (s.modSad k f).faults = s.faults := rfl
@[simp] theorem modSad_evs (k : Nat) (f : Saddle → Saddle) : (s.modSad k f).evs = s.evs := rfl
@[simp] theorem modSad_role (k : Nat) (f : Saddle → Saddle) : (s.modSad k f).role = s.role := rfl
@[simp] theorem modSad_cal (k : Nat) (f : Saddle → Saddle) : (s.modSad k f).cal = s.cal := rfl
@[simp] theorem modSad_crn (k : Nat) (f : Saddle → Saddle) : (s.modSad k f).crn = s.crn := rfl
@[simp] theorem modSad_bist (k : Nat) (f : Saddle → Saddle) : (s.modSad k f).bist = s.bist := rfl
@[simp] theorem modSad_lcs (k : Nat) (f : Saddle → Saddle) : (s.modSad k f).lcs = s.lcs := rfl
@[simp] theorem modSad_boot (k : Nat) (f : Saddle → Saddle) : (s.modSad k f).boot = s.boot := rfl
@[simp] theorem modSad_raised (k : Nat) (f : Saddle → Saddle) : (s.modSad k f).raised = s.raised := rfl
@[simp] theorem modSad_out (k : Nat) (f : Saddle → Saddle) : (s.modSad k f).out = s.out := rfl
@[simp] theorem modSad_freeCtr (k : Nat) (f : Saddle → Saddle) : (s.modSad k f).freeCtr = s.freeCtr := rfl
@[simp] theorem modSad_pending (k : Nat) (f : Saddle → Saddle) : (s.modSad k f).pending = s.pending := rfl

@[simp] theorem mapSads_words (f : Nat → Saddle → Saddle) : (s.mapSads f).words = s.words := rfl
@[simp] theorem mapSads_shadows (f : Nat → Saddle → Saddle) : (s.mapSads f).shadows = s.shadows := rfl
@[simp] theorem mapSads_held (f : Nat → Saddle → Saddle) : (s.mapSads f).held = s.held := rfl
@[simp] theorem mapSads_latches (f : Nat → Saddle → Saddle) : (s.mapSads f).latches = s.latches := rfl
@[simp] theorem mapSads_cyc (f : Nat → Saddle → Saddle) : (s.mapSads f).cyc = s.cyc := rfl
@[simp] theorem mapSads_spurs (f : Nat → Saddle → Saddle) : (s.mapSads f).spurs = s.spurs := rfl
@[simp] theorem mapSads_cols (f : Nat → Saddle → Saddle) : (s.mapSads f).cols = s.cols := rfl
@[simp] theorem mapSads_colsMark (f : Nat → Saddle → Saddle) : (s.mapSads f).colsMark = s.colsMark := rfl
@[simp] theorem mapSads_colsPrev (f : Nat → Saddle → Saddle) : (s.mapSads f).colsPrev = s.colsPrev := rfl
@[simp] theorem mapSads_rdg (f : Nat → Saddle → Saddle) : (s.mapSads f).rdg = s.rdg := rfl
@[simp] theorem mapSads_lko (f : Nat → Saddle → Saddle) : (s.mapSads f).lko = s.lko := rfl
@[simp] theorem mapSads_fab (f : Nat → Saddle → Saddle) : (s.mapSads f).fab = s.fab := rfl
@[simp] theorem mapSads_plan (f : Nat → Saddle → Saddle) : (s.mapSads f).plan = s.plan := rfl
@[simp] theorem mapSads_hri (f : Nat → Saddle → Saddle) : (s.mapSads f).hri = s.hri := rfl
@[simp] theorem mapSads_gov (f : Nat → Saddle → Saddle) : (s.mapSads f).gov = s.gov := rfl
@[simp] theorem mapSads_faults (f : Nat → Saddle → Saddle) : (s.mapSads f).faults = s.faults := rfl
@[simp] theorem mapSads_evs (f : Nat → Saddle → Saddle) : (s.mapSads f).evs = s.evs := rfl
@[simp] theorem mapSads_role (f : Nat → Saddle → Saddle) : (s.mapSads f).role = s.role := rfl
@[simp] theorem mapSads_cal (f : Nat → Saddle → Saddle) : (s.mapSads f).cal = s.cal := rfl
@[simp] theorem mapSads_crn (f : Nat → Saddle → Saddle) : (s.mapSads f).crn = s.crn := rfl
@[simp] theorem mapSads_bist (f : Nat → Saddle → Saddle) : (s.mapSads f).bist = s.bist := rfl
@[simp] theorem mapSads_lcs (f : Nat → Saddle → Saddle) : (s.mapSads f).lcs = s.lcs := rfl
@[simp] theorem mapSads_boot (f : Nat → Saddle → Saddle) : (s.mapSads f).boot = s.boot := rfl
@[simp] theorem mapSads_raised (f : Nat → Saddle → Saddle) : (s.mapSads f).raised = s.raised := rfl
@[simp] theorem mapSads_out (f : Nat → Saddle → Saddle) : (s.mapSads f).out = s.out := rfl
@[simp] theorem mapSads_freeCtr (f : Nat → Saddle → Saddle) : (s.mapSads f).freeCtr = s.freeCtr := rfl
@[simp] theorem mapSads_pending (f : Nat → Saddle → Saddle) : (s.mapSads f).pending = s.pending := rfl

@[simp] theorem modCol_words (i : Nat) (g : Col → Col) : (s.modCol i g).words = s.words := rfl
@[simp] theorem modCol_shadows (i : Nat) (g : Col → Col) : (s.modCol i g).shadows = s.shadows := rfl
@[simp] theorem modCol_held (i : Nat) (g : Col → Col) : (s.modCol i g).held = s.held := rfl
@[simp] theorem modCol_latches (i : Nat) (g : Col → Col) : (s.modCol i g).latches = s.latches := rfl
@[simp] theorem modCol_cyc (i : Nat) (g : Col → Col) : (s.modCol i g).cyc = s.cyc := rfl
@[simp] theorem modCol_spurs (i : Nat) (g : Col → Col) : (s.modCol i g).spurs = s.spurs := rfl
@[simp] theorem modCol_saddles (i : Nat) (g : Col → Col) : (s.modCol i g).saddles = s.saddles := rfl
@[simp] theorem modCol_colsMark (i : Nat) (g : Col → Col) : (s.modCol i g).colsMark = s.colsMark := rfl
@[simp] theorem modCol_colsPrev (i : Nat) (g : Col → Col) : (s.modCol i g).colsPrev = s.colsPrev := rfl
@[simp] theorem modCol_rdg (i : Nat) (g : Col → Col) : (s.modCol i g).rdg = s.rdg := rfl
@[simp] theorem modCol_lko (i : Nat) (g : Col → Col) : (s.modCol i g).lko = s.lko := rfl
@[simp] theorem modCol_fab (i : Nat) (g : Col → Col) : (s.modCol i g).fab = s.fab := rfl
@[simp] theorem modCol_plan (i : Nat) (g : Col → Col) : (s.modCol i g).plan = s.plan := rfl
@[simp] theorem modCol_hri (i : Nat) (g : Col → Col) : (s.modCol i g).hri = s.hri := rfl
@[simp] theorem modCol_gov (i : Nat) (g : Col → Col) : (s.modCol i g).gov = s.gov := rfl
@[simp] theorem modCol_faults (i : Nat) (g : Col → Col) : (s.modCol i g).faults = s.faults := rfl
@[simp] theorem modCol_evs (i : Nat) (g : Col → Col) : (s.modCol i g).evs = s.evs := rfl
@[simp] theorem modCol_role (i : Nat) (g : Col → Col) : (s.modCol i g).role = s.role := rfl
@[simp] theorem modCol_cal (i : Nat) (g : Col → Col) : (s.modCol i g).cal = s.cal := rfl
@[simp] theorem modCol_crn (i : Nat) (g : Col → Col) : (s.modCol i g).crn = s.crn := rfl
@[simp] theorem modCol_bist (i : Nat) (g : Col → Col) : (s.modCol i g).bist = s.bist := rfl
@[simp] theorem modCol_lcs (i : Nat) (g : Col → Col) : (s.modCol i g).lcs = s.lcs := rfl
@[simp] theorem modCol_boot (i : Nat) (g : Col → Col) : (s.modCol i g).boot = s.boot := rfl
@[simp] theorem modCol_raised (i : Nat) (g : Col → Col) : (s.modCol i g).raised = s.raised := rfl
@[simp] theorem modCol_out (i : Nat) (g : Col → Col) : (s.modCol i g).out = s.out := rfl
@[simp] theorem modCol_freeCtr (i : Nat) (g : Col → Col) : (s.modCol i g).freeCtr = s.freeCtr := rfl
@[simp] theorem modCol_pending (i : Nat) (g : Col → Col) : (s.modCol i g).pending = s.pending := rfl

@[simp] theorem mapCols_words (g : Nat → Col → Col) : (s.mapCols g).words = s.words := rfl
@[simp] theorem mapCols_shadows (g : Nat → Col → Col) : (s.mapCols g).shadows = s.shadows := rfl
@[simp] theorem mapCols_held (g : Nat → Col → Col) : (s.mapCols g).held = s.held := rfl
@[simp] theorem mapCols_latches (g : Nat → Col → Col) : (s.mapCols g).latches = s.latches := rfl
@[simp] theorem mapCols_cyc (g : Nat → Col → Col) : (s.mapCols g).cyc = s.cyc := rfl
@[simp] theorem mapCols_spurs (g : Nat → Col → Col) : (s.mapCols g).spurs = s.spurs := rfl
@[simp] theorem mapCols_saddles (g : Nat → Col → Col) : (s.mapCols g).saddles = s.saddles := rfl
@[simp] theorem mapCols_colsMark (g : Nat → Col → Col) : (s.mapCols g).colsMark = s.colsMark := rfl
@[simp] theorem mapCols_colsPrev (g : Nat → Col → Col) : (s.mapCols g).colsPrev = s.colsPrev := rfl
@[simp] theorem mapCols_rdg (g : Nat → Col → Col) : (s.mapCols g).rdg = s.rdg := rfl
@[simp] theorem mapCols_lko (g : Nat → Col → Col) : (s.mapCols g).lko = s.lko := rfl
@[simp] theorem mapCols_fab (g : Nat → Col → Col) : (s.mapCols g).fab = s.fab := rfl
@[simp] theorem mapCols_plan (g : Nat → Col → Col) : (s.mapCols g).plan = s.plan := rfl
@[simp] theorem mapCols_hri (g : Nat → Col → Col) : (s.mapCols g).hri = s.hri := rfl
@[simp] theorem mapCols_gov (g : Nat → Col → Col) : (s.mapCols g).gov = s.gov := rfl
@[simp] theorem mapCols_faults (g : Nat → Col → Col) : (s.mapCols g).faults = s.faults := rfl
@[simp] theorem mapCols_evs (g : Nat → Col → Col) : (s.mapCols g).evs = s.evs := rfl
@[simp] theorem mapCols_role (g : Nat → Col → Col) : (s.mapCols g).role = s.role := rfl
@[simp] theorem mapCols_cal (g : Nat → Col → Col) : (s.mapCols g).cal = s.cal := rfl
@[simp] theorem mapCols_crn (g : Nat → Col → Col) : (s.mapCols g).crn = s.crn := rfl
@[simp] theorem mapCols_bist (g : Nat → Col → Col) : (s.mapCols g).bist = s.bist := rfl
@[simp] theorem mapCols_lcs (g : Nat → Col → Col) : (s.mapCols g).lcs = s.lcs := rfl
@[simp] theorem mapCols_boot (g : Nat → Col → Col) : (s.mapCols g).boot = s.boot := rfl
@[simp] theorem mapCols_raised (g : Nat → Col → Col) : (s.mapCols g).raised = s.raised := rfl
@[simp] theorem mapCols_out (g : Nat → Col → Col) : (s.mapCols g).out = s.out := rfl
@[simp] theorem mapCols_freeCtr (g : Nat → Col → Col) : (s.mapCols g).freeCtr = s.freeCtr := rfl
@[simp] theorem mapCols_pending (g : Nat → Col → Col) : (s.mapCols g).pending = s.pending := rfl

@[simp] theorem modChan_words (c : Nat) (g : Channel → Channel) : (s.modChan c g).words = s.words := rfl
@[simp] theorem modChan_shadows (c : Nat) (g : Channel → Channel) : (s.modChan c g).shadows = s.shadows := rfl
@[simp] theorem modChan_held (c : Nat) (g : Channel → Channel) : (s.modChan c g).held = s.held := rfl
@[simp] theorem modChan_latches (c : Nat) (g : Channel → Channel) : (s.modChan c g).latches = s.latches := rfl
@[simp] theorem modChan_cyc (c : Nat) (g : Channel → Channel) : (s.modChan c g).cyc = s.cyc := rfl
@[simp] theorem modChan_spurs (c : Nat) (g : Channel → Channel) : (s.modChan c g).spurs = s.spurs := rfl
@[simp] theorem modChan_saddles (c : Nat) (g : Channel → Channel) : (s.modChan c g).saddles = s.saddles := rfl
@[simp] theorem modChan_cols (c : Nat) (g : Channel → Channel) : (s.modChan c g).cols = s.cols := rfl
@[simp] theorem modChan_colsMark (c : Nat) (g : Channel → Channel) : (s.modChan c g).colsMark = s.colsMark := rfl
@[simp] theorem modChan_colsPrev (c : Nat) (g : Channel → Channel) : (s.modChan c g).colsPrev = s.colsPrev := rfl
@[simp] theorem modChan_rdg (c : Nat) (g : Channel → Channel) : (s.modChan c g).rdg = s.rdg := rfl
@[simp] theorem modChan_fab (c : Nat) (g : Channel → Channel) : (s.modChan c g).fab = s.fab := rfl
@[simp] theorem modChan_plan (c : Nat) (g : Channel → Channel) : (s.modChan c g).plan = s.plan := rfl
@[simp] theorem modChan_hri (c : Nat) (g : Channel → Channel) : (s.modChan c g).hri = s.hri := rfl
@[simp] theorem modChan_gov (c : Nat) (g : Channel → Channel) : (s.modChan c g).gov = s.gov := rfl
@[simp] theorem modChan_faults (c : Nat) (g : Channel → Channel) : (s.modChan c g).faults = s.faults := rfl
@[simp] theorem modChan_evs (c : Nat) (g : Channel → Channel) : (s.modChan c g).evs = s.evs := rfl
@[simp] theorem modChan_role (c : Nat) (g : Channel → Channel) : (s.modChan c g).role = s.role := rfl
@[simp] theorem modChan_cal (c : Nat) (g : Channel → Channel) : (s.modChan c g).cal = s.cal := rfl
@[simp] theorem modChan_crn (c : Nat) (g : Channel → Channel) : (s.modChan c g).crn = s.crn := rfl
@[simp] theorem modChan_bist (c : Nat) (g : Channel → Channel) : (s.modChan c g).bist = s.bist := rfl
@[simp] theorem modChan_lcs (c : Nat) (g : Channel → Channel) : (s.modChan c g).lcs = s.lcs := rfl
@[simp] theorem modChan_boot (c : Nat) (g : Channel → Channel) : (s.modChan c g).boot = s.boot := rfl
@[simp] theorem modChan_raised (c : Nat) (g : Channel → Channel) : (s.modChan c g).raised = s.raised := rfl
@[simp] theorem modChan_out (c : Nat) (g : Channel → Channel) : (s.modChan c g).out = s.out := rfl
@[simp] theorem modChan_freeCtr (c : Nat) (g : Channel → Channel) : (s.modChan c g).freeCtr = s.freeCtr := rfl
@[simp] theorem modChan_pending (c : Nat) (g : Channel → Channel) : (s.modChan c g).pending = s.pending := rfl

@[simp] theorem tookFree_words : (s.tookFree).words = s.words := rfl
@[simp] theorem tookFree_shadows : (s.tookFree).shadows = s.shadows := rfl
@[simp] theorem tookFree_held : (s.tookFree).held = s.held := rfl
@[simp] theorem tookFree_latches : (s.tookFree).latches = s.latches := rfl
@[simp] theorem tookFree_cyc : (s.tookFree).cyc = s.cyc := rfl
@[simp] theorem tookFree_spurs : (s.tookFree).spurs = s.spurs := rfl
@[simp] theorem tookFree_saddles : (s.tookFree).saddles = s.saddles := rfl
@[simp] theorem tookFree_cols : (s.tookFree).cols = s.cols := rfl
@[simp] theorem tookFree_colsMark : (s.tookFree).colsMark = s.colsMark := rfl
@[simp] theorem tookFree_colsPrev : (s.tookFree).colsPrev = s.colsPrev := rfl
@[simp] theorem tookFree_rdg : (s.tookFree).rdg = s.rdg := rfl
@[simp] theorem tookFree_lko : (s.tookFree).lko = s.lko := rfl
@[simp] theorem tookFree_fab : (s.tookFree).fab = s.fab := rfl
@[simp] theorem tookFree_plan : (s.tookFree).plan = s.plan := rfl
@[simp] theorem tookFree_hri : (s.tookFree).hri = s.hri := rfl
@[simp] theorem tookFree_gov : (s.tookFree).gov = s.gov := rfl
@[simp] theorem tookFree_faults : (s.tookFree).faults = s.faults := rfl
@[simp] theorem tookFree_evs : (s.tookFree).evs = s.evs := rfl
@[simp] theorem tookFree_role : (s.tookFree).role = s.role := rfl
@[simp] theorem tookFree_cal : (s.tookFree).cal = s.cal := rfl
@[simp] theorem tookFree_crn : (s.tookFree).crn = s.crn := rfl
@[simp] theorem tookFree_bist : (s.tookFree).bist = s.bist := rfl
@[simp] theorem tookFree_lcs : (s.tookFree).lcs = s.lcs := rfl
@[simp] theorem tookFree_boot : (s.tookFree).boot = s.boot := rfl
@[simp] theorem tookFree_raised : (s.tookFree).raised = s.raised := rfl
@[simp] theorem tookFree_out : (s.tookFree).out = s.out := rfl
@[simp] theorem tookFree_pending : (s.tookFree).pending = s.pending := rfl

@[simp] theorem send_words (m : Message) : (s.send m).words = s.words := rfl
@[simp] theorem send_shadows (m : Message) : (s.send m).shadows = s.shadows := rfl
@[simp] theorem send_held (m : Message) : (s.send m).held = s.held := rfl
@[simp] theorem send_latches (m : Message) : (s.send m).latches = s.latches := rfl
@[simp] theorem send_cyc (m : Message) : (s.send m).cyc = s.cyc := rfl
@[simp] theorem send_spurs (m : Message) : (s.send m).spurs = s.spurs := rfl
@[simp] theorem send_saddles (m : Message) : (s.send m).saddles = s.saddles := rfl
@[simp] theorem send_cols (m : Message) : (s.send m).cols = s.cols := rfl
@[simp] theorem send_colsMark (m : Message) : (s.send m).colsMark = s.colsMark := rfl
@[simp] theorem send_colsPrev (m : Message) : (s.send m).colsPrev = s.colsPrev := rfl
@[simp] theorem send_rdg (m : Message) : (s.send m).rdg = s.rdg := rfl
@[simp] theorem send_lko (m : Message) : (s.send m).lko = s.lko := rfl
@[simp] theorem send_fab (m : Message) : (s.send m).fab = s.fab := rfl
@[simp] theorem send_plan (m : Message) : (s.send m).plan = s.plan := rfl
@[simp] theorem send_hri (m : Message) : (s.send m).hri = s.hri := rfl
@[simp] theorem send_gov (m : Message) : (s.send m).gov = s.gov := rfl
@[simp] theorem send_faults (m : Message) : (s.send m).faults = s.faults := rfl
@[simp] theorem send_evs (m : Message) : (s.send m).evs = s.evs := rfl
@[simp] theorem send_role (m : Message) : (s.send m).role = s.role := rfl
@[simp] theorem send_cal (m : Message) : (s.send m).cal = s.cal := rfl
@[simp] theorem send_crn (m : Message) : (s.send m).crn = s.crn := rfl
@[simp] theorem send_bist (m : Message) : (s.send m).bist = s.bist := rfl
@[simp] theorem send_lcs (m : Message) : (s.send m).lcs = s.lcs := rfl
@[simp] theorem send_boot (m : Message) : (s.send m).boot = s.boot := rfl
@[simp] theorem send_raised (m : Message) : (s.send m).raised = s.raised := rfl
@[simp] theorem send_freeCtr (m : Message) : (s.send m).freeCtr = s.freeCtr := rfl
@[simp] theorem send_pending (m : Message) : (s.send m).pending = s.pending := rfl

@[simp] theorem raiseAs_words (ev : Ev) (sev : Sev) (k i : Nat) (d : List Byte) : (s.raiseAs ev sev k i d).words = s.words := rfl
@[simp] theorem raiseAs_shadows (ev : Ev) (sev : Sev) (k i : Nat) (d : List Byte) : (s.raiseAs ev sev k i d).shadows = s.shadows := rfl
@[simp] theorem raiseAs_held (ev : Ev) (sev : Sev) (k i : Nat) (d : List Byte) : (s.raiseAs ev sev k i d).held = s.held := rfl
@[simp] theorem raiseAs_latches (ev : Ev) (sev : Sev) (k i : Nat) (d : List Byte) : (s.raiseAs ev sev k i d).latches = s.latches := rfl
@[simp] theorem raiseAs_cyc (ev : Ev) (sev : Sev) (k i : Nat) (d : List Byte) : (s.raiseAs ev sev k i d).cyc = s.cyc := rfl
@[simp] theorem raiseAs_spurs (ev : Ev) (sev : Sev) (k i : Nat) (d : List Byte) : (s.raiseAs ev sev k i d).spurs = s.spurs := rfl
@[simp] theorem raiseAs_saddles (ev : Ev) (sev : Sev) (k i : Nat) (d : List Byte) : (s.raiseAs ev sev k i d).saddles = s.saddles := rfl
@[simp] theorem raiseAs_cols (ev : Ev) (sev : Sev) (k i : Nat) (d : List Byte) : (s.raiseAs ev sev k i d).cols = s.cols := rfl
@[simp] theorem raiseAs_colsMark (ev : Ev) (sev : Sev) (k i : Nat) (d : List Byte) : (s.raiseAs ev sev k i d).colsMark = s.colsMark := rfl
@[simp] theorem raiseAs_colsPrev (ev : Ev) (sev : Sev) (k i : Nat) (d : List Byte) : (s.raiseAs ev sev k i d).colsPrev = s.colsPrev := rfl
@[simp] theorem raiseAs_rdg (ev : Ev) (sev : Sev) (k i : Nat) (d : List Byte) : (s.raiseAs ev sev k i d).rdg = s.rdg := rfl
@[simp] theorem raiseAs_lko (ev : Ev) (sev : Sev) (k i : Nat) (d : List Byte) : (s.raiseAs ev sev k i d).lko = s.lko := rfl
@[simp] theorem raiseAs_fab (ev : Ev) (sev : Sev) (k i : Nat) (d : List Byte) : (s.raiseAs ev sev k i d).fab = s.fab := rfl
@[simp] theorem raiseAs_plan (ev : Ev) (sev : Sev) (k i : Nat) (d : List Byte) : (s.raiseAs ev sev k i d).plan = s.plan := rfl
@[simp] theorem raiseAs_hri (ev : Ev) (sev : Sev) (k i : Nat) (d : List Byte) : (s.raiseAs ev sev k i d).hri = s.hri := rfl
@[simp] theorem raiseAs_gov (ev : Ev) (sev : Sev) (k i : Nat) (d : List Byte) : (s.raiseAs ev sev k i d).gov = s.gov := rfl
@[simp] theorem raiseAs_evs (ev : Ev) (sev : Sev) (k i : Nat) (d : List Byte) : (s.raiseAs ev sev k i d).evs = s.evs := rfl
@[simp] theorem raiseAs_role (ev : Ev) (sev : Sev) (k i : Nat) (d : List Byte) : (s.raiseAs ev sev k i d).role = s.role := rfl
@[simp] theorem raiseAs_cal (ev : Ev) (sev : Sev) (k i : Nat) (d : List Byte) : (s.raiseAs ev sev k i d).cal = s.cal := rfl
@[simp] theorem raiseAs_crn (ev : Ev) (sev : Sev) (k i : Nat) (d : List Byte) : (s.raiseAs ev sev k i d).crn = s.crn := rfl
@[simp] theorem raiseAs_bist (ev : Ev) (sev : Sev) (k i : Nat) (d : List Byte) : (s.raiseAs ev sev k i d).bist = s.bist := rfl
@[simp] theorem raiseAs_lcs (ev : Ev) (sev : Sev) (k i : Nat) (d : List Byte) : (s.raiseAs ev sev k i d).lcs = s.lcs := rfl
@[simp] theorem raiseAs_boot (ev : Ev) (sev : Sev) (k i : Nat) (d : List Byte) : (s.raiseAs ev sev k i d).boot = s.boot := rfl
@[simp] theorem raiseAs_out (ev : Ev) (sev : Sev) (k i : Nat) (d : List Byte) : (s.raiseAs ev sev k i d).out = s.out := rfl
@[simp] theorem raiseAs_freeCtr (ev : Ev) (sev : Sev) (k i : Nat) (d : List Byte) : (s.raiseAs ev sev k i d).freeCtr = s.freeCtr := rfl
@[simp] theorem raiseAs_pending (ev : Ev) (sev : Sev) (k i : Nat) (d : List Byte) : (s.raiseAs ev sev k i d).pending = s.pending := rfl

@[simp] theorem raise_words (ev : Ev) (k i : Nat) (d : List Byte) : (s.raise ev k i d).words = s.words := rfl
@[simp] theorem raise_shadows (ev : Ev) (k i : Nat) (d : List Byte) : (s.raise ev k i d).shadows = s.shadows := rfl
@[simp] theorem raise_held (ev : Ev) (k i : Nat) (d : List Byte) : (s.raise ev k i d).held = s.held := rfl
@[simp] theorem raise_latches (ev : Ev) (k i : Nat) (d : List Byte) : (s.raise ev k i d).latches = s.latches := rfl
@[simp] theorem raise_cyc (ev : Ev) (k i : Nat) (d : List Byte) : (s.raise ev k i d).cyc = s.cyc := rfl
@[simp] theorem raise_spurs (ev : Ev) (k i : Nat) (d : List Byte) : (s.raise ev k i d).spurs = s.spurs := rfl
@[simp] theorem raise_saddles (ev : Ev) (k i : Nat) (d : List Byte) : (s.raise ev k i d).saddles = s.saddles := rfl
@[simp] theorem raise_cols (ev : Ev) (k i : Nat) (d : List Byte) : (s.raise ev k i d).cols = s.cols := rfl
@[simp] theorem raise_colsMark (ev : Ev) (k i : Nat) (d : List Byte) : (s.raise ev k i d).colsMark = s.colsMark := rfl
@[simp] theorem raise_colsPrev (ev : Ev) (k i : Nat) (d : List Byte) : (s.raise ev k i d).colsPrev = s.colsPrev := rfl
@[simp] theorem raise_rdg (ev : Ev) (k i : Nat) (d : List Byte) : (s.raise ev k i d).rdg = s.rdg := rfl
@[simp] theorem raise_lko (ev : Ev) (k i : Nat) (d : List Byte) : (s.raise ev k i d).lko = s.lko := rfl
@[simp] theorem raise_fab (ev : Ev) (k i : Nat) (d : List Byte) : (s.raise ev k i d).fab = s.fab := rfl
@[simp] theorem raise_plan (ev : Ev) (k i : Nat) (d : List Byte) : (s.raise ev k i d).plan = s.plan := rfl
@[simp] theorem raise_hri (ev : Ev) (k i : Nat) (d : List Byte) : (s.raise ev k i d).hri = s.hri := rfl
@[simp] theorem raise_gov (ev : Ev) (k i : Nat) (d : List Byte) : (s.raise ev k i d).gov = s.gov := rfl
@[simp] theorem raise_evs (ev : Ev) (k i : Nat) (d : List Byte) : (s.raise ev k i d).evs = s.evs := rfl
@[simp] theorem raise_role (ev : Ev) (k i : Nat) (d : List Byte) : (s.raise ev k i d).role = s.role := rfl
@[simp] theorem raise_cal (ev : Ev) (k i : Nat) (d : List Byte) : (s.raise ev k i d).cal = s.cal := rfl
@[simp] theorem raise_crn (ev : Ev) (k i : Nat) (d : List Byte) : (s.raise ev k i d).crn = s.crn := rfl
@[simp] theorem raise_bist (ev : Ev) (k i : Nat) (d : List Byte) : (s.raise ev k i d).bist = s.bist := rfl
@[simp] theorem raise_lcs (ev : Ev) (k i : Nat) (d : List Byte) : (s.raise ev k i d).lcs = s.lcs := rfl
@[simp] theorem raise_boot (ev : Ev) (k i : Nat) (d : List Byte) : (s.raise ev k i d).boot = s.boot := rfl
@[simp] theorem raise_out (ev : Ev) (k i : Nat) (d : List Byte) : (s.raise ev k i d).out = s.out := rfl
@[simp] theorem raise_freeCtr (ev : Ev) (k i : Nat) (d : List Byte) : (s.raise ev k i d).freeCtr = s.freeCtr := rfl
@[simp] theorem raise_pending (ev : Ev) (k i : Nat) (d : List Byte) : (s.raise ev k i d).pending = s.pending := rfl

@[simp] theorem sendLane_words (c : LaneCmd) : (s.sendLane c).words = s.words := by unfold State.sendLane; split <;> rfl
@[simp] theorem sendLane_shadows (c : LaneCmd) : (s.sendLane c).shadows = s.shadows := by unfold State.sendLane; split <;> rfl
@[simp] theorem sendLane_held (c : LaneCmd) : (s.sendLane c).held = s.held := by unfold State.sendLane; split <;> rfl
@[simp] theorem sendLane_latches (c : LaneCmd) : (s.sendLane c).latches = s.latches := by unfold State.sendLane; split <;> rfl
@[simp] theorem sendLane_cyc (c : LaneCmd) : (s.sendLane c).cyc = s.cyc := by unfold State.sendLane; split <;> rfl
@[simp] theorem sendLane_spurs (c : LaneCmd) : (s.sendLane c).spurs = s.spurs := by unfold State.sendLane; split <;> rfl
@[simp] theorem sendLane_saddles (c : LaneCmd) : (s.sendLane c).saddles = s.saddles := by unfold State.sendLane; split <;> rfl
@[simp] theorem sendLane_cols (c : LaneCmd) : (s.sendLane c).cols = s.cols := by unfold State.sendLane; split <;> rfl
@[simp] theorem sendLane_colsMark (c : LaneCmd) : (s.sendLane c).colsMark = s.colsMark := by unfold State.sendLane; split <;> rfl
@[simp] theorem sendLane_colsPrev (c : LaneCmd) : (s.sendLane c).colsPrev = s.colsPrev := by unfold State.sendLane; split <;> rfl
@[simp] theorem sendLane_rdg (c : LaneCmd) : (s.sendLane c).rdg = s.rdg := by unfold State.sendLane; split <;> rfl
@[simp] theorem sendLane_lko (c : LaneCmd) : (s.sendLane c).lko = s.lko := by unfold State.sendLane; split <;> rfl
@[simp] theorem sendLane_fab (c : LaneCmd) : (s.sendLane c).fab = s.fab := by unfold State.sendLane; split <;> rfl
@[simp] theorem sendLane_plan (c : LaneCmd) : (s.sendLane c).plan = s.plan := by unfold State.sendLane; split <;> rfl
@[simp] theorem sendLane_hri (c : LaneCmd) : (s.sendLane c).hri = s.hri := by unfold State.sendLane; split <;> rfl
@[simp] theorem sendLane_gov (c : LaneCmd) : (s.sendLane c).gov = s.gov := by unfold State.sendLane; split <;> rfl
@[simp] theorem sendLane_faults (c : LaneCmd) : (s.sendLane c).faults = s.faults := by unfold State.sendLane; split <;> rfl
@[simp] theorem sendLane_evs (c : LaneCmd) : (s.sendLane c).evs = s.evs := by unfold State.sendLane; split <;> rfl
@[simp] theorem sendLane_role (c : LaneCmd) : (s.sendLane c).role = s.role := by unfold State.sendLane; split <;> rfl
@[simp] theorem sendLane_cal (c : LaneCmd) : (s.sendLane c).cal = s.cal := by unfold State.sendLane; split <;> rfl
@[simp] theorem sendLane_crn (c : LaneCmd) : (s.sendLane c).crn = s.crn := by unfold State.sendLane; split <;> rfl
@[simp] theorem sendLane_bist (c : LaneCmd) : (s.sendLane c).bist = s.bist := by unfold State.sendLane; split <;> rfl
@[simp] theorem sendLane_lcs (c : LaneCmd) : (s.sendLane c).lcs = s.lcs := by unfold State.sendLane; split <;> rfl
@[simp] theorem sendLane_boot (c : LaneCmd) : (s.sendLane c).boot = s.boot := by unfold State.sendLane; split <;> rfl
@[simp] theorem sendLane_raised (c : LaneCmd) : (s.sendLane c).raised = s.raised := by unfold State.sendLane; split <;> rfl
@[simp] theorem sendLane_freeCtr (c : LaneCmd) : (s.sendLane c).freeCtr = s.freeCtr := by unfold State.sendLane; split <;> rfl
@[simp] theorem sendLane_pending (c : LaneCmd) : (s.sendLane c).pending = s.pending := by unfold State.sendLane; split <;> rfl

@[simp] theorem noteSet_words (a i : Nat) : (s.noteSet a i).words = s.words := rfl
@[simp] theorem noteSet_shadows (a i : Nat) : (s.noteSet a i).shadows = s.shadows := rfl
@[simp] theorem noteSet_held (a i : Nat) : (s.noteSet a i).held = s.held := rfl
@[simp] theorem noteSet_latches (a i : Nat) : (s.noteSet a i).latches = s.latches := rfl
@[simp] theorem noteSet_spurs (a i : Nat) : (s.noteSet a i).spurs = s.spurs := rfl
@[simp] theorem noteSet_saddles (a i : Nat) : (s.noteSet a i).saddles = s.saddles := rfl
@[simp] theorem noteSet_cols (a i : Nat) : (s.noteSet a i).cols = s.cols := rfl
@[simp] theorem noteSet_colsMark (a i : Nat) : (s.noteSet a i).colsMark = s.colsMark := rfl
@[simp] theorem noteSet_colsPrev (a i : Nat) : (s.noteSet a i).colsPrev = s.colsPrev := rfl
@[simp] theorem noteSet_rdg (a i : Nat) : (s.noteSet a i).rdg = s.rdg := rfl
@[simp] theorem noteSet_lko (a i : Nat) : (s.noteSet a i).lko = s.lko := rfl
@[simp] theorem noteSet_fab (a i : Nat) : (s.noteSet a i).fab = s.fab := rfl
@[simp] theorem noteSet_plan (a i : Nat) : (s.noteSet a i).plan = s.plan := rfl
@[simp] theorem noteSet_hri (a i : Nat) : (s.noteSet a i).hri = s.hri := rfl
@[simp] theorem noteSet_gov (a i : Nat) : (s.noteSet a i).gov = s.gov := rfl
@[simp] theorem noteSet_faults (a i : Nat) : (s.noteSet a i).faults = s.faults := rfl
@[simp] theorem noteSet_evs (a i : Nat) : (s.noteSet a i).evs = s.evs := rfl
@[simp] theorem noteSet_role (a i : Nat) : (s.noteSet a i).role = s.role := rfl
@[simp] theorem noteSet_cal (a i : Nat) : (s.noteSet a i).cal = s.cal := rfl
@[simp] theorem noteSet_crn (a i : Nat) : (s.noteSet a i).crn = s.crn := rfl
@[simp] theorem noteSet_bist (a i : Nat) : (s.noteSet a i).bist = s.bist := rfl
@[simp] theorem noteSet_lcs (a i : Nat) : (s.noteSet a i).lcs = s.lcs := rfl
@[simp] theorem noteSet_boot (a i : Nat) : (s.noteSet a i).boot = s.boot := rfl
@[simp] theorem noteSet_raised (a i : Nat) : (s.noteSet a i).raised = s.raised := rfl
@[simp] theorem noteSet_out (a i : Nat) : (s.noteSet a i).out = s.out := rfl
@[simp] theorem noteSet_freeCtr (a i : Nat) : (s.noteSet a i).freeCtr = s.freeCtr := rfl
@[simp] theorem noteSet_pending (a i : Nat) : (s.noteSet a i).pending = s.pending := rfl

@[simp] theorem complete_words (c : Completion) : (s.complete c).words = s.words := rfl
@[simp] theorem complete_shadows (c : Completion) : (s.complete c).shadows = s.shadows := rfl
@[simp] theorem complete_held (c : Completion) : (s.complete c).held = s.held := rfl
@[simp] theorem complete_latches (c : Completion) : (s.complete c).latches = s.latches := rfl
@[simp] theorem complete_cyc (c : Completion) : (s.complete c).cyc = s.cyc := rfl
@[simp] theorem complete_spurs (c : Completion) : (s.complete c).spurs = s.spurs := rfl
@[simp] theorem complete_saddles (c : Completion) : (s.complete c).saddles = s.saddles := rfl
@[simp] theorem complete_cols (c : Completion) : (s.complete c).cols = s.cols := rfl
@[simp] theorem complete_colsMark (c : Completion) : (s.complete c).colsMark = s.colsMark := rfl
@[simp] theorem complete_colsPrev (c : Completion) : (s.complete c).colsPrev = s.colsPrev := rfl
@[simp] theorem complete_rdg (c : Completion) : (s.complete c).rdg = s.rdg := rfl
@[simp] theorem complete_lko (c : Completion) : (s.complete c).lko = s.lko := rfl
@[simp] theorem complete_fab (c : Completion) : (s.complete c).fab = s.fab := rfl
@[simp] theorem complete_plan (c : Completion) : (s.complete c).plan = s.plan := rfl
@[simp] theorem complete_gov (c : Completion) : (s.complete c).gov = s.gov := rfl
@[simp] theorem complete_faults (c : Completion) : (s.complete c).faults = s.faults := rfl
@[simp] theorem complete_evs (c : Completion) : (s.complete c).evs = s.evs := rfl
@[simp] theorem complete_role (c : Completion) : (s.complete c).role = s.role := rfl
@[simp] theorem complete_cal (c : Completion) : (s.complete c).cal = s.cal := rfl
@[simp] theorem complete_crn (c : Completion) : (s.complete c).crn = s.crn := rfl
@[simp] theorem complete_bist (c : Completion) : (s.complete c).bist = s.bist := rfl
@[simp] theorem complete_lcs (c : Completion) : (s.complete c).lcs = s.lcs := rfl
@[simp] theorem complete_boot (c : Completion) : (s.complete c).boot = s.boot := rfl
@[simp] theorem complete_raised (c : Completion) : (s.complete c).raised = s.raised := rfl
@[simp] theorem complete_out (c : Completion) : (s.complete c).out = s.out := rfl
@[simp] theorem complete_freeCtr (c : Completion) : (s.complete c).freeCtr = s.freeCtr := rfl
@[simp] theorem complete_pending (c : Completion) : (s.complete c).pending = s.pending := rfl

@[simp] theorem setWord_shadows (a : Nat) (w : Word) : (s.setWord a w).shadows = s.shadows := rfl
@[simp] theorem setWord_held (a : Nat) (w : Word) : (s.setWord a w).held = s.held := rfl
@[simp] theorem setWord_latches (a : Nat) (w : Word) : (s.setWord a w).latches = s.latches := rfl
@[simp] theorem setWord_cyc (a : Nat) (w : Word) : (s.setWord a w).cyc = s.cyc := rfl
@[simp] theorem setWord_spurs (a : Nat) (w : Word) : (s.setWord a w).spurs = s.spurs := rfl
@[simp] theorem setWord_saddles (a : Nat) (w : Word) : (s.setWord a w).saddles = s.saddles := rfl
@[simp] theorem setWord_cols (a : Nat) (w : Word) : (s.setWord a w).cols = s.cols := rfl
@[simp] theorem setWord_colsMark (a : Nat) (w : Word) : (s.setWord a w).colsMark = s.colsMark := rfl
@[simp] theorem setWord_colsPrev (a : Nat) (w : Word) : (s.setWord a w).colsPrev = s.colsPrev := rfl
@[simp] theorem setWord_rdg (a : Nat) (w : Word) : (s.setWord a w).rdg = s.rdg := rfl
@[simp] theorem setWord_lko (a : Nat) (w : Word) : (s.setWord a w).lko = s.lko := rfl
@[simp] theorem setWord_fab (a : Nat) (w : Word) : (s.setWord a w).fab = s.fab := rfl
@[simp] theorem setWord_plan (a : Nat) (w : Word) : (s.setWord a w).plan = s.plan := rfl
@[simp] theorem setWord_hri (a : Nat) (w : Word) : (s.setWord a w).hri = s.hri := rfl
@[simp] theorem setWord_gov (a : Nat) (w : Word) : (s.setWord a w).gov = s.gov := rfl
@[simp] theorem setWord_faults (a : Nat) (w : Word) : (s.setWord a w).faults = s.faults := rfl
@[simp] theorem setWord_evs (a : Nat) (w : Word) : (s.setWord a w).evs = s.evs := rfl
@[simp] theorem setWord_role (a : Nat) (w : Word) : (s.setWord a w).role = s.role := rfl
@[simp] theorem setWord_cal (a : Nat) (w : Word) : (s.setWord a w).cal = s.cal := rfl
@[simp] theorem setWord_crn (a : Nat) (w : Word) : (s.setWord a w).crn = s.crn := rfl
@[simp] theorem setWord_bist (a : Nat) (w : Word) : (s.setWord a w).bist = s.bist := rfl
@[simp] theorem setWord_lcs (a : Nat) (w : Word) : (s.setWord a w).lcs = s.lcs := rfl
@[simp] theorem setWord_boot (a : Nat) (w : Word) : (s.setWord a w).boot = s.boot := rfl
@[simp] theorem setWord_raised (a : Nat) (w : Word) : (s.setWord a w).raised = s.raised := rfl
@[simp] theorem setWord_out (a : Nat) (w : Word) : (s.setWord a w).out = s.out := rfl
@[simp] theorem setWord_freeCtr (a : Nat) (w : Word) : (s.setWord a w).freeCtr = s.freeCtr := rfl
@[simp] theorem setWord_pending (a : Nat) (w : Word) : (s.setWord a w).pending = s.pending := rfl

@[simp] theorem setField_shadows (a hi lo v : Nat) : (s.setField a hi lo v).shadows = s.shadows := rfl
@[simp] theorem setField_held (a hi lo v : Nat) : (s.setField a hi lo v).held = s.held := rfl
@[simp] theorem setField_latches (a hi lo v : Nat) : (s.setField a hi lo v).latches = s.latches := rfl
@[simp] theorem setField_cyc (a hi lo v : Nat) : (s.setField a hi lo v).cyc = s.cyc := rfl
@[simp] theorem setField_spurs (a hi lo v : Nat) : (s.setField a hi lo v).spurs = s.spurs := rfl
@[simp] theorem setField_saddles (a hi lo v : Nat) : (s.setField a hi lo v).saddles = s.saddles := rfl
@[simp] theorem setField_cols (a hi lo v : Nat) : (s.setField a hi lo v).cols = s.cols := rfl
@[simp] theorem setField_colsMark (a hi lo v : Nat) : (s.setField a hi lo v).colsMark = s.colsMark := rfl
@[simp] theorem setField_colsPrev (a hi lo v : Nat) : (s.setField a hi lo v).colsPrev = s.colsPrev := rfl
@[simp] theorem setField_rdg (a hi lo v : Nat) : (s.setField a hi lo v).rdg = s.rdg := rfl
@[simp] theorem setField_lko (a hi lo v : Nat) : (s.setField a hi lo v).lko = s.lko := rfl
@[simp] theorem setField_fab (a hi lo v : Nat) : (s.setField a hi lo v).fab = s.fab := rfl
@[simp] theorem setField_plan (a hi lo v : Nat) : (s.setField a hi lo v).plan = s.plan := rfl
@[simp] theorem setField_hri (a hi lo v : Nat) : (s.setField a hi lo v).hri = s.hri := rfl
@[simp] theorem setField_gov (a hi lo v : Nat) : (s.setField a hi lo v).gov = s.gov := rfl
@[simp] theorem setField_faults (a hi lo v : Nat) : (s.setField a hi lo v).faults = s.faults := rfl
@[simp] theorem setField_evs (a hi lo v : Nat) : (s.setField a hi lo v).evs = s.evs := rfl
@[simp] theorem setField_role (a hi lo v : Nat) : (s.setField a hi lo v).role = s.role := rfl
@[simp] theorem setField_cal (a hi lo v : Nat) : (s.setField a hi lo v).cal = s.cal := rfl
@[simp] theorem setField_crn (a hi lo v : Nat) : (s.setField a hi lo v).crn = s.crn := rfl
@[simp] theorem setField_bist (a hi lo v : Nat) : (s.setField a hi lo v).bist = s.bist := rfl
@[simp] theorem setField_lcs (a hi lo v : Nat) : (s.setField a hi lo v).lcs = s.lcs := rfl
@[simp] theorem setField_boot (a hi lo v : Nat) : (s.setField a hi lo v).boot = s.boot := rfl
@[simp] theorem setField_raised (a hi lo v : Nat) : (s.setField a hi lo v).raised = s.raised := rfl
@[simp] theorem setField_out (a hi lo v : Nat) : (s.setField a hi lo v).out = s.out := rfl
@[simp] theorem setField_freeCtr (a hi lo v : Nat) : (s.setField a hi lo v).freeCtr = s.freeCtr := rfl
@[simp] theorem setField_pending (a hi lo v : Nat) : (s.setField a hi lo v).pending = s.pending := rfl

@[simp] theorem setBit_shadows (a i : Nat) : (s.setBit a i).shadows = s.shadows := rfl
@[simp] theorem setBit_held (a i : Nat) : (s.setBit a i).held = s.held := rfl
@[simp] theorem setBit_latches (a i : Nat) : (s.setBit a i).latches = s.latches := rfl
@[simp] theorem setBit_spurs (a i : Nat) : (s.setBit a i).spurs = s.spurs := rfl
@[simp] theorem setBit_saddles (a i : Nat) : (s.setBit a i).saddles = s.saddles := rfl
@[simp] theorem setBit_cols (a i : Nat) : (s.setBit a i).cols = s.cols := rfl
@[simp] theorem setBit_colsMark (a i : Nat) : (s.setBit a i).colsMark = s.colsMark := rfl
@[simp] theorem setBit_colsPrev (a i : Nat) : (s.setBit a i).colsPrev = s.colsPrev := rfl
@[simp] theorem setBit_rdg (a i : Nat) : (s.setBit a i).rdg = s.rdg := rfl
@[simp] theorem setBit_lko (a i : Nat) : (s.setBit a i).lko = s.lko := rfl
@[simp] theorem setBit_fab (a i : Nat) : (s.setBit a i).fab = s.fab := rfl
@[simp] theorem setBit_plan (a i : Nat) : (s.setBit a i).plan = s.plan := rfl
@[simp] theorem setBit_hri (a i : Nat) : (s.setBit a i).hri = s.hri := rfl
@[simp] theorem setBit_gov (a i : Nat) : (s.setBit a i).gov = s.gov := rfl
@[simp] theorem setBit_faults (a i : Nat) : (s.setBit a i).faults = s.faults := rfl
@[simp] theorem setBit_evs (a i : Nat) : (s.setBit a i).evs = s.evs := rfl
@[simp] theorem setBit_role (a i : Nat) : (s.setBit a i).role = s.role := rfl
@[simp] theorem setBit_cal (a i : Nat) : (s.setBit a i).cal = s.cal := rfl
@[simp] theorem setBit_crn (a i : Nat) : (s.setBit a i).crn = s.crn := rfl
@[simp] theorem setBit_bist (a i : Nat) : (s.setBit a i).bist = s.bist := rfl
@[simp] theorem setBit_lcs (a i : Nat) : (s.setBit a i).lcs = s.lcs := rfl
@[simp] theorem setBit_boot (a i : Nat) : (s.setBit a i).boot = s.boot := rfl
@[simp] theorem setBit_raised (a i : Nat) : (s.setBit a i).raised = s.raised := rfl
@[simp] theorem setBit_out (a i : Nat) : (s.setBit a i).out = s.out := rfl
@[simp] theorem setBit_freeCtr (a i : Nat) : (s.setBit a i).freeCtr = s.freeCtr := rfl
@[simp] theorem setBit_pending (a i : Nat) : (s.setBit a i).pending = s.pending := rfl

@[simp] theorem setShadow_words (a : Nat) (w : Word) : (s.setShadow a w).words = s.words := rfl
@[simp] theorem setShadow_held (a : Nat) (w : Word) : (s.setShadow a w).held = s.held := rfl
@[simp] theorem setShadow_latches (a : Nat) (w : Word) : (s.setShadow a w).latches = s.latches := rfl
@[simp] theorem setShadow_cyc (a : Nat) (w : Word) : (s.setShadow a w).cyc = s.cyc := rfl
@[simp] theorem setShadow_spurs (a : Nat) (w : Word) : (s.setShadow a w).spurs = s.spurs := rfl
@[simp] theorem setShadow_saddles (a : Nat) (w : Word) : (s.setShadow a w).saddles = s.saddles := rfl
@[simp] theorem setShadow_cols (a : Nat) (w : Word) : (s.setShadow a w).cols = s.cols := rfl
@[simp] theorem setShadow_colsMark (a : Nat) (w : Word) : (s.setShadow a w).colsMark = s.colsMark := rfl
@[simp] theorem setShadow_colsPrev (a : Nat) (w : Word) : (s.setShadow a w).colsPrev = s.colsPrev := rfl
@[simp] theorem setShadow_rdg (a : Nat) (w : Word) : (s.setShadow a w).rdg = s.rdg := rfl
@[simp] theorem setShadow_lko (a : Nat) (w : Word) : (s.setShadow a w).lko = s.lko := rfl
@[simp] theorem setShadow_fab (a : Nat) (w : Word) : (s.setShadow a w).fab = s.fab := rfl
@[simp] theorem setShadow_plan (a : Nat) (w : Word) : (s.setShadow a w).plan = s.plan := rfl
@[simp] theorem setShadow_hri (a : Nat) (w : Word) : (s.setShadow a w).hri = s.hri := rfl
@[simp] theorem setShadow_gov (a : Nat) (w : Word) : (s.setShadow a w).gov = s.gov := rfl
@[simp] theorem setShadow_faults (a : Nat) (w : Word) : (s.setShadow a w).faults = s.faults := rfl
@[simp] theorem setShadow_evs (a : Nat) (w : Word) : (s.setShadow a w).evs = s.evs := rfl
@[simp] theorem setShadow_role (a : Nat) (w : Word) : (s.setShadow a w).role = s.role := rfl
@[simp] theorem setShadow_cal (a : Nat) (w : Word) : (s.setShadow a w).cal = s.cal := rfl
@[simp] theorem setShadow_crn (a : Nat) (w : Word) : (s.setShadow a w).crn = s.crn := rfl
@[simp] theorem setShadow_bist (a : Nat) (w : Word) : (s.setShadow a w).bist = s.bist := rfl
@[simp] theorem setShadow_lcs (a : Nat) (w : Word) : (s.setShadow a w).lcs = s.lcs := rfl
@[simp] theorem setShadow_boot (a : Nat) (w : Word) : (s.setShadow a w).boot = s.boot := rfl
@[simp] theorem setShadow_raised (a : Nat) (w : Word) : (s.setShadow a w).raised = s.raised := rfl
@[simp] theorem setShadow_out (a : Nat) (w : Word) : (s.setShadow a w).out = s.out := rfl
@[simp] theorem setShadow_freeCtr (a : Nat) (w : Word) : (s.setShadow a w).freeCtr = s.freeCtr := rfl
@[simp] theorem setShadow_pending (a : Nat) (w : Word) : (s.setShadow a w).pending = s.pending := rfl

@[simp] theorem dropShadow_words (a : Nat) : (s.dropShadow a).words = s.words := rfl
@[simp] theorem dropShadow_held (a : Nat) : (s.dropShadow a).held = s.held := rfl
@[simp] theorem dropShadow_latches (a : Nat) : (s.dropShadow a).latches = s.latches := rfl
@[simp] theorem dropShadow_cyc (a : Nat) : (s.dropShadow a).cyc = s.cyc := rfl
@[simp] theorem dropShadow_spurs (a : Nat) : (s.dropShadow a).spurs = s.spurs := rfl
@[simp] theorem dropShadow_saddles (a : Nat) : (s.dropShadow a).saddles = s.saddles := rfl
@[simp] theorem dropShadow_cols (a : Nat) : (s.dropShadow a).cols = s.cols := rfl
@[simp] theorem dropShadow_colsMark (a : Nat) : (s.dropShadow a).colsMark = s.colsMark := rfl
@[simp] theorem dropShadow_colsPrev (a : Nat) : (s.dropShadow a).colsPrev = s.colsPrev := rfl
@[simp] theorem dropShadow_rdg (a : Nat) : (s.dropShadow a).rdg = s.rdg := rfl
@[simp] theorem dropShadow_lko (a : Nat) : (s.dropShadow a).lko = s.lko := rfl
@[simp] theorem dropShadow_fab (a : Nat) : (s.dropShadow a).fab = s.fab := rfl
@[simp] theorem dropShadow_plan (a : Nat) : (s.dropShadow a).plan = s.plan := rfl
@[simp] theorem dropShadow_hri (a : Nat) : (s.dropShadow a).hri = s.hri := rfl
@[simp] theorem dropShadow_gov (a : Nat) : (s.dropShadow a).gov = s.gov := rfl
@[simp] theorem dropShadow_faults (a : Nat) : (s.dropShadow a).faults = s.faults := rfl
@[simp] theorem dropShadow_evs (a : Nat) : (s.dropShadow a).evs = s.evs := rfl
@[simp] theorem dropShadow_role (a : Nat) : (s.dropShadow a).role = s.role := rfl
@[simp] theorem dropShadow_cal (a : Nat) : (s.dropShadow a).cal = s.cal := rfl
@[simp] theorem dropShadow_crn (a : Nat) : (s.dropShadow a).crn = s.crn := rfl
@[simp] theorem dropShadow_bist (a : Nat) : (s.dropShadow a).bist = s.bist := rfl
@[simp] theorem dropShadow_lcs (a : Nat) : (s.dropShadow a).lcs = s.lcs := rfl
@[simp] theorem dropShadow_boot (a : Nat) : (s.dropShadow a).boot = s.boot := rfl
@[simp] theorem dropShadow_raised (a : Nat) : (s.dropShadow a).raised = s.raised := rfl
@[simp] theorem dropShadow_out (a : Nat) : (s.dropShadow a).out = s.out := rfl
@[simp] theorem dropShadow_freeCtr (a : Nat) : (s.dropShadow a).freeCtr = s.freeCtr := rfl
@[simp] theorem dropShadow_pending (a : Nat) : (s.dropShadow a).pending = s.pending := rfl

@[simp] theorem modPlan_words (g : Plan → Plan) : (s.modPlan g).words = s.words := rfl
@[simp] theorem modPlan_shadows (g : Plan → Plan) : (s.modPlan g).shadows = s.shadows := rfl
@[simp] theorem modPlan_held (g : Plan → Plan) : (s.modPlan g).held = s.held := rfl
@[simp] theorem modPlan_latches (g : Plan → Plan) : (s.modPlan g).latches = s.latches := rfl
@[simp] theorem modPlan_cyc (g : Plan → Plan) : (s.modPlan g).cyc = s.cyc := rfl
@[simp] theorem modPlan_spurs (g : Plan → Plan) : (s.modPlan g).spurs = s.spurs := rfl
@[simp] theorem modPlan_saddles (g : Plan → Plan) : (s.modPlan g).saddles = s.saddles := rfl
@[simp] theorem modPlan_cols (g : Plan → Plan) : (s.modPlan g).cols = s.cols := rfl
@[simp] theorem modPlan_colsMark (g : Plan → Plan) : (s.modPlan g).colsMark = s.colsMark := rfl
@[simp] theorem modPlan_colsPrev (g : Plan → Plan) : (s.modPlan g).colsPrev = s.colsPrev := rfl
@[simp] theorem modPlan_rdg (g : Plan → Plan) : (s.modPlan g).rdg = s.rdg := rfl
@[simp] theorem modPlan_lko (g : Plan → Plan) : (s.modPlan g).lko = s.lko := rfl
@[simp] theorem modPlan_fab (g : Plan → Plan) : (s.modPlan g).fab = s.fab := rfl
@[simp] theorem modPlan_hri (g : Plan → Plan) : (s.modPlan g).hri = s.hri := rfl
@[simp] theorem modPlan_gov (g : Plan → Plan) : (s.modPlan g).gov = s.gov := rfl
@[simp] theorem modPlan_faults (g : Plan → Plan) : (s.modPlan g).faults = s.faults := rfl
@[simp] theorem modPlan_evs (g : Plan → Plan) : (s.modPlan g).evs = s.evs := rfl
@[simp] theorem modPlan_role (g : Plan → Plan) : (s.modPlan g).role = s.role := rfl
@[simp] theorem modPlan_cal (g : Plan → Plan) : (s.modPlan g).cal = s.cal := rfl
@[simp] theorem modPlan_crn (g : Plan → Plan) : (s.modPlan g).crn = s.crn := rfl
@[simp] theorem modPlan_bist (g : Plan → Plan) : (s.modPlan g).bist = s.bist := rfl
@[simp] theorem modPlan_lcs (g : Plan → Plan) : (s.modPlan g).lcs = s.lcs := rfl
@[simp] theorem modPlan_boot (g : Plan → Plan) : (s.modPlan g).boot = s.boot := rfl
@[simp] theorem modPlan_raised (g : Plan → Plan) : (s.modPlan g).raised = s.raised := rfl
@[simp] theorem modPlan_out (g : Plan → Plan) : (s.modPlan g).out = s.out := rfl
@[simp] theorem modPlan_freeCtr (g : Plan → Plan) : (s.modPlan g).freeCtr = s.freeCtr := rfl
@[simp] theorem modPlan_pending (g : Plan → Plan) : (s.modPlan g).pending = s.pending := rfl

@[simp] theorem baseMoved_words : (s.baseMoved).words = s.words := rfl
@[simp] theorem baseMoved_shadows : (s.baseMoved).shadows = s.shadows := rfl
@[simp] theorem baseMoved_held : (s.baseMoved).held = s.held := rfl
@[simp] theorem baseMoved_latches : (s.baseMoved).latches = s.latches := rfl
@[simp] theorem baseMoved_cyc : (s.baseMoved).cyc = s.cyc := rfl
@[simp] theorem baseMoved_spurs : (s.baseMoved).spurs = s.spurs := rfl
@[simp] theorem baseMoved_saddles : (s.baseMoved).saddles = s.saddles := rfl
@[simp] theorem baseMoved_cols : (s.baseMoved).cols = s.cols := rfl
@[simp] theorem baseMoved_colsMark : (s.baseMoved).colsMark = s.colsMark := rfl
@[simp] theorem baseMoved_colsPrev : (s.baseMoved).colsPrev = s.colsPrev := rfl
@[simp] theorem baseMoved_rdg : (s.baseMoved).rdg = s.rdg := rfl
@[simp] theorem baseMoved_lko : (s.baseMoved).lko = s.lko := rfl
@[simp] theorem baseMoved_fab : (s.baseMoved).fab = s.fab := rfl
@[simp] theorem baseMoved_plan : (s.baseMoved).plan = s.plan := rfl
@[simp] theorem baseMoved_hri : (s.baseMoved).hri = s.hri := rfl
@[simp] theorem baseMoved_gov : (s.baseMoved).gov = s.gov := rfl
@[simp] theorem baseMoved_faults : (s.baseMoved).faults = s.faults := rfl
@[simp] theorem baseMoved_evs : (s.baseMoved).evs = s.evs := rfl
@[simp] theorem baseMoved_cal : (s.baseMoved).cal = s.cal := rfl
@[simp] theorem baseMoved_crn : (s.baseMoved).crn = s.crn := rfl
@[simp] theorem baseMoved_bist : (s.baseMoved).bist = s.bist := rfl
@[simp] theorem baseMoved_lcs : (s.baseMoved).lcs = s.lcs := rfl
@[simp] theorem baseMoved_boot : (s.baseMoved).boot = s.boot := rfl
@[simp] theorem baseMoved_raised : (s.baseMoved).raised = s.raised := rfl
@[simp] theorem baseMoved_out : (s.baseMoved).out = s.out := rfl
@[simp] theorem baseMoved_freeCtr : (s.baseMoved).freeCtr = s.freeCtr := rfl
@[simp] theorem baseMoved_pending : (s.baseMoved).pending = s.pending := rfl

@[simp] theorem modRdg_words (f : Ridgeline → Ridgeline) : (s.modRdg f).words = s.words := rfl
@[simp] theorem modRdg_shadows (f : Ridgeline → Ridgeline) : (s.modRdg f).shadows = s.shadows := rfl
@[simp] theorem modRdg_held (f : Ridgeline → Ridgeline) : (s.modRdg f).held = s.held := rfl
@[simp] theorem modRdg_latches (f : Ridgeline → Ridgeline) : (s.modRdg f).latches = s.latches := rfl
@[simp] theorem modRdg_cyc (f : Ridgeline → Ridgeline) : (s.modRdg f).cyc = s.cyc := rfl
@[simp] theorem modRdg_spurs (f : Ridgeline → Ridgeline) : (s.modRdg f).spurs = s.spurs := rfl
@[simp] theorem modRdg_saddles (f : Ridgeline → Ridgeline) : (s.modRdg f).saddles = s.saddles := rfl
@[simp] theorem modRdg_cols (f : Ridgeline → Ridgeline) : (s.modRdg f).cols = s.cols := rfl
@[simp] theorem modRdg_colsMark (f : Ridgeline → Ridgeline) : (s.modRdg f).colsMark = s.colsMark := rfl
@[simp] theorem modRdg_colsPrev (f : Ridgeline → Ridgeline) : (s.modRdg f).colsPrev = s.colsPrev := rfl
@[simp] theorem modRdg_lko (f : Ridgeline → Ridgeline) : (s.modRdg f).lko = s.lko := rfl
@[simp] theorem modRdg_fab (f : Ridgeline → Ridgeline) : (s.modRdg f).fab = s.fab := rfl
@[simp] theorem modRdg_plan (f : Ridgeline → Ridgeline) : (s.modRdg f).plan = s.plan := rfl
@[simp] theorem modRdg_hri (f : Ridgeline → Ridgeline) : (s.modRdg f).hri = s.hri := rfl
@[simp] theorem modRdg_gov (f : Ridgeline → Ridgeline) : (s.modRdg f).gov = s.gov := rfl
@[simp] theorem modRdg_faults (f : Ridgeline → Ridgeline) : (s.modRdg f).faults = s.faults := rfl
@[simp] theorem modRdg_evs (f : Ridgeline → Ridgeline) : (s.modRdg f).evs = s.evs := rfl
@[simp] theorem modRdg_role (f : Ridgeline → Ridgeline) : (s.modRdg f).role = s.role := rfl
@[simp] theorem modRdg_cal (f : Ridgeline → Ridgeline) : (s.modRdg f).cal = s.cal := rfl
@[simp] theorem modRdg_crn (f : Ridgeline → Ridgeline) : (s.modRdg f).crn = s.crn := rfl
@[simp] theorem modRdg_bist (f : Ridgeline → Ridgeline) : (s.modRdg f).bist = s.bist := rfl
@[simp] theorem modRdg_lcs (f : Ridgeline → Ridgeline) : (s.modRdg f).lcs = s.lcs := rfl
@[simp] theorem modRdg_boot (f : Ridgeline → Ridgeline) : (s.modRdg f).boot = s.boot := rfl
@[simp] theorem modRdg_raised (f : Ridgeline → Ridgeline) : (s.modRdg f).raised = s.raised := rfl
@[simp] theorem modRdg_out (f : Ridgeline → Ridgeline) : (s.modRdg f).out = s.out := rfl
@[simp] theorem modRdg_freeCtr (f : Ridgeline → Ridgeline) : (s.modRdg f).freeCtr = s.freeCtr := rfl
@[simp] theorem modRdg_pending (f : Ridgeline → Ridgeline) : (s.modRdg f).pending = s.pending := rfl

@[simp] theorem incident_words (i : Incident) : (s.incident i).words = s.words := by unfold State.incident; dsimp only; split <;> (try split) <;> rfl
@[simp] theorem incident_shadows (i : Incident) : (s.incident i).shadows = s.shadows := by unfold State.incident; dsimp only; split <;> (try split) <;> rfl
@[simp] theorem incident_held (i : Incident) : (s.incident i).held = s.held := by unfold State.incident; dsimp only; split <;> (try split) <;> rfl
@[simp] theorem incident_latches (i : Incident) : (s.incident i).latches = s.latches := by unfold State.incident; dsimp only; split <;> (try split) <;> rfl
@[simp] theorem incident_cyc (i : Incident) : (s.incident i).cyc = s.cyc := by unfold State.incident; dsimp only; split <;> (try split) <;> rfl
@[simp] theorem incident_spurs (i : Incident) : (s.incident i).spurs = s.spurs := by unfold State.incident; dsimp only; split <;> (try split) <;> rfl
@[simp] theorem incident_saddles (i : Incident) : (s.incident i).saddles = s.saddles := by unfold State.incident; dsimp only; split <;> (try split) <;> rfl
@[simp] theorem incident_cols (i : Incident) : (s.incident i).cols = s.cols := by unfold State.incident; dsimp only; split <;> (try split) <;> rfl
@[simp] theorem incident_colsMark (i : Incident) : (s.incident i).colsMark = s.colsMark := by unfold State.incident; dsimp only; split <;> (try split) <;> rfl
@[simp] theorem incident_colsPrev (i : Incident) : (s.incident i).colsPrev = s.colsPrev := by unfold State.incident; dsimp only; split <;> (try split) <;> rfl
@[simp] theorem incident_rdg (i : Incident) : (s.incident i).rdg = s.rdg := by unfold State.incident; dsimp only; split <;> (try split) <;> rfl
@[simp] theorem incident_lko (i : Incident) : (s.incident i).lko = s.lko := by unfold State.incident; dsimp only; split <;> (try split) <;> rfl
@[simp] theorem incident_fab (i : Incident) : (s.incident i).fab = s.fab := by unfold State.incident; dsimp only; split <;> (try split) <;> rfl
@[simp] theorem incident_plan (i : Incident) : (s.incident i).plan = s.plan := by unfold State.incident; dsimp only; split <;> (try split) <;> rfl
@[simp] theorem incident_hri (i : Incident) : (s.incident i).hri = s.hri := by unfold State.incident; dsimp only; split <;> (try split) <;> rfl
@[simp] theorem incident_gov (i : Incident) : (s.incident i).gov = s.gov := by unfold State.incident; dsimp only; split <;> (try split) <;> rfl
@[simp] theorem incident_evs (i : Incident) : (s.incident i).evs = s.evs := by unfold State.incident; dsimp only; split <;> (try split) <;> rfl
@[simp] theorem incident_role (i : Incident) : (s.incident i).role = s.role := by unfold State.incident; dsimp only; split <;> (try split) <;> rfl
@[simp] theorem incident_cal (i : Incident) : (s.incident i).cal = s.cal := by unfold State.incident; dsimp only; split <;> (try split) <;> rfl
@[simp] theorem incident_crn (i : Incident) : (s.incident i).crn = s.crn := by unfold State.incident; dsimp only; split <;> (try split) <;> rfl
@[simp] theorem incident_bist (i : Incident) : (s.incident i).bist = s.bist := by unfold State.incident; dsimp only; split <;> (try split) <;> rfl
@[simp] theorem incident_lcs (i : Incident) : (s.incident i).lcs = s.lcs := by unfold State.incident; dsimp only; split <;> (try split) <;> rfl
@[simp] theorem incident_boot (i : Incident) : (s.incident i).boot = s.boot := by unfold State.incident; dsimp only; split <;> (try split) <;> rfl
@[simp] theorem incident_raised (i : Incident) : (s.incident i).raised = s.raised := by unfold State.incident; dsimp only; split <;> (try split) <;> rfl
@[simp] theorem incident_out (i : Incident) : (s.incident i).out = s.out := by unfold State.incident; dsimp only; split <;> (try split) <;> rfl
@[simp] theorem incident_freeCtr (i : Incident) : (s.incident i).freeCtr = s.freeCtr := by unfold State.incident; dsimp only; split <;> (try split) <;> rfl
@[simp] theorem incident_pending (i : Incident) : (s.incident i).pending = s.pending := by unfold State.incident; dsimp only; split <;> (try split) <;> rfl

@[simp] theorem closeIncident_words (c u : Nat) : (s.closeIncident c u).words = s.words := by unfold State.closeIncident; split <;> (try split) <;> rfl
@[simp] theorem closeIncident_shadows (c u : Nat) : (s.closeIncident c u).shadows = s.shadows := by unfold State.closeIncident; split <;> (try split) <;> rfl
@[simp] theorem closeIncident_held (c u : Nat) : (s.closeIncident c u).held = s.held := by unfold State.closeIncident; split <;> (try split) <;> rfl
@[simp] theorem closeIncident_latches (c u : Nat) : (s.closeIncident c u).latches = s.latches := by unfold State.closeIncident; split <;> (try split) <;> rfl
@[simp] theorem closeIncident_cyc (c u : Nat) : (s.closeIncident c u).cyc = s.cyc := by unfold State.closeIncident; split <;> (try split) <;> rfl
@[simp] theorem closeIncident_spurs (c u : Nat) : (s.closeIncident c u).spurs = s.spurs := by unfold State.closeIncident; split <;> (try split) <;> rfl
@[simp] theorem closeIncident_saddles (c u : Nat) : (s.closeIncident c u).saddles = s.saddles := by unfold State.closeIncident; split <;> (try split) <;> rfl
@[simp] theorem closeIncident_cols (c u : Nat) : (s.closeIncident c u).cols = s.cols := by unfold State.closeIncident; split <;> (try split) <;> rfl
@[simp] theorem closeIncident_colsMark (c u : Nat) : (s.closeIncident c u).colsMark = s.colsMark := by unfold State.closeIncident; split <;> (try split) <;> rfl
@[simp] theorem closeIncident_colsPrev (c u : Nat) : (s.closeIncident c u).colsPrev = s.colsPrev := by unfold State.closeIncident; split <;> (try split) <;> rfl
@[simp] theorem closeIncident_rdg (c u : Nat) : (s.closeIncident c u).rdg = s.rdg := by unfold State.closeIncident; split <;> (try split) <;> rfl
@[simp] theorem closeIncident_lko (c u : Nat) : (s.closeIncident c u).lko = s.lko := by unfold State.closeIncident; split <;> (try split) <;> rfl
@[simp] theorem closeIncident_fab (c u : Nat) : (s.closeIncident c u).fab = s.fab := by unfold State.closeIncident; split <;> (try split) <;> rfl
@[simp] theorem closeIncident_plan (c u : Nat) : (s.closeIncident c u).plan = s.plan := by unfold State.closeIncident; split <;> (try split) <;> rfl
@[simp] theorem closeIncident_hri (c u : Nat) : (s.closeIncident c u).hri = s.hri := by unfold State.closeIncident; split <;> (try split) <;> rfl
@[simp] theorem closeIncident_gov (c u : Nat) : (s.closeIncident c u).gov = s.gov := by unfold State.closeIncident; split <;> (try split) <;> rfl
@[simp] theorem closeIncident_evs (c u : Nat) : (s.closeIncident c u).evs = s.evs := by unfold State.closeIncident; split <;> (try split) <;> rfl
@[simp] theorem closeIncident_role (c u : Nat) : (s.closeIncident c u).role = s.role := by unfold State.closeIncident; split <;> (try split) <;> rfl
@[simp] theorem closeIncident_cal (c u : Nat) : (s.closeIncident c u).cal = s.cal := by unfold State.closeIncident; split <;> (try split) <;> rfl
@[simp] theorem closeIncident_crn (c u : Nat) : (s.closeIncident c u).crn = s.crn := by unfold State.closeIncident; split <;> (try split) <;> rfl
@[simp] theorem closeIncident_bist (c u : Nat) : (s.closeIncident c u).bist = s.bist := by unfold State.closeIncident; split <;> (try split) <;> rfl
@[simp] theorem closeIncident_lcs (c u : Nat) : (s.closeIncident c u).lcs = s.lcs := by unfold State.closeIncident; split <;> (try split) <;> rfl
@[simp] theorem closeIncident_boot (c u : Nat) : (s.closeIncident c u).boot = s.boot := by unfold State.closeIncident; split <;> (try split) <;> rfl
@[simp] theorem closeIncident_raised (c u : Nat) : (s.closeIncident c u).raised = s.raised := by unfold State.closeIncident; split <;> (try split) <;> rfl
@[simp] theorem closeIncident_out (c u : Nat) : (s.closeIncident c u).out = s.out := by unfold State.closeIncident; split <;> (try split) <;> rfl
@[simp] theorem closeIncident_freeCtr (c u : Nat) : (s.closeIncident c u).freeCtr = s.freeCtr := by unfold State.closeIncident; split <;> (try split) <;> rfl
@[simp] theorem closeIncident_pending (c u : Nat) : (s.closeIncident c u).pending = s.pending := by unfold State.closeIncident; split <;> (try split) <;> rfl

@[simp] theorem requests_words (now : Bool) : (s.requests now).words = s.words := rfl
@[simp] theorem requests_shadows (now : Bool) : (s.requests now).shadows = s.shadows := rfl
@[simp] theorem requests_held (now : Bool) : (s.requests now).held = s.held := rfl
@[simp] theorem requests_latches (now : Bool) : (s.requests now).latches = s.latches := rfl
@[simp] theorem requests_cyc (now : Bool) : (s.requests now).cyc = s.cyc := rfl
@[simp] theorem requests_spurs (now : Bool) : (s.requests now).spurs = s.spurs := rfl
@[simp] theorem requests_saddles (now : Bool) : (s.requests now).saddles = s.saddles := rfl
@[simp] theorem requests_colsMark (now : Bool) : (s.requests now).colsMark = s.colsMark := rfl
@[simp] theorem requests_colsPrev (now : Bool) : (s.requests now).colsPrev = s.colsPrev := rfl
@[simp] theorem requests_rdg (now : Bool) : (s.requests now).rdg = s.rdg := rfl
@[simp] theorem requests_lko (now : Bool) : (s.requests now).lko = s.lko := rfl
@[simp] theorem requests_fab (now : Bool) : (s.requests now).fab = s.fab := rfl
@[simp] theorem requests_plan (now : Bool) : (s.requests now).plan = s.plan := rfl
@[simp] theorem requests_hri (now : Bool) : (s.requests now).hri = s.hri := rfl
@[simp] theorem requests_gov (now : Bool) : (s.requests now).gov = s.gov := rfl
@[simp] theorem requests_faults (now : Bool) : (s.requests now).faults = s.faults := rfl
@[simp] theorem requests_evs (now : Bool) : (s.requests now).evs = s.evs := rfl
@[simp] theorem requests_role (now : Bool) : (s.requests now).role = s.role := rfl
@[simp] theorem requests_cal (now : Bool) : (s.requests now).cal = s.cal := rfl
@[simp] theorem requests_crn (now : Bool) : (s.requests now).crn = s.crn := rfl
@[simp] theorem requests_bist (now : Bool) : (s.requests now).bist = s.bist := rfl
@[simp] theorem requests_lcs (now : Bool) : (s.requests now).lcs = s.lcs := rfl
@[simp] theorem requests_boot (now : Bool) : (s.requests now).boot = s.boot := rfl
@[simp] theorem requests_raised (now : Bool) : (s.requests now).raised = s.raised := rfl
@[simp] theorem requests_out (now : Bool) : (s.requests now).out = s.out := rfl
@[simp] theorem requests_freeCtr (now : Bool) : (s.requests now).freeCtr = s.freeCtr := rfl
@[simp] theorem requests_pending (now : Bool) : (s.requests now).pending = s.pending := rfl

/-! ## What is read of a unit, a word, the mark or the life cycle -/

@[simp] theorem modSpur_at_sad (n : Nat) (f : Spur → Spur) (j : Nat) : (s.modSpur n f).sad j = s.sad j := rfl
@[simp] theorem modSpur_at_col (n : Nat) (f : Spur → Spur) (j : Nat) : (s.modSpur n f).col j = s.col j := rfl
@[simp] theorem modSpur_at_chan (n : Nat) (f : Spur → Spur) (j : Nat) : (s.modSpur n f).chan j = s.chan j := rfl
@[simp] theorem modSpur_at_word (n : Nat) (f : Spur → Spur) (j : Nat) : (s.modSpur n f).word j = s.word j := rfl
@[simp] theorem modSpur_at_mark (n : Nat) (f : Spur → Spur) : (s.modSpur n f).mark = s.mark  := rfl
@[simp] theorem modSpur_at_locked (n : Nat) (f : Spur → Spur) : (s.modSpur n f).locked = s.locked  := rfl

@[simp] theorem mapSpurs_at_sad (f : Nat → Spur → Spur) (j : Nat) : (s.mapSpurs f).sad j = s.sad j := rfl
@[simp] theorem mapSpurs_at_col (f : Nat → Spur → Spur) (j : Nat) : (s.mapSpurs f).col j = s.col j := rfl
@[simp] theorem mapSpurs_at_chan (f : Nat → Spur → Spur) (j : Nat) : (s.mapSpurs f).chan j = s.chan j := rfl
@[simp] theorem mapSpurs_at_word (f : Nat → Spur → Spur) (j : Nat) : (s.mapSpurs f).word j = s.word j := rfl
@[simp] theorem mapSpurs_at_mark (f : Nat → Spur → Spur) : (s.mapSpurs f).mark = s.mark  := rfl
@[simp] theorem mapSpurs_at_locked (f : Nat → Spur → Spur) : (s.mapSpurs f).locked = s.locked  := rfl

@[simp] theorem modSad_at_spur (k : Nat) (f : Saddle → Saddle) (j : Nat) : (s.modSad k f).spur j = s.spur j := rfl
@[simp] theorem modSad_at_col (k : Nat) (f : Saddle → Saddle) (j : Nat) : (s.modSad k f).col j = s.col j := rfl
@[simp] theorem modSad_at_chan (k : Nat) (f : Saddle → Saddle) (j : Nat) : (s.modSad k f).chan j = s.chan j := rfl
@[simp] theorem modSad_at_word (k : Nat) (f : Saddle → Saddle) (j : Nat) : (s.modSad k f).word j = s.word j := rfl
@[simp] theorem modSad_at_mark (k : Nat) (f : Saddle → Saddle) : (s.modSad k f).mark = s.mark  := rfl
@[simp] theorem modSad_at_locked (k : Nat) (f : Saddle → Saddle) : (s.modSad k f).locked = s.locked  := rfl

@[simp] theorem mapSads_at_spur (f : Nat → Saddle → Saddle) (j : Nat) : (s.mapSads f).spur j = s.spur j := rfl
@[simp] theorem mapSads_at_col (f : Nat → Saddle → Saddle) (j : Nat) : (s.mapSads f).col j = s.col j := rfl
@[simp] theorem mapSads_at_chan (f : Nat → Saddle → Saddle) (j : Nat) : (s.mapSads f).chan j = s.chan j := rfl
@[simp] theorem mapSads_at_word (f : Nat → Saddle → Saddle) (j : Nat) : (s.mapSads f).word j = s.word j := rfl
@[simp] theorem mapSads_at_mark (f : Nat → Saddle → Saddle) : (s.mapSads f).mark = s.mark  := rfl
@[simp] theorem mapSads_at_locked (f : Nat → Saddle → Saddle) : (s.mapSads f).locked = s.locked  := rfl

@[simp] theorem modCol_at_spur (i : Nat) (g : Col → Col) (j : Nat) : (s.modCol i g).spur j = s.spur j := rfl
@[simp] theorem modCol_at_sad (i : Nat) (g : Col → Col) (j : Nat) : (s.modCol i g).sad j = s.sad j := rfl
@[simp] theorem modCol_at_chan (i : Nat) (g : Col → Col) (j : Nat) : (s.modCol i g).chan j = s.chan j := rfl
@[simp] theorem modCol_at_word (i : Nat) (g : Col → Col) (j : Nat) : (s.modCol i g).word j = s.word j := rfl
@[simp] theorem modCol_at_mark (i : Nat) (g : Col → Col) : (s.modCol i g).mark = s.mark  := rfl
@[simp] theorem modCol_at_locked (i : Nat) (g : Col → Col) : (s.modCol i g).locked = s.locked  := rfl

@[simp] theorem mapCols_at_spur (g : Nat → Col → Col) (j : Nat) : (s.mapCols g).spur j = s.spur j := rfl
@[simp] theorem mapCols_at_sad (g : Nat → Col → Col) (j : Nat) : (s.mapCols g).sad j = s.sad j := rfl
@[simp] theorem mapCols_at_chan (g : Nat → Col → Col) (j : Nat) : (s.mapCols g).chan j = s.chan j := rfl
@[simp] theorem mapCols_at_word (g : Nat → Col → Col) (j : Nat) : (s.mapCols g).word j = s.word j := rfl
@[simp] theorem mapCols_at_mark (g : Nat → Col → Col) : (s.mapCols g).mark = s.mark  := rfl
@[simp] theorem mapCols_at_locked (g : Nat → Col → Col) : (s.mapCols g).locked = s.locked  := rfl

@[simp] theorem modChan_at_spur (c : Nat) (g : Channel → Channel) (j : Nat) : (s.modChan c g).spur j = s.spur j := rfl
@[simp] theorem modChan_at_sad (c : Nat) (g : Channel → Channel) (j : Nat) : (s.modChan c g).sad j = s.sad j := rfl
@[simp] theorem modChan_at_col (c : Nat) (g : Channel → Channel) (j : Nat) : (s.modChan c g).col j = s.col j := rfl
@[simp] theorem modChan_at_word (c : Nat) (g : Channel → Channel) (j : Nat) : (s.modChan c g).word j = s.word j := rfl
@[simp] theorem modChan_at_mark (c : Nat) (g : Channel → Channel) : (s.modChan c g).mark = s.mark  := rfl
@[simp] theorem modChan_at_locked (c : Nat) (g : Channel → Channel) : (s.modChan c g).locked = s.locked  := rfl

@[simp] theorem tookFree_at_spur (j : Nat) : (s.tookFree).spur j = s.spur j := rfl
@[simp] theorem tookFree_at_sad (j : Nat) : (s.tookFree).sad j = s.sad j := rfl
@[simp] theorem tookFree_at_col (j : Nat) : (s.tookFree).col j = s.col j := rfl
@[simp] theorem tookFree_at_chan (j : Nat) : (s.tookFree).chan j = s.chan j := rfl
@[simp] theorem tookFree_at_word (j : Nat) : (s.tookFree).word j = s.word j := rfl
@[simp] theorem tookFree_at_mark : (s.tookFree).mark = s.mark  := rfl
@[simp] theorem tookFree_at_locked : (s.tookFree).locked = s.locked  := rfl

@[simp] theorem send_at_spur (m : Message) (j : Nat) : (s.send m).spur j = s.spur j := rfl
@[simp] theorem send_at_sad (m : Message) (j : Nat) : (s.send m).sad j = s.sad j := rfl
@[simp] theorem send_at_col (m : Message) (j : Nat) : (s.send m).col j = s.col j := rfl
@[simp] theorem send_at_chan (m : Message) (j : Nat) : (s.send m).chan j = s.chan j := rfl
@[simp] theorem send_at_word (m : Message) (j : Nat) : (s.send m).word j = s.word j := rfl
@[simp] theorem send_at_mark (m : Message) : (s.send m).mark = s.mark  := rfl
@[simp] theorem send_at_locked (m : Message) : (s.send m).locked = s.locked  := rfl

@[simp] theorem raiseAs_at_spur (ev : Ev) (sev : Sev) (k i : Nat) (d : List Byte) (j : Nat) : (s.raiseAs ev sev k i d).spur j = s.spur j := rfl
@[simp] theorem raiseAs_at_sad (ev : Ev) (sev : Sev) (k i : Nat) (d : List Byte) (j : Nat) : (s.raiseAs ev sev k i d).sad j = s.sad j := rfl
@[simp] theorem raiseAs_at_col (ev : Ev) (sev : Sev) (k i : Nat) (d : List Byte) (j : Nat) : (s.raiseAs ev sev k i d).col j = s.col j := rfl
@[simp] theorem raiseAs_at_chan (ev : Ev) (sev : Sev) (k i : Nat) (d : List Byte) (j : Nat) : (s.raiseAs ev sev k i d).chan j = s.chan j := rfl
@[simp] theorem raiseAs_at_word (ev : Ev) (sev : Sev) (k i : Nat) (d : List Byte) (j : Nat) : (s.raiseAs ev sev k i d).word j = s.word j := rfl
@[simp] theorem raiseAs_at_mark (ev : Ev) (sev : Sev) (k i : Nat) (d : List Byte) : (s.raiseAs ev sev k i d).mark = s.mark  := rfl
@[simp] theorem raiseAs_at_locked (ev : Ev) (sev : Sev) (k i : Nat) (d : List Byte) : (s.raiseAs ev sev k i d).locked = s.locked  := rfl

@[simp] theorem raise_at_spur (ev : Ev) (k i : Nat) (d : List Byte) (j : Nat) : (s.raise ev k i d).spur j = s.spur j := rfl
@[simp] theorem raise_at_sad (ev : Ev) (k i : Nat) (d : List Byte) (j : Nat) : (s.raise ev k i d).sad j = s.sad j := rfl
@[simp] theorem raise_at_col (ev : Ev) (k i : Nat) (d : List Byte) (j : Nat) : (s.raise ev k i d).col j = s.col j := rfl
@[simp] theorem raise_at_chan (ev : Ev) (k i : Nat) (d : List Byte) (j : Nat) : (s.raise ev k i d).chan j = s.chan j := rfl
@[simp] theorem raise_at_word (ev : Ev) (k i : Nat) (d : List Byte) (j : Nat) : (s.raise ev k i d).word j = s.word j := rfl
@[simp] theorem raise_at_mark (ev : Ev) (k i : Nat) (d : List Byte) : (s.raise ev k i d).mark = s.mark  := rfl
@[simp] theorem raise_at_locked (ev : Ev) (k i : Nat) (d : List Byte) : (s.raise ev k i d).locked = s.locked  := rfl

@[simp] theorem sendLane_at_spur (c : LaneCmd) (j : Nat) : (s.sendLane c).spur j = s.spur j := by unfold State.sendLane; split <;> rfl
@[simp] theorem sendLane_at_sad (c : LaneCmd) (j : Nat) : (s.sendLane c).sad j = s.sad j := by unfold State.sendLane; split <;> rfl
@[simp] theorem sendLane_at_col (c : LaneCmd) (j : Nat) : (s.sendLane c).col j = s.col j := by unfold State.sendLane; split <;> rfl
@[simp] theorem sendLane_at_chan (c : LaneCmd) (j : Nat) : (s.sendLane c).chan j = s.chan j := by unfold State.sendLane; split <;> rfl
@[simp] theorem sendLane_at_word (c : LaneCmd) (j : Nat) : (s.sendLane c).word j = s.word j := by unfold State.sendLane; split <;> rfl
@[simp] theorem sendLane_at_mark (c : LaneCmd) : (s.sendLane c).mark = s.mark  := by unfold State.sendLane; split <;> rfl
@[simp] theorem sendLane_at_locked (c : LaneCmd) : (s.sendLane c).locked = s.locked  := by unfold State.sendLane; split <;> rfl

@[simp] theorem noteSet_at_spur (a i : Nat) (j : Nat) : (s.noteSet a i).spur j = s.spur j := rfl
@[simp] theorem noteSet_at_sad (a i : Nat) (j : Nat) : (s.noteSet a i).sad j = s.sad j := rfl
@[simp] theorem noteSet_at_col (a i : Nat) (j : Nat) : (s.noteSet a i).col j = s.col j := rfl
@[simp] theorem noteSet_at_chan (a i : Nat) (j : Nat) : (s.noteSet a i).chan j = s.chan j := rfl
@[simp] theorem noteSet_at_word (a i : Nat) (j : Nat) : (s.noteSet a i).word j = s.word j := rfl
@[simp] theorem noteSet_at_mark (a i : Nat) : (s.noteSet a i).mark = s.mark  := rfl
@[simp] theorem noteSet_at_locked (a i : Nat) : (s.noteSet a i).locked = s.locked  := rfl

@[simp] theorem complete_at_spur (c : Completion) (j : Nat) : (s.complete c).spur j = s.spur j := rfl
@[simp] theorem complete_at_sad (c : Completion) (j : Nat) : (s.complete c).sad j = s.sad j := rfl
@[simp] theorem complete_at_col (c : Completion) (j : Nat) : (s.complete c).col j = s.col j := rfl
@[simp] theorem complete_at_chan (c : Completion) (j : Nat) : (s.complete c).chan j = s.chan j := rfl
@[simp] theorem complete_at_word (c : Completion) (j : Nat) : (s.complete c).word j = s.word j := rfl
@[simp] theorem complete_at_mark (c : Completion) : (s.complete c).mark = s.mark  := rfl
@[simp] theorem complete_at_locked (c : Completion) : (s.complete c).locked = s.locked  := rfl

@[simp] theorem setWord_at_spur (a : Nat) (w : Word) (j : Nat) : (s.setWord a w).spur j = s.spur j := rfl
@[simp] theorem setWord_at_sad (a : Nat) (w : Word) (j : Nat) : (s.setWord a w).sad j = s.sad j := rfl
@[simp] theorem setWord_at_col (a : Nat) (w : Word) (j : Nat) : (s.setWord a w).col j = s.col j := rfl
@[simp] theorem setWord_at_chan (a : Nat) (w : Word) (j : Nat) : (s.setWord a w).chan j = s.chan j := rfl
@[simp] theorem setWord_at_mark (a : Nat) (w : Word) : (s.setWord a w).mark = s.mark  := rfl
@[simp] theorem setWord_at_locked (a : Nat) (w : Word) : (s.setWord a w).locked = s.locked  := rfl

@[simp] theorem setField_at_spur (a hi lo v : Nat) (j : Nat) : (s.setField a hi lo v).spur j = s.spur j := rfl
@[simp] theorem setField_at_sad (a hi lo v : Nat) (j : Nat) : (s.setField a hi lo v).sad j = s.sad j := rfl
@[simp] theorem setField_at_col (a hi lo v : Nat) (j : Nat) : (s.setField a hi lo v).col j = s.col j := rfl
@[simp] theorem setField_at_chan (a hi lo v : Nat) (j : Nat) : (s.setField a hi lo v).chan j = s.chan j := rfl
@[simp] theorem setField_at_mark (a hi lo v : Nat) : (s.setField a hi lo v).mark = s.mark  := rfl
@[simp] theorem setField_at_locked (a hi lo v : Nat) : (s.setField a hi lo v).locked = s.locked  := rfl

@[simp] theorem setBit_at_spur (a i : Nat) (j : Nat) : (s.setBit a i).spur j = s.spur j := rfl
@[simp] theorem setBit_at_sad (a i : Nat) (j : Nat) : (s.setBit a i).sad j = s.sad j := rfl
@[simp] theorem setBit_at_col (a i : Nat) (j : Nat) : (s.setBit a i).col j = s.col j := rfl
@[simp] theorem setBit_at_chan (a i : Nat) (j : Nat) : (s.setBit a i).chan j = s.chan j := rfl
@[simp] theorem setBit_at_mark (a i : Nat) : (s.setBit a i).mark = s.mark  := rfl
@[simp] theorem setBit_at_locked (a i : Nat) : (s.setBit a i).locked = s.locked  := rfl

@[simp] theorem setShadow_at_spur (a : Nat) (w : Word) (j : Nat) : (s.setShadow a w).spur j = s.spur j := rfl
@[simp] theorem setShadow_at_sad (a : Nat) (w : Word) (j : Nat) : (s.setShadow a w).sad j = s.sad j := rfl
@[simp] theorem setShadow_at_col (a : Nat) (w : Word) (j : Nat) : (s.setShadow a w).col j = s.col j := rfl
@[simp] theorem setShadow_at_chan (a : Nat) (w : Word) (j : Nat) : (s.setShadow a w).chan j = s.chan j := rfl
@[simp] theorem setShadow_at_word (a : Nat) (w : Word) (j : Nat) : (s.setShadow a w).word j = s.word j := rfl
@[simp] theorem setShadow_at_mark (a : Nat) (w : Word) : (s.setShadow a w).mark = s.mark  := rfl
@[simp] theorem setShadow_at_locked (a : Nat) (w : Word) : (s.setShadow a w).locked = s.locked  := rfl

@[simp] theorem dropShadow_at_spur (a : Nat) (j : Nat) : (s.dropShadow a).spur j = s.spur j := rfl
@[simp] theorem dropShadow_at_sad (a : Nat) (j : Nat) : (s.dropShadow a).sad j = s.sad j := rfl
@[simp] theorem dropShadow_at_col (a : Nat) (j : Nat) : (s.dropShadow a).col j = s.col j := rfl
@[simp] theorem dropShadow_at_chan (a : Nat) (j : Nat) : (s.dropShadow a).chan j = s.chan j := rfl
@[simp] theorem dropShadow_at_word (a : Nat) (j : Nat) : (s.dropShadow a).word j = s.word j := rfl
@[simp] theorem dropShadow_at_mark (a : Nat) : (s.dropShadow a).mark = s.mark  := rfl
@[simp] theorem dropShadow_at_locked (a : Nat) : (s.dropShadow a).locked = s.locked  := rfl

@[simp] theorem modPlan_at_spur (g : Plan → Plan) (j : Nat) : (s.modPlan g).spur j = s.spur j := rfl
@[simp] theorem modPlan_at_sad (g : Plan → Plan) (j : Nat) : (s.modPlan g).sad j = s.sad j := rfl
@[simp] theorem modPlan_at_col (g : Plan → Plan) (j : Nat) : (s.modPlan g).col j = s.col j := rfl
@[simp] theorem modPlan_at_chan (g : Plan → Plan) (j : Nat) : (s.modPlan g).chan j = s.chan j := rfl
@[simp] theorem modPlan_at_word (g : Plan → Plan) (j : Nat) : (s.modPlan g).word j = s.word j := rfl
@[simp] theorem modPlan_at_mark (g : Plan → Plan) : (s.modPlan g).mark = s.mark  := rfl
@[simp] theorem modPlan_at_locked (g : Plan → Plan) : (s.modPlan g).locked = s.locked  := rfl

@[simp] theorem baseMoved_at_spur (j : Nat) : (s.baseMoved).spur j = s.spur j := rfl
@[simp] theorem baseMoved_at_sad (j : Nat) : (s.baseMoved).sad j = s.sad j := rfl
@[simp] theorem baseMoved_at_col (j : Nat) : (s.baseMoved).col j = s.col j := rfl
@[simp] theorem baseMoved_at_chan (j : Nat) : (s.baseMoved).chan j = s.chan j := rfl
@[simp] theorem baseMoved_at_word (j : Nat) : (s.baseMoved).word j = s.word j := rfl
@[simp] theorem baseMoved_at_mark : (s.baseMoved).mark = s.mark  := rfl
@[simp] theorem baseMoved_at_locked : (s.baseMoved).locked = s.locked  := rfl

@[simp] theorem modRdg_at_spur (f : Ridgeline → Ridgeline) (j : Nat) : (s.modRdg f).spur j = s.spur j := rfl
@[simp] theorem modRdg_at_sad (f : Ridgeline → Ridgeline) (j : Nat) : (s.modRdg f).sad j = s.sad j := rfl
@[simp] theorem modRdg_at_col (f : Ridgeline → Ridgeline) (j : Nat) : (s.modRdg f).col j = s.col j := rfl
@[simp] theorem modRdg_at_chan (f : Ridgeline → Ridgeline) (j : Nat) : (s.modRdg f).chan j = s.chan j := rfl
@[simp] theorem modRdg_at_word (f : Ridgeline → Ridgeline) (j : Nat) : (s.modRdg f).word j = s.word j := rfl
@[simp] theorem modRdg_at_locked (f : Ridgeline → Ridgeline) : (s.modRdg f).locked = s.locked  := rfl

@[simp] theorem incident_at_spur (i : Incident) (j : Nat) : (s.incident i).spur j = s.spur j := by unfold State.incident; dsimp only; split <;> (try split) <;> rfl
@[simp] theorem incident_at_sad (i : Incident) (j : Nat) : (s.incident i).sad j = s.sad j := by unfold State.incident; dsimp only; split <;> (try split) <;> rfl
@[simp] theorem incident_at_col (i : Incident) (j : Nat) : (s.incident i).col j = s.col j := by unfold State.incident; dsimp only; split <;> (try split) <;> rfl
@[simp] theorem incident_at_chan (i : Incident) (j : Nat) : (s.incident i).chan j = s.chan j := by unfold State.incident; dsimp only; split <;> (try split) <;> rfl
@[simp] theorem incident_at_word (i : Incident) (j : Nat) : (s.incident i).word j = s.word j := by unfold State.incident; dsimp only; split <;> (try split) <;> rfl
@[simp] theorem incident_at_mark (i : Incident) : (s.incident i).mark = s.mark  := by unfold State.incident; dsimp only; split <;> (try split) <;> rfl
@[simp] theorem incident_at_locked (i : Incident) : (s.incident i).locked = s.locked  := by unfold State.incident; dsimp only; split <;> (try split) <;> rfl

@[simp] theorem closeIncident_at_spur (c u : Nat) (j : Nat) : (s.closeIncident c u).spur j = s.spur j := by unfold State.closeIncident; split <;> (try split) <;> rfl
@[simp] theorem closeIncident_at_sad (c u : Nat) (j : Nat) : (s.closeIncident c u).sad j = s.sad j := by unfold State.closeIncident; split <;> (try split) <;> rfl
@[simp] theorem closeIncident_at_col (c u : Nat) (j : Nat) : (s.closeIncident c u).col j = s.col j := by unfold State.closeIncident; split <;> (try split) <;> rfl
@[simp] theorem closeIncident_at_chan (c u : Nat) (j : Nat) : (s.closeIncident c u).chan j = s.chan j := by unfold State.closeIncident; split <;> (try split) <;> rfl
@[simp] theorem closeIncident_at_word (c u : Nat) (j : Nat) : (s.closeIncident c u).word j = s.word j := by unfold State.closeIncident; split <;> (try split) <;> rfl
@[simp] theorem closeIncident_at_mark (c u : Nat) : (s.closeIncident c u).mark = s.mark  := by unfold State.closeIncident; split <;> (try split) <;> rfl
@[simp] theorem closeIncident_at_locked (c u : Nat) : (s.closeIncident c u).locked = s.locked  := by unfold State.closeIncident; split <;> (try split) <;> rfl

@[simp] theorem requests_at_spur (now : Bool) (j : Nat) : (s.requests now).spur j = s.spur j := rfl
@[simp] theorem requests_at_sad (now : Bool) (j : Nat) : (s.requests now).sad j = s.sad j := rfl
@[simp] theorem requests_at_chan (now : Bool) (j : Nat) : (s.requests now).chan j = s.chan j := rfl
@[simp] theorem requests_at_word (now : Bool) (j : Nat) : (s.requests now).word j = s.word j := rfl
@[simp] theorem requests_at_mark (now : Bool) : (s.requests now).mark = s.mark  := rfl
@[simp] theorem requests_at_locked (now : Bool) : (s.requests now).locked = s.locked  := rfl

end Sys2Proof.Laws
end

