-- ==== Sys2Proof/Laws/Banks.lean ====
section
/-! SUPPORT. Banks of numbered units: what a unit reads as after one of them, or all of them, changed; and the effect on every unit of one update of the state. -/

namespace Sys2Proof.Laws

open Sys2Proof.Machine

/-! ## Banks -/

theorem bget_bmod_same {α : Type} {n : Nat} (v : Vector α n) (d : α) (f : α → α) {i : Nat} (h : i < n) :
    bget (bmod v i f) d i = f (bget v d i) := by
  simp [bget, bmod, h]

theorem bget_bmod_ne {α : Type} {n : Nat} (v : Vector α n) (d : α) (f : α → α) {i j : Nat} (h : i ≠ j) :
    bget (bmod v i f) d j = bget v d j := by
  unfold bget bmod
  split
  · split <;> simp_all
  · rfl

theorem bget_bmod {α : Type} {n : Nat} (v : Vector α n) (d : α) (f : α → α) (i j : Nat) :
    bget (bmod v i f) d j = if i = j ∧ j < n then f (bget v d j) else bget v d j := by
  by_cases h : i = j
  · subst h
    by_cases hi : i < n
    · simp [bget_bmod_same v d f hi, hi]
    · simp [bget, hi]
  · simp [bget_bmod_ne v d f h, h]

theorem mapFrom_getElem {α : Type} (f : Nat → α → α) (as : List α) (k i : Nat) (h : i < (mapFrom f k as).length) :
    (mapFrom f k as)[i] = f (k + i) (as[i]'(by simpa [mapFrom_length] using h)) := by
  induction as generalizing k i with
  | nil => simp [mapFrom] at h
  | cons a as ih =>
    cases i with
    | zero => simp [mapFrom]
    | succ i =>
      simp only [mapFrom, List.getElem_cons_succ]
      rw [ih]
      congr 1
      omega

theorem bget_bmap {α : Type} {n : Nat} (v : Vector α n) (d : α) (f : Nat → α → α) {i : Nat} (h : i < n) :
    bget (bmap v f) d i = f i (bget v d i) := by
  simp only [bget, h, ↓reduceDIte, bmap]
  have := mapFrom_getElem f v.toList 0 i (by simpa [mapFrom_length] using h)
  simpa using this

/-! ## One unit of the state -/

variable (s : State)

theorem spur_modSpur (i n : Nat) (f : Spur → Spur) :
    (s.modSpur i f).spur n = if i = n ∧ n < 425 then f (s.spur n) else s.spur n := bget_bmod ..

@[simp] theorem spur_modSpur_self (n : Fin 425) (f : Spur → Spur) : (s.modSpur n f).spur n = f (s.spur n) :=
  bget_bmod_same _ _ _ n.isLt

theorem sad_modSad (i k : Nat) (f : Saddle → Saddle) :
    (s.modSad i f).sad k = if i = k ∧ k < 760 then f (s.sad k) else s.sad k := bget_bmod ..

@[simp] theorem sad_modSad_self (k : Fin 760) (f : Saddle → Saddle) : (s.modSad k f).sad k = f (s.sad k) :=
  bget_bmod_same _ _ _ k.isLt

theorem col_modCol (i f : Nat) (g : Col → Col) :
    (s.modCol i g).col f = if i = f ∧ f < 25 then g (s.col f) else s.col f := bget_bmod ..

@[simp] theorem col_modCol_self (f : Fin 25) (g : Col → Col) : (s.modCol f g).col f = g (s.col f) :=
  bget_bmod_same _ _ _ f.isLt

theorem chan_modChan (i c : Nat) (g : Channel → Channel) :
    (s.modChan i g).chan c = if i = c ∧ c < 6 then g (s.chan c) else s.chan c := bget_bmod ..

@[simp] theorem chan_modChan_self (c : Fin 6) (g : Channel → Channel) : (s.modChan c g).chan c = g (s.chan c) :=
  bget_bmod_same _ _ _ c.isLt

theorem spur_mapSpurs {n : Nat} (h : n < 425) (f : Nat → Spur → Spur) : (s.mapSpurs f).spur n = f n (s.spur n) :=
  bget_bmap _ _ _ h

theorem sad_mapSads {k : Nat} (h : k < 760) (f : Nat → Saddle → Saddle) : (s.mapSads f).sad k = f k (s.sad k) :=
  bget_bmap _ _ _ h

theorem col_mapCols {f : Nat} (h : f < 25) (g : Nat → Col → Col) : (s.mapCols g).col f = g f (s.col f) :=
  bget_bmap _ _ _ h

end Sys2Proof.Laws
end

