-- ==== Sys2Proof/Laws/Words.lean ====
section
/-! SUPPORT. The sparse register files: reading after a write, and the canonical form that every write keeps. -/

namespace Sys2Proof.Laws

open Sys2Proof.Machine Sys2Proof.Safety

/-! ## Reading -/

theorem find_insert (r : RegFile) (a b : Nat) (w : Word) : (r.insert a w).find b = if a = b then some w else r.find b := by
  induction r with
  | nil => simp [RegFile.insert, RegFile.find]
  | cons p r ih =>
    obtain ⟨k, v⟩ := p
    simp only [RegFile.insert]
    split
    · simp [RegFile.find]
    · split
      · subst_vars
        simp only [RegFile.find]
        split <;> simp_all
      · simp only [RegFile.find, ih]
        split <;> split <;> simp_all

/-- Every key of a file that is sorted above `b` is above `b`. -/
theorem sortedFrom_find {b : Nat} {r : RegFile} (h : RegFile.sortedFrom (some b) r = true) {a : Nat} (ha : a ≤ b) : r.find a = none := by
  induction r generalizing b with
  | nil => rfl
  | cons p r ih =>
    obtain ⟨k, v⟩ := p
    simp only [RegFile.sortedFrom, Bool.and_eq_true, decide_eq_true_eq] at h
    simp only [RegFile.find]
    rw [if_neg (by omega)]
    exact ih h.2 (by omega)

theorem sortedFrom_weaken {o : Option Nat} {r : RegFile} (h : RegFile.sortedFrom o r = true) : RegFile.sortedFrom none r = true := by
  cases r with
  | nil => rfl
  | cons p r => simp [RegFile.sortedFrom] at *; exact h.2

theorem find_erase {o : Option Nat} {r : RegFile} (h : RegFile.sortedFrom o r = true) (a b : Nat) :
    (r.erase a).find b = if a = b then none else r.find b := by
  induction r generalizing o with
  | nil => simp [RegFile.erase, RegFile.find]
  | cons p r ih =>
    obtain ⟨k, v⟩ := p
    simp only [RegFile.sortedFrom, Bool.and_eq_true] at h
    simp only [RegFile.erase]
    split
    · subst_vars
      split
      · subst_vars
        exact sortedFrom_find h.2 (Nat.le_refl _)
      · simp_all [RegFile.find]
    · simp only [RegFile.find, ih h.2]
      split <;> split <;> simp_all

/-! ## The canonical form -/

theorem sortedFrom_mono {a b : Nat} {r : RegFile} (h : RegFile.sortedFrom (some b) r = true) (hab : a ≤ b) :
    RegFile.sortedFrom (some a) r = true := by
  cases r with
  | nil => rfl
  | cons p r =>
    simp only [RegFile.sortedFrom, Bool.and_eq_true, decide_eq_true_eq] at *
    exact ⟨by omega, h.2⟩

theorem sortedFrom_insert {o : Option Nat} {r : RegFile} (h : RegFile.sortedFrom o r = true) {a : Nat} (ha : ∀ x, o = some x → x < a) (w : Word) :
    RegFile.sortedFrom o (r.insert a w) = true := by
  induction r generalizing o with
  | nil => cases o <;> simp_all [RegFile.insert, RegFile.sortedFrom]
  | cons p r ih =>
    obtain ⟨k, v⟩ := p
    simp only [RegFile.sortedFrom, Bool.and_eq_true] at h
    simp only [RegFile.insert]
    split
    · cases o <;> simp_all [RegFile.sortedFrom]
    · split
      · subst_vars
        simp_all [RegFile.sortedFrom]
      · simp only [RegFile.sortedFrom, Bool.and_eq_true]
        exact ⟨h.1, ih h.2 (by intro x hx; cases hx; omega)⟩

theorem sortedFrom_erase {o : Option Nat} {r : RegFile} (h : RegFile.sortedFrom o r = true) (a : Nat) :
    RegFile.sortedFrom o (r.erase a) = true := by
  induction r generalizing o with
  | nil => rfl
  | cons p r ih =>
    obtain ⟨k, v⟩ := p
    simp only [RegFile.sortedFrom, Bool.and_eq_true] at h
    simp only [RegFile.erase]
    split
    · cases o with
      | none => exact sortedFrom_weaken h.2
      | some b =>
        have hb : b < k := by simpa using h.1
        exact sortedFrom_mono h.2 (by omega)
    · simp only [RegFile.sortedFrom, Bool.and_eq_true]
      exact ⟨h.1, ih h.2⟩

theorem mem_insert {r : RegFile} {a : Nat} {w : Word} {p : Nat × Word} (h : p ∈ r.insert a w) : p = (a, w) ∨ p ∈ r := by
  induction r with
  | nil => simpa [RegFile.insert] using h
  | cons q r ih =>
    obtain ⟨k, v⟩ := q
    simp only [RegFile.insert] at h
    split at h
    · simpa using h
    · split at h
      · rcases List.mem_cons.1 h with h | h
        · exact .inl h
        · exact .inr (List.mem_cons_of_mem _ h)
      · rcases List.mem_cons.1 h with h | h
        · exact .inr (h ▸ List.mem_cons_self)
        · rcases ih h with h | h
          · exact .inl h
          · exact .inr (List.mem_cons_of_mem _ h)

theorem mem_erase {r : RegFile} {a : Nat} {p : Nat × Word} (h : p ∈ r.erase a) : p ∈ r := by
  induction r with
  | nil => simp [RegFile.erase] at h
  | cons q r ih =>
    obtain ⟨k, v⟩ := q
    simp only [RegFile.erase] at h
    split at h
    · exact List.mem_cons_of_mem _ h
    · rcases List.mem_cons.1 h with h | h
      · exact h ▸ List.mem_cons_self
      · exact List.mem_cons_of_mem _ (ih h)

theorem fileOk_set {dflt : Nat → Word} {r : RegFile} (h : fileOk dflt r = true) (a : Nat) (w : Word) : fileOk dflt (r.set a (dflt a) w) = true := by
  simp only [fileOk, Bool.and_eq_true, List.all_eq_true] at *
  unfold RegFile.set
  split
  · exact ⟨sortedFrom_erase h.1 a, fun p hp => h.2 p (mem_erase hp)⟩
  · next hw =>
    refine ⟨sortedFrom_insert h.1 (by simp) w, fun p hp => ?_⟩
    rcases mem_insert hp with rfl | hp
    · simpa using hw
    · exact h.2 p hp

/-- A write of a word keeps the canonical form of the register words. -/
theorem setWord_wordsOk {s : State} (h : WordsOk s) (a : Nat) (w : Word) : WordsOk (s.setWord a w) := fileOk_set h a w

/-- A word reads as it was last written, and a write changes no other word. -/
theorem word_setWord {s : State} (h : WordsOk s) (a b : Nat) (w : Word) : (s.setWord a w).word b = if a = b then w else s.word b := by
  have hs : RegFile.sortedFrom none s.words = true := by
    have h' := h
    simp only [WordsOk, fileOk, Bool.and_eq_true] at h'
    exact h'.1
  simp only [State.word, State.setWord, RegFile.set]
  split
  · rw [find_erase hs]
    split <;> simp_all
  · rw [find_insert]
    split <;> simp_all

theorem reset_wordsOk : WordsOk State.reset := rfl

end Sys2Proof.Laws
end

