-- ==== Sys2Proof/Machine/Pins.lean ====
section
/-! DEFINITION. What the surroundings of the block see of its state: the signal bundle of each region (R546 to R550), REF_MON (R89) and the REFCLK fan-outs (R87). The level signals toward the die (R545) are fields of Boot, and PPS_OUT one of Lookout. -/

namespace Sys2Proof.Machine

/-- The signals of a region at the block boundary in a cycle (R546): whether each tree delivers edges, both gate signals, whether the region's inputs are sampled, GRADE, TALLY_SYNC and CAL_WARN. -/
structure Bundle where
  /-- CLK_COMP delivers edges -/
  comp : Bool
  /-- CLK_TRAN delivers edges -/
  tran : Bool
  /-- GATE_COMP -/
  gateComp : Bool
  /-- GATE_TRAN -/
  gateTran : Bool
  /-- INTENT, CHK_MISMATCH and CAL_HOLD are sampled -/
  sampled : Bool
  /-- GRADE -/
  grade : Nat
  /-- TALLY_SYNC -/
  tallySync : Bool
  /-- CAL_WARN -/
  calWarn : Bool
  deriving DecidableEq, Repr

/-- TALLY_SYNC of a region: that of the Spur that clocks it (R112, R216). -/
def State.tallySyncOf (s : State) (r : Nat) : Bool :=
  match s.clockedBy r with
  | some n => (s.spur n).gen.tallySync
  | none => false

/-- CAL_WARN of a region: its own, or with a borrow the lender's (R343, R550). -/
def State.calWarnOf (s : State) (r : Nat) : Bool :=
  match (s.spur r).gates.driver with
  | .borrow l => (s.spur l).gates.calWarn
  | _ => (s.spur r).gates.calWarn

/-- A Spur is in the last cycle of its tally mark, whose first edge announces what closes at the next one (R549). -/
def Gen.lastCycle (g : Gen) : Bool := g.wrap || g.tallyCyc + 1 == cycles g.fcode

/-- Both trees of a Spur's region stop at its next tally mark (R53, R123, R344): a change into V1, or a native window. -/
def State.stopsNext (s : State) (n : Nat) : Bool :=
  let m := (s.spur n).gen.tallyMark + 1
  (s.boot.gateAt == some m && s.boot.req != 0) || (s.cal.next.toList ++ s.cal.extras).any fun w => w.fixed && w.w == m

/-- The compute tree of a Spur's region stops at its next tally mark (R53, R124): a fence on a fault, or one that a commit brings. -/
def State.fencesNext (s : State) (n : Nat) : Bool :=
  let g := (s.spur n).gen
  (s.spur n).gates.faultFence || g.entries.any fun e => e.st == .armed && !e.applied && e.target == g.tallyMark + 1 && e.fenceOp == 1

/-- GATE_COMP and GATE_TRAN rise for the last cycle before a tree stops (R549). -/
def State.gatesNext (s : State) (n r : Nat) : Bool × Bool :=
  let last := (s.spur n).gen.lastCycle
  let all := s.stopsNext n || (s.spur r).gates.darkDue
  (last && (all || s.fencesNext n), last && all)

/-- The bundle of a region in each condition, the rows of R550, by the gates of the Spur that clocks it, the field spare's or the lender's included: before service and dark, block state V1 (both root gates closed), a native window, borrowed, fenced, and running. -/
def State.bundle (s : State) (r : Nat) : Bundle :=
  match s.boot.ready, s.clockedBy r with
  | true, some n =>
    let x := (s.spur n).gates
    let next := s.gatesNext n r
    if x.comp && x.tran then ⟨false, false, true, true, false, s.gradeOut r, false, false⟩
    else if x.leaf then ⟨false, false, true, true, false, s.gradeOut r, false, true⟩
    else if s.borrowed r || x.comp then ⟨false, true, true, next.2, false, s.gradeOut r, s.tallySyncOf r, s.calWarnOf r⟩
    else ⟨true, true, next.1, next.2, true, s.gradeOut r, s.tallySyncOf r, s.calWarnOf r⟩
  | _, _ => ⟨false, false, true, true, false, 0, false, false⟩

/-- What REF_MON shows (R89). -/
inductive RefMon where
  /-- held low -/
  | low
  /-- the selected input / 10 -/
  | input
  /-- root / 400 -/
  | root
  /-- the mark pulse, with its level: high for ridge tick 0 -/
  | mark (high : Bool)
  deriving DecidableEq, Repr

/-- REF_MON by RDG_REFCFG.MONSEL (R89, R91). -/
def State.refMon (s : State) : RefMon :=
  match (s.word 0x18000).bits 9 8 with
  | 0 => .low
  | 1 => .input
  | 2 => .root
  | _ => .mark (s.rdg.started && s.rdg.ridge.tick == 0)

/-- A REFCLK fan-out output (R87). -/
inductive FanOut where
  /-- disabled: held low -/
  | low
  /-- a copy of REFCLK_A or REFCLK_B -/
  | input (b : Bool)
  /-- root / 40, in HOLDOVER and FAILED -/
  | root40
  deriving DecidableEq, Repr

/-- What an enabled fan-out carries (R73, R87). -/
def Ridgeline.fanSource (r : Ridgeline) : FanOut := if r.fanHold then .root40 else .input (r.root == .selB)

/-- Fan-out k toward the memory-stack PHYs (R87, R97). -/
def State.fanStk (s : State) (k : Nat) : FanOut := if (s.word 0x18050).bit k then s.rdg.fanSource else .low

/-- Fan-out k toward the Ethernet ports. -/
def State.fanEth (s : State) (k : Nat) : FanOut := if (s.word 0x18054).bit k then s.rdg.fanSource else .low

end Sys2Proof.Machine
end

