-- ==== Sys2Proof/Tests/Slice0.lean ====
section
/-! SUPPORT. Tests of the model: an ill-formed term for each check of WellFormed, witnesses that the hypotheses of the obligations can be met, and single commands whose results are the spec's own examples. -/

set_option Elab.async false

namespace Sys2Proof.Tests

open Sys2Proof.Machine Sys2Proof.Safety

/-- A block in service at mark 1,000, in PROVISIONED, with both references qualified and every Spur LOCKED. -/
def up : State :=
  let ok (d : Bool) : RefIn := { RefIn.reset d with declared := true, present := true, qual := true, clean := true, counts := true, strict := true }
  { State.reset with
    boot := { Boot.reset with stage := 7, ready := true, resetN := true, smark := 32 }
    rdg := { Ridgeline.reset with lock := true, started := true, ridge := Ridge.ofMark 1000, a := ok true, b := ok false }
    lko := { Lookout.reset with timerLock := true, sup1 := true, oscOk := true }
    lcs := { Lcs.reset with st := .provisioned }
    spurs := Vector.replicate 425 { Spur.reset with gen := { Gen.reset with loop := .locked, fcode := 16, tallyMark := 1000 } }
    cols := Vector.replicate 25 { Col.reset with aOk := true, bOk := true }
    saddles := Vector.replicate 760 { Saddle.reset with usable := true } }

/-- It at the last tick of a mark. -/
def ended : State := { up with rdg := { up.rdg with tick0 := true, ridge := Ridge.ofMark 999 + 255 } }

/-- A notice of a code that is due, at ratio 1. -/
def note (c : BitVec 3) : Notice := { code := c, ratio := 1, toFaster := false, last := true, atRef := false, wait := 0 }

/-- A Spur of it changed. -/
def upSpur (n : Nat) (f : Spur → Spur) : State := up.modSpur n f

/-- A Saddle of it changed. -/
def upSad (k : Nat) (f : Saddle → Saddle) : State := up.modSad k f

/-- A Col of it changed. -/
def upCol (k : Nat) (f : Col → Col) : State := up.modCol k f

/-- A channel of it changed. -/
def upChan (k : Nat) (f : Channel → Channel) : State := up.modChan k f

/-- It with field 0 alone in domain 0 and the other fields in no domain, so that domain 0 has few regions to look at. -/
def small (s : State) : State := { s with fab := { s.fab with map := 0 :: List.replicate 24 8 } }

/-- Register words of it changed. -/
def upWords (l : List (Nat × Word)) : State := l.foldl (fun s p => s.setWord p.1 p.2) up

/-- A set of the host at a mark, with the descriptor of ring index 0. -/
def setAt (m : Mark) : CommitSet := CommitSet.form .host 5 m [0] [] Fabric.reset 990

/-- Sets of it changed. -/
def upSets (l : List CommitSet) : State := up.modPlan fun p => { p with sets := l }

/-- It with the rings enabled, of 64 entries each, in version 2. -/
def on : State :=
  let s := upWords [(0xD0000, 1), (0xD0014, 0x060606), (0xD0020, 0x1000), (0xD0028, 0x2000), (0xD0030, 0x3000), (0xD0038, 0x4000)]
  { s with hri := { s.hri with agreed := 2, idle := false } }

/-- A fetched descriptor of version 2: type, flags, group, target, body. -/
def desc (ty flags grp : Nat) (target : Mark) (body : List Byte) : FbEntry :=
  { idx := 0, bytes := le 1 ty ++ le 1 flags ++ le 2 grp ++ le 4 0 ++ le 5 target.toNat ++ le 3 0 ++ body ++ List.replicate (48 - body.length) 0,
    stage := .fetched, set := none, late := false, slot := none }

/-- The rings enabled with that descriptor at the head of processing. -/
def due (e : FbEntry) : State := on.modPlan fun p => { p with buf := [e] }

/-- Bytes 12 to 335 of a board description table (R302). -/
def tableMid : List Byte :=
  le 4 0 ++ (le 4 100000000 ++ (le 2 20 ++ (3 :: (List.replicate 34 0 ++ (List.replicate 25 10 ++ ((List.replicate 12 (le 2 750)).flatten ++ (List.replicate 27 0 ++
    (le 2 100 ++ (List.replicate 153 0 ++ (le 4 (2 ^ 24) ++ (List.replicate 28 0 ++ (0 :: 90 :: 95 :: 100 :: 105 :: List.replicate 11 0))))))))))))

/-- A board description table of the right layout for the Cols' revision, with some CRC (R302). -/
def tableWith (crc : List Byte) (r : BitVec 4) : List Byte :=
  le 4 0x54444256 ++ (le 2 2 ++ (le 2 512 ++ (crc ++ (tableMid ++ (List.replicate 25 (BitVec.ofNat 8 (128 + r.toNat)) ++ List.replicate 151 0)))))

/-- The table with its own CRC. -/
def table (r : BitVec 4) : List Byte := tableWith (le 4 (crc32 (tableWith (le 4 0) r)).toNat) r

/-- A block that waits for a table, its flash unusable. -/
def waiting : State := { on with hri := { on.hri with bdt := 1 }, crn := { on.crn with unusable := true } }

/-- The fields of a table: offset and size (R301, R302). -/
def layout : List (Nat × Nat) :=
  [(0, 4), (4, 2), (6, 2), (8, 4), (16, 4), (20, 2), (22, 1), (24, 3), (28, 3), (31, 1)] ++ ((List.range 25).map fun f => (32 + f, 1)) ++
    ((List.range 25).map fun f => (57 + f, 1)) ++ ((List.range 12).map fun j => (82 + 2 * j, 2)) ++ ((List.range 25).map fun f => (106 + f, 1)) ++
    [(131, 2), (133, 2), (288, 4), (292, 1), (296, 4), (300, 4), (320, 1), (321, 1), (322, 1), (323, 1), (324, 1)] ++ ((List.range 25).map fun f => (336 + f, 1))

/-- A byte lies in some field. -/
def inField (k : Nat) : Bool := layout.any fun f => f.1 ≤ k && k < f.1 + f.2

theorem layout_eq (s : State) (bs : List Byte) : (s.tabFields bs).map (fun f => (f.1, f.2.1)) = layout := by
  simp only [State.tabFields, layout, List.map_append, List.map_map, List.map_cons, List.map_nil, Function.comp_def]

theorem inField_eq (s : State) (bs : List Byte) (k : Nat) : ((s.tabFields bs).any fun f => f.1 ≤ k && k < f.1 + f.2.1) = inField k := by
  rw [inField, ← layout_eq s bs, List.any_map]; rfl

theorem field_byte (bs : List Byte) (k : Nat) : field bs k 1 = (bs.getD k 0).toNat := by
  unfold field
  rw [List.take_one, List.head?_drop, List.getD_eq_getElem?_getD]
  cases bs[k]? <;> simp [unle]

/-- A list is zero wherever no field lies, from a position on. -/
def zeroOutside : List Byte → Nat → Bool
  | [], _ => true
  | b :: bs, k => (b == 0 || inField k) && zeroOutside bs (k + 1)

theorem zeroOutside_at (bs : List Byte) (k i : Nat) (h : zeroOutside bs k = true) (hi : inField (k + i) = false) : bs.getD i 0 = 0 := by
  induction bs generalizing k i with
  | nil => simp
  | cons b bs ih =>
    simp only [zeroOutside, Bool.and_eq_true, Bool.or_eq_true, beq_iff_eq] at h
    cases i with
    | zero => exact h.1.resolve_right (by simp at hi; simp [hi])
    | succ i => exact ih (k + 1) i h.2 (by rw [← hi]; congr 1; omega)

theorem tabBad_none (s : State) (bs : List Byte) (h : (s.tabFields bs).all (fun f => f.2.2) = true) (hz : zeroOutside bs 0 = true) : s.tabBad bs = none := by
  have h1 : ((s.tabFields bs).filterMap fun f => if f.2.2 then none else some f.1) = [] := by
    rw [List.filterMap_eq_nil_iff]
    intro f hf
    rw [if_pos (List.all_eq_true.mp h f hf)]
  have h2 : ((List.range 512).filter fun k => !((s.tabFields bs).any fun f => f.1 ≤ k && k < f.1 + f.2.1) && tab bs k 1 != 0) = [] := by
    rw [List.filter_eq_nil_iff]
    intro k _
    rw [inField_eq]
    cases hk : inField k
    · simp only [tab, field_byte, zeroOutside_at bs 0 k hz (by simpa using hk)]
      simp
    · simp
  unfold State.tabBad
  simp only [h1, h2, List.append_nil]

theorem field_low (crc : List Byte) (r : BitVec 4) (k n : Nat) (h : k + n ≤ 8) : field (tableWith crc r) k n = field (le 4 0x54444256 ++ (le 2 2 ++ le 2 512)) k n := by
  unfold field tableWith
  rw [← List.append_assoc, ← List.append_assoc, List.append_assoc (le 4 _), List.drop_append_of_le_length (by simp [le]; omega), List.take_append_of_le_length (by simp [le]; omega)]

theorem field_crc (c : Word) (r : BitVec 4) : field (tableWith (le 4 c.toNat) r) 8 4 = c.toNat := by
  have := c.isLt
  show unle (le 4 c.toNat) = c.toNat
  simp only [le, unle, BitVec.toNat_ofNat]
  omega

theorem field_high (c : Nat) (r : BitVec 4) (k n : Nat) (h : 12 ≤ k) : field (tableWith (le 4 c) r) k n = field (tableWith (le 4 0) r) k n := by
  obtain ⟨j, rfl⟩ := Nat.exists_eq_add_of_le h
  unfold field
  rw [← List.drop_drop, ← List.drop_drop]
  rfl

theorem table_fields (r : BitVec 4) (h : Config.colRev = r) : (waiting.tabFields (table r)).all (fun f => f.2.2) = true := by
  have hc : (table r).take 8 ++ [0, 0, 0, 0] ++ (table r).drop 12 = tableWith (le 4 0) r := rfl
  unfold State.tabFields
  rw [hc, h]
  unfold table
  generalize crc32 (tableWith (le 4 0) r) = c
  simp only [State.refFlagsOk, tabOff, refFlagBit, tab, field_crc, beq_self_eq_true]
  simp (disch := omega) only [field_high, field_low]
  clear h hc c
  revert r
  decide +kernel

theorem zeroOutside_append (a b : List Byte) (k : Nat) : zeroOutside (a ++ b) k = (zeroOutside a k && zeroOutside b (k + a.length)) := by
  induction a generalizing k with
  | nil => simp [zeroOutside]
  | cons x a ih => simp only [List.cons_append, zeroOutside, ih, Bool.and_assoc, List.length_cons]; congr 3; omega

theorem zeroOutside_field (a : List Byte) (k : Nat) (h : ∀ i < a.length, inField (k + i) = true) : zeroOutside a k = true := by
  induction a generalizing k with
  | nil => rfl
  | cons x a ih =>
    simp only [zeroOutside, Bool.and_eq_true, Bool.or_eq_true]
    exact ⟨.inr (h 0 (by simp)), ih _ fun i hi => by rw [show k + 1 + i = k + (i + 1) by omega]; exact h _ (by simpa using hi)⟩

theorem le_length (n v : Nat) : (le n v).length = n := by
  induction n generalizing v with
  | zero => rfl
  | succ n ih => simp [le, ih]

theorem table_zero (r : BitVec 4) : zeroOutside (table r) 0 = true := by
  have h1 : ∀ i < 4, inField (8 + i) = true := by decide +kernel
  have h2 : ∀ i < 25, inField (336 + i) = true := by decide +kernel
  have hm : tableMid.length = 324 := by decide +kernel
  unfold table tableWith
  simp only [zeroOutside_append, le_length, List.length_replicate, hm]
  rw [zeroOutside_field (le 4 (crc32 _).toNat) _ (by simpa only [le_length] using h1), zeroOutside_field (List.replicate 25 _) _ (by simpa only [List.length_replicate] using h2)]
  decide +kernel

/-- Such a table is accepted, whatever the revision. -/
theorem test_table_accepted : waiting.tabBad (table Config.colRev) = none := tabBad_none _ _ (table_fields _ rfl) (table_zero _)

/-- Basic control in force, at a profile. -/
def basicAt (p : Nat) : State := upWords [(0x300, 0x80000000 + BitVec.ofNat 32 p)]

/-! ## Ill-formed commands, one for each check -/

/-- A well-formed stage command. -/
def stage0 : StageCmd :=
  { seq := 5, target := 1004, group := 0, fcode := 16, step := 0, up := false, fmt := 0, ceil := 96, fences := [(137, 1)], regs := true }

theorem test_wf_stage : (Instr.stage 0 stage0).wf = true ∧ (Instr.stage 0 { stage0 with group := 65536 }).wf = false ∧
    (Instr.stage 0 { stage0 with fcode := 7 }).wf = false ∧ (Instr.stage 0 { stage0 with fcode := 97 }).wf = false ∧
    (Instr.stage 0 { stage0 with step := 16 }).wf = false ∧ (Instr.stage 0 { stage0 with fmt := 8 }).wf = false ∧
    (Instr.stage 0 { stage0 with ceil := 7 }).wf = false ∧ (Instr.stage 0 { stage0 with ceil := 97 }).wf = false ∧
    (Instr.stage 0 { stage0 with fences := [(425, 1)] }).wf = false ∧ (Instr.stage 0 { stage0 with fences := [(0, 0)] }).wf = false ∧
    (Instr.stage 0 { stage0 with fences := [(0, 3)] }).wf = false := by decide

theorem test_wf_access : (Instr.registerWrite 0x100000 0 ⟨4, false, false⟩).wf = false ∧ (Instr.registerWrite 0 0 ⟨3, false, false⟩).wf = false ∧
    (Instr.wideLowWordRead ⟨0x100000, 4⟩).wf = false ∧ (Instr.wideLowWordRead ⟨0, 3⟩).wf = false ∧ (Instr.snapshotFracRead ⟨false, 0⟩).wf = false ∧ (Instr.discardGroup 0).wf = false ∧ (Instr.discardGroup 65536).wf = false := by decide

theorem test_wf_operands : (Instr.spurEdge 0 [0]).wf = false ∧ (Instr.bulkWord 0 true 1536 0 0).wf = false ∧ (Instr.bulkWord 0 true 0 1536 0).wf = false ∧
    (Instr.saddleMeasure 0 0 0 256).wf = false ∧ (Instr.saddleMeasure 0 0 96 0).wf = false ∧ (Instr.saddleMeasure 0 513 0 0).wf = false ∧ (Instr.saddleMeasure 0 (-513) 0 0).wf = false ∧ (Instr.sparingNotice 512 0 0 0).wf = false ∧ (Instr.sparingNotice 0 16 0 0).wf = false ∧
    (Instr.sparingNotice 0 0 2 0).wf = false ∧ (Instr.sparingNotice 0 0 0 2).wf = false ∧ (Instr.syncReply 32768 0).wf = false ∧
    (Instr.todSnapshot 655360).wf = false ∧ (Instr.lookoutDensity [0] 900).wf = false := by decide

theorem test_wf_bytes : (Instr.descriptorFetch [0]).wf = false ∧ (Instr.bdtReadDone [0]).wf = false := by decide

theorem test_wf_results : (Instr.gapStepDone 0 (.code 7 0)).wf = false ∧ (Instr.gapStepDone 0 (.code 97 0)).wf = false ∧
    (Instr.gapStepDone 0 (.detector 0 0 0 0 [])).wf = false ∧ (Instr.gapStepDone 0 (.timer 0 [])).wf = false ∧
    (Instr.cairnSave (.taken 1187)).wf = false ∧ (Instr.cairnSave (.failed 2 0 0)).wf = false ∧ (Instr.cairnSave (.failed 9 0 0)).wf = false ∧ (Instr.saveF (.failed 3 4294967296 0)).wf = false ∧
    (Instr.calPlausibility [{ unit := .spur 0, item := .timer 0 [] }]).wf = false ∧ (Instr.bankFVerified 0 ⟨[[96]], [], [], 0⟩).wf = false ∧
    (Instr.testSelectDone 0 0 [425] ⟨[], []⟩).wf = false := by decide

/-! ## The spec's own examples -/

/-- The IDCODE of R504 (18_lifecycle_test_access.md). -/
theorem test_idcode : tapIdcode = 0x2564F0A7#32 := by decide

/-- Region 137: field 9, a compute region, with spare 409 (00_scope.md). -/
theorem test_region_137 : fieldOf 137 = 9 ∧ regX 137 = 17 ∧ regY 137 = 6 ∧ portKind 137 = 0 ∧ sprAddr 137 0x90 = 0x51290 := by decide

/-- A raise from base 40 to 64 runs at 45, 50, 56, 63 and 64 (06_ladders_marks.md, R184). -/
theorem test_raise_series : seriesBases Fabric.reset 64 8 40 = [45, 50, 56, 63, 64] := by decide

/-- Region 189 at edge 2 of the droop example follows by 3, at debt 1; at edge 5 region 188 stretches by 1 (05_stretching.md). -/
theorem test_droop_example : (decide1 0 3 3 1 false).change = 3 ∧ (decide1 1 0 3 11 false).change = 1 ∧ (decide1 0 0 3 12 true).change = -1 := by decide

/-- Field 12 at FCODE 58, 64 and 72 (16_power_thermal.md). -/
theorem test_field_voltage :
    let s := { up with hri := { up.hri with offs := List.replicate 12 0 ++ [5] } }
    s.volt 12 58 = 763 ∧ s.volt 12 64 = 785 ∧ s.volt 12 72 = 815 := by decide +kernel

/-- The grade of region 137: 1 at sprint class 2, 3 at class 0 (08_workload_coupling.md, R255). -/
theorem test_grade_terms : gradeT 3 = 1 ∧ gradeP 900 5 63 24000 2 = 1 ∧ gradeD 2 = 1 ∧ gradeP 900 5 63 24000 0 = 3 := by decide

/-- Readings of 37.5 and 70.0 make a scale of 32.5 and an offset of 5.0, in 1/16 code, from twice the readings (13_edge_timers.md, R393). -/
theorem test_channel_scale : calScale ⟨75, 140⟩ = 520 ∧ calOffset ⟨75, 140⟩ = 80 ∧ calPasses ⟨75, 140⟩ = true ∧ calPasses ⟨72, 136⟩ = true := by decide

/-- The ceiling example of 19_register_map.md: the write to SPR_CEIL_LO of region 137 is read back at its shadow. -/
theorem test_ceiling_write :
    let s := (upWords [(sprAddr 137 0x90, 0x585C6060)]).modSpur 137 fun x => { x with cal := { x.cal with guards := List.replicate 8 96 } }
    (match execCeilingWrite 137 false 0x585C5860 { s with lcs := { s.lcs with st := .service } } with
    | .next t => t.read 0x51290 == 0x585C6060 && t.read 0x51390 == 0x585C5860
    | _ => false) = true := by decide +kernel

/-- Rows of R550: a running region, a fenced one, a borrowed one, a dark one. -/
theorem test_bundle_conditions :
    let fenced := up.modSpur 137 fun x => { x with gates := { x.gates with comp := true, grade := 4 } }
    let lent := up.modSpur 137 fun x => { x with gates := { x.gates with driver := .borrow 138, grade := 4 } }
    let dark := up.modSpur 137 fun x => { x with gates := { x.gates with driver := .dark } }
    (up.bundle 137).comp = true ∧ (up.bundle 137).gateComp = false ∧ (up.bundle 137).sampled = true ∧
    (fenced.bundle 137).tran = true ∧ (fenced.bundle 137).gateComp = true ∧ (fenced.bundle 137).gateTran = false ∧ (fenced.bundle 137).grade = 0 ∧
    (lent.bundle 137).comp = false ∧ (lent.bundle 137).tran = true ∧ (lent.bundle 137).sampled = false ∧ (lent.bundle 137).grade = 0 ∧
    (dark.bundle 137).gateComp = true ∧ (dark.bundle 137).gateTran = true ∧ (dark.bundle 137).tallySync = false := by decide +kernel

/-- REF_MON by MONSEL, and a disabled fan-out (R89, R97). -/
theorem test_ref_mon : up.refMon = .low ∧ (upWords [(0x18000, 0x100)]).refMon = .input ∧ (upWords [(0x18000, 0x200)]).refMon = .root ∧
    up.fanStk 0 = .low ∧ (upWords [(0x18050, 4)]).fanStk 2 = .input false := by decide +kernel

/-! ## The hypotheses of the obligations can be met -/

/-- States and operands that meet the hypotheses of each clause. -/
theorem wit_RegisterWriteFollowsTheAccessCodes :
    (∃ (s : State) (a : Nat), WordsOk s ∧ a % 4 = 0 ∧ s.answers a = true ∧ (∃ o c, winOf a = .lko o ∨ winOf a = .chan c o ∨ winOf a = .rdg o ∨ winOf a = .crn o ∨ winOf a = .hri o ∨ winOf a = .prt o)) ∧
    (∃ (s : State) (a : Nat) (i : Nat) (v : Word), WordsOk s ∧ a % 4 = 0 ∧ s.answers a = true ∧ (∃ o c, winOf a = .lko o ∨ winOf a = .chan c o ∨ winOf a = .rdg o ∨ winOf a = .crn o ∨ winOf a = .hri o ∨ winOf a = .prt o) ∧ s.cyc.tap.find a = none ∧ ((s.cyc.sets.find a).getD 0).bit i = true ∧ (∃ g ∈ fieldsOf (winOf a) v, g.acc = .w1c ∧ g.lo ≤ i ∧ i ≤ g.hi)) ∧
    (∃ (s : State) (a : Nat) (w : Nat) (tap : Bool), (w ≠ 4 ∨ a % 4 ≠ 0 ∨ s.answers a = false ∨ (tap = true ∧ s.tapReaches a = false))) ∧
    (∃ (s : State) (a : Nat) (u : Word), WordsOk s ∧ (a = 0xC0010 ∨ a = 0xC0014) ∧ s.answers a = true ∧ s.cyc.tap.find a = some u) ∧
    (∃ (s : State) (a : Nat), WordsOk s ∧ (a = 0xC0010 ∨ a = 0xC0014) ∧ s.answers a = true ∧ s.tapReaches a = true) :=
  ⟨
    ⟨up, 0x10010, by unfold WordsOk; decide +kernel, by decide +kernel, by decide +kernel, ⟨0x10, 0, by decide +kernel⟩⟩,
    ⟨{ up with cyc := { up.cyc with sets := [(0x18008, 1)] } }, 0x18008, 0, 1, by unfold WordsOk; decide +kernel, by decide +kernel, by decide +kernel, ⟨8, 0, by decide +kernel⟩, by decide +kernel⟩,
    ⟨up, 0x10010, 2, false, by decide +kernel⟩,
    ⟨{ up with cyc := { up.cyc with tap := [(0xC0010, 7)] } }, 0xC0010, 7, by unfold WordsOk; decide +kernel, by decide +kernel⟩,
    ⟨{ up with lcs := { up.lcs with segs := List.replicate 5 true } }, 0xC0010, by unfold WordsOk; decide +kernel, by decide +kernel⟩⟩

/-- States and operands that meet the hypotheses of each clause. -/
theorem wit_ReadsOfLowWordsLatch :
    (∃ (s : State) (a : Nat), isLowWord a = true ∧ a % 4 = 0 ∧ s.readable a = true) ∧
    (∃ (s : State), s.readable 0x10030 = true) ∧
    (∃ (s : State), s.readable 0xF0030 = true) ∧
    (∃ (w : Nat), w ≠ 4) :=
  ⟨
    ⟨up, 0x18020, by decide +kernel⟩,
    ⟨up, by decide +kernel⟩,
    ⟨up, by decide +kernel⟩,
    ⟨0, by decide +kernel⟩⟩

/-- States and operands that meet the hypotheses of each clause. -/
theorem wit_MarkBeaconBeginsTheNextMark :
    (∃ (s : State), s.rdg.started = true ∧ s.rdg.tick0 = true ∧ s.tick = 255) ∧
    (∃ (s : State), s.rdg.started = true ∧ s.rdg.tick0 = false) ∧
    (∃ (s : State), s.rdg.started = true ∧ (s.rdg.tick0 = false ∨ s.tick = 255) ∧ s.role.silent = false ∧ s.role.swap = false) ∧
    (∃ (s : State), s.rdg.started = true ∧ (s.rdg.tick0 = false ∨ s.tick = 255) ∧ s.role.silent = true) ∧
    (∃ (s : State), (s.rdg.started = false ∨ (s.rdg.tick0 = true ∧ s.tick ≠ 255))) :=
  ⟨
    ⟨ended, by decide +kernel⟩,
    ⟨up, by decide +kernel⟩,
    ⟨ended, by decide +kernel⟩,
    ⟨{ ended with role := { up.role with silent := true } }, by decide +kernel⟩,
    ⟨{ ended with rdg := { ended.rdg with ridge := Ridge.ofMark 999 + 3 } }, by decide +kernel⟩⟩

/-- States and operands that meet the hypotheses of each clause. -/
theorem wit_MirrorRecordsAndSwap :
    (∃ (s : State) (m : Mirror) (ms : List Mirror), s.role.mirrorNext = m :: ms ∧ s.role.standbyOk = true) ∧
    (∃ (s : State) (m : Mirror) (ms : List Mirror), s.role.mirrorNext = m :: ms) ∧
    (∃ (s : State), s.role.silent = true) ∧
    (∃ (s : State), s.answers 0x100 = true ∧ s.locked = false ∧ s.mirrorOk = true ∧ s.role.silent = false) ∧
    (∃ (s : State), s.answers 0x100 = true ∧ s.locked = false ∧ (s.mirrorOk = false ∨ s.role.silent = true)) :=
  ⟨
    ⟨{ up with role := { up.role with mirrorNext := [up.mirror] } }, up.mirror, [], by decide +kernel⟩,
    ⟨{ up with role := { up.role with mirrorNext := [up.mirror] } }, up.mirror, [], by decide +kernel⟩,
    ⟨{ up with role := { up.role with silent := true } }, by decide +kernel⟩,
    ⟨{ up with role := { up.role with mirrors := [up.mirror], mirrorLate := false } }, by decide +kernel⟩,
    ⟨up, by decide +kernel⟩⟩

/-- States and operands that meet the hypotheses of each clause. -/
theorem wit_TakeoverHandsTheActiveRoleOver :
    (∃ (s : State) (b : Mark), s.atMark = true ∧ s.role.lastBeacon = some b ∧ s.role.standbyOk = true ∧ s.since b = 3) ∧
    (∃ (s : State) (m : Mirror) (ms : List Mirror) (b : Mark), s.atMark = true ∧ s.role.lastBeacon = some b ∧ s.role.standbyOk = true ∧ s.since b = 3 ∧ s.role.mirrors = m :: ms) ∧
    (∃ (s : State) (b : Mark), s.role.lastBeacon = some b ∧ (s.atMark = false ∨ s.since b ≠ 3 ∨ s.role.standbyOk = false)) :=
  ⟨
    ⟨{ up with role := { up.role with lastBeacon := some 997 } }, 997, by decide +kernel⟩,
    ⟨{ up with role := { up.role with mirrors := [up.mirror], lastBeacon := some 997 } }, up.mirror, [], 997, by decide +kernel⟩,
    ⟨{ up with role := { up.role with lastBeacon := some 998 } }, 998, by decide +kernel⟩⟩

/-- States and operands that meet the hypotheses of each clause. -/
theorem wit_SummitCopiesFailAndReturn :
    (∃ (s : State) (sc : Bool), s.role.standbyOk = true ∧ (sc = true ∨ (s.rdg.started = true ∧ s.role.silent = false ∧ 16 ≤ s.since s.role.mirrorAt))) ∧
    (∃ (s : State) (f : Fin 25), s.rdg.started = true ∧ s.role.silent = true ∧ s.role.standbyOk = false ∧ 16 ≤ (s.col f).beaconAge) ∧
    (∃ (s : State), s.answers 0x908 = true ∧ s.locked = false ∧ s.testOpen = true ∧ s.role.rstResult ≠ 1) ∧
    (∃ (s : State), s.answers 0x908 = true ∧ s.locked = true) ∧
    (∃ (s : State), s.role.rstResult = 1 ∧ 64 ≤ s.since s.role.rstMark) ∧
    (∃ (s : State), 16 ≤ s.role.noAnswer) ∧
    (∃ (s : State), s.role.noAnswer < 16) :=
  ⟨
    ⟨up, false, by decide +kernel⟩,
    ⟨{ upCol 3 (fun c => { c with beaconAge := 16 }) with role := { up.role with silent := true, standbyOk := false } }, 3, by decide +kernel⟩,
    ⟨up, by decide +kernel⟩,
    ⟨{ up with lcs := { up.lcs with st := .deployed } }, by decide +kernel⟩,
    ⟨{ up with role := { up.role with rstResult := 1, rstMark := 936 } }, by decide +kernel⟩,
    ⟨{ up with role := { up.role with noAnswer := 16 } }, by decide +kernel⟩,
    ⟨up, by decide +kernel⟩⟩

/-- States and operands that meet the hypotheses of each clause. -/
theorem wit_ColActsReportsAndFailsOver :
    (∃ (s : State) (f : Fin 25), (s.col f).commander = s.role.active) ∧
    (∃ (s : State) (f : Fin 25), (s.col f).commander ≠ s.role.active) ∧
    (∃ (s : State) (f : Fin 25), s.rdg.started = true ∧ s.tick = 10 * f.val ∧ (s.col f).repMark ≠ some s.mark ∧ (s.col f).reports = true) ∧
    (∃ (s : State) (f : Fin 25), (s.tick ≠ 10 * f.val ∨ (s.col f).repMark = some s.mark)) ∧
    (∃ (s : State) (f : Fin 25), s.atMark = true ∧ (s.col f).pFailed = false ∧ (s.col f).sFailed = false ∧ s.bist.phase = 0) ∧
    (∃ (s : State) (f : Fin 25), s.atMark = true ∧ (s.col f).active = true ∧ (s.col f).pFailed = true ∧ (s.col f).sFailed = false ∧ s.bist.phase = 0) :=
  ⟨
    ⟨upCol 0 fun c => { c with sel := true }, 0, by decide +kernel⟩,
    ⟨upCol 0 fun c => { c with commander := true }, 0, by decide +kernel⟩,
    ⟨upCol 0 fun c => { c with repMark := some 999, alarms := [(.acqTimeout, 3)] }, 0, by decide +kernel⟩,
    ⟨upCol 0 fun c => { c with repMark := some 1000 }, 0, by decide +kernel⟩,
    ⟨up, 0, by decide +kernel⟩,
    ⟨upCol 0 fun c => { c with active := true, pFailed := true }, 0, by decide +kernel⟩⟩

/-- States and operands that meet the hypotheses of each clause. -/
theorem wit_ReferenceInputsLoseAndQualify :
    (∃ (s : State) (b : Bool), (s.rdg.ref b).declared = true) ∧
    (∃ (s : State) (b : Bool) (n : Nat), WordsOk s ∧ (s.rdg.ref b).strict = true ∧ (n + 39 < 131072 ∨ 131072 + 39 < n)) ∧
    (∃ (s : State) (b : Bool) (n : Nat), (s.rdg.ref b).declared = true ∧ (s.rdg.ref b).present = true ∧ (s.rdg.ref b).clean = true ∧ (s.rdg.ref b).counts = true ∧ 131072 ≤ n + 39 ∧ n ≤ 131072 + 39) :=
  ⟨
    ⟨up, false, by decide +kernel⟩,
    ⟨up, false, 131111 + 1, by unfold WordsOk; decide +kernel, by decide +kernel⟩,
    ⟨up, false, 131072 + 39, by decide +kernel⟩⟩

/-- States and operands that meet the hypotheses of each clause. -/
theorem wit_SelectedReferenceLossSwitchesOrHoldsOver :
    (∃ (s : State) (b : Bool), s.rdg.started = true ∧ (s.boot.pst = .v0 ∨ s.boot.pst = .v1) ∧ s.rdg.selected = some b ∧ (s.rdg.ref b).declared = true ∧ (s.rdg.ref b).qual = true ∧ (s.rdg.ref (!b)).qual = true) ∧
    (∃ (s : State) (b : Bool), s.rdg.started = true ∧ (s.boot.pst = .v0 ∨ s.boot.pst = .v1) ∧ s.rdg.selected = some b ∧ (s.rdg.ref b).declared = true ∧ (s.rdg.ref b).qual = true ∧ (s.rdg.ref (!b)).qual = false) ∧
    (∃ (s : State) (b : Bool), s.rdg.selected = some b ∧ (s.rdg.ref b).declared = true ∧ (s.rdg.ref b).qual = true) :=
  ⟨
    ⟨up, false, by decide +kernel⟩,
    ⟨{ up with rdg := { up.rdg with b := { up.rdg.b with qual := false } } }, false, by decide +kernel⟩,
    ⟨up, false, by decide +kernel⟩⟩

/-- States and operands that meet the hypotheses of each clause. -/
theorem wit_RequestedSwitchNeedsQualifiedInput :
    (∃ (s : State), s.answers 0x18000 = true) ∧
    (∃ (s : State) (b : Bool), s.atMark = true ∧ s.rdg.reqSwitch = true ∧ s.rdg.selected = some b ∧ (s.rdg.ref (!b)).qual = true) ∧
    (∃ (s : State) (b : Bool), s.atMark = true ∧ s.rdg.reqSwitch = true ∧ s.rdg.selected = some b ∧ (s.rdg.ref (!b)).qual = false) ∧
    (∃ (s : State), s.rdg.reqSwitch = false) ∧
    (∃ (s : State), s.atMark = true ∧ s.rdg.selected = none) :=
  ⟨
    ⟨{ up with rdg := { up.rdg with reqSwitch := true } }, by decide +kernel⟩,
    ⟨{ up with rdg := { up.rdg with reqSwitch := true } }, false, by decide +kernel⟩,
    ⟨{ up with rdg := { up.rdg with reqSwitch := true, b := { up.rdg.b with qual := false } } }, false, by decide +kernel⟩,
    ⟨up, by decide +kernel⟩,
    ⟨{ up with rdg := { up.rdg with reqSwitch := true, root := .holdover } }, by decide +kernel⟩⟩

/-- States and operands that meet the hypotheses of each clause. -/
theorem wit_HoldoverEndsExpiresAndReverts :
    (∃ (s : State) (b : Bool) (n : Nat), s.rdg.root = .holdover ∧ (s.rdg.ref b).declared = true ∧ (s.rdg.ref b).present = true ∧ (s.rdg.ref b).clean = true ∧ (s.rdg.ref b).counts = true ∧ (s.rdg.ref b).qual = false ∧ 131072 ≤ n + 39 ∧ n ≤ 131072 + 39) ∧
    (∃ (s : State), s.rdg.root = .holdover ∧ 15625 ≤ s.since s.rdg.holdStart) ∧
    (∃ (s : State), s.since s.rdg.holdStart < 15625) ∧
    (∃ (s : State), s.atMark = true ∧ s.rdg.safeCap = true ∧ s.rdg.lock = true) ∧
    (∃ (s : State) (b : Bool), s.atMark = true ∧ s.rdg.selected = some b ∧ s.rdg.revertDue = true ∧ (s.rdg.ref (!b)).qual = true ∧ s.reverts = true ∧ s.prefersB = (!b)) :=
  ⟨
    ⟨{ up with rdg := { up.rdg with root := .holdover, a := { up.rdg.a with qual := false } } }, false, 131072 + 39, by decide +kernel⟩,
    ⟨{ up with rdg := { up.rdg with root := .holdover, ridge := Ridge.ofMark 15625 } }, by decide +kernel⟩,
    ⟨up, by decide +kernel⟩,
    ⟨{ up with rdg := { up.rdg with safeCap := true } }, by decide +kernel⟩,
    ⟨{ upWords [(0x18000, 3)] with rdg := { up.rdg with revertDue := true } }, false, by decide +kernel⟩⟩

/-- States and operands that meet the hypotheses of each clause. -/
theorem wit_RidgeCountWrapsAndEpochCounts :
    (∃ (s : State), s.rdg.started = true ∧ s.rdg.ridge = BitVec.allOnes 48) ∧
    (∃ (s : State), s.rdg.ridge ≠ BitVec.allOnes 48) :=
  ⟨
    ⟨{ up with rdg := { up.rdg with ridge := BitVec.allOnes 48 } }, by decide +kernel⟩,
    ⟨up, by decide +kernel⟩⟩

/-- States and operands that meet the hypotheses of each clause. -/
theorem wit_SpinesFailSwitchAndRecover :
    (∃ (s : State) (f : Fin 25) (b : Bool), (s.col f).sel = b ∧ (s.col f).ok b = true ∧ (s.col f).ok (!b) = true) ∧
    (∃ (s : State) (f : Fin 25) (b : Bool), (s.col f).ok b = true ∧ (s.col f).ok (!b) = false) ∧
    (∃ (s : State) (f : Fin 25), s.atMark = true ∧ (s.col f).switchDue = true ∧ (s.col f).ok (!(s.col f).sel) = true) ∧
    (∃ (s : State) (f : Fin 25), s.atMark = true ∧ (s.col f).switchDue = true ∧ (s.col f).switchAsked = true ∧ (s.col f).ok (!(s.col f).sel) = false) ∧
    (∃ (s : State) (f : Fin 25), (s.col f).aOk = false ∧ (s.col f).aStuck = false ∧ 16 ≤ (s.col f).aRun) ∧
    (∃ (s : State) (f : Fin 25), (s.col f).bOk = false ∧ (s.col f).bStuck = false ∧ 16 ≤ (s.col f).bRun) ∧
    (∃ (s : State) (f : Fin 25), s.answers (colAddr f 0x10) = true) :=
  ⟨
    ⟨up, 0, false, by decide +kernel⟩,
    ⟨upCol 0 fun c => { c with bOk := false }, 0, false, by decide +kernel⟩,
    ⟨upCol 0 fun c => { c with switchDue := true }, 0, by decide +kernel⟩,
    ⟨upCol 0 fun c => { c with switchDue := true, switchAsked := true, bOk := false }, 0, by decide +kernel⟩,
    ⟨upCol 0 fun c => { c with aOk := false, aRun := 16 }, 0, by decide +kernel⟩,
    ⟨upCol 0 fun c => { c with bOk := false, bRun := 16 }, 0, by decide +kernel⟩,
    ⟨up, 0, by decide +kernel⟩⟩

/-- States and operands that meet the hypotheses of each clause. -/
theorem wit_BeaconChecksBothRidgeCounters :
    (∃ (s : State) (f : Fin 25), s.rdg.started = true ∧ s.tick = 12 ∧ s.role.lastBeacon = some s.mark ∧ (s.col f).beaconAge ≠ 0) ∧
    (∃ (s : State) (f : Fin 25) (q : Bool), (s.tick ≠ 12 ∨ s.role.lastBeacon ≠ some s.mark ∨ q ≠ s.role.active ∨ (s.col f).beaconAge = 0)) ∧
    (∃ (s : State) (f : Fin 25), s.atMark = true ∧ (s.col f).reloadA = true ∧ (s.col f).bOk = true) ∧
    (∃ (s : State) (f : Fin 25), s.atMark = true ∧ (s.col f).reloadA = false ∧ (s.col f).reloadB = true ∧ (s.col f).aOk = true) :=
  ⟨
    ⟨{ upCol 3 (fun c => { c with beaconAge := 1 }) with rdg := { up.rdg with ridge := Ridge.ofMark 1000 + 12 }, role := { up.role with lastBeacon := some 1000 } }, 3, by decide +kernel⟩,
    ⟨up, 0, false, by decide +kernel⟩,
    ⟨upCol 0 fun c => { c with reloadA := true, errA := 7 }, 0, by decide +kernel⟩,
    ⟨upCol 0 fun c => { c with reloadB := true, errB := 7 }, 0, by decide +kernel⟩⟩

/-- States and operands that meet the hypotheses of each clause. -/
theorem wit_SpurLoopLocksFailsAndTimesOut :
    (∃ (s : State) (n : Fin 425), s.compares n = true ∧ s.underTest n = false) ∧
    (∃ (s : State) (n : Fin 425), (s.rdg.started = false ∨ s.tick % 16 ≠ 0 ∨ (s.spur n).gen.cmpAt = some s.rdg.ridge ∨ (s.spur n).gen.loop = .frozen ∨
    (s.spur n).gen.loop = .failed)) ∧
    (∃ (s : State) (n : Fin 425), (s.spur n).gen.loop = .acquire ∧ ((s.spur n).gen.reacq = true ∨ s.cal.cur.isSome = true) ∧ 8 ≤ s.since (s.spur n).gen.acqMark) ∧
    (∃ (s : State) (n : Fin 425), ((s.spur n).gen.loop ≠ .acquire ∨ s.since (s.spur n).gen.acqMark < 8)) :=
  ⟨
    ⟨upSpur 0 fun x => { x with gen := { x.gen with loop := .acquire, lockRun := 15 } }, 0, by decide +kernel⟩,
    ⟨upSpur 0 fun x => { x with gen := { x.gen with loop := .frozen } }, 0, by decide +kernel⟩,
    ⟨upSpur 0 fun x => { x with gen := { x.gen with loop := .acquire, reacq := true, acqMark := 992 } }, 0, by decide +kernel⟩,
    ⟨upSpur 0 fun x => { x with gen := { x.gen with loop := .acquire, acqMark := 993 } }, 0, by decide +kernel⟩⟩

/-- States and operands that meet the hypotheses of each clause. -/
theorem wit_EdgeDecisionStretchesByLargestDemandUnderCapAndCeiling :
    (∃ (demand : Nat) (follow : Nat) (cap : Nat) (debt : Nat) (repay : Bool), cap ≤ 3 ∧ 0 < (decide1 demand follow cap debt repay).change) ∧
    (∃ (demand : Nat) (follow : Nat) (cap : Nat) (debt : Nat), cap ≤ 3 ∧ (max demand follow) ≠ 0 ∧ debt + min (max demand follow) cap ≤ 47) ∧
    (∃ (demand : Nat) (follow : Nat) (cap : Nat) (debt : Nat), cap ≤ 3 ∧ (max demand follow) ≠ 0 ∧ 47 < debt + min (max demand follow) cap) ∧
    (∃ (demand : Nat) (follow : Nat) (cap : Nat) (repay : Bool), cap ≤ 3 ∧ (max demand follow) = 0 ∧ repay = true) ∧
    (∃ (demand : Nat) (follow : Nat) (cap : Nat) (repay : Bool), cap ≤ 3 ∧ (max demand follow) = 0 ∧ repay = false) ∧
    (∃ (cap : Nat), cap ≤ 3) :=
  ⟨
    ⟨2, 0, 3, 0, false, by decide +kernel⟩,
    ⟨2, 0, 3, 0, by decide +kernel⟩,
    ⟨2, 0, 3, 46, by decide +kernel⟩,
    ⟨0, 0, 3, true, by decide +kernel⟩,
    ⟨0, 0, 3, false, by decide +kernel⟩,
    ⟨3, by decide +kernel⟩⟩

/-- States and operands that meet the hypotheses of each clause. -/
theorem wit_SpurEdgeAppliesTheDecision :
    (∃ (s : State) (n : Fin 425), s.edgeReady n = true ∧ n.val < 400 ∧ s.regionOf n = some n.val ∧ s.lentTo n = none ∧ (s.spur n).gates.v1 = false ∧ (s.spur n).str.frozen = false) ∧
    (∃ (s : State) (n : Fin 425) (r : Nat), s.edgeReady n = true ∧ s.regionOf n = some r ∧ (s.spur n).str.frozen = true) ∧
    (∃ (s : State) (n : Fin 425) (r : Nat), s.edgeReady n = true ∧ s.regionOf n = some r ∧ (s.spur n).str.frozen = false ∧ (s.spur n).gates.v1 = true) ∧
    (∃ (s : State) (n : Fin 425), s.edgeReady n = true ∧ s.regionOf n = none ∧ s.tracked n = none) ∧
    (∃ (s : State) (n : Fin 425), s.edgeReady n = false) ∧
    (∃ (s : State) (n : Fin 425) (q : Fin 4), q.val < (s.spur n).str.droop.length) ∧
    (∃ (sp : Nat) (rail : Nat) (l : Nat → Nat) (k : _), k ∈ [1, 2, 3] ∧ 400 * rail < 1000 * sp * (400 - l k)) ∧
    (∃ (sp : Nat) (rail : Nat) (l : Nat → Nat), (∀ k ∈ [1, 2, 3], 1000 * sp * (402 - l k) ≤ 400 * rail)) ∧
    (∃ (s : State) (k : Fin 760) (hi : Bool) (w : Notice) (ws : List Notice), ((s.sad k).lane hi).flight = w :: ws ∧ w.wait = 0 ∧ s.notices k = true ∧ w.ratio = 1 ∧ (s.spur (if hi then sadHigh k else sadLow k)).gates.driver = .own) ∧
    (∃ (s : State) (k : Fin 760) (hi : Bool), (∀ w ∈ ((s.sad k).lane hi).flight, w.wait ≠ 0)) :=
  ⟨
    ⟨upSpur 21 fun x => { x with str := { x.str with debt := 5, slacks := [3, 127, 127, 127, 127, 127, 127, 127] } }, 21, by decide +kernel⟩,
    ⟨upSpur 0 fun x => { x with str := { x.str with frozen := true } }, 0, 0, by decide +kernel⟩,
    ⟨upSpur 0 fun x => { x with gates := { x.gates with v1 := true } }, 0, 0, by decide +kernel⟩,
    ⟨up, 403, by decide +kernel⟩,
    ⟨upSpur 0 fun x => { x with gen := { x.gen with wrap := true } }, 0, by decide +kernel⟩,
    ⟨up, 0, 0, by decide +kernel⟩,
    ⟨600, 560000, fun k => 8 * k, 2, by decide +kernel⟩,
    ⟨600, 640000, fun k => 8 * k, by decide +kernel⟩,
    ⟨upSad 0 fun x => { x with toHi := { x.toHi with flight := [note 3] } }, 0, true, note 3, [], by decide +kernel⟩,
    ⟨upSad 0 fun x => { x with toHi := { x.toHi with flight := [{ note 3 with wait := 1 }] } }, 0, true, by decide +kernel⟩⟩

/-- States and operands that meet the hypotheses of each clause. -/
theorem wit_TallyMarksExpireAndCommitEntries :
    (∃ (s : State) (n : Fin 425), s.markReady n = true) ∧
    (∃ (s : State) (n : Fin 425), ((s.spur n).gen.wrap = false ∨ s.rdg.started = false)) ∧
    (∃ (s : State) (n : Fin 425) (e : Entry), s.testAway n = false ∧ s.atCycle0 n = true ∧ ((s.spur n).gen.entries.find? fun e => e.st == .armed && !e.applied && e.target == (s.spur n).gen.tallyMark) = some e ∧ 0 < (s.spur n).gen.fcode) ∧
    (∃ (s : State) (n : Fin 425), s.atCycle0 n = false ∨
    ((s.spur n).gen.entries.find? fun e => e.st == .armed && !e.applied && e.target == (s.spur n).gen.tallyMark) = none) :=
  ⟨
    ⟨upSpur 0 fun x => { x with gen := { x.gen with tallyMark := 999, tallyCyc := 255, wrap := true, entries := [{ Entry.none with st := .staged, target := 1000, seq := 5, fcode := 16, ceil := 96 }, { Entry.none with st := .armed, target := 1004, seq := 5, fcode := 16, ceil := 96 }] } }, 0, by decide +kernel⟩,
    ⟨up, 0, by decide +kernel⟩,
    ⟨upSpur 0 fun x => { x with gen := { x.gen with entries := [{ Entry.none with st := .armed, target := 1000, seq := 5, fcode := 16, ceil := 96 }] } }, 0, { Entry.none with st := .armed, target := 1000, seq := 5, fcode := 16, ceil := 96 }, by decide +kernel⟩,
    ⟨up, 0, by decide +kernel⟩⟩

/-- States and operands that meet the hypotheses of each clause. -/
theorem wit_CommitEntriesAreStagedArmedAndDropped :
    (∃ (s : State) (d : Fin 8) (c : StageCmd) (n : Fin 425), n.val ∈ s.spursOf d c.seq ∧ (s.spur n).gen.entries = List.replicate 8 Entry.none ∧ 3 ≤ Mark.dist c.target (s.spur n).gen.tallyMark ∧ Mark.dist c.target (s.spur n).gen.tallyMark < 2 ^ 39 ∧ 8 ≤ c.fcode ∧ c.fcode ≤ 96 ∧ 8 * c.fcode ≤ 9 * (s.spur n).gen.fcode) ∧
    (∃ (s : State) (d : Fin 8) (c : StageCmd) (n : Fin 425), n.val ∈ s.spursOf d c.seq ∧ Mark.dist c.target (s.spur n).gen.tallyMark < 3) ∧
    (∃ (s : State) (d : Fin 8) (q : Seq), (∀ n ∈ s.spursOf d q, (s.spur n).gen.armAnswer q ≠ some false)) ∧
    (∃ (s : State) (d : Fin 8) (q : Seq) (n : Fin 425), n.val ∈ s.spursOf d q ∧ ((s.spur n).gen.entries.any fun e => e.st == .armed && e.seq == q) = false) ∧
    (∃ (s : State) (d : Fin 8) (q : Seq) (n : Fin 425), n.val ∈ s.spursOf d q ∧ ((s.spur n).gen.entries.any fun e => e.st == .armed && e.seq == q) = true) ∧
    (∃ (d : Fin 8) (q : Seq) (g : Nat) (c : Instr), (c = .cancel d q ∨ c = .discard ∨ c = .discardGroup g)) :=
  ⟨
    ⟨up, 0, { seq := 5, target := 1004, group := 0, fcode := 16, step := 0, up := false, fmt := 0, ceil := 96, fences := [], regs := true }, 0, by decide +kernel⟩,
    ⟨up, 0, { seq := 5, target := 1002, group := 0, fcode := 16, step := 0, up := false, fmt := 0, ceil := 96, fences := [], regs := true }, 0, by decide +kernel⟩,
    ⟨small (upSpur 0 fun x => { x with gen := { x.gen with entries := [{ Entry.none with st := .staged, target := 1004, seq := 5, fcode := 16, ceil := 96 }] } }), 0, 5, by decide +kernel⟩,
    ⟨small (upSpur 0 fun x => { x with gen := { x.gen with entries := [{ Entry.none with st := .staged, target := 1004, seq := 5, fcode := 16, ceil := 96 }] } }), 0, 5, 0, by decide +kernel⟩,
    ⟨small (upSpur 0 fun x => { x with gen := { x.gen with entries := [{ Entry.none with st := .armed, target := 1004, seq := 5, fcode := 16, ceil := 96 }] } }), 0, 5, 0, by decide +kernel, by decide +kernel⟩,
    ⟨0, 0, 0, .discard, by decide +kernel⟩⟩

/-- States and operands that meet the hypotheses of each clause. -/
theorem wit_FormedSetIsStagedAndReevaluated :
    (∃ (s : State) (c : CommitSet), s.atMark = true ∧ s.role.silent = false ∧ s.role.resumeDue = false ∧ s.faults.noStage = false ∧ s.role.baseDue = false ∧ (s.plan.sets.find? fun x => x.restage && x.staged && !x.armed && notAfter x.ready s.mark) = none ∧ (s.plan.sets.find? fun x => !x.staged && !x.armed && !x.applied && !x.isNull) = some c ∧ s.plan.find c.seq = some c ∧ c.kind = .host ∧ c.members ≠ [] ∧ s.mayStage = true ∧ notAfter c.ready s.mark = true ∧ Mark.dist c.target s.mark ≤ (s.word 0x600).bits 23 16 ∧ (s.contents c [] none).bad = [] ∧ notAfter (s.floorFor c) c.target = true ∧ s.windowOver c.target = none ∧ needsSeries (s.viewFor c.seq c.target) (s.contents c [] none) = false) ∧
    (∃ (s : State) (c : CommitSet), s.setAhead 3 = some c ∧ s.plan.find c.seq = some c ∧ c.kind = .host ∧ c.restage = false ∧ c.members ≠ [] ∧ c.slots = [] ∧ (s.contents c [] (some c.result.base)).bad = [] ∧ s.nullSet (s.viewFor c.seq c.target) (s.fencesFor c.seq c.target) (s.contents c [] (some c.result.base)) = true) :=
  ⟨
    ⟨small (upSets [setAt 1004]), setAt 1004, by decide +kernel⟩,
    ⟨small (upSets [{ setAt 1003 with staged := true, result := (small up).fab }]), { setAt 1003 with staged := true, result := (small up).fab }, by decide +kernel⟩⟩

/-- States and operands that meet the hypotheses of each clause. -/
theorem wit_AllowedSetIsArmedAndOthersWait :
    (∃ (s : State) (c : CommitSet), s.setAhead 2 = some c ∧ c.slots = [] ∧ s.plan.find c.headSeq = some c ∧ s.faults.noStage = false ∧ s.windowOver c.target = none ∧ s.unacked c = []) ∧
    (∃ (s : State) (c : CommitSet) (f : Nat) (fs : List Nat), s.setAhead 2 = some c ∧ c.slots = [] ∧ s.plan.find c.headSeq = some c ∧ s.faults.noStage = false ∧ s.windowOver c.target = none ∧ s.unacked c = f :: fs ∧ c.defers < 16 ∧ c.deferRaised = false ∧ (∀ x ∈ s.plan.sets, x.seq = c.seq → x = c)) ∧
    (∃ (s : State) (c : CommitSet) (f : Nat) (fs : List Nat), s.setAhead 2 = some c ∧ c.slots = [] ∧ s.plan.find c.headSeq = some c ∧ s.faults.noStage = false ∧ s.windowOver c.target = none ∧ s.unacked c = f :: fs ∧ 16 ≤ c.defers) ∧
    (∃ (s : State) (c : CommitSet), (s.plan.sets.find? fun x => !s.role.silent && s.atMark && x.armed && !x.applied && x.target == s.mark + 1 && s.armedNowhere x.seq) = some c) :=
  ⟨
    ⟨upSets [{ setAt 1002 with staged := true }], { setAt 1002 with staged := true }, by decide +kernel⟩,
    ⟨upSets [{ setAt 1002 with staged := true, up := true, volt := [96] }], { setAt 1002 with staged := true, up := true, volt := [96] }, 0, (List.range 25).tail, by decide +kernel⟩,
    ⟨upSets [{ setAt 1002 with staged := true, up := true, volt := [96], defers := 16 }], { setAt 1002 with staged := true, up := true, volt := [96], defers := 16 }, 0, (List.range 25).tail, by decide +kernel⟩,
    ⟨upSets [{ setAt 1001 with staged := true, armed := true }], { setAt 1001 with staged := true, armed := true }, by decide +kernel⟩⟩

/-- States and operands that meet the hypotheses of each clause. -/
theorem wit_AppliedSetCompletesItsDescriptors :
    (∃ (s : State) (c : CommitSet), (s.plan.sets.find? fun c => !s.role.silent && !s.role.resumeDue && ((c.applied && (List.range 25).all fun f => c.reported.contains f) || (c.isNull && Mark.passed c.target s.mark))) = some c) ∧
    (∃ (s : State), (s.plan.sets.find? fun c => !s.role.silent && !s.role.resumeDue && ((c.applied && (List.range 25).all fun f => c.reported.contains f) || (c.isNull && Mark.passed c.target s.mark))) = none) :=
  ⟨
    ⟨upSets [{ setAt 1000 with applied := true, reported := List.range 25 }], { setAt 1000 with applied := true, reported := List.range 25 }, by decide +kernel⟩,
    ⟨up, by decide +kernel⟩⟩

/-- States and operands that meet the hypotheses of each clause. -/
theorem wit_BulkWordsAreCapturedByTheirTags :
    (∃ (s : State) (k : Fin 760) (h : Bool) (c : Nat) (rc : Nat), s.carries k = true ∧ sadSeam k = false ∧ c % 2 = (rc + 1) % 2 ∧ 24 ≤ 4 * ((if h then (s.sad k).capHi else (s.sad k).capLo : Nat) : Int) + s.edgeDiff k h ∧ 4 * ((if h then (s.sad k).capHi else (s.sad k).capLo : Nat) : Int) + s.edgeDiff k h ≤ 232) ∧
    (∃ (s : State) (k : Fin 760) (h : Bool) (c : Nat) (rc : Nat), s.carries k = true ∧ sadSeam k = false ∧ (c % 2 ≠ (rc + 1) % 2 ∨ 4 * ((if h then (s.sad k).capHi else (s.sad k).capLo : Nat) : Int) + s.edgeDiff k h < 24 ∨
      232 < 4 * ((if h then (s.sad k).capHi else (s.sad k).capLo : Nat) : Int) + s.edgeDiff k h)) ∧
    (∃ (s : State) (k : Fin 760) (h : Bool) (c : Nat) (rc : Nat), s.carries k = true ∧ sadSeam k = true ∧ (s.sad k).ratio = 1 ∧ (s.sad k).modeOf true = (s.sad k).modeOf false ∧ s.modeEdge k true ((s.spur ((s.clockedBy (if h then sadLow k else sadHigh k)).getD 0)).gen) c c = false ∧ s.modeEdge k false ((s.spur ((s.clockedBy (if h then sadLow k else sadHigh k)).getD 0)).gen) c c = false ∧ ((s.sad k).lane h).entries.length = 2 ∧ rc % 4 = (c + 2) % 4 ∧ -240 ≤ s.edgeDiff k h ∧ s.edgeDiff k h ≤ 240) ∧
    (∃ (s : State) (k : Fin 760) (h : Bool) (c : Nat) (rc : Nat), s.carries k = true ∧ sadSeam k = true ∧ (s.sad k).fastOf h = true ∧ (s.sad k).modeOf true = (s.sad k).modeOf false ∧ s.modeEdge k true ((s.spur ((s.clockedBy (if h then sadLow k else sadHigh k)).getD 0)).gen) c c = false ∧ s.modeEdge k false ((s.spur ((s.clockedBy (if h then sadLow k else sadHigh k)).getD 0)).gen) c c = false ∧ ((s.sad k).lane h).entries.length = 2 ∧ rc % (s.sad k).ratio = 0 ∧ (rc / (s.sad k).ratio) % 4 = (c + 2) % 4 ∧ -240 ≤ s.edgeDiff k h ∧ s.edgeDiff k h ≤ 240) ∧
    (∃ (s : State) (k : Fin 760) (h : Bool) (c : Nat), s.carries k = true ∧ sadSeam k = true ∧ ((s.sad k).modeOf true ≠ (s.sad k).modeOf false ∨ (s.sad k).fastOf (!h) = true ∧ c % (s.sad k).ratio ≠ 0)) ∧
    (∃ (s : State) (k : Fin 760), s.carries k = false) :=
  ⟨
    ⟨up, 0, false, 1, 0, by decide +kernel⟩,
    ⟨up, 0, false, 0, 0, by decide +kernel⟩,
    ⟨upSad 3 fun x => x.modLane false fun l => { l with entries := [(0, 0), (1, 0)] }, 3, false, 0, 2, by decide +kernel⟩,
    ⟨upSad 3 fun x => { x with ratio := 2, ratioHi := 2, fastHigh := true, fastHighHi := true }, 3, true, 1, 6, by decide +kernel⟩,
    ⟨upSad 3 fun x => { x with ratio := 2, ratioHi := 2, fastHigh := true, fastHighHi := true }, 3, false, 1, by decide +kernel⟩,
    ⟨upSad 0 fun x => { x with held := true }, 0, by decide +kernel⟩⟩

/-- States and operands that meet the hypotheses of each clause. -/
theorem wit_SaddleMeasuresTracksAndResynchronises :
    (∃ (s : State) (k : Fin 760) (m : Int) (p : Mark × Nat), -512 ≤ m ∧ m ≤ 512 ∧ s.measureDue k = some p ∧ p.2 ≠ 0 ∧ (s.sad k).usable = true ∧ s.cal.cur = none ∧ s.clocked (sadLow k) = true ∧ s.clocked (sadHigh k) = true ∧ (sadSeam k = true ∨ (m - (s.sad k).rbar).natAbs ≤ 104)) ∧
    (∃ (s : State) (k : Fin 760) (m : Int) (p : Mark × Nat), -512 ≤ m ∧ m ≤ 512 ∧ s.measureDue k = some p ∧ (s.sad k).usable = true ∧ s.cal.cur = none ∧ s.clocked (sadLow k) = true ∧ s.clocked (sadHigh k) = true ∧ sadSeam k = false ∧ 104 < (m - (s.sad k).rbar).natAbs ∧ (s.sad k).raisedNow.contains .windowExceeded = false) ∧
    (∃ (s : State) (k : Fin 760) (m : Int) (p : Mark), -512 ≤ m ∧ m ≤ 512 ∧ s.measureDue k = some (p, 0) ∧ (s.sad k).usable = true ∧ s.cal.cur = none ∧ s.clocked (sadLow k) = true ∧ s.clocked (sadHigh k) = true ∧ (s.spur (sadLow k)).gates.driver = .own ∧ (s.spur (sadHigh k)).gates.driver = .own ∧ s.lentTo (sadLow k) = none ∧ s.lentTo (sadHigh k) = none) ∧
    (∃ (s : State) (k : Fin 760) (i : Nat), (s.measureDue k).all (fun p => p.2 != i) = true) ∧
    (∃ (s : State) (k : Fin 760), s.answers (sadAddr k 0) = true ∧ s.locked = false) ∧
    (∃ (s : State) (k : Fin 760), s.answers (sadAddr k 0) = true ∧ s.locked = true) :=
  ⟨
    ⟨{ up with spurs := up.spurs.map fun x => { x with gen := { x.gen with tallyCyc := 30 } } }, 0, 5, (1000, 1), by decide +kernel⟩,
    ⟨{ up with spurs := up.spurs.map fun x => { x with gen := { x.gen with tallyCyc := 30 } } }, 0, 105, (1000, 1), by decide +kernel⟩,
    ⟨{ up with spurs := up.spurs.map fun x => { x with gen := { x.gen with tallyCyc := 9 } } }, 0, 10, 1000, by decide +kernel⟩,
    ⟨up, 0, 0, by decide +kernel⟩,
    ⟨up, 0, by decide +kernel⟩,
    ⟨{ up with lcs := { up.lcs with st := .deployed } }, 0, by decide +kernel⟩⟩

/-- States and operands that meet the hypotheses of each clause. -/
theorem wit_IntentOpensAPreStretchWindowAboveTheHoldClass :
    (∃ (s : State) (r : Fin 400) (c : Fin 4), c.val ≠ 0 ∧ s.listens r = true ∧ (s.spur (s.driverSpur r)).wl.heard = false) ∧
    (∃ (s : State) (r : Fin 400) (c : Fin 4), (c.val = 0 ∨ s.listens r = false ∨ (s.spur (s.driverSpur r)).wl.heard = true)) ∧
    (∃ (s : State) (n : Fin 425), (s.spur n).wl.holdLeft = 0) :=
  ⟨
    ⟨up, 21, 2, by decide +kernel⟩,
    ⟨up, 0, 0, by decide +kernel⟩,
    ⟨up, 0, by decide +kernel⟩⟩

/-- States and operands that meet the hypotheses of each clause. -/
theorem wit_ChecksumFramesStretchCountAndLimit :
    (∃ (s : State) (r : Fin 400), s.listens r = true ∧ (s.spur (s.driverSpur r)).wl.frame = none) ∧
    (∃ (s : State) (n : Fin 425) (b : BitVec 5), s.edgeReady n = true ∧ n.val < 400 ∧ s.regionOf n = some n.val ∧ s.lentTo n = none ∧ (s.spur n).gates.v1 = false ∧ (s.spur n).str.frozen = false ∧ (s.spur n).wl.frame = some (b, 1) ∧ (s.spur n).wl.winCount + 1 < (s.word (sprAddr n 0xA0)).bits 19 16) ∧
    (∃ (s : State) (n : Fin 425) (b : BitVec 5), s.edgeReady n = true ∧ n.val < 400 ∧ s.regionOf n = some n.val ∧ s.lentTo n = none ∧ (s.spur n).gates.v1 = false ∧ (s.spur n).str.frozen = false ∧ (s.spur n).wl.frame = some (b, 1) ∧ (s.spur n).lim.chk = none ∧ (s.word (sprAddr n 0xA0)).bits 19 16 ≤ (s.spur n).wl.winCount + 1) ∧
    (∃ (s : State) (n : Fin 425) (v : Nat), s.atMark = true ∧ s.role.silent = false ∧ (s.spur n).lim.chk = some v ∧ 2 ^ ((s.word (sprAddr n 0xA0)).bits 3 0 + 10) ≤ s.since (s.spur n).wl.lastRate) ∧
    (∃ (s : State) (n : Fin 425) (a : Nat), s.atCycle0 n = true ∧ (s.spur n).wl.winAt ≠ (s.spur n).gen.tallyMark ∧ (s.spur n).gen.tallyMark.toNat % rateMarks (s.word (sprAddr n 0xA0)) = 0 ∧ (s.spur n).wl.candidate ((s.word (sprAddr n 0xA0)).bits 11 8) = some a) :=
  ⟨
    ⟨up, 21, by decide +kernel⟩,
    ⟨upSpur 21 fun x => { x with wl := { x.wl with frame := some (0x15, 1), chkLeft := 60 } }, 21, 0x15, by decide +kernel⟩,
    ⟨upSpur 21 fun x => { x with wl := { x.wl with winCount := 7, frame := some (1, 1) } }, 21, 1, by decide +kernel⟩,
    ⟨upSpur 0 fun x => { x with lim := { x.lim with chk := some 40 }, wl := { x.wl with lastRate := 1000 - 0x100000 } }, 0, 40, by decide +kernel⟩,
    ⟨{ (upSpur 0 fun x => { x with gen := { x.gen with tallyMark := 0x1000000 }, wl := { x.wl with arrays := List.replicate 7 0 ++ [9] } }) with rdg := { up.rdg with ridge := Ridge.ofMark 0x1000000 } }, 0, 7, by decide +kernel⟩⟩

/-- States and operands that meet the hypotheses of each clause. -/
theorem wit_SparingNoticesGradesAndCeilings :
    (∃ (s : State) (r : Fin 400) (a : Nat) (k : Nat) (sp : Nat), s.role.silent = false ∧ portKind r = 0 ∧ a < 8 ∧ k < 2 ∧ sp < 2) ∧
    (∃ (s : State) (r : Nat) (a : Nat) (k : Nat) (sp : Nat), s.role.silent = false ∧ (400 ≤ r ∨ portKind r ≠ 0 ∨ 8 ≤ a ∨ 2 ≤ k ∨ 2 ≤ sp)) ∧
    (∃ (s : State), s.rdg.started = true ∧ s.role.silent = false ∧ 250 ≤ s.tick ∧ s.role.gradeAt ≠ some s.mark) ∧
    (∃ (s : State) (n : Fin 425), s.answers (sprAddr n 0x90) = true ∧ s.locked = true ∧ (s.spur n).gates.driver = .own) ∧
    (∃ (s : State) (n : Fin 425), s.answers (sprAddr n 0x90) = true ∧ (s.spur n).gates.driver = .own) :=
  ⟨
    ⟨up, 21, 0, 0, 0, by decide +kernel⟩,
    ⟨up, 0, 8, 0, 0, by decide +kernel⟩,
    ⟨{ up with rdg := { up.rdg with ridge := Ridge.ofMark 1000 + 250 } }, by decide +kernel⟩,
    ⟨{ up with lcs := { up.lcs with st := .deployed } }, 0, by decide +kernel⟩,
    ⟨up, 0, by decide +kernel⟩⟩

/-- States and operands that meet the hypotheses of each clause. -/
theorem wit_ControlBlockWordsAreChecked :
    (∃ (s : State), s.hri.reading = true) :=
⟨{ on with hri := { on.hri with reading := true } }, by decide +kernel⟩

/-- States and operands that meet the hypotheses of each clause. -/
theorem wit_NudgePollAndFetch :
    (∃ (s : State) (c : Instr), ((c = .nudge ∧ s.answers 0xD000C = true) ∨ c = .poll) ∧ s.ringsOn = true ∧ s.hri.stopped = false ∧ s.hri.reading = false) ∧
    (∃ (s : State), s.answers 0xD000C = true ∧ s.ringsOn = true ∧ s.hri.stopped = false ∧ s.hri.reading = true) ∧
    (∃ (s : State) (bytes : List Byte), s.canFetch = true ∧ bytes.length = s.descSize) ∧
    (∃ (s : State), s.canFetch = false) :=
  ⟨
    ⟨on, .nudge, by decide +kernel⟩,
    ⟨{ on with hri := { on.hri with reading := true } }, by decide +kernel⟩,
    ⟨{ on with hri := { on.hri with planProd := 1 } }, List.replicate 64 0, by decide +kernel⟩,
    ⟨up, by decide +kernel⟩⟩

/-- States and operands that meet the hypotheses of each clause. -/
theorem wit_CompletionsAndEventsAreWritten :
    (∃ (s : State) (c : Completion) (q : List Completion), s.hri.cmplQ = c :: q ∧ s.onHold c = false ∧ s.cmplFull = false) ∧
    (∃ (s : State) (c : Completion) (q : List Completion), s.hri.cmplQ = c :: q ∧ s.onHold c = false ∧ s.cmplFull = true ∧ s.hri.fullOpen = false) ∧
    (∃ (s : State) (e : EventRec) (r : List EventRec), s.raised = e :: r ∧ s.ringsOn = true ∧ (s.word 0xD004C).bits 1 0 ≤ e.sev.code ∧ (s.hri.evtProd - s.hri.evtCons).toNat < s.evtN) ∧
    (∃ (s : State) (e : EventRec) (r : List EventRec), s.raised = e :: r ∧ s.ringsOn = true ∧ (s.word 0xD004C).bits 1 0 ≤ e.sev.code ∧ s.evtN ≤ (s.hri.evtProd - s.hri.evtCons).toNat) :=
  ⟨
    ⟨{ on with hri := { on.hri with cmplQ := [{ seq := 0, ty := 14, status := .applied, group := 0, mark := 1000, detail := 0, domain := 0, merged := false, notify := false, born := 0, ringIdx := 0 }] } }, { seq := 0, ty := 14, status := .applied, group := 0, mark := 1000, detail := 0, domain := 0, merged := false, notify := false, born := 0, ringIdx := 0 }, [], by decide +kernel⟩,
    ⟨{ on with hri := { on.hri with cmplQ := [{ seq := 0, ty := 14, status := .applied, group := 0, mark := 1000, detail := 0, domain := 0, merged := false, notify := false, born := 0, ringIdx := 0 }], cmplProd := 64 } }, { seq := 0, ty := 14, status := .applied, group := 0, mark := 1000, detail := 0, domain := 0, merged := false, notify := false, born := 0, ringIdx := 0 }, [], by decide +kernel⟩,
    ⟨{ on with raised := [{ ev := .hostReadErr, sev := .degraded, kind := 10, idx := 3, time := Ridge.ofMark 1000, epoch := 0, detail := [] }] }, { ev := .hostReadErr, sev := .degraded, kind := 10, idx := 3, time := Ridge.ofMark 1000, epoch := 0, detail := [] }, [], by decide +kernel⟩,
    ⟨{ { on with hri := { on.hri with evtProd := 64 } } with raised := [{ ev := .hostReadErr, sev := .degraded, kind := 10, idx := 3, time := Ridge.ofMark 1000, epoch := 0, detail := [] }] }, { ev := .hostReadErr, sev := .degraded, kind := 10, idx := 3, time := Ridge.ofMark 1000, epoch := 0, detail := [] }, [], by decide +kernel⟩⟩

/-- States and operands that meet the hypotheses of each clause. -/
theorem wit_RingsAreEnabledAndDisabled :
    (∃ (s : State), WordsOk s ∧ s.answers 0xD0000 = true ∧ s.ringsOn = false ∧ s.hri.idle = true ∧ s.hriAddr 0x20 ≠ 0 ∧ s.hriAddr 0x28 ≠ 0 ∧ s.hriAddr 0x30 ≠ 0 ∧ s.hriAddr 0x38 ≠ 0) ∧
    (∃ (s : State), s.answers 0xD0000 = true ∧ s.ringsOn = false ∧ s.hri.idle = false) ∧
    (∃ (s : State), WordsOk s ∧ s.answers 0xD0000 = true ∧ s.ringsOn = true) ∧
    (∃ (s : State), s.hri.disabling = true ∧ (s.plan.sets.any fun c => c.kind == .host || !c.members.isEmpty) = false ∧ s.hri.cmplQ = []) :=
  ⟨
    ⟨upWords [(0xD0020, 0x1000), (0xD0028, 0x2000), (0xD0030, 0x3000), (0xD0038, 0x4000)], by unfold WordsOk; decide +kernel, by decide +kernel⟩,
    ⟨{ up with hri := { up.hri with idle := false } }, by decide +kernel⟩,
    ⟨on, by unfold WordsOk; decide +kernel, by decide +kernel⟩,
    ⟨{ on with hri := { on.hri with disabling := true } }, by decide +kernel⟩⟩

/-- States and operands that meet the hypotheses of each clause. -/
theorem wit_BoardTableIsTakenWholeOrNotAtAll :
    (∃ (s : State), s.answers 0xD0000 = true ∧ s.hriQuiet = true) ∧
    (∃ (s : State), s.answers 0xD0000 = true ∧ s.hriQuiet = false) ∧
    (∃ (s : State) (bs : List Byte) (k : Nat), bs.length = 512 ∧ s.hri.bdt = 1 ∧ s.tabBad bs = some k) ∧
    (∃ (s : State) (bs : List Byte), bs.length = 512 ∧ s.hri.bdt = 1 ∧ s.tabBad bs = none) :=
  ⟨
    ⟨{ up with hri := { up.hri with idle := true } }, by decide +kernel⟩,
    ⟨on, by decide +kernel⟩,
    ⟨waiting, List.replicate 512 0, _, by decide +kernel, by decide +kernel, rfl⟩,
    ⟨waiting, table Config.colRev, by decide +kernel, by decide +kernel, test_table_accepted⟩⟩

/-- States and operands that meet the hypotheses of each clause. -/
theorem wit_DescriptorsAreCheckedBeforeTheyAct :
    (∃ (s : State) (c : Instr) (e : FbEntry) (st : Status) (k : Nat), Due s c e ∧ s.check e = some (st, k)) ∧
    (∃ (s : State) (e : FbEntry), Due s .undefinedDescriptor e) ∧
    (∃ (s : State) (c : Instr) (ty : Nat), takesType c ty = true ∧ (∀ e, s.plan.head = some e → takesType c e.ty = false ∨ s.processing = false ∨ s.roomFor e = false)) :=
  ⟨
    ⟨due (desc 14 8 0 0 []), .nop, desc 14 8 0 0 [], .descRange, 1, ⟨by decide +kernel, by decide +kernel, by decide +kernel, by decide +kernel⟩, by decide +kernel⟩,
    ⟨due (desc 15 0 0 0 []), desc 15 0 0 0 [], ⟨by decide +kernel, by decide +kernel, by decide +kernel, by decide +kernel⟩⟩,
    ⟨on, .nop, 14, by decide +kernel, fun e h => by rw [show on.plan.head = none by decide +kernel] at h; cases h⟩⟩

/-- States and operands that meet the hypotheses of each clause. -/
theorem wit_CommitDescriptorsJoinTheSetOfTheirTarget :
    (∃ (s : State) (c : Instr) (e : FbEntry), c ∈ [.setStep, .setLadder, .formatPhase, .fence, .unfence, .domainMap] ∧ Due s c e ∧ s.check e = none ∧ s.plan.openGroup e.idx = none ∧ e.flag 1 = false ∧ Mark.ahead e.target s.mark = true ∧ 5 ≤ Mark.dist e.target s.mark ∧ (e.ty ≤ 3 → s.inUseAt (e.byte 16) e.target = true) ∧ (e.ty = 11 → (s.spur (s.driverSpur e.region)).gates.faultFence = false) ∧ s.plan.sets.filter (fun x => x.takes e.target) = []) ∧
    (∃ (s : State) (c : Instr) (e : FbEntry) (x : _), c ∈ [.setStep, .setLadder, .formatPhase, .fence, .unfence, .domainMap] ∧ Due s c e ∧ s.check e = none ∧ s.plan.openGroup e.idx = none ∧ e.flag 1 = false ∧ Mark.ahead e.target s.mark = true ∧ 5 ≤ Mark.dist e.target s.mark ∧ (e.ty ≤ 3 → s.inUseAt (e.byte 16) e.target = true) ∧ (e.ty = 11 → (s.spur (s.driverSpur e.region)).gates.faultFence = false) ∧ s.plan.sets.filter (fun x => x.takes e.target) = [x] ∧ x.armed = false ∧ x.slots = []) ∧
    (∃ (s : State) (c : Instr) (e : FbEntry) (x : _), c ∈ [.setStep, .setLadder, .formatPhase, .fence, .unfence, .domainMap] ∧ Due s c e ∧ s.check e = none ∧ s.plan.openGroup e.idx = none ∧ e.flag 1 = false ∧ Mark.ahead e.target s.mark = true ∧ 5 ≤ Mark.dist e.target s.mark ∧ (e.ty ≤ 3 → s.inUseAt (e.byte 16) e.target = true) ∧ (e.ty = 11 → (s.spur (s.driverSpur e.region)).gates.faultFence = false) ∧ s.plan.sets.filter (fun x => x.takes e.target) = [x] ∧ x.armed = true) ∧
    (∃ (s : State) (e : FbEntry), Due s .unfence e ∧ s.check e = none ∧ s.plan.openGroup e.idx = none ∧ (s.spur (s.driverSpur e.region)).gates.faultFence = true) :=
  ⟨
    ⟨due (desc 10 0 0 1010 []), .fence, desc 10 0 0 1010 [], by decide +kernel, ⟨by decide +kernel, by decide +kernel, by decide +kernel, by decide +kernel⟩, by decide +kernel⟩,
    ⟨((due (desc 10 0 0 1010 [])).modPlan fun p => { p with sets := [{ setAt 1010 with seq := 9, members := [] }] }), .fence, desc 10 0 0 1010 [], ({ setAt 1010 with seq := 9, members := [] } : CommitSet), by decide +kernel, ⟨by decide +kernel, by decide +kernel, by decide +kernel, by decide +kernel⟩, by decide +kernel⟩,
    ⟨((due (desc 10 0 0 1010 [])).modPlan fun p => { p with sets := [{ setAt 1010 with seq := 9, members := [], staged := true, armed := true }] }), .fence, desc 10 0 0 1010 [], ({ setAt 1010 with seq := 9, members := [], staged := true, armed := true } : CommitSet), by decide +kernel, ⟨by decide +kernel, by decide +kernel, by decide +kernel, by decide +kernel⟩, by decide +kernel⟩,
    ⟨((due (desc 11 0 0 1010 [])).modSpur 0 fun x => { x with gates := { x.gates with faultFence := true } }), desc 11 0 0 1010 [], ⟨by decide +kernel, by decide +kernel, by decide +kernel, by decide +kernel⟩, by decide +kernel⟩⟩

/-- States and operands that meet the hypotheses of each clause. -/
theorem wit_OtherDescriptorsWaitForTheirActionOrComplete :
    (∃ (s : State) (e : FbEntry), Due s .nop e ∧ s.check e = none ∧ s.plan.openGroup e.idx = none) ∧
    (∃ (s : State) (e : FbEntry), Due s .marker e ∧ s.check e = none ∧ s.plan.openGroup e.idx = none ∧ s.plan.entry e.idx = some e ∧ ((s.plan.buf.takeWhile fun x => x.idx != e.idx).all fun x => x.set.isNone) = true) ∧
    (∃ (s : State) (e : FbEntry), Due s .waitSync e ∧ s.check e = none ∧ s.plan.openGroup e.idx = none) ∧
    (∃ (s : State) (e : FbEntry), s.plan.groups.length = 4 ∧ Due s .condBegin e ∧ s.check e = none) ∧
    (∃ (s : State) (e : FbEntry) (k : Nat), Due s .condEnd e ∧ s.check e = none ∧ s.plan.openGroup e.idx = some k ∧ (s.plan.group k).st = .opened) ∧
    (∃ (s : State) (c : Instr) (e : FbEntry), (c = .budget ∨ c = .measure) ∧ Due s c e ∧ s.check e = none ∧ s.plan.openGroup e.idx = none ∧ e.flag 1 = false) ∧
    (∃ (s : State) (e : FbEntry), Due s .calWindow e ∧ s.check e = none ∧ s.plan.openGroup e.idx = none ∧ e.flag 1 = false) :=
  ⟨
    ⟨due (desc 14 0 0 0 []), desc 14 0 0 0 [], ⟨by decide +kernel, by decide +kernel, by decide +kernel, by decide +kernel⟩, by decide +kernel⟩,
    ⟨due (desc 13 0 0 0 [5]), desc 13 0 0 0 [5], ⟨by decide +kernel, by decide +kernel, by decide +kernel, by decide +kernel⟩, by decide +kernel⟩,
    ⟨due (desc 4 0 0 0 (le 2 7 ++ le 1 0 ++ le 1 0 ++ le 4 1 ++ le 4 100)), desc 4 0 0 0 (le 2 7 ++ le 1 0 ++ le 1 0 ++ le 4 1 ++ le 4 100), ⟨by decide +kernel, by decide +kernel, by decide +kernel, by decide +kernel⟩, by decide +kernel⟩,
    ⟨due (desc 5 0 3 0 (le 2 7 ++ le 1 0 ++ le 1 0 ++ le 4 1)), desc 5 0 3 0 (le 2 7 ++ le 1 0 ++ le 1 0 ++ le 4 1), by decide +kernel, ⟨by decide +kernel, by decide +kernel, by decide +kernel, by decide +kernel⟩, by decide +kernel⟩,
    ⟨((due (desc 6 0 3 0 [])).modPlan fun p => { p with groups := { Group.free with st := .opened, num := 3, beginIdx := 0xFFFFFFFF, obj := 7, cond := 0, value := 1, sense := true, since := 990, mark := 990 } :: List.replicate 3 Group.free }), desc 6 0 3 0 [], 0, ⟨by decide +kernel, by decide +kernel, by decide +kernel, by decide +kernel⟩, by decide +kernel⟩,
    ⟨due (desc 7 0 0 1010 (le 4 2000 ++ le 1 90 ++ le 1 0)), .budget, desc 7 0 0 1010 (le 4 2000 ++ le 1 90 ++ le 1 0), by decide +kernel, ⟨by decide +kernel, by decide +kernel, by decide +kernel, by decide +kernel⟩, by decide +kernel⟩,
    ⟨due (desc 8 0 0 1100 (le 2 24 ++ le 4 500 ++ le 1 0)), desc 8 0 0 1100 (le 2 24 ++ le 4 500 ++ le 1 0), ⟨by decide +kernel, by decide +kernel, by decide +kernel, by decide +kernel⟩, by decide +kernel⟩⟩

/-- States and operands that meet the hypotheses of each clause. -/
theorem wit_SynchronisationReadsEndWaitsAndGroups :
    (∃ (s : State), s.role.silent = false ∧ s.role.resumeDue = false ∧ s.rdg.started = true ∧ s.tick = 16 ∧ s.plan.readMark ≠ some s.mark) ∧
    (∃ (s : State) (o : Nat) (v : Word) (w : Wait) (e : FbEntry), s.role.silent = false ∧ s.plan.readSent.contains o = true ∧ s.plan.readMark = some s.mark ∧ s.tick ≤ 192 ∧ s.waits = some w ∧ w.obj = o ∧ s.timedOut w = false ∧ holds w.cond v w.value = true ∧ s.plan.entry w.idx = some e) ∧
    (∃ (s : State) (o : Nat) (v : Word) (k : Fin 4), s.role.silent = false ∧ s.plan.readSent.contains o = true ∧ s.plan.readMark = some s.mark ∧ s.tick ≤ 192 ∧ s.waits = none ∧ (∀ j : Fin 4, j ≠ k → s.watches j = false) ∧ s.watches k = true ∧ (s.plan.group k).obj = o ∧ notAfter (s.deadline k) s.mark = false ∧ v.bit 31 = true) ∧
    (∃ (s : State) (k : Fin 4) (e : FbEntry), (s.plan.group k).st.resolved = true ∧ s.plan.entry (s.plan.group k).beginIdx = some e ∧ e.stage ≠ .done) ∧
    (∃ (s : State) (o : Nat), (s.plan.readSent.contains o = false ∨ s.plan.readMark ≠ some s.mark ∨ 192 < s.tick)) ∧
    (∃ (s : State) (w : Wait) (e : FbEntry), s.role.silent = false ∧ s.role.resumeDue = false ∧ s.plan.wait = some w ∧ notAfter (w.since + BitVec.ofNat 40 w.timeout) s.mark = true ∧ s.plan.entry w.idx = some e) ∧
    (∃ (s : State) (k : Fin 4) (e : FbEntry), s.role.silent = false ∧ s.role.resumeDue = false ∧ s.atMark = true ∧ (s.plan.group k).unresolved = true ∧ notAfter (s.deadline k) s.mark = true ∧ s.plan.entry (s.plan.group k).beginIdx = some e ∧ e.stage ≠ .done) :=
  ⟨
    ⟨{ (((due (desc 4 0 0 0 (le 2 7 ++ le 1 0 ++ le 1 0 ++ le 4 1 ++ le 4 100))).modPlan fun p => { p with wait := some { idx := 0, obj := 7, cond := 0, value := 1, timeout := 100, since := 990, last := 0, silent := 0, lateRaised := false } })) with rdg := { up.rdg with ridge := Ridge.ofMark 1000 + 16 } }, by decide +kernel⟩,
    ⟨((due (desc 4 0 0 0 (le 2 7 ++ le 1 0 ++ le 1 0 ++ le 4 1 ++ le 4 100))).modPlan fun p => { p with wait := some { idx := 0, obj := 7, cond := 0, value := 1, timeout := 100, since := 990, last := 0, silent := 0, lateRaised := false }, readSent := [7], readMark := some 1000 }), 7, 1, { idx := 0, obj := 7, cond := 0, value := 1, timeout := 100, since := 990, last := 0, silent := 0, lateRaised := false }, desc 4 0 0 0 (le 2 7 ++ le 1 0 ++ le 1 0 ++ le 4 1 ++ le 4 100), by decide +kernel⟩,
    ⟨((due (desc 5 0 3 0 (le 2 7 ++ le 1 0 ++ le 1 0 ++ le 4 1))).modPlan fun p => { p with groups := { Group.free with st := .opened, num := 3, obj := 7, cond := 0, value := 1, sense := true, since := 990, mark := 990 } :: List.replicate 3 Group.free, readSent := [7], readMark := some 1000 }), 7, 0x80000001, 0, by decide +kernel⟩,
    ⟨((due (desc 5 0 3 0 (le 2 7 ++ le 1 0 ++ le 1 0 ++ le 4 1))).modPlan fun p => { p with groups := { Group.free with st := .loses, num := 3, obj := 7, cond := 0, value := 1, sense := true, since := 990, mark := 990 } :: List.replicate 3 Group.free }), 0, desc 5 0 3 0 (le 2 7 ++ le 1 0 ++ le 1 0 ++ le 4 1), by decide +kernel⟩,
    ⟨on, 7, by decide +kernel⟩,
    ⟨((due (desc 4 0 0 0 (le 2 7 ++ le 1 0 ++ le 1 0 ++ le 4 1 ++ le 4 100))).modPlan fun p => { p with wait := some { idx := 0, obj := 7, cond := 0, value := 1, timeout := 10, since := 990, last := 0, silent := 0, lateRaised := false } }), { idx := 0, obj := 7, cond := 0, value := 1, timeout := 10, since := 990, last := 0, silent := 0, lateRaised := false }, desc 4 0 0 0 (le 2 7 ++ le 1 0 ++ le 1 0 ++ le 4 1 ++ le 4 100), by decide +kernel⟩,
    ⟨((due (desc 5 0 3 0 (le 2 7 ++ le 1 0 ++ le 1 0 ++ le 4 1))).modPlan fun p => { p with groups := { Group.free with st := .opened, num := 3, obj := 7, cond := 0, value := 1, sense := true, since := 1000 - 65536, mark := 990 } :: List.replicate 3 Group.free }), 0, desc 5 0 3 0 (le 2 7 ++ le 1 0 ++ le 1 0 ++ le 4 1), by decide +kernel⟩⟩

/-- States and operands that meet the hypotheses of each clause. -/
theorem wit_BasicControlAndTheWatchdog :
    (∃ (s : State), WordsOk s ∧ s.answers 0x300 = true ∧ s.ringsOn = false) ∧
    (∃ (s : State), s.answers 0x300 = true ∧ s.ringsOn = true) ∧
    (∃ (s : State), (s.word 0xD0050).bit 31 = true ∧ s.ringsOn = true ∧ s.aboveNominal ≠ [] ∧ 1024 * (s.word 0xD0050).bits 15 0 ≤ s.since s.plan.lastFetch) ∧
    (∃ (s : State), s.basic = true ∧ s.role.silent = false ∧ s.faults.noStage = false ∧ s.atMark = true ∧ s.mayStage = true ∧ s.boot.req = 0 ∧ (s.plan.sets.any fun c => c.kind != .host && c.kind != .drop) = false ∧ (s.plan.lastRaise.any fun m => decide (s.since m < 64)) = false ∧ (s.plainContents .basic (s.viewFor s.plan.freshSeq (s.mark + 4)) (s.fencesFor s.plan.freshSeq (s.mark + 4)) [] none).fb.base ≤ (s.viewFor s.plan.freshSeq (s.mark + 4)).base) ∧
    (∃ (s : State), s.basic = true ∧ s.role.silent = false ∧ s.faults.noStage = false ∧ s.atMark = true ∧ s.mayStage = true ∧ s.boot.req = 0 ∧ (s.plan.sets.any fun c => c.kind != .host && c.kind != .drop) = false ∧ (s.plan.lastRaise.any fun m => decide (s.since m < 64)) = false ∧ (s.viewFor s.plan.freshSeq (s.mark + 4)).base < (s.plainContents .basic (s.viewFor s.plan.freshSeq (s.mark + 4)) (s.fencesFor s.plan.freshSeq (s.mark + 4)) [] none).fb.base ∧ (∀ x ∈ s.plan.sets, x.seq ≠ s.plan.freshSeq)) :=
  ⟨
    ⟨up, by unfold WordsOk; decide +kernel, by decide +kernel⟩,
    ⟨on, by decide +kernel⟩,
    ⟨{ on.setWord 0xD0050 0x80000001 with plan := { on.plan with lastFetch := 1000 - 1024 }, fab := { on.fab with doms := on.fab.doms.map fun d => { d with req := 12 } } }, by decide +kernel⟩,
    ⟨{ small (basicAt 0) with fab := { (small up).fab with base := 64, baseReq := 64 } }, by decide +kernel⟩,
    ⟨small (basicAt 1), by decide +kernel⟩⟩

/-- States and operands that meet the hypotheses of each clause. -/
theorem wit_NativeWindowIsFixedOpenedAndClosed :
    (∃ (s : State) (w : Window), s.windowDue = some w ∧ s.atMark = true ∧ s.nativeOk = true ∧ s.role.silent = false ∧ s.boot.pst = .v0 ∧ s.rdg.root ≠ .holdover ∧ s.rdg.calFrom = none ∧ s.cal.floor { w with w := s.mark + 16, fixed := true } = s.mark + 16) ∧
    (∃ (s : State) (w : Window), s.atMark = true ∧ (s.cal.next.toList ++ s.cal.extras).find? (fun w => w.fixed && w.w == s.mark) = some w) ∧
    (∃ (s : State) (n : Fin 425) (w : Window), s.markReady n = true ∧ (s.spur n).gates.splitAt = none ∧ s.cal.cur = some w ∧ w.w = (s.spur n).gen.tallyMark + 1) ∧
    (∃ (s : State) (n : Fin 425), s.markReady n = true ∧ (s.spur n).gates.splitAt = none ∧ s.cal.cur = none ∧ s.cal.prevEnd = some ((s.spur n).gen.tallyMark + 1) ∧ (s.spur n).str.frozen = true) ∧
    (∃ (s : State), s.calLeft 13 = true ∧ s.cal.phase = 0) ∧
    (∃ (s : State) (w : Window), s.cal.cur = some w ∧ s.atMark = true ∧ s.mark = w.w + BitVec.ofNat 40 w.n) :=
  ⟨
    ⟨{ on with cal := { on.cal with next := some { w := 1016, n := 24, once := false, fixed := false } } }, { w := 1016, n := 24, once := false, fixed := false }, by decide +kernel⟩,
    ⟨{ up with cal := { up.cal with next := some { w := 1000, n := 24, once := false, fixed := true } } }, { w := 1000, n := 24, once := false, fixed := true }, by decide +kernel⟩,
    ⟨{ (((up).modSpur 0 fun x => { x with gen := { x.gen with tallyMark := 999, tallyCyc := 255, wrap := true } })) with cal := { (((up).modSpur 0 fun x => { x with gen := { x.gen with tallyMark := 999, tallyCyc := 255, wrap := true } })).cal with cur := some { w := 1000, n := 24, once := false, fixed := true } } }, 0, { w := 1000, n := 24, once := false, fixed := true }, by decide +kernel⟩,
    ⟨{ (((up).modSpur 0 fun x => { x with gen := { x.gen with tallyMark := 999, tallyCyc := 255, wrap := true }, str := { x.str with frozen := true } })) with cal := { (((up).modSpur 0 fun x => { x with gen := { x.gen with tallyMark := 999, tallyCyc := 255, wrap := true }, str := { x.str with frozen := true } })).cal with prevEnd := some 1000 } }, 0, by decide +kernel⟩,
    ⟨{ up with cal := { up.cal with cur := some { w := 965, n := 48, once := false, fixed := true } } }, by decide +kernel⟩,
    ⟨{ ({ up with spurs := up.spurs.map fun x => { x with str := { x.str with frozen := true } } } : State) with cal := { ({ up with spurs := up.spurs.map fun x => { x with str := { x.str with frozen := true } } } : State).cal with cur := some { w := 952, n := 48, once := false, fixed := true } } }, { w := 952, n := 48, once := false, fixed := true }, by decide +kernel⟩⟩

/-- States and operands that meet the hypotheses of each clause. -/
theorem wit_OnlyPlausibleResultsTakeEffect :
    (∃ (s : State) (n : Fin 425) (lo : Nat), (s.spur n).cal.slot = 0 ∧ s.slotEnds 0 = true ∧ (s.spur n).gates.failed = false ∧ s.underTest n = false ∧ 0 < lo) ∧
    (∃ (s : State) (n : Fin 425) (hz : Nat), (s.spur n).cal.slot ≠ 0 ∧ s.slotEnds (s.spur n).cal.slot = true ∧ (s.spur n).gates.failed = false ∧ s.underTest n = false ∧ 0 < hz ∧ 0 < ((s.spur n).cal).gainNow ∧ 102 ≤ (codeFine ((s.spur n).cal).due.2 + roundDiv (((((s.spur n).cal).due.1 * 25000000 : Nat) - (hz : Int)) * 10000000) (hz * ((s.spur n).cal).gainNow)) ∧ (codeFine ((s.spur n).cal).due.2 + roundDiv (((((s.spur n).cal).due.1 * 25000000 : Nat) - (hz : Int)) * 10000000) (hz * ((s.spur n).cal).gainNow)) ≤ 921) ∧
    (∃ (s : State), s.judges = true ∧ s.cal.voided = false) ∧
    (∃ (s : State), s.role.silent = false ∧ s.cal.phase = 2 ∧ s.cal.lateAt = none ∧ s.calLeft 1 = true ∧ s.cal.voided = true) ∧
    (∃ (s : State) (n : Fin 425) (tb : Int) (b : Nat), s.role.silent = false ∧ s.cal.phase = 2 ∧ s.cal.lateAt = none ∧ s.calLeft 1 = true ∧ s.cal.voided = false ∧ (s.spur n).cal.results ≠ [] ∧ (s.spur n).cal.rejected = false ∧ (s.spur n).cal.winTemp = some tb ∧ binOf tb = some b) :=
  ⟨
    ⟨{ up with cal := { up.cal with cur := some { w := 984, n := 48, once := false, fixed := true } } }, 0, 1000, by decide +kernel⟩,
    ⟨{ (((up).modSpur 0 fun x => { x with cal := { x.cal with marked := [(16, some 0x200)], gain := 100, slot := 1 } })) with cal := { (((up).modSpur 0 fun x => { x with cal := { x.cal with marked := [(16, some 0x200)], gain := 100, slot := 1 } })).cal with cur := some { w := 979, n := 48, once := false, fixed := true } } }, 0, 400000000, by decide +kernel⟩,
    ⟨{ up with cal := { up.cal with cur := some { w := 954, n := 48, once := false, fixed := true } } }, by decide +kernel⟩,
    ⟨{ up with cal := { up.cal with cur := some { w := 953, n := 48, once := false, fixed := true }, phase := 2, voided := true } }, by decide +kernel⟩,
    ⟨{ (((up).modSpur 0 fun x => { x with cal := { x.cal with results := [.gain 1000], winTemp := some 900 } })) with cal := { (((up).modSpur 0 fun x => { x with cal := { x.cal with results := [.gain 1000], winTemp := some 900 } })).cal with cur := some { w := 953, n := 48, once := false, fixed := true }, phase := 2 } }, 0, 900, 2, by decide +kernel⟩⟩

/-- States and operands that meet the hypotheses of each clause. -/
theorem wit_TrimsMoveOnlyAtTheirMark :
    (∃ (s : State), (s.atMark = false ∨ s.mark.toNat % 1024 ≠ 0 ∨ (s.word 0xA0000).bit 2 = false ∨ s.cal.recompAt = some s.mark)) ∧
    (∃ (s : State), s.atMark = true ∧ s.mark.toNat % 1024 = 0 ∧ (s.word 0xA0000).bit 2 = true ∧ s.cal.recompAt ≠ some s.mark ∧ s.hri.agreed ≠ 1) ∧
    (∃ (s : State) (n : Fin 425) (m : Mark) (x : Trims), (s.spur n).cal.staged = some (m, x) ∧ (s.spur n).cal.writes = [] ∧ s.atCycle0 n = true) ∧
    (∃ (s : State) (r : Fin 400), portKind r = 0 ∧ (s.spur r).gates.calHold = false) ∧
    (∃ (r : Fin 400), portKind r ≠ 0) ∧
    (∃ (s : State) (n : Fin 425) (q : Fin 8), s.gapOpen n = true ∧ s.gapFits n q = true ∧ s.sweepLacks n q = true ∧ nth (s.spur n).cal.gapSteps q < 15 ∧ (s.spur n).cal.gapSteps.length = 8) ∧
    (∃ (s : State) (n : Fin 425) (q : Fin 4) (raw : Int), s.gapOpen n = true ∧ s.gapFits n (8 + q) = true ∧ s.sweepLacks n (8 + q) = true ∧ -96 ≤ raw ∧ raw ≤ 96) ∧
    (∃ (s : State) (n : Fin 425) (r : Nat), s.gapMode = true ∧ s.noResults n = false ∧ s.regionOf n = some r ∧ portKind r = 0) :=
  ⟨
    ⟨up, by decide +kernel⟩,
    ⟨{ on with rdg := { up.rdg with ridge := Ridge.ofMark 1024 } }, by decide +kernel⟩,
    ⟨((up).modSpur 0 fun x => { x with cal := { x.cal with staged := some (1000, x.cal.trims) } }), 0, 1000, (up.spur 0).cal.trims, rfl, rfl, by decide +kernel⟩,
    ⟨up, 21, by decide +kernel⟩,
    ⟨4, by decide +kernel⟩,
    ⟨up, 400, 0, by decide +kernel⟩,
    ⟨up, 400, 0, 0, by decide +kernel⟩,
    ⟨up, 21, 21, by decide +kernel⟩⟩

/-- States and operands that meet the hypotheses of each clause. -/
theorem wit_TraceabilityWindowSettingsAndSensors :
    (∃ (s : State), s.lko.bgRef = true) ∧
    (∃ (s : State), WordsOk s ∧ s.answers 0xA0004 = true ∧ s.ringsOn = false) ∧
    (∃ (s : State), s.answers 0xA0004 = true ∧ s.ringsOn = true) ∧
    (∃ (s : State), WordsOk s ∧ s.answers 0xA0000 = true ∧ s.locked = false) ∧
    (∃ (s : State) (n : Fin 425), s.sensOver n = none ∧ ((s.spur n).cal.had0 = false ∨ s.cal.cur ≠ none ∨ 16 ≤ s.since (s.spur n).cal.conv0)) ∧
    (∃ (s : State) (n : Fin 425), s.sensOver n = none ∧ ((s.spur n).cal.had1 = false ∨ s.cal.cur ≠ none ∨ 16 ≤ s.since (s.spur n).cal.conv1)) :=
  ⟨
    ⟨{ up with lko := { up.lko with bgRef := true } }, by decide +kernel⟩,
    ⟨up, by unfold WordsOk; decide +kernel, by decide +kernel⟩,
    ⟨on, by decide +kernel⟩,
    ⟨up, by unfold WordsOk; decide +kernel, by decide +kernel⟩,
    ⟨up, 0, by decide +kernel⟩,
    ⟨up, 0, by decide +kernel⟩⟩

/-- States and operands that meet the hypotheses of each clause. -/
theorem wit_SavesGoToTheBankNotInUse :
    (∃ (s : State), s.answers 0xA0800 = true ∧ s.crn.unusable = false) ∧
    (∃ (s : State), s.crn.unusable = true) ∧
    (∃ (s : State), s.saveReady = true ∧ s.crn.nextSeq s.crn.target < 0xFFFFFFFF) ∧
    (∃ (s : State), s.saveReady = false) ∧
    (∃ (s : State) (n : Nat), s.crn.saving = true ∧ s.crn.recSpurs = [] ∧ n ≤ 425 ∧ s.spurs.toList.all Spur.recordable = true) ∧
    (∃ (s : State), s.crn.saving = true) ∧
    (∃ (s : State), s.answers 0xA0800 = true ∧ s.lcs.st = .provisioned ∧ s.crn.unusable = false ∧ s.crn.saving = false) ∧
    (∃ (s : State), s.answers 0xA0800 = true ∧ s.lcs.st = .provisioned ∧ s.crn.unusable = false ∧ s.crn.saving = true) ∧
    (∃ (s : State), s.answers 0xA0800 = true ∧ s.lcs.st ≠ .provisioned) :=
  ⟨
    ⟨up, by decide +kernel⟩,
    ⟨{ up with crn := { up.crn with unusable := true } }, by decide +kernel⟩,
    ⟨{ up with crn := { up.crn with pending := true } }, by decide +kernel⟩,
    ⟨up, by decide +kernel⟩,
    ⟨{ up with crn := { up.crn with saving := true } }, 425, by decide +kernel⟩,
    ⟨{ up with crn := { up.crn with saving := true } }, by decide +kernel⟩,
    ⟨up, by decide +kernel⟩,
    ⟨{ up with crn := { up.crn with saving := true } }, by decide +kernel⟩,
    ⟨{ up with lcs := { up.lcs with st := .service } }, by decide +kernel⟩⟩

/-- States and operands that meet the hypotheses of each clause. -/
theorem wit_MeasurementsArmTakeEdgesAndEnd :
    (∃ (s : State) (c : Fin 6) (own : Readings) (stop : Readings), s.answers (chanAddr c 0xC) = true ∧ s.armRefusal c false = none ∧ s.armPasses c false own stop = true) ∧
    (∃ (s : State) (c : Fin 6), s.answers (chanAddr c 0xC) = true ∧ s.armRefusal c false = some 2) ∧
    (∃ (s : State) (c : Fin 6) (r : _), s.answers (chanAddr c 0xC) = true ∧ s.armRefusal c false = some r ∧ r ≠ 2) ∧
    (∃ (s : State) (c : Fin 6) (own : Readings) (stop : Readings), s.answers (chanAddr c 0xC) = true ∧ s.armRefusal c false = none ∧ s.armPasses c false own stop = false) ∧
    (∃ (s : State) (c : Fin 6) (root : Fin 10) (code : Nat) (fl : Bool), s.lko.timerLock = true ∧ (s.chan c).armed = true ∧ (s.chan c).freq = false ∧ (s.chan c).paired = false ∧ s.claimer c = none ∧ polOk ((s.chCfg c).bits 1 0) fl = true ∧ (((s.chan c).lastTs != 0 && decide (fineOf (s.stamp c root code) < fineOf (s.chan c).lastTs + s.deadTime c)) || s.stillArming c (s.stamp c root code)) = true) ∧
    (∃ (s : State) (c : Fin 6) (root : Fin 10) (code : Nat) (fl : Bool), s.lko.timerLock = true ∧ (s.chan c).armed = true ∧ (s.chan c).freq = false ∧ (s.chan c).paired = false ∧ s.claimer c = none ∧ polOk ((s.chCfg c).bits 1 0) fl = true ∧ (((s.chan c).lastTs != 0 && decide (fineOf (s.stamp c root code) < fineOf (s.chan c).lastTs + s.deadTime c)) || s.stillArming c (s.stamp c root code)) = false ∧ s.overtime (s.chan c) = false ∧ (s.chan c).taken + 1 < (s.chan c).count) ∧
    (∃ (s : State) (c : Fin 6) (root : Fin 10) (code : Nat) (fl : Bool), s.lko.timerLock = true ∧ (s.chan c).armed = true ∧ (s.chan c).freq = false ∧ (s.chan c).paired = false ∧ s.claimer c = none ∧ polOk ((s.chCfg c).bits 1 0) fl = true ∧ (((s.chan c).lastTs != 0 && decide (fineOf (s.stamp c root code) < fineOf (s.chan c).lastTs + s.deadTime c)) || s.stillArming c (s.stamp c root code)) = false ∧ s.overtime (s.chan c) = false ∧ (s.chan c).owner = .register ∧ (s.chan c).count = (s.chan c).taken + 1) ∧
    (∃ (s : State) (c : Fin 6) (k : Fin 6) (root : Fin 10) (code : Nat) (fl : Bool), s.lko.timerLock = true ∧ k ≠ c ∧ s.claimer c = some k.val ∧ (s.chan c).armed = false ∧ (s.chCfg k).bit 10 = fl ∧ (s.chan c).lastTs = 0 ∧ s.stillArming c (s.stamp c root code) = false ∧ s.overtime (s.chan k) = false ∧ (s.chan k).taken + 1 < (s.chan k).count) ∧
    (∃ (s : State) (c : Fin 6) (root : Fin 10) (code : Nat) (fl : Bool), s.lko.timerLock = true ∧ (s.chan c).armed = true ∧ (s.chan c).freq = false ∧ (s.chan c).paired = true ∧ s.claimer c = none ∧ polOk ((s.chCfg c).bits 1 0) fl = true ∧ (s.chan c).lastTs = 0 ∧ s.stillArming c (s.stamp c root code) = false ∧ s.overtime (s.chan c) = false) ∧
    (∃ (s : State), s.lko.timerLock = false) ∧
    (∃ (s : State) (c : Fin 6), (s.chan c).armed = true ∧ (s.chan c).owner = .register ∧ (s.chan c).freq = false) ∧
    (∃ (s : State), s.lko.timerLock = true) :=
  ⟨
    ⟨up, 0, ⟨64, 128⟩, ⟨64, 128⟩, by decide +kernel⟩,
    ⟨((up).modChan 0 fun x => { x with armed := true }), 0, by decide +kernel⟩,
    ⟨{ up with lko := { up.lko with calrefDeclared := false } }, 5, 6, by decide +kernel⟩,
    ⟨up, 0, ⟨0, 0⟩, ⟨0, 0⟩, by decide +kernel⟩,
    ⟨((up).modChan 0 fun x => { x with armed := true, count := 4, lastTs := 0x3E800000 }), 0, 0, 0, false, by decide +kernel⟩,
    ⟨((up).modChan 0 fun x => { x with armed := true, count := 4, limit := 9, armMark := 1000 }), 0, 0, 0, false, by decide +kernel⟩,
    ⟨((up).modChan 0 fun x => { x with armed := true, count := 1, owner := .register, limit := 9, armMark := 1000 }), 0, 0, 0, false, by decide +kernel⟩,
    ⟨((up).modChan 1 fun x => { x with armed := true, paired := true, stopCh := 2, count := 4, limit := 9, armMark := 1000 }), 2, 1, 0, 0, false, by decide +kernel⟩,
    ⟨((up).modChan 1 fun x => { x with armed := true, paired := true, stopCh := 2, count := 4, limit := 9, armMark := 1000 }), 1, 0, 0, false, by decide +kernel⟩,
    ⟨{ up with lko := { up.lko with timerLock := false } }, by decide +kernel⟩,
    ⟨((up).modChan 0 fun x => { x with armed := true, count := 4, owner := .register }), 0, by decide +kernel⟩,
    ⟨up, by decide +kernel⟩⟩

/-- States and operands that meet the hypotheses of each clause. -/
theorem wit_TimeOfDayTicksIsSetAndSnapshot :
    (∃ (s : State), s.boot.pst ≠ .v2 ∧ s.boot.pst ≠ .v3 ∧ s.lko.lost = false) ∧
    (∃ (s : State), s.boot.pst = .v3) ∧
    (∃ (s : State), s.answers 0x10010 = true) ∧
    (∃ (s : State), s.atMark = true ∧ s.lko.lost = false ∧ s.lko.snapAt ≠ some s.mark) ∧
    (∃ (s : State) (m : _), (s.word 0x10050).bit 30 = true ∧ s.lko.ppsMissing = false ∧ s.lko.ppsAt = some m ∧ 2343750 ≤ s.since m) ∧
    (∃ (s : State), (s.word 0x10050).bit 30 = true ∧ s.lko.ppsMissing = true) ∧
    (∃ (s : State) (b : _), s.rdg.selected = some b ∧ s.rdg.lock = true ∧ (s.rdg.ref b).qual = true ∧ (s.lko.loAt.all fun m => decide (2048 ≤ s.since m)) = true) ∧
    (∃ (s : State), s.rdg.selected = none) ∧
    (∃ (s : State) (ws : List Int) (temp : Int) (b : _), s.lko.density = true ∧ itemFault Saddle.reset (.timer 0 ws) = none ∧ binOf temp = some b ∧ b < s.lko.bins.length) ∧
    (∃ (s : State) (ws : List Int) (p : _), s.lko.density = true ∧ itemFault Saddle.reset (.timer 0 ws) = some p) ∧
    (∃ (s : State), s.lko.lost = false) ∧
    (∃ (s : State), s.lko.lost = true) :=
  ⟨
    ⟨up, by decide +kernel⟩,
    ⟨{ up with boot := { up.boot with pst := .v3 } }, by decide +kernel⟩,
    ⟨up, by decide +kernel⟩,
    ⟨up, by decide +kernel⟩,
    ⟨{ (upWords [(0x10050, 0x40640000)]) with lko := { (upWords [(0x10050, 0x40640000)]).lko with ppsAt := some (1000 - 2343750) } }, 1000 - 2343750, by decide +kernel⟩,
    ⟨{ (upWords [(0x10050, 0x40640000)]) with lko := { (upWords [(0x10050, 0x40640000)]).lko with ppsMissing := true } }, by decide +kernel⟩,
    ⟨up, false, by decide +kernel⟩,
    ⟨{ up with rdg := { up.rdg with root := .holdover } }, by decide +kernel⟩,
    ⟨{ up with lko := { up.lko with density := true } }, [], 900, 2, by decide +kernel⟩,
    ⟨{ up with lko := { up.lko with density := true } }, [100], (5, 100), by decide +kernel⟩,
    ⟨up, by decide +kernel⟩,
    ⟨{ up with lko := { up.lko with lost := true } }, by decide +kernel⟩⟩

/-- States and operands that meet the hypotheses of each clause. -/
theorem wit_OnDemandTestsRunJudgeAndReturn :
    (∃ (s : State), s.answers 0xB0000 = true ∧ (s.lcs.st = .blank ∨ s.lcs.st = .deployed) ∧ s.testRuns = false) ∧
    (∃ (s : State), s.answers 0xB0000 = true ∧ s.testOpen = true ∧ s.testRuns = true) ∧
    (∃ (s : State) (n : Fin 400), s.answers 0xB0000 = true ∧ WordsOk s ∧ s.testOpen = true ∧ s.testRuns = false ∧ (s.word 0xB0004).bits 31 30 = 0 ∧ (s.word 0xB0004).bits 8 0 = n ∧ (s.spur n).gates.driver = .own ∧ s.spareIdle (fieldOf n) = true ∧ 16 ≤ s.bstFcap n) ∧
    (∃ (s : State) (n : Fin 425), s.answers 0xB0000 = true ∧ s.testOpen = true ∧ s.testRuns = false ∧ (s.word 0xB0004).bits 31 30 = 0 ∧ (s.word 0xB0004).bits 8 0 = n ∧ ((400 ≤ n.val ∧ s.spareFree (fieldOf n) = true) ∨ (n.val < 400 ∧ (s.spur n).gates.driver ≠ .own)) ∧ 16 ≤ s.bstFcap n) ∧
    (∃ (s : State) (n : Fin 400), s.answers 0xB0000 = true ∧ s.testOpen = true ∧ s.testRuns = false ∧ (s.word 0xB0004).bits 31 30 = 0 ∧ (s.word 0xB0004).bits 8 0 = n ∧ (s.spur n).gates.driver = .own ∧ s.spareFree (fieldOf n) = true ∧ 16 ≤ s.bstFcap n ∧ (s.spur (400 + fieldOf n)).gates.failed = true) ∧
    (∃ (s : State) (f : Fin 25), s.answers 0xB0000 = true ∧ s.testOpen = true ∧ s.testRuns = false ∧ (s.word 0xB0004).bits 31 30 = 1 ∧ (s.word 0xB0004).bits 8 0 = f ∧ s.otherHealthy f ((s.word 0xB0004).bits 14 14) = true) ∧
    (∃ (s : State), s.answers 0xB0000 = true ∧ s.bist.kind = 0 ∧ 2 ≤ s.bist.phase ∧ s.bist.phase ≤ 4) ∧
    (∃ (s : State), s.bist.kind = 0 ∧ s.bist.unit < 425 ∧ s.bist.phase = 4 ∧ 6 ≤ s.bistAge) ∧
    (∃ (s : State) (sig : BitVec 64), s.bist.kind = 1 ∧ s.bist.phase = 4 ∧ 6 ≤ s.bistAge ∧ s.expected = some sig) ∧
    (∃ (s : State) (f : Fin 25) (src : Fin 5), s.rdg.started = true ∧ s.bist.kind = 0 ∧ fieldOf s.bist.unit = f ∧ 2 ≤ s.bist.phase ∧ s.bist.phase ≤ 4 ∧ s.envSource f src = true) ∧
    (∃ (s : State), s.returns = true ∧ s.bist.handover = true ∧ s.bist.kind = 0 ∧ s.bist.unit < 400 ∧ (s.spur s.bist.unit).gates.driver = .spare ∧ s.bist.holdWaits = false) ∧
    (∃ (s : State) (f : Fin 25), f.val ∈ s.bist.aborted ∧ f.val ∉ s.bist.repeated) :=
  ⟨
    ⟨{ up with lcs := { up.lcs with st := .blank } }, by decide +kernel⟩,
    ⟨{ up with bist := { up.bist with phase := 2 } }, by decide +kernel⟩,
    ⟨upWords [(0xB0004, 5)], 5, by decide +kernel, by unfold WordsOk; decide +kernel, by decide +kernel⟩,
    ⟨upWords [(0xB0004, 400)], 400, by decide +kernel⟩,
    ⟨((up).modSpur 400 fun x => { x with gates := { x.gates with failed := true } }), 0, by decide +kernel⟩,
    ⟨upWords [(0xB0004, 0x40000005)], 5, by decide +kernel⟩,
    ⟨{ up with bist := { up.bist with phase := 3 } }, by decide +kernel⟩,
    ⟨{ up with bist := { up.bist with phase := 4, since := 990 } }, by decide +kernel⟩,
    ⟨{ ({ up with crn := { up.crn with fOk := true, colSigs := [[5]] } }) with bist := { ({ up with crn := { up.crn with fOk := true, colSigs := [[5]] } }).bist with kind := 1, phase := 4, since := 990, pow := 12 } }, 5, by decide +kernel⟩,
    ⟨{ up with bist := { up.bist with phase := 3, fcap := 200 }, rdg := { up.rdg with started := true } }, 0, 0, by decide +kernel⟩,
    ⟨(({ (((up).modSpur 0 fun x => { x with gates := { x.gates with driver := .spare } }) : State) with bist := { (((up).modSpur 0 fun x => { x with gates := { x.gates with driver := .spare } }) : State).bist with phase := 6, locked := true, handover := true } }).modCol 0 fun c => { c with spare := { c.spare with returning := true, aligned := true } }), by decide +kernel⟩,
    ⟨{ up with bist := { up.bist with aborted := [3] } }, 3, by decide +kernel⟩⟩

/-- States and operands that meet the hypotheses of each clause. -/
theorem wit_FieldSpareTracksAndTakesTheRegion :
    (∃ (s : State) (f : Fin 25) (r : Fin 400), fieldOf r = f.val ∧ (s.col f).spare.driving = false ∧ s.spareIdle f = true ∧ s.dark r = false) ∧
    (∃ (s : State) (f : Fin 25), (s.col f).spare.track = true ∧ (s.col f).spare.run = 16) ∧
    (∃ (s : State) (f : Fin 25) (r : Fin 400), (s.col f).spare.target = r ∧ (s.col f).spare.aligned = true ∧ (s.col f).spare.track = true ∧ (s.col f).spare.returning = false ∧ (s.spur r).gates.driver = .own ∧ s.cal.cur = none ∧ s.atCycle0 (400 + f) = true ∧ (s.spur (400 + f)).gen.commitHere = false) ∧
    (∃ (s : State) (f : Fin 25) (r : Fin 400), (s.col f).spare.target = r ∧ (s.col f).spare.aligned = true ∧ (s.col f).spare.returning = true ∧ (s.spur r).gates.driver = .spare ∧ s.underTest r = false ∧ s.cal.cur = none ∧ s.atCycle0 r = true ∧ (s.spur (400 + f)).gen.commitHere = false) ∧
    (∃ (s : State) (f : Fin 25) (r : Fin 400), (s.col f).spare.target = r ∧ (s.col f).spare.track = true ∧ (s.col f).spare.aligned = false ∧ s.cal.cur = none ∧ s.atCycle0 (400 + f) = true ∧ (s.spur (400 + f)).gen.commitHere = false ∧ notAfter ((s.col f).spare.since + 4) (s.spur (400 + f)).gen.tallyMark = true) :=
  ⟨
    ⟨up, 0, 0, by decide +kernel⟩,
    ⟨((up).modCol 0 fun c => { c with spare := { c.spare with track := true, run := 16 } }), 0, by decide +kernel⟩,
    ⟨((up).modCol 0 fun c => { c with spare := { c.spare with track := true, aligned := true } }), 0, 0, by decide +kernel⟩,
    ⟨((((up).modCol 0 fun c => { c with spare := { c.spare with aligned := true, returning := true } })).modSpur 0 fun x => { x with gates := { x.gates with driver := .spare } }), 0, 0, by decide +kernel⟩,
    ⟨((up).modCol 0 fun c => { c with spare := { c.spare with track := true, since := 990 } }), 0, 0, by decide +kernel⟩⟩

/-- States and operands that meet the hypotheses of each clause. -/
theorem wit_FailedSpurIsAnsweredBySpareBorrowOrDark :
    (∃ (s : State) (n : Fin 425) (i : Incident), s.faults.opened.getD 3 none = some i ∧ i.unit = n ∧ s.faults.storm = false ∧ s.role.silent = false ∧ s.atMark = true ∧ (s.col (fieldOf n)).repMark ≠ some s.mark ∧ (s.spur n).gates.failed = true ∧ s.testRuns = false ∧ n.val < 400 ∧ s.regionOf n = some n.val ∧ s.spareIdle (fieldOf n) = true) ∧
    (∃ (s : State) (n : Fin 425) (i : Incident) (r : Fin 400) (l : _), s.faults.opened.getD 3 none = some i ∧ i.unit = n ∧ s.faults.storm = false ∧ s.role.silent = false ∧ s.atMark = true ∧ (s.col (fieldOf n)).repMark ≠ some s.mark ∧ (s.spur n).gates.failed = true ∧ s.testRuns = false ∧ s.regionOf n = some r.val ∧ s.clockedBy r = some n.val ∧ (400 ≤ n.val ∨ (s.spareIdle (fieldOf n) = false ∧ (s.col (fieldOf n)).spare.track = false)) ∧ s.lentTo r = none ∧ (s.col (fieldOf r)).borrow = none ∧ s.lenderFor r none = some l) ∧
    (∃ (s : State) (n : Fin 425) (i : Incident) (r : Fin 400), s.faults.opened.getD 3 none = some i ∧ i.unit = n ∧ s.faults.storm = false ∧ s.role.silent = false ∧ s.atMark = true ∧ (s.col (fieldOf n)).repMark ≠ some s.mark ∧ (s.spur n).gates.failed = true ∧ s.testRuns = false ∧ s.regionOf n = some r.val ∧ s.clockedBy r = some n.val ∧ (400 ≤ n.val ∨ (s.spareIdle (fieldOf n) = false ∧ (s.col (fieldOf n)).spare.track = false)) ∧ s.lentTo r = none ∧ (s.col (fieldOf r)).borrow = none ∧ s.lenderFor r none = none) ∧
    (∃ (s : State) (n : Fin 425) (i : Incident), s.faults.opened.getD 3 none = some i ∧ i.unit = n ∧ s.faults.storm = false ∧ s.role.silent = false ∧ s.atMark = true ∧ (s.col (fieldOf n)).repMark ≠ some s.mark ∧ (s.spur n).gates.failed = true ∧ s.testRuns = false ∧ s.regionOf n = none ∧ s.splitDark n = false ∧ s.splitTaken n = false) ∧
    (∃ (s : State) (r : Fin 400), s.cal.cur = none ∧ s.failureTold (s.driverSpur r) = true ∧ s.noSpareFor (s.driverSpur r) r = true) :=
  ⟨
    ⟨{ ((up).modSpur 0 fun x => { x with gates := { x.gates with failed := true } }) with faults := { ((up).modSpur 0 fun x => { x with gates := { x.gates with failed := true } }).faults with opened := [none, none, none, some ({ cls := 3, sev := .degraded, ev := .spurFailed, unit := 0 } : Incident), none, none, none, none] } }, 0, ({ cls := 3, sev := .degraded, ev := .spurFailed, unit := 0 } : Incident), by decide +kernel⟩,
    ⟨{ ((((up).modSpur 0 fun x => { x with gates := { x.gates with failed := true } })).modSpur 400 fun x => { x with gates := { x.gates with failed := true } }) with faults := { ((((up).modSpur 0 fun x => { x with gates := { x.gates with failed := true } })).modSpur 400 fun x => { x with gates := { x.gates with failed := true } }).faults with opened := [none, none, none, some ({ cls := 3, sev := .degraded, ev := .spurFailed, unit := 0 } : Incident), none, none, none, none] } }, 0, ({ cls := 3, sev := .degraded, ev := .spurFailed, unit := 0 } : Incident), 0, 1, by decide +kernel⟩,
    ⟨{ ((((((up).modSpur 0 fun x => { x with gates := { x.gates with failed := true } })).modSpur 400 fun x => { x with gates := { x.gates with failed := true } }).modSpur 1 fun x => { x with gates := { x.gates with driver := .dark } }).modSpur 20 fun x => { x with gates := { x.gates with driver := .dark } }) with faults := { ((((((up).modSpur 0 fun x => { x with gates := { x.gates with failed := true } })).modSpur 400 fun x => { x with gates := { x.gates with failed := true } }).modSpur 1 fun x => { x with gates := { x.gates with driver := .dark } }).modSpur 20 fun x => { x with gates := { x.gates with driver := .dark } }).faults with opened := [none, none, none, some ({ cls := 3, sev := .degraded, ev := .spurFailed, unit := 0 } : Incident), none, none, none, none] } }, 0, ({ cls := 3, sev := .degraded, ev := .spurFailed, unit := 0 } : Incident), 0, by decide +kernel⟩,
    ⟨{ ((up).modSpur 400 fun x => { x with gates := { x.gates with failed := true } }) with faults := { ((up).modSpur 400 fun x => { x with gates := { x.gates with failed := true } }).faults with opened := [none, none, none, some ({ cls := 3, sev := .degraded, ev := .spurFailed, unit := 400 } : Incident), none, none, none, none] } }, 400, ({ cls := 3, sev := .degraded, ev := .spurFailed, unit := 400 } : Incident), by decide +kernel⟩,
    ⟨((((up).modSpur 0 fun x => { x with gates := { x.gates with failed := true } })).modSpur 400 fun x => { x with gates := { x.gates with failed := true } }), 0, by decide +kernel⟩⟩

/-- States and operands that meet the hypotheses of each clause. -/
theorem wit_BorrowWaitsConnectsAndEnds :
    (∃ (s : State) (f : Fin 25) (b : Borrow), (s.col f).borrow = some b ∧ b.connected = false ∧ b.ready = false ∧ s.atCycle0 (s.driverSpur b.lender) = true ∧ s.quietMark b.region = true) ∧
    (∃ (s : State) (f : Fin 25) (b : Borrow), (s.col f).borrow = some b ∧ b.connected = false ∧ b.ready = false ∧ s.atCycle0 (s.driverSpur b.lender) = true ∧ s.quietMark b.region = false ∧ s.since b.since < 64) ∧
    (∃ (s : State) (f : Fin 25) (b : Borrow), (s.col f).borrow = some b ∧ b.connected = false ∧ b.ready = false ∧ s.atCycle0 (s.driverSpur b.lender) = true ∧ s.quietMark b.region = false ∧ 64 ≤ s.since b.since) ∧
    (∃ (s : State) (f : Fin 25) (b : Borrow) (r : Fin 400) (k : Fin 760), (s.col f).borrow = some b ∧ b.connected = false ∧ b.ready = true ∧ s.cal.cur = none ∧ b.region = r ∧ fieldOf b.region = f ∧ sadBetween b.region b.lender = k ∧ sadOther k b.region = b.lender ∧ k.val ∈ sadsOf b.region ∧ b.lender < 400 ∧ (s.spur b.lender).gates.driver = .own ∧ s.atCycle0 b.lender = true ∧ Mark.ahead (s.spur b.lender).gen.tallyMark b.quietAt = true) ∧
    (∃ (s : State) (f : Fin 25) (b : Borrow) (r : Fin 400), (s.col f).borrow = some b ∧ b.region = r ∧ fieldOf r = f.val ∧ b.connected = true ∧ (s.col f).spare.aligned = true ∧ (s.col f).spare.target = r ∧ (s.col f).spare.returning = true ∧ s.underTest r = false ∧ s.atCycle0 r = true) :=
  ⟨
    ⟨((up).modCol 0 fun c => { c with borrow := some { region := 0, lender := 1, since := 1000, ready := false, quietAt := 999, connected := false } }), 0, { region := 0, lender := 1, since := 1000, ready := false, quietAt := 999, connected := false }, by decide +kernel⟩,
    ⟨((((up).modSpur 1 fun x => { x with str := { x.str with debt := 5 } })).modCol 0 fun c => { c with borrow := some { region := 0, lender := 1, since := 1000, ready := false, quietAt := 999, connected := false } }), 0, { region := 0, lender := 1, since := 1000, ready := false, quietAt := 999, connected := false }, by decide +kernel⟩,
    ⟨((((up).modSpur 1 fun x => { x with str := { x.str with debt := 5 } })).modCol 0 fun c => { c with borrow := some { region := 0, lender := 1, since := 936, ready := false, quietAt := 999, connected := false } }), 0, { region := 0, lender := 1, since := 936, ready := false, quietAt := 999, connected := false }, by decide +kernel⟩,
    ⟨((up).modCol 0 fun c => { c with borrow := some { region := 0, lender := 1, since := 990, ready := true, quietAt := 999, connected := false } }), 0, { region := 0, lender := 1, since := 990, ready := true, quietAt := 999, connected := false }, 0, 0, by decide +kernel⟩,
    ⟨((((up).modCol 0 fun c => { c with borrow := some { region := 0, lender := 1, since := 990, ready := true, quietAt := 999, connected := true } })).modCol 0 fun c => { c with spare := { c.spare with aligned := true, returning := true } }), 0, { region := 0, lender := 1, since := 990, ready := true, quietAt := 999, connected := true }, 0, by decide +kernel⟩⟩

/-- States and operands that meet the hypotheses of each clause. -/
theorem wit_IncidentsStormFatalStateAndRelease :
    (∃ (s : State) (c : Fin 8), s.role.silent = false ∧ s.atMark = true ∧ s.faults.storm = false ∧ s.faults.queuedOf c = none) ∧
    (∃ (s : State) (c : Fin 8) (i : _), s.role.silent = false ∧ s.atMark = true ∧ s.faults.storm = false ∧ s.faults.queuedOf c = some i ∧ s.faults.opened.getD c none = none) ∧
    (∃ (s : State) (c : Fin 8) (i : _) (j : _), s.role.silent = false ∧ s.atMark = true ∧ s.faults.storm = false ∧ s.faults.queuedOf c = some i ∧ s.faults.opened.getD c none = some j ∧ s.faults.opened.length = 8 ∧ sevRank j.sev < sevRank i.sev ∧ s.canSuspend j = true) ∧
    (∃ (s : State) (i : Incident) (r : Fin 400), s.role.silent = false ∧ s.atMark = true ∧ s.faults.storm = true ∧ s.faults.stormNext = some i ∧ i.cls = 3 ∧ s.faults.takenAt ≠ some s.mark ∧ s.regionOf i.unit = some r.val ∧ s.clockedBy r = some i.unit) ∧
    (∃ (s : State), s.faults.overflow = []) ∧
    (∃ (s : State), s.faults.overflow ≠ [] ∧ s.faults.storm = false) ∧
    (∃ (s : State), s.faults.pending = []) ∧
    (∃ (s : State) (e : _) (rest : _), s.faults.pending = e :: rest) ∧
    (∃ (s : State), s.answers 0x704 = true ∧ s.faults.storm = true ∧ s.faults.queue = [] ∧ s.faults.overflow = [] ∧ s.faults.otherFatal = false ∧ s.faults.forceSafe = true) ∧
    (∃ (s : State), s.answers 0x704 = true ∧ (s.faults.storm = false ∨ s.faults.queue ≠ [])) ∧
    (∃ (s : State) (f : Fin 25) (p : Fin 17), s.answers (colAddr f 0x48) = true ∧ s.testOpen = true ∧ (s.spur (spurAt f p)).gates.failed = true ∧ (s.spur (spurAt f p)).gates.testPassed = true ∧ (spurAt f p) ∉ s.faults.stormDark) ∧
    (∃ (s : State) (f : Fin 25) (p : Fin 17), s.answers (colAddr f 0x48) = true ∧ s.testOpen = true ∧ (s.spur (spurAt f p)).gates.testPassed = false) ∧
    (∃ (s : State) (f : Fin 25), s.answers (colAddr f 0x48) = true ∧ s.testOpen = true ∧ (s.col f).testPassed = true ∧ ((s.col f).pFailed = true ∨ (s.col f).sFailed = true)) :=
  ⟨
    ⟨up, 0, by decide +kernel⟩,
    ⟨{ up with faults := { up.faults with queue := [({ cls := 3, sev := .degraded, ev := .spurFailed, unit := 0 } : Incident)] } }, 3, ({ cls := 3, sev := .degraded, ev := .spurFailed, unit := 0 } : Incident), by decide +kernel⟩,
    ⟨{ ({ up with faults := { up.faults with opened := [none, none, none, some ({ cls := 3, sev := .degraded, ev := .spurFailed, unit := 1 } : Incident), none, none, none, none] } } : State) with faults := { ({ up with faults := { up.faults with opened := [none, none, none, some ({ cls := 3, sev := .degraded, ev := .spurFailed, unit := 1 } : Incident), none, none, none, none] } } : State).faults with queue := [({ cls := 3, sev := .fatal, ev := .spurFailed, unit := 0 } : Incident)] } }, 3, ({ cls := 3, sev := .fatal, ev := .spurFailed, unit := 0 } : Incident), ({ cls := 3, sev := .degraded, ev := .spurFailed, unit := 1 } : Incident), by decide +kernel⟩,
    ⟨{ up with faults := { up.faults with storm := true, opened := [none, none, none, some ({ cls := 3, sev := .degraded, ev := .spurFailed, unit := 0 } : Incident), none, none, none, none] } }, ({ cls := 3, sev := .degraded, ev := .spurFailed, unit := 0 } : Incident), 0, by decide +kernel⟩,
    ⟨up, by decide +kernel⟩,
    ⟨{ up with faults := { up.faults with overflow := [({ cls := 3, sev := .degraded, ev := .spurFailed, unit := 0 } : Incident)] } }, by decide +kernel⟩,
    ⟨up, by decide +kernel⟩,
    ⟨{ up with faults := { up.faults with pending := [({ ev := .summitLost, sev := .fatal, kind := 1, idx := 0, time := 0, epoch := 0, detail := [] } : EventRec)] } }, ({ ev := .summitLost, sev := .fatal, kind := 1, idx := 0, time := 0, epoch := 0, detail := [] } : EventRec), [], by decide +kernel⟩,
    ⟨{ up with faults := { up.faults with storm := true, forceSafe := true } }, by decide +kernel⟩,
    ⟨up, by decide +kernel⟩,
    ⟨((up).modSpur 0 fun x => { x with gates := { x.gates with failed := true, testPassed := true } }), 0, 0, by decide +kernel⟩,
    ⟨up, 0, 0, by decide +kernel⟩,
    ⟨((up).modCol 0 fun c => { c with pFailed := true, testPassed := true }), 0, by decide +kernel⟩⟩

/-- States and operands that meet the hypotheses of each clause. -/
theorem wit_RegulatorLinksAndGovernor :
    (∃ (s : State) (f : Fin 25), s.slotBegins f = true ∧ ((s.col f).avs).openTx = 0 ∧ ((s.col f).avs).lowerDue = none ∧ ((s.col f).avs).req ≠ ((s.col f).avs).written) ∧
    (∃ (s : State) (f : Fin 25), s.slotBegins f = true ∧ ((s.col f).avs).openTx = 0 ∧ ((s.col f).avs).lowerDue = none ∧ ((s.col f).avs).req = ((s.col f).avs).written ∧ ((s.col f).avs).waiting = true ∧ (((s.col f).avs).slewEnd - s.rdg.ridge).toNat < 512) ∧
    (∃ (s : State) (f : Fin 25), s.slotBegins f = true ∧ ((s.col f).avs).openTx = 0 ∧ ((s.col f).avs).lowerDue = none ∧ ((s.col f).avs).req = ((s.col f).avs).written ∧ ((s.col f).avs).waiting = false) ∧
    (∃ (s : State) (f : Fin 25), s.slotBegins f = true ∧ ((s.col f).avs).openTx ≠ 0 ∧ ((s.col f).avs).frames < 7) ∧
    (∃ (s : State) (f : Fin 25), s.slotBegins f = true ∧ ((s.col f).avs).openTx = 1 ∧ ((s.col f).avs).frames = 7) ∧
    (∃ (s : State) (f : Fin 25), (s.col f).avs.failed = false ∧ ((s.col f).avs).openTx = 2 ∧ ((s.col f).avs).waiting = true) ∧
    (∃ (s : State) (f : Fin 25), (s.col f).avs.failed = false ∧ ((s.col f).avs).openTx = 4) ∧
    (∃ (s : State) (f : Fin 25) (mv : _), (s.col f).avs.failed = false ∧ ((s.col f).avs).openTx = 3 ∧ ((s.col f).avs).capped = false ∧ 20 * (max mv ((s.col f).avs).acked - min mv ((s.col f).avs).acked) ≤ ((s.col f).avs).acked) ∧
    (∃ (s : State) (f : Fin 25) (mv : _), (s.col f).avs.failed = false ∧ ((s.col f).avs).openTx = 3 ∧ ((s.col f).avs).outBand = 3 ∧ ((s.col f).avs).slewEnd = s.rdg.ridge ∧ ((s.col f).avs).acked < 20 * (max mv ((s.col f).avs).acked - min mv ((s.col f).avs).acked)) ∧
    (∃ (s : State) (f : Fin 25), (s.col f).avs.openTx = 1 ∧ (s.col f).avs.failed = true ∧ (s.col f).avs.good = 63) ∧
    (∃ (s : State) (f : Fin 25), (s.col f).avs.failed = true) ∧
    (∃ (s : State) (f : Fin 25), (s.col f).avs.failed = false ∧ 3 ≤ (s.col f).avs.bad) ∧
    (∃ (s : State), s.mark.toNat % 16 ≠ 0) ∧
    (∃ (s : State), s.atMark = true ∧ s.role.silent = false ∧ s.mark.toNat % 16 = 0 ∧ s.gov.evalAt ≠ some s.mark ∧ s.govHeld = false ∧ s.gov.capDue = false) ∧
    (∃ (s : State) (d : Nat) (c : Int), s.atMark = true ∧ s.role.silent = false ∧ s.mark.toNat % 64 = 0 ∧ s.gov.thermAt ≠ some s.mark ∧ s.govHeld = false ∧ d ∈ s.fab.used ∧ d < 8 ∧ s.gov.gd.length = 8 ∧ s.tmax d = some c) :=
  ⟨
    ⟨((({ up with rdg := { up.rdg with ridge := Ridge.ofMark 1000 + 32 } } : State)).modCol 0 fun c => { c with avs := { c.avs with req := 700, written := 600 } }), 0, by decide +kernel⟩,
    ⟨((({ up with rdg := { up.rdg with ridge := Ridge.ofMark 1000 + 32 } } : State)).modCol 0 fun c => { c with avs := { c.avs with waiting := true, slewEnd := Ridge.ofMark 1000 + 100 } }), 0, by decide +kernel⟩,
    ⟨({ up with rdg := { up.rdg with ridge := Ridge.ofMark 1000 + 32 } } : State), 0, by decide +kernel⟩,
    ⟨((({ up with rdg := { up.rdg with ridge := Ridge.ofMark 1000 + 32 } } : State)).modCol 0 fun c => { c with avs := { c.avs with openTx := 1, frames := 2 } }), 0, by decide +kernel⟩,
    ⟨((({ up with rdg := { up.rdg with ridge := Ridge.ofMark 1000 + 32 } } : State)).modCol 0 fun c => { c with avs := { c.avs with openTx := 1, frames := 7, written := 5 } }), 0, by decide +kernel⟩,
    ⟨((up).modCol 0 fun c => { c with avs := { c.avs with openTx := 2, waiting := true, written := 7 } }), 0, by decide +kernel⟩,
    ⟨((up).modCol 0 fun c => { c with avs := { c.avs with openTx := 4 } }), 0, by decide +kernel⟩,
    ⟨((up).modCol 0 fun c => { c with avs := { c.avs with openTx := 3 } }), 0, up.cols[0].avs.acked, by decide +kernel⟩,
    ⟨((up).modCol 0 fun c => { c with avs := { c.avs with openTx := 3, outBand := 3, acked := 600, slewEnd := Ridge.ofMark 1000 } }), 0, 700, by decide +kernel⟩,
    ⟨((up).modCol 0 fun c => { c with avs := { c.avs with openTx := 1, failed := true, good := 63 } }), 0, by decide +kernel⟩,
    ⟨((up).modCol 0 fun c => { c with avs := { c.avs with failed := true } }), 0, by decide +kernel⟩,
    ⟨((up).modCol 0 fun c => { c with avs := { c.avs with bad := 3 } }), 0, by decide +kernel⟩,
    ⟨up, by decide +kernel⟩,
    ⟨{ up with rdg := { up.rdg with started := true, ridge := Ridge.ofMark 1024 } }, by decide +kernel⟩,
    ⟨{ small up with rdg := { up.rdg with started := true, ridge := Ridge.ofMark 1024 } }, 0, 0, by decide +kernel⟩⟩

/-- States and operands that meet the hypotheses of each clause. -/
theorem wit_TripsSuppliesAndPowerStates :
    (∃ (s : State), s.lko.trips.length = 3 ∧ s.lko.trips.getD 0 false = false ∧ s.awake = true) ∧
    (∃ (s : State), s.lko.trips.getD 1 false = false ∧ s.boot.ready = true ∧ s.boot.pst = .v0 ∧ s.boot.req = 0 ∧ s.testRuns = false) ∧
    (∃ (s : State), s.lko.trips.getD 2 false = false ∧ s.boot.pst ≠ .v3) ∧
    (∃ (s : State), s.lko.trips.length = 3 ∧ s.lko.trips.getD 0 false = true ∧ s.awake = true ∧ s.boot.state ≠ 2) ∧
    (∃ (s : State) (m : Mark), s.lko.trip1Rel = some m ∧ s.atMark = true ∧ 1024 ≤ s.since m) ∧
    (∃ (s : State) (m : Mark), s.lko.trip1Rel = some m ∧ s.since m < 1024) ∧
    (∃ (s : State), s.lko.sup1 = true ∧ s.boot.ready = true ∧ s.awake = true) ∧
    (∃ (s : State), s.answers 0x810 = true ∧ s.boot.ready = true ∧ s.boot.moving = true) ∧
    (∃ (s : State), s.answers 0x810 = true ∧ s.boot.ready = true ∧ s.boot.moving = false ∧ (s.basic = true ∨ s.hri.idle = true) ∧ s.boot.pst = .v0 ∧ s.testRuns = false) ∧
    (∃ (s : State), s.answers 0x810 = true ∧ s.boot.ready = true ∧ s.boot.moving = false ∧ s.boot.pst = .v1 ∧ s.lko.trips.getD 1 false = false) ∧
    (∃ (s : State), s.answers 0x810 = true ∧ s.boot.ready = true ∧ s.boot.pst = .v1 ∧ s.lko.trips.getD 1 false = true) ∧
    (∃ (s : State), s.answers 0x810 = true ∧ s.boot.ready = true ∧ s.boot.moving = false ∧ s.boot.pst = .v1) ∧
    (∃ (s : State), s.answers 0x810 = true ∧ s.boot.ready = true ∧ s.boot.pst ≠ .v1) ∧
    (∃ (s : State) (m : Mark), s.boot.parkAt = some m ∧ s.boot.state = 2 ∧ s.boot.pst = .v1 ∧ s.atMark = true ∧ s.since m < 16) ∧
    (∃ (s : State) (m : Mark), s.boot.parkAt = some m ∧ s.boot.state = 2 ∧ s.boot.pst = .v1 ∧ s.atMark = true ∧ 16 ≤ s.since m ∧ s.boot.wakeDue = none) ∧
    (∃ (s : State) (c : WakeCause), s.wakeOn c = false) ∧
    (∃ (s : State) (c : WakeCause), s.wakeOn c = true ∧ s.boot.pst = .v2) :=
  ⟨
    ⟨up, by decide +kernel⟩,
    ⟨up, by decide +kernel⟩,
    ⟨up, by decide +kernel⟩,
    ⟨{ up with lko := { up.lko with trips := [true, false, false] } }, by decide +kernel⟩,
    ⟨{ up with lko := { up.lko with trip1Rel := some (1000 - 1024) } }, 1000 - 1024, by decide +kernel⟩,
    ⟨{ up with lko := { up.lko with trip1Rel := some 990 } }, 990, by decide +kernel⟩,
    ⟨up, by decide +kernel⟩,
    ⟨{ up with boot := { up.boot with moving := true } }, by decide +kernel⟩,
    ⟨up, by decide +kernel⟩,
    ⟨{ up with boot := { up.boot with pst := .v1, req := 1 } }, by decide +kernel⟩,
    ⟨{ up with lko := { up.lko with trips := [false, true, false] }, boot := { up.boot with pst := .v1 } }, by decide +kernel⟩,
    ⟨{ up with boot := { up.boot with pst := .v1 } }, by decide +kernel⟩,
    ⟨up, by decide +kernel⟩,
    ⟨{ up with boot := { up.boot with pst := .v1, state := 2, parkAt := some 990 } }, 990, by decide +kernel⟩,
    ⟨{ up with boot := { up.boot with pst := .v1, state := 2, parkAt := some 980 } }, 980, by decide +kernel⟩,
    ⟨up, .evt 0 false, by decide +kernel⟩,
    ⟨{ up with boot := { up.boot with pst := .v2 } }, .host, by decide +kernel⟩⟩

/-- States and operands that meet the hypotheses of each clause. -/
theorem wit_StartsKeepWhatR480SaysAndPassTheirStages :
    (∃ (s : State), s.boot.resetN = true) ∧
    (∃ (s : State), s.boot.resetN = false ∧ s.boot.reasserted = true) ∧
    (∃ (s : State), s.boot.pst = .v0 ∧ s.boot.stage = 0) ∧
    (∃ (s : State), s.inStage 1 = true ∧ s.rdg.a.qual = true ∧ s.boot.resetN = true) ∧
    (∃ (s : State), s.inStage 1 = true ∧ (s.rdg.a.qual = false ∨ s.boot.resetN = false)) ∧
    (∃ (s : State), s.inStage 2 = true ∧ s.crn.unusable = false) ∧
    (∃ (s : State), s.inStage 3 = true ∧ s.crn.unusable = false ∧ s.crn.f.commit.isSome = true) ∧
    (∃ (s : State) (r : Fin 8), s.inStage 3 = true ∧ s.crn.unusable = false ∧ (r ≠ 0 ∨ s.crn.f.commit = none)) :=
  ⟨
    ⟨up, by decide +kernel⟩,
    ⟨{ up with boot := { up.boot with resetN := false, reasserted := true } }, by decide +kernel⟩,
    ⟨{ up with boot := { up.boot with stage := 0, ready := false } }, by decide +kernel⟩,
    ⟨{ up with boot := { up.boot with stage := 1, ready := false } }, by decide +kernel⟩,
    ⟨{ up with boot := { up.boot with stage := 1, ready := false, resetN := false } }, by decide +kernel⟩,
    ⟨{ up with boot := { up.boot with stage := 2, ready := false } }, by decide +kernel⟩,
    ⟨{ ({ up with crn := { up.crn with f := { up.crn.f with commit := some 5 } } } : State) with boot := { ({ up with crn := { up.crn with f := { up.crn.f with commit := some 5 } } } : State).boot with stage := 3, ready := false } }, by decide +kernel⟩,
    ⟨{ up with boot := { up.boot with stage := 3, ready := false } }, 3, by decide +kernel⟩⟩

/-- States and operands that meet the hypotheses of each clause. -/
theorem wit_SelectionLoadPulseAndFirstMarkOfService :
    (∃ (s : State), s.inStage 4 = true ∧ s.crn.unusable = false ∧ s.repeatWaits = false) ∧
    (∃ (s : State), s.inStage 5 = true ∧ s.rdg.lock = true) ∧
    (∃ (s : State), s.inStage 6 = true ∧ s.mark.toNat < 32) ∧
    (∃ (s : State) (f : Fin 25) (n : Nat), s.inStage 6 = true ∧ s.mark.toNat < 64 ∧ n ∈ s.toDrive f ∧ s.fit n = false) ∧
    (∃ (s : State), s.inStage 6 = true ∧ s.atMark = true ∧ 32 ≤ s.mark.toNat ∧ (∀ n : Fin 425, s.fit n = true) ∧ s.lko.trips.getD 1 false = false) :=
  ⟨
    ⟨{ up with boot := { up.boot with stage := 4, ready := false } }, by decide +kernel⟩,
    ⟨{ up with boot := { up.boot with stage := 5, ready := false } }, by decide +kernel⟩,
    ⟨{ up with boot := { up.boot with stage := 6, ready := false }, rdg := { up.rdg with ridge := Ridge.ofMark 20 } }, by decide +kernel⟩,
    ⟨(({ up with boot := { up.boot with stage := 6, ready := false }, rdg := { up.rdg with ridge := Ridge.ofMark 40 } } : State).modSpur 0 fun x => { x with gen := { x.gen with loop := .acquire } }), 0, 0, by decide +kernel⟩,
    ⟨{ up with boot := { up.boot with stage := 6, ready := false }, rdg := { up.rdg with ridge := Ridge.ofMark 40 } }, by decide +kernel, by decide +kernel, by decide +kernel, fun n => by simp [State.fit, State.spur, up, bget]; rfl, by decide +kernel⟩⟩

/-- States and operands that meet the hypotheses of each clause. -/
theorem wit_LifeCycleUnlockRelockAndTap :
    (∃ (s : State), 3 ≤ s.boot.stage ∧ s.rdg.started = true) ∧
    (∃ (s : State) (new : LifeCycle), s.rdg.started = true ∧ s.rdg.tick0 = true ∧ s.tick = 255 ∧ s.lcs.due = [new] ∧ lcsMoves s.lcs.st new = true ∧ s.lcs.relock = false) ∧
    (∃ (s : State), s.rdg.started = true ∧ s.rdg.tick0 = true ∧ s.tick = 255 ∧ s.lcs.due = [] ∧ s.lcs.st = .service ∧ s.lcs.relock = true) ∧
    (∃ (s : State) (new : LifeCycle), 3 ≤ s.boot.stage ∧ s.rdg.started = false ∧ lcsMoves s.lcs.st new = false) ∧
    (∃ (s : State) (new : LifeCycle), 3 ≤ s.boot.stage ∧ s.rdg.started = false ∧ lcsMoves s.lcs.st new = true) ∧
    (∃ (s : State), s.answers 0xC0004 = true ∧ s.lcs.lockout = false ∧ s.lcs.st = .deployed) ∧
    (∃ (s : State), s.answers 0xC0004 = true ∧ s.lcs.lockout = true) ∧
    (∃ (s : State), s.answers 0xC0004 = true ∧ s.lcs.lockout = false ∧ s.lcs.st ≠ .deployed) ∧
    (∃ (s : State), s.answers 0xC0004 = true ∧ s.lcs.lockout = false ∧ s.lcs.ustat = 1 ∧ s.lcs.expired = false ∧ s.since s.lcs.issued ≤ 46875000) ∧
    (∃ (s : State), s.answers 0xC0004 = true ∧ s.lcs.lockout = false ∧ s.lcs.ustat = 1 ∧ (s.lcs.expired = true ∨ 46875000 < s.since s.lcs.issued)) ∧
    (∃ (s : State), s.answers 0xC0004 = true ∧ s.lcs.lockout = false ∧ s.lcs.ustat ≠ 1) ∧
    (∃ (s : State), s.answers 0xC0004 = true ∧ s.lcs.st = .service) ∧
    (∃ (s : State), s.answers 0xC0004 = true ∧ s.lcs.st = .deployed ∧ s.lcs.ustat = 2) ∧
    (∃ (s : State), s.answers 0xC0004 = true ∧ s.lcs.st ≠ .service ∧ s.lcs.st ≠ .deployed) ∧
    (∃ (s : State), s.lcs.asked = true) ∧
    (∃ (s : State), s.lcs.ustat = 2 ∧ s.rdg.started = true) ∧
    (∃ (s : State), s.lcs.ustat = 2) ∧
    (∃ (s : State), s.lcs.ustat = 2 ∧ s.lcs.fails = 2) ∧
    (∃ (s : State), s.lcs.ustat = 2 ∧ s.lcs.fails < 2) ∧
    (∃ (s : State), s.lcs.ustat = 1 ∧ 46875000 < s.since s.lcs.issued) ∧
    (∃ (s : State), s.lcs.ustat = 1 ∧ s.since s.lcs.issued ≤ 46875000) ∧
    (∃ (s : State), s.lcs.st ≠ .deployed) ∧
    (∃ (s : State), s.lcs.st = .deployed ∧ s.lcs.denied ≠ some s.mark) ∧
    (∃ (s : State), s.lcs.st = .deployed ∧ s.lcs.denied = some s.mark) :=
  ⟨
    ⟨up, by decide +kernel⟩,
    ⟨{ ended with lcs := { ended.lcs with due := [.deployed] } }, .deployed, by decide +kernel⟩,
    ⟨{ ended with lcs := { ended.lcs with st := .service, relock := true } }, by decide +kernel⟩,
    ⟨{ up with rdg := { up.rdg with started := false } }, .blank, by decide +kernel⟩,
    ⟨{ up with rdg := { up.rdg with started := false } }, .deployed, by decide +kernel⟩,
    ⟨{ up with lcs := { up.lcs with st := .deployed } }, by decide +kernel⟩,
    ⟨{ up with lcs := { up.lcs with lockout := true } }, by decide +kernel⟩,
    ⟨up, by decide +kernel⟩,
    ⟨{ up with lcs := { up.lcs with ustat := 1, issued := 990 } }, by decide +kernel⟩,
    ⟨{ up with lcs := { up.lcs with ustat := 1, expired := true } }, by decide +kernel⟩,
    ⟨up, by decide +kernel⟩,
    ⟨{ up with lcs := { up.lcs with st := .service } }, by decide +kernel⟩,
    ⟨{ up with lcs := { up.lcs with st := .deployed, ustat := 2 } }, by decide +kernel⟩,
    ⟨up, by decide +kernel⟩,
    ⟨{ up with lcs := { up.lcs with asked := true } }, by decide +kernel⟩,
    ⟨{ up with lcs := { up.lcs with ustat := 2, st := .deployed } }, by decide +kernel⟩,
    ⟨{ up with lcs := { up.lcs with st := .deployed, ustat := 2 } }, by decide +kernel⟩,
    ⟨{ up with lcs := { up.lcs with st := .deployed, ustat := 2, fails := 2 } }, by decide +kernel⟩,
    ⟨{ up with lcs := { up.lcs with ustat := 2, st := .deployed } }, by decide +kernel⟩,
    ⟨{ up with lcs := { up.lcs with ustat := 1, issued := 1000 - 50000000 } }, by decide +kernel⟩,
    ⟨{ up with lcs := { up.lcs with ustat := 1, issued := 990 } }, by decide +kernel⟩,
    ⟨up, by decide +kernel⟩,
    ⟨{ up with lcs := { up.lcs with st := .deployed } }, by decide +kernel⟩,
    ⟨{ up with lcs := { up.lcs with st := .deployed, denied := some 1000 } }, by decide +kernel⟩⟩

/-- States and operands that meet the hypotheses of each clause. -/
theorem wit_PerturbationsOpenActAndStayShut :
    (∃ (s : State) (v : Word) (o : Nat) (c : Instr), (o, c) ∈ [(0x20, Instr.stretchInjection v), (0x24, .falseDroop v), (0x28, .extraSaddleDelay v), (0x2C, .temperatureOverride v),
      (0x30, .fieldPowerOverride v), (0x40, .ringFlow v), (0x44, .doorbellDelay v)] ∧ s.answers (0xC0000 + o) = true ∧ WordsOk s ∧ (s.locked = false ∨ 0x40 ≤ o) ∧ (∀ g ∈ prtFields o, g.defined (v.bits g.hi g.lo) = true)) ∧
    (∃ (s : State) (v : Word) (o : Nat) (c : Instr), (o, c) ∈ [(0x20, Instr.stretchInjection v), (0x24, .falseDroop v), (0x28, .extraSaddleDelay v), (0x2C, .temperatureOverride v),
      (0x30, .fieldPowerOverride v), (0x40, .ringFlow v), (0x44, .doorbellDelay v)] ∧ s.answers (0xC0000 + o) = true ∧ s.locked = true ∧ o < 0x40 ∧ WordsOk s ∧ (∀ g ∈ prtFields o, g.defined (v.bits g.hi g.lo) = true)) ∧
    (∃ (s : State) (v : Word), s.answers 0xC0020 = true ∧ WordsOk s ∧ s.locked = false ∧ (∀ g ∈ prtFields 0x20, g.defined (v.bits g.hi g.lo) = true) ∧ v.bit 31 = true) ∧
    (∃ (s : State) (m : Mark), s.lcs.injNext = some m ∧ (s.word 0xC0020).bit 31 = true ∧ m = s.mark) ∧
    (∃ (s : State) (m : Mark), s.lcs.injNext = some m ∧ (s.word 0xC0020).bit 31 = true ∧ m ≠ s.mark) ∧
    (∃ (s : State) (v : Word), s.answers 0xC0024 = true ∧ WordsOk s ∧ s.locked = false ∧ (∀ g ∈ prtFields 0x24, g.defined (v.bits g.hi g.lo) = true) ∧ v.bit 31 = true) ∧
    (∃ (s : State) (v : Word) (f : Fin 25), s.answers 0xC0030 = true ∧ WordsOk s ∧ s.locked = false ∧ v.bit 31 = true ∧ v.bits 20 16 = f) ∧
    (∃ (s : State) (v : Word) (n : Fin 425), s.answers 0xC002C = true ∧ WordsOk s ∧ s.locked = false ∧ v.bit 31 = true ∧ (∀ g ∈ prtFields 0x2C, g.defined (v.bits g.hi g.lo) = true) ∧ s.hits (v.bits 24 16) n = true) :=
  ⟨
    ⟨up, 0x20001000, 0x20, .stretchInjection 0x20001000, by decide +kernel, by decide +kernel, by unfold WordsOk; decide +kernel, by decide +kernel⟩,
    ⟨{ up with lcs := { up.lcs with st := .deployed } }, 0x20001000, 0x20, .stretchInjection 0x20001000, by decide +kernel, by decide +kernel, by decide +kernel, by decide +kernel, by unfold WordsOk; decide +kernel, by decide +kernel⟩,
    ⟨up, 0xA0001000, by decide +kernel, by unfold WordsOk; decide +kernel, by decide +kernel⟩,
    ⟨{ (upWords [(0xC0020, 0xA0001000)]) with lcs := { (upWords [(0xC0020, 0xA0001000)]).lcs with injNext := some 1000 } }, 1000, by decide +kernel⟩,
    ⟨{ (upWords [(0xC0020, 0xA0001000)]) with lcs := { (upWords [(0xC0020, 0xA0001000)]).lcs with injNext := some 1001 } }, 1001, by decide +kernel⟩,
    ⟨up, 0xA00F0001, by decide +kernel, by unfold WordsOk; decide +kernel, by decide +kernel⟩,
    ⟨up, 0x80000000, 0, by decide +kernel, by unfold WordsOk; decide +kernel, by decide +kernel⟩,
    ⟨up, 0x80000000, 0, by decide +kernel, by unfold WordsOk; decide +kernel, by decide +kernel⟩⟩

/-- States and operands that meet the hypotheses of each clause. -/
theorem wit_StepRunsTheFrontCommandAndIdles :
    (∃ (s : State), s.pending = [] ∧ s.rdg.started = true ∧ s.rdg.ridge.toNat % 256 < 255) ∧
    (∃ (s : State), s.pending = [] ∧ (s.rdg.started = false ∨ s.rdg.ridge.toNat % 256 = 255)) :=
  ⟨
    ⟨{ up with rdg := { up.rdg with started := true } }, by decide +kernel⟩,
    ⟨State.reset, by decide +kernel⟩⟩

/-- States and operands that meet the hypotheses of each clause. -/
theorem wit_EveryStepKeepsInv :
    (∃ (s : State) (t : State), Inv s ∧ step s = .next t) :=
⟨{ State.reset with pending := [.timerRelock] }, _, ⟨by unfold WordsOk; decide +kernel, by decide +kernel, by decide +kernel, by decide +kernel⟩, rfl⟩

/-- States and operands that meet the hypotheses of each clause. -/
theorem wit_EveryStepKeepsDeployedShut :
    (∃ (s : State) (t : State), WordsOk s ∧ StartOk s ∧ Shut s ∧ step s = .next t) :=
⟨{ State.reset with pending := [.timerRelock] }, _, by unfold WordsOk; decide +kernel, by unfold StartOk; decide +kernel, by unfold Shut PrtShut; decide +kernel, rfl⟩

/-- States and operands that meet the hypotheses of each clause. -/
theorem wit_LifeCycleMovesOnlyByItsTable :
    (∃ (s : State) (t : State), 3 ≤ s.boot.stage ∧ 3 ≤ t.boot.stage ∧ step s = .next t ∧ s.lcs.st = .returned) ∧
    (∃ (s : State) (t : State), 3 ≤ s.boot.stage ∧ 3 ≤ t.boot.stage ∧ step s = .next t ∧ t.lcs.st = .blank) ∧
    (∃ (s : State) (t : State), 3 ≤ s.boot.stage ∧ 3 ≤ t.boot.stage ∧ step s = .next t ∧ t.lcs.st = .provisioned) ∧
    (∃ (s : State) (t : State), 3 ≤ s.boot.stage ∧ 3 ≤ t.boot.stage ∧ step s = .next t ∧ s.lcs.due.length ≤ 1) ∧
    (∃ (s : State) (t : State), 3 ≤ s.boot.stage ∧ 3 ≤ t.boot.stage ∧ step s = .next t ∧ s.lcs.due.length ≤ 1 ∧ t.lcs.st = .service) :=
  ⟨
    ⟨{ up with pending := [.timerRelock], lcs := { up.lcs with st := .returned } }, _, by decide +kernel, by decide +kernel, rfl, by decide +kernel⟩,
    ⟨{ up with pending := [.timerRelock], lcs := { up.lcs with st := .blank } }, _, by decide +kernel, by decide +kernel, rfl, by decide +kernel⟩,
    ⟨{ up with pending := [.timerRelock] }, _, by decide +kernel, by decide +kernel, rfl, by decide +kernel⟩,
    ⟨{ up with pending := [.timerRelock] }, _, by decide +kernel, by decide +kernel, rfl, by decide +kernel⟩,
    ⟨{ up with pending := [.timerRelock], lcs := { up.lcs with st := .service } }, _, by decide +kernel, by decide +kernel, rfl, by decide +kernel, by decide +kernel⟩⟩

end Sys2Proof.Tests
end

section
/-! The step of the queue: the command at its front, or one ridge tick. -/

namespace Sys2Proof.Proofs

open Sys2Proof.Machine Sys2Proof.Safety

theorem step_cons (s : State) (c : Instr) (q : List Instr) : step { s with pending := c :: q } = exec c { s with pending := q } := rfl

theorem step_nil {s : State} (h : s.pending = []) : step s = .next s.idleTick := by
  simp [step, h]

/-- The ridge tick is the ridge count modulo 256 (R10). -/
theorem tick_eq_mod (r : Ridge) : r.tick = r.toNat % 256 := by simp [Ridge.tick]

/-- Settles O56: the first clause is `step_cons`; on an empty queue the step is the idle tick, which counts exactly before ridge tick 255 of a started block. -/
theorem stepRunsTheFrontCommandAndIdles : Obligations.StepRunsTheFrontCommandAndIdles := by
  refine ⟨step_cons, fun s hq hs ht => ?_, fun s hq hx => ?_⟩
  · rw [step_nil hq, State.idleTick, if_pos ⟨hs, by rwa [tick_eq_mod]⟩]
  · rw [step_nil hq, State.idleTick, if_neg]
    rintro ⟨hs, ht⟩
    rw [tick_eq_mod] at ht
    rcases hx with hx | hx
    · simp [hs] at hx
    · omega

end Sys2Proof.Proofs
end

section
/-! Reads that latch: what a latch and a run of latches change. -/

namespace Sys2Proof.Proofs

open Sys2Proof.Machine Sys2Proof.Safety

theorem readLko_latches (s : State) (l : RegFile) (o : Nat) : ({ s with latches := l }).readLko o = s.readLko o := rfl

theorem readVgl_latches (s : State) (l : RegFile) (o : Nat) : ({ s with latches := l }).readVgl o = s.readVgl o := rfl

/-- The offsets of Lookout's own registers and of the event summary: their words read no latch. -/
def ReadsNoLatch (b : Nat) : Prop := ∃ o, winOf b = .lko o ∨ winOf b = .vgl o

theorem now_latches {b : Nat} (h : ReadsNoLatch b) (s : State) (l : RegFile) : ({ s with latches := l }).now b = s.now b := by
  obtain ⟨o, ho | ho⟩ := h
  · simp only [State.now, ho, readLko_latches]
  · simp only [State.now, ho, readVgl_latches]

theorem find_latch (s : State) (a b : Nat) : (s.latch a).latches.find b = if a = b then some (s.now a) else s.latches.find b :=
  Laws.find_insert _ _ _ _

theorem each_cons {α : Type} (s : State) (a : α) (l : List α) (f : State → α → State) : s.each (a :: l) f = (f s a).each l f := rfl

theorem latchAll_frame (l : List Nat) (s : State) : s.each l State.latch = { s with latches := (s.each l State.latch).latches } := by
  induction l generalizing s with
  | nil => rfl
  | cons a l ih => rw [each_cons, ih]; rfl

theorem find_latchAll_not_mem {l : List Nat} {b : Nat} (hb : b ∉ l) (s : State) : (s.each l State.latch).latches.find b = s.latches.find b := by
  induction l generalizing s with
  | nil => rfl
  | cons a l ih =>
    obtain ⟨ha, hl⟩ := not_or.1 (mt List.mem_cons.2 hb)
    rw [each_cons, ih hl, find_latch, if_neg (Ne.symm ha)]

theorem find_latchAll_mem {l : List Nat} {b : Nat} (hl : b ∈ l) (hb : ReadsNoLatch b) (s : State) : (s.each l State.latch).latches.find b = some (s.now b) := by
  induction l generalizing s with
  | nil => cases hl
  | cons a l ih =>
    rw [each_cons]
    by_cases hr : b ∈ l
    · rw [ih hr]
      exact congrArg some (now_latches hb s _)
    · obtain rfl : b = a := (List.mem_cons.1 hl).resolve_right hr
      rw [find_latchAll_not_mem hr, find_latch, if_pos rfl]

/-- Latching a list of words keeps all but the latches, takes each of those words as it stood, and no other. -/
theorem latchAll_latches {l : List Nat} (hl : ∀ b ∈ l, ReadsNoLatch b) (s : State) :
    s.each l State.latch = { s with latches := (s.each l State.latch).latches } ∧ (∀ b ∈ l, (s.each l State.latch).latches.find b = some (s.now b)) ∧
      ∀ b ∉ l, (s.each l State.latch).latches.find b = s.latches.find b :=
  ⟨latchAll_frame l s, fun _ hb => find_latchAll_mem hb (hl _ hb) s, fun _ hb => find_latchAll_not_mem hb s⟩

/-- The word after a low word reads as latched (R14). -/
theorem isLatched_add_four {a : Nat} (h : isLowWord a = true) : isLatched (a + 4) = true := by
  simp [isLatched, h]

theorem exec_wideLowWordRead {s : State} {a : Nat} (hlow : isLowWord a = true) (hal : a % 4 = 0) (hr : s.readable a = true) :
    exec (.wideLowWordRead ⟨a, 4⟩) s = .next (s.latch (a + 4)) := by
  simp [exec, execWideLowWordRead, hlow, hal, hr]

theorem readAs_latch_high {s : State} {a : Nat} (hlow : isLowWord a = true) (hal : a % 4 = 0) :
    (s.latch (a + 4)).readAs (a + 4) 4 = if s.readable (a + 4) then s.now (a + 4) else 0 := by
  have hread : (s.latch (a + 4)).readable (a + 4) = s.readable (a + 4) := rfl
  have hal' : (a + 4) % 4 = 0 := by omega
  rw [State.readAs, if_pos rfl, State.read, hread, isLatched_add_four hlow, find_latch, hal']
  cases s.readable (a + 4) <;> simp

theorem wideLowWordRead_latches_high {s : State} {a : Nat} (hlow : isLowWord a = true) (hal : a % 4 = 0) (hr : s.readable a = true) :
    Runs (.wideLowWordRead ⟨a, 4⟩) s fun t => t = { s with latches := t.latches } ∧
      t.readAs (a + 4) 4 = (if s.readable (a + 4) then s.now (a + 4) else 0) ∧ ∀ b, b ≠ a + 4 → t.latches.find b = s.latches.find b :=
  ⟨_, exec_wideLowWordRead hlow hal hr, rfl, readAs_latch_high hlow hal, fun b hb => by rw [find_latch, if_neg hb.symm]⟩

theorem exec_snapshotFracRead {s : State} (pps : Bool) (hr : s.readable 0x10030 = true) :
    exec (.snapshotFracRead ⟨pps, 4⟩) s = .next (s.each (if pps then [0x10058, 0x1005C, 0x10060] else [0x10034, 0x10038, 0x1003C, 0x10040, 0x10044]) State.latch) := by
  cases pps <;> simp [exec, execSnapshotFracRead, hr]

theorem snapshotWords_readNoLatch (pps : Bool) :
    ∀ b ∈ (if pps then [0x10058, 0x1005C, 0x10060] else [0x10034, 0x10038, 0x1003C, 0x10040, 0x10044]), ReadsNoLatch b := by
  cases pps <;> simp [ReadsNoLatch, winOf]

theorem exec_lastEventRead {s : State} (hr : s.readable 0xF0030 = true) :
    exec .lastEventRead s = .next (s.each [0xF0034, 0xF0038, 0xF003C] State.latch) := by
  simp [exec, execLastEventRead, hr]

theorem lastEventWords_readNoLatch : ∀ b ∈ [0xF0034, 0xF0038, 0xF003C], ReadsNoLatch b := by
  simp [ReadsNoLatch, winOf]

/-- A read of another width returns 0 and latches nothing (R12). -/
theorem read_of_other_width (s : State) (a : Nat) {w : Nat} (pps : Bool) (hw : w ≠ 4) :
    s.readAs a w = 0 ∧ exec (.wideLowWordRead ⟨a, w⟩) s = .next s ∧ exec (.snapshotFracRead ⟨pps, w⟩) s = .next s := by
  simp [State.readAs, exec, execWideLowWordRead, execSnapshotFracRead, hw]

/-- Settles O2: each command is one latch or a run of latches, and a word that a run latches reads no latch itself. -/
theorem readsOfLowWordsLatch : Obligations.ReadsOfLowWordsLatch :=
  ⟨fun _ _ => wideLowWordRead_latches_high,
    fun s pps hr => ⟨_, exec_snapshotFracRead pps hr, latchAll_latches (snapshotWords_readNoLatch pps) s⟩,
    fun s hr => ⟨_, exec_lastEventRead hr, latchAll_latches lastEventWords_readNoLatch s⟩,
    fun s a _ pps => read_of_other_width s a pps⟩

end Sys2Proof.Proofs
end

section
/-! Register writes: the bits of a word, the fields of a register, and the write of a register that is held as one word. -/

namespace Sys2Proof.Proofs

open Sys2Proof.Machine Sys2Proof.Safety

/-! ## Bits of a word -/

/-- Bit `i` lies in a field. -/
abbrev Covers (g : Fld) (i : Nat) : Prop := g.lo ≤ i ∧ i ≤ g.hi

theorem not_covers_iff {g : Fld} {i : Nat} : ¬ Covers g i ↔ i < g.lo ∨ g.hi < i := by
  unfold Covers; omega

theorem bit_ext {x y : Word} (h : ∀ i, x.bit i = y.bit i) : x = y := BitVec.eq_of_getLsbD_eq fun i _ => h i

theorem bit_and (x y : Word) (i : Nat) : Word.bit (x &&& y) i = (x.bit i && y.bit i) := BitVec.getLsbD_and

theorem bit_of_ge (x : Word) {i : Nat} (h : 32 ≤ i) : x.bit i = false := BitVec.getLsbD_of_ge x i h

theorem bit_and_not (x y : Word) (i : Nat) : Word.bit (x &&& ~~~ y) i = (x.bit i && !y.bit i) := by
  rw [bit_and]
  by_cases hi : i < 32
  · simp [Word.bit, hi]
  · simp [bit_of_ge x (Nat.le_of_not_lt hi)]

theorem bits_testBit (w : Word) (hi lo j : Nat) : (w.bits hi lo).testBit j = (decide (j < hi + 1 - lo) && w.bit (lo + j)) := by
  simp [Word.bits, Word.bit, Nat.testBit_mod_two_pow, Nat.testBit_div_two_pow, BitVec.getLsbD, Nat.add_comm]

theorem bits_congr {x y : Word} {g : Fld} (h : ∀ i, Covers g i → x.bit i = y.bit i) : x.bits g.hi g.lo = y.bits g.hi g.lo := by
  refine Nat.eq_of_testBit_eq fun j => ?_
  rw [bits_testBit, bits_testBit]
  by_cases hj : j < g.hi + 1 - g.lo
  · rw [h _ ⟨by omega, by omega⟩]
  · simp [hj]

theorem bit_mask (hi lo i : Nat) : (Word.mask hi lo).bit i = (decide (lo ≤ i ∧ i ≤ hi) && decide (i < 32)) := by
  simp only [Word.mask, Word.bit, BitVec.getLsbD_ofNat, Nat.testBit_mul_two_pow, Nat.testBit_two_pow_sub_one,
    ← Bool.decide_and, decide_eq_decide]
  omega

/-- The bits that a write brings into a field, in their place. -/
theorem bit_field (v : Word) (hi lo i : Nat) :
    Word.bit (BitVec.ofNat 32 (v.bits hi lo % 2 ^ (hi + 1 - lo) * 2 ^ lo)) i = (decide (lo ≤ i ∧ i ≤ hi) && v.bit i) := by
  have hmod : v.bits hi lo % 2 ^ (hi + 1 - lo) = v.bits hi lo := Nat.mod_mod _ _
  rw [hmod, Word.bit, BitVec.getLsbD_ofNat, Nat.testBit_mul_two_pow, bits_testBit]
  by_cases hlo : lo ≤ i
  · have hb : v.bit i = (decide (i < 32) && v.bit i) := by
      by_cases hi : i < 32
      · simp [hi]
      · simp [bit_of_ge v (Nat.le_of_not_lt hi)]
    rw [Nat.add_sub_cancel' hlo, hb]
    by_cases hle : i ≤ hi
    · simp [hlo, hle, show i - lo < hi + 1 - lo by omega]
    · simp [hle, show ¬ i - lo < hi + 1 - lo by omega]
  · simp [hlo]

theorem bit_put (w v : Word) (hi lo i : Nat) :
    (w.put hi lo (v.bits hi lo)).bit i = if lo ≤ i ∧ i ≤ hi then v.bit i else w.bit i := by
  have hor : ∀ x y : Word, Word.bit (x ||| y) i = (x.bit i || y.bit i) := fun _ _ => BitVec.getLsbD_or
  rw [Word.put, hor, bit_and_not, bit_mask, bit_field]
  by_cases hlt : i < 32
  · by_cases hc : lo ≤ i ∧ i ≤ hi
    · simp [hc, hlt]
    · rw [if_neg hc, decide_eq_false hc]
      simp
  · simp [bit_of_ge _ (Nat.le_of_not_lt hlt)]

/-! ## The fields of a write -/

theorem putFields_cons (v : Word) (g : Fld) (gs : List Fld) (w : Word) :
    putFields (fun _ => true) v (g :: gs) w =
      putFields (fun _ => true) v gs (if g.acc = .w1c then w &&& ~~~ (v &&& Word.mask g.hi g.lo) else w.put g.hi g.lo (v.bits g.hi g.lo)) := rfl

/-- One field of a write: its bits are cleared or taken, every other bit stays. -/
theorem bit_putField (v w : Word) (g : Fld) (i : Nat) :
    Word.bit (if g.acc = .w1c then w &&& ~~~ (v &&& Word.mask g.hi g.lo) else w.put g.hi g.lo (v.bits g.hi g.lo)) i =
      if g.lo ≤ i ∧ i ≤ g.hi then (if g.acc = .w1c then w.bit i && !v.bit i else v.bit i) else w.bit i := by
  split
  · rw [bit_and_not, bit_and, bit_mask]
    by_cases hlt : i < 32
    · by_cases hc : g.lo ≤ i ∧ i ≤ g.hi <;> simp [hc, hlt]
    · simp [bit_of_ge _ (Nat.le_of_not_lt hlt)]
  · exact bit_put w v g.hi g.lo i

/-- A bit that no field holds stays. -/
theorem bit_putFields_outside {gs : List Fld} {i : Nat} (h : ∀ g ∈ gs, ¬ Covers g i) (v w : Word) :
    (putFields (fun _ => true) v gs w).bit i = w.bit i := by
  induction gs generalizing w with
  | nil => rfl
  | cons g gs ih =>
    rw [putFields_cons, ih fun k hk => h k (List.mem_cons_of_mem _ hk), bit_putField]
    exact if_neg (h g List.mem_cons_self)

/-- Two fields have no bit in common. -/
abbrev Apart (g k : Fld) : Prop := g.hi < k.lo ∨ k.hi < g.lo

theorem Apart.not_covers {g k : Fld} {i : Nat} (h : Apart g k) (hc : Covers g i) : ¬ Covers k i := by
  unfold Apart Covers at *; omega

theorem Apart.symm {g k : Fld} (h : Apart g k) : Apart k g := Or.symm h

/-- A bit follows the one field that holds it. -/
theorem bit_putFields_inside {gs : List Fld} (hp : gs.Pairwise Apart) {g : Fld} (hg : g ∈ gs) {i : Nat} (hc : Covers g i) (v w : Word) :
    (putFields (fun _ => true) v gs w).bit i = if g.acc = .w1c then w.bit i && !v.bit i else v.bit i := by
  obtain ⟨l, r, rfl⟩ := List.append_of_mem hg
  obtain ⟨-, hr, hl⟩ := List.pairwise_append.1 hp
  have happ : putFields (fun _ => true) v (l ++ g :: r) w =
      putFields (fun _ => true) v (g :: r) (putFields (fun _ => true) v l w) := List.foldl_append
  have hleft : ∀ k ∈ l, ¬ Covers k i := fun k hk => (hl k hk g List.mem_cons_self).symm.not_covers hc
  have hright : ∀ k ∈ r, ¬ Covers k i := fun k hk => ((List.pairwise_cons.1 hr).1 k hk).not_covers hc
  rw [happ, putFields_cons, bit_putFields_outside hright, bit_putField, if_pos (show g.lo ≤ i ∧ i ≤ g.hi from hc), bit_putFields_outside hleft]

theorem apart_ite {p : Prop} [Decidable p] {l m : List Fld} (hl : l.Pairwise Apart) (hm : m.Pairwise Apart) :
    (if p then l else m).Pairwise Apart := by
  split <;> assumption

/-- No two fields of a register share a bit. -/
theorem fieldsOf_apart (w : Win) (v : Word) : (fieldsOf w v).Pairwise Apart := by
  cases w with
  | none => exact List.Pairwise.nil
  | bst o =>
    unfold fieldsOf
    repeat' apply apart_ite
    all_goals simp [Apart, fldAll]
  | _ =>
    unfold fieldsOf
    repeat' apply apart_ite
    all_goals decide

theorem fieldsOf_not_covers {w : Win} {v : Word} {g k : Fld} (hg : g ∈ fieldsOf w v) (hk : k ∈ fieldsOf w v) (hne : g ≠ k) {i : Nat}
    (hc : Covers g i) : ¬ Covers k i :=
  have : Std.Symm Apart := ⟨fun _ _ => Apart.symm⟩
  Apart.not_covers ((fieldsOf_apart w v).forall hg hk hne) hc

/-! ## The word of a register after a write -/

/-- The word that a write leaves in a register held as one word. -/
def wordAfter (s : State) (a : Nat) (v : Word) : Word :=
  let ok := s.okFields (winOf a) v (fieldsOf (winOf a) v)
  putFields (fun _ => true) (s.clearing a v) (ok.filter fun g => g.acc == .w1c) (putFields (fun _ => true) v (ok.filter fun g => g.acc != .w1c) (s.word a))

section
variable {s : State} {a i : Nat} {v : Word} {g : Fld}

theorem mem_okFields {w : Win} {gs : List Fld} : g ∈ s.okFields w v gs ↔ g ∈ gs ∧ g.check s.locked (s.quiet w) v = none := by
  simp [State.okFields]

theorem okFields_apart (w : Win) (p : Fld → Bool) : ((s.okFields w v (fieldsOf w v)).filter p).Pairwise Apart :=
  ((fieldsOf_apart w v).filter _).filter _

/-- A bit that no accepted field holds stays. -/
theorem bit_wordAfter_kept (h : ∀ g ∈ s.okFields (winOf a) v (fieldsOf (winOf a) v), ¬ Covers g i) : (wordAfter s a v).bit i = (s.word a).bit i := by
  have hsub : ∀ p : Fld → Bool, ∀ g ∈ (s.okFields (winOf a) v (fieldsOf (winOf a) v)).filter p, ¬ Covers g i := fun _ g hg => h g (List.mem_filter.1 hg).1
  rw [wordAfter, bit_putFields_outside (hsub _), bit_putFields_outside (hsub _)]

theorem bit_wordAfter_outside (h : ∀ g ∈ fieldsOf (winOf a) v, i < g.lo ∨ g.hi < i) : (wordAfter s a v).bit i = (s.word a).bit i :=
  bit_wordAfter_kept fun g hg => not_covers_iff.2 (h g (mem_okFields.1 hg).1)

/-- The bits of a field that the write does not take stay. -/
theorem bit_wordAfter_refused (hg : g ∈ fieldsOf (winOf a) v) (hno : g.check s.locked (s.quiet (winOf a)) v ≠ none) (hc : Covers g i) :
    (wordAfter s a v).bit i = (s.word a).bit i := by
  refine bit_wordAfter_kept fun k hk => ?_
  obtain ⟨hmem, hok⟩ := mem_okFields.1 hk
  exact fieldsOf_not_covers hg hmem (by rintro rfl; exact hno hok) hc

/-- The bits of a field that the write takes: cleared where a W1C field is written as 1, else the value written. -/
theorem bit_wordAfter_taken (hg : g ∈ fieldsOf (winOf a) v) (hok : g.check s.locked (s.quiet (winOf a)) v = none) (hc : Covers g i) :
    (wordAfter s a v).bit i = if g.acc = .w1c then (s.word a).bit i && !(s.clearing a v).bit i else v.bit i := by
  have hmem := mem_okFields.2 ⟨hg, hok⟩
  have hother : ∀ p : Fld → Bool, p g = false → ∀ k ∈ (s.okFields (winOf a) v (fieldsOf (winOf a) v)).filter p, ¬ Covers k i := by
    intro p hp k hk
    obtain ⟨hk, hpk⟩ := List.mem_filter.1 hk
    exact fieldsOf_not_covers hg (mem_okFields.1 hk).1 (by rintro rfl; simp [hp] at hpk) hc
  unfold wordAfter
  by_cases hacc : g.acc = .w1c
  · rw [bit_putFields_inside (okFields_apart _ _) (List.mem_filter.2 ⟨hmem, by simp [hacc]⟩) hc, bit_putFields_outside (hother _ (by simp [hacc]))]
    simp [hacc]
  · rw [bit_putFields_outside (hother _ (by simp [hacc])), bit_putFields_inside (okFields_apart _ _) (List.mem_filter.2 ⟨hmem, by simp [hacc]⟩) hc,
      if_neg hacc, if_neg hacc]

/-- A bit of a W1C field that the block has set in the same control cycle stays set (R17). -/
theorem bit_wordAfter_set (hg : g ∈ fieldsOf (winOf a) v) (hacc : g.acc = .w1c) (hc : Covers g i) (hset : ((s.cyc.sets.find a).getD 0).bit i = true) :
    (wordAfter s a v).bit i = (s.word a).bit i := by
  cases hok : g.check s.locked (s.quiet (winOf a)) v with
  | some ev => exact bit_wordAfter_refused hg (by simp [hok]) hc
  | none =>
    have hclr : (s.clearing a v).bit i = false := by rw [State.clearing, bit_and_not, hset]; simp
    rw [bit_wordAfter_taken hg hok hc, if_pos hacc, hclr]
    simp

/-- With nothing set by the block in the control cycle, a field holds what its access code makes of the word written (R16). -/
theorem bits_wordAfter_taken (hsets : s.cyc.sets = []) (hg : g ∈ fieldsOf (winOf a) v) (hok : g.check s.locked (s.quiet (winOf a)) v = none) :
    (wordAfter s a v).bits g.hi g.lo = (if g.acc = .w1c then s.word a &&& ~~~ v else v).bits g.hi g.lo := by
  have hclr : s.clearing a v = v := bit_ext fun i => by rw [State.clearing, bit_and_not, hsets]; simp [RegFile.find, Word.bit]
  refine bits_congr fun i hc => ?_
  rw [bit_wordAfter_taken hg hok hc, hclr]
  split
  · rw [bit_and_not]
  · rfl

theorem bits_wordAfter_refused (hg : g ∈ fieldsOf (winOf a) v) (hno : g.check s.locked (s.quiet (winOf a)) v ≠ none) :
    (wordAfter s a v).bits g.hi g.lo = (s.word a).bits g.hi g.lo :=
  bits_congr fun _ hc => bit_wordAfter_refused hg hno hc

/-! ## The events of a write -/

/-- The record of an event that tells why a field of a write does not take effect (R301). -/
def refusal (s : State) (a : Nat) (v : Word) (ev : Ev) : EventRec :=
  s.event ev ev.sev (s.ownerOf a).1 (s.ownerOf a).2 (le 4 a ++ le 4 v.toNat)

theorem cfgEvent_eq {ev : Ev} (h : ev.sev ≠ .fatal) : s.cfgEvent ev a v = { s with raised := s.raised ++ [refusal s a v ev] } := by
  simp only [State.cfgEvent, State.raise, State.raiseAs, if_neg h]; rfl

/-- Events that are not FATAL only join the events that wait to be recorded. -/
theorem each_cfgEvent (l : List Ev) (h : ∀ ev ∈ l, ev.sev ≠ .fatal) (p : Ev → Bool) (s : State) :
    (s.each l fun t ev => t.when (p ev) fun u => u.cfgEvent ev a v) = { s with raised := s.raised ++ (l.filter p).map (refusal s a v) } := by
  induction l generalizing s with
  | nil => simp [State.each]
  | cons ev l ih =>
    obtain ⟨hev, hl⟩ := List.forall_mem_cons.1 h
    have hcons : (s.each (ev :: l) fun t ev => t.when (p ev) fun u => u.cfgEvent ev a v) =
        (s.when (p ev) fun u => u.cfgEvent ev a v).each l fun t ev => t.when (p ev) fun u => u.cfgEvent ev a v := rfl
    rw [hcons, ih hl]
    cases hp : p ev with
    | false => simp [State.when, hp]
    | true =>
      have hsame : ∀ r, refusal { s with raised := r } a v = refusal s a v := fun _ => rfl
      simp [State.when, hp, cfgEvent_eq hev, hsame]

/-- The events of a write to the register at an offset, one of each kind. -/
def refusals (s : State) (a : Nat) (v : Word) : List EventRec :=
  ([Ev.cfgRange, .cfgBusy, .cfgLocked].filter fun ev => ((fieldsOf (winOf a) v).map fun g => g.check s.locked (s.quiet (winOf a)) v).contains (some ev)).map (refusal s a v)

theorem tellWrite_eq : s.tellWrite a v (fieldsOf (winOf a) v) = { s with raised := s.raised ++ refusals s a v } :=
  each_cfgEvent _ (by decide) _ s

theorem check_eq_some {locked quiet : Bool} {ev : Ev} (h : g.check locked quiet v = some ev) : ev ∈ [Ev.cfgRange, .cfgBusy, .cfgLocked] := by
  unfold Fld.check at h
  split_ifs at h <;> cases h <;> decide

theorem refusal_mem_refusals {ev : Ev} (hg : g ∈ fieldsOf (winOf a) v) (hno : g.check s.locked (s.quiet (winOf a)) v = some ev) :
    refusal s a v ev ∈ refusals s a v :=
  List.mem_map_of_mem (List.mem_filter.2 ⟨check_eq_some hno, List.contains_iff_mem.2 (List.mem_map.2 ⟨g, hg, hno⟩)⟩)

/-! ## A write to a register held as one word -/

theorem writeWord_eq (s : State) (a : Nat) (v : Word) :
    s.writeWord a v = { s with words := (s.setWord a (wordAfter s a v)).words, raised := s.raised ++ refusals s a v } := by
  simp only [State.writeWord, tellWrite_eq]
  rfl

theorem word_writeWord (h : WordsOk s) (b : Nat) : (s.writeWord a v).word b = if a = b then wordAfter s a v else s.word b := by
  rw [← Laws.word_setWord h, writeWord_eq]
  rfl

theorem wordsOk_writeWord (h : WordsOk s) : WordsOk (s.writeWord a v) := by
  rw [writeWord_eq]
  exact Laws.setWord_wordsOk h a _

/-- An offset of the windows whose registers are each held as one word: Lookout, its channels, Ridgeline, the store, the host rings and the perturbation unit. -/
def WordWindow (a : Nat) : Prop :=
  ∃ o c, winOf a = .lko o ∨ winOf a = .chan c o ∨ winOf a = .rdg o ∨ winOf a = .crn o ∨ winOf a = .hri o ∨ winOf a = .prt o

theorem writeAt_eq_writeWord (hw : WordWindow a) : s.writeAt a v = s.writeWord a v := by
  obtain ⟨o, c, h | h | h | h | h | h⟩ := hw <;> simp only [State.writeAt, h]

theorem write_eq_writeWord (hw : WordWindow a) : s.write a v = s.writeWord a v := by
  have hlane : onLane a = false := by obtain ⟨o, c, h | h | h | h | h | h⟩ := hw <;> simp only [onLane, h]
  rw [State.write, hlane]
  exact writeAt_eq_writeWord hw

theorem writeUnder_eq_writeWord (hw : WordWindow a) (htap : s.cyc.tap.find a = none) : s.writeUnder a v = s.writeWord a v := by
  rw [State.writeUnder, htap]
  exact write_eq_writeWord hw

/-! ## The command -/

/-- The state at the beginning of a control cycle: nothing set by the block or written through IEEE 1687 in it. -/
def newCycle (s : State) : State := { s with cyc := ⟨[], []⟩ }

/-- A write in a control cycle of its own is one at the beginning of a control cycle. -/
theorem exec_registerWrite_newCycle (s : State) (a w : Nat) (v : Word) (tap : Bool) :
    exec (.registerWrite a v ⟨w, tap, false⟩) s = exec (.registerWrite a v ⟨w, tap, true⟩) (newCycle s) := rfl

theorem word_newCycle (s : State) (b : Nat) : (newCycle s).word b = s.word b := rfl

theorem ringsOn_newCycle (s : State) : (newCycle s).ringsOn = s.ringsOn := by
  rw [State.ringsOn, State.ringsOn, word_newCycle]

theorem drives_newCycle (s : State) (n : Nat) : (newCycle s).drives n = s.drives n := by
  have hspur : (newCycle s).spur n = s.spur n := rfl
  have hcol : ∀ f, (newCycle s).col f = s.col f := fun _ => rfl
  simp only [State.drives, hspur, hcol]

/-- Whether a unit is quiesced does not hang on the record of the control cycle. -/
theorem quiet_newCycle (s : State) (w : Win) : (newCycle s).quiet w = s.quiet w := by
  have hboot : (newCycle s).boot = s.boot := rfl
  have hhri : (newCycle s).hri = s.hri := rfl
  cases w with
  | spr n o => simp only [State.quiet, State.spurQuiet, drives_newCycle, hboot]
  | cal o => simp only [State.quiet, ringsOn_newCycle]
  | hri o => simp only [State.quiet, State.hriQuiet, ringsOn_newCycle, hhri]
  | _ => rfl

theorem exec_registerWrite_window (hal : a % 4 = 0) (hans : s.answers a = true) :
    exec (.registerWrite a v ⟨4, false, true⟩) s = .next (s.writeUnder a v) := by
  simp [exec, execRegisterWrite, hal, hans]

/-- The state that remembers, for the present control cycle, a write through IEEE 1687 (R506). -/
def tapNoted (s : State) (a : Nat) (v : Word) : State := { s with cyc := { s.cyc with tap := s.cyc.tap.insert a v } }

theorem find_tap_writeWord : ((tapNoted s a v).writeWord a v).cyc.tap.find a = some v := by
  have hcyc : ((tapNoted s a v).writeWord a v).cyc.tap = s.cyc.tap.insert a v := by rw [writeWord_eq]; rfl
  rw [hcyc, Laws.find_insert, if_pos rfl]

theorem exec_registerWrite_tap (hal : a % 4 = 0) (hans : s.answers a = true) (hreach : s.tapReaches a = true) :
    exec (.registerWrite a v ⟨4, true, true⟩) s = .next ((tapNoted s a v).write a v) := by
  simp [exec, tapNoted, execRegisterWrite, hal, hans, hreach]

theorem exec_registerWrite_dropped {w : Nat} {tap : Bool} (h : w ≠ 4 ∨ a % 4 ≠ 0 ∨ s.answers a = false ∨ (tap = true ∧ s.tapReaches a = false)) :
    exec (.registerWrite a v ⟨w, tap, true⟩) s = .next s := by
  by_cases hbad : w ≠ 4 ∨ a % 4 ≠ 0 ∨ s.answers a = false
  · have hcond : (w ≠ 4 || a % 4 ≠ 0 || !s.answers a) = true := by simpa [or_assoc] using hbad
    simp only [exec, execRegisterWrite, if_true, hcond]
  · obtain ⟨htap, hreach⟩ : tap = true ∧ s.tapReaches a = false := by tauto
    simp [exec, execRegisterWrite, htap, hreach]

/-- What a write leaves in a register of the windows held as words, and in the rest of the state (R12, R15 to R17). -/
theorem writeWord_follows_codes (hok : WordsOk s) (hsets : s.cyc.sets = []) :
    s.writeWord a v = { s with words := (s.writeWord a v).words, raised := (s.writeWord a v).raised } ∧ (∀ b, b ≠ a → (s.writeWord a v).word b = s.word b) ∧
      (∀ i, (∀ g ∈ fieldsOf (winOf a) v, i < g.lo ∨ g.hi < i) → ((s.writeWord a v).word a).bit i = (s.word a).bit i) ∧
      (∀ g ∈ fieldsOf (winOf a) v, g.check s.locked (s.quiet (winOf a)) v = none →
        ((s.writeWord a v).word a).bits g.hi g.lo = (if g.acc = .w1c then s.word a &&& ~~~ v else v).bits g.hi g.lo) ∧
      (∀ g ∈ fieldsOf (winOf a) v, ∀ ev, g.check s.locked (s.quiet (winOf a)) v = some ev →
        ((s.writeWord a v).word a).bits g.hi g.lo = (s.word a).bits g.hi g.lo ∧
          Raises s (s.writeWord a v) ev ev.sev (s.ownerOf a).1 (s.ownerOf a).2 (le 4 a ++ le 4 v.toNat)) := by
  have hword : (s.writeWord a v).word a = wordAfter s a v := by rw [word_writeWord hok, if_pos rfl]
  simp only [hword]
  refine ⟨by rw [writeWord_eq], fun b hb => by rw [word_writeWord hok, if_neg hb.symm], fun i => bit_wordAfter_outside,
    fun g hg hyes => bits_wordAfter_taken hsets hg hyes, fun g hg ev hno => ⟨bits_wordAfter_refused hg (by simp [hno]), ?_⟩⟩
  have hmem : refusal s a v ev ∈ s.raised ++ refusals s a v := List.mem_append_right _ (refusal_mem_refusals hg hno)
  rwa [Raises, writeWord_eq]

/-! ## The injection registers of the perturbation unit, which hold one field of 32 bits -/

theorem wordWindow_injection (ha : a = 0xC0010 ∨ a = 0xC0014) : WordWindow a := by
  rcases ha with rfl | rfl
  · exact ⟨0x10, 0, by decide⟩
  · exact ⟨0x14, 0, by decide⟩

theorem fieldsOf_injection (ha : a = 0xC0010 ∨ a = 0xC0014) : fieldsOf (winOf a) v = [fldAll 31 0 .rw] := by
  rcases ha with rfl | rfl <;> rfl

theorem wordAfter_injection (ha : a = 0xC0010 ∨ a = 0xC0014) : wordAfter s a v = v := by
  have hmem : fldAll 31 0 .rw ∈ fieldsOf (winOf a) v := by simp [fieldsOf_injection ha]
  have hdef : v.toNat ≤ 2 ^ 32 - 1 := Nat.le_pred_of_lt v.isLt
  have hok : (fldAll 31 0 .rw).check s.locked (s.quiet (winOf a)) v = none := by
    simp [Fld.check, fldAll, Fld.defined, Word.bits]; omega
  refine BitVec.eq_of_getLsbD_eq fun i hi => ?_
  have hc : Covers (fldAll 31 0 .rw) i := ⟨Nat.zero_le _, Nat.le_of_lt_succ hi⟩
  exact (bit_wordAfter_taken hmem hok hc).trans (if_neg (by decide))

theorem word_write_injection (hok : WordsOk s) (ha : a = 0xC0010 ∨ a = 0xC0014) (b : Nat) :
    (s.writeWord a v).word b = if a = b then v else s.word b := by
  rw [word_writeWord hok, wordAfter_injection ha]

theorem word_tapWrite_injection (hok : WordsOk s) (ha : a = 0xC0010 ∨ a = 0xC0014) (b : Nat) :
    ((tapNoted s a v).writeWord a v).word b = if a = b then v else s.word b :=
  word_write_injection (s := tapNoted s a v) hok ha b

/-- After a write through IEEE 1687 in the same control cycle a window write leaves what IEEE 1687 wrote (R506). -/
theorem word_writeUnder_injection {u : Word} (hok : WordsOk s) (ha : a = 0xC0010 ∨ a = 0xC0014) (htap : s.cyc.tap.find a = some u) (b : Nat) :
    (s.writeUnder a v).word b = if a = b then u else s.word b := by
  have hunder : (s.writeUnder a v).word b = ((s.writeWord a v).writeWord a u).word b := by
    simp only [State.writeUnder, htap, write_eq_writeWord (wordWindow_injection ha), writeAt_eq_writeWord (wordWindow_injection ha)]
    rfl
  rw [hunder, word_write_injection (wordsOk_writeWord hok) ha, word_write_injection hok ha]
  split <;> rfl

end

/-- Settles O1: every write of the statement is `writeWord` at some state, whose word is `wordAfter` and whose events are `refusals`; since no two fields of a register share a bit, each bit follows the one field that holds it. -/
theorem registerWriteFollowsTheAccessCodes : Obligations.RegisterWriteFollowsTheAccessCodes := by
  refine ⟨fun s a v hok hal hans hw => ?_, fun s a i v hok hal hans hw htap hset hg => ?_, fun s a w v tap h => exec_registerWrite_dropped h,
    fun s a u v hok ha hans htap => ?_, fun s a v hok ha hans hreach => ?_⟩
  · have hafter := writeWord_follows_codes (s := newCycle s) (a := a) (v := v) hok rfl
    rw [quiet_newCycle] at hafter
    refine ⟨(newCycle s).writeWord a v, ?_, hafter⟩
    rw [exec_registerWrite_newCycle, exec_registerWrite_window (s := newCycle s) hal hans, writeUnder_eq_writeWord hw rfl]
  · obtain ⟨g, hmem, hacc, hc⟩ := hg
    have hword : (s.writeWord a v).word a = wordAfter s a v := by rw [word_writeWord hok, if_pos rfl]
    have hbit : ((s.writeWord a v).word a).bit i = (s.word a).bit i := by rw [hword, bit_wordAfter_set hmem hacc hc hset]
    exact ⟨s.writeWord a v, by rw [exec_registerWrite_window hal hans, writeUnder_eq_writeWord hw htap], hbit⟩
  · have hal : a % 4 = 0 := by omega
    have hword := word_writeUnder_injection (v := v) hok ha htap
    exact ⟨s.writeUnder a v, exec_registerWrite_window hal hans, by rw [hword, if_pos rfl], fun b hb => by rw [hword, if_neg hb.symm]⟩
  · have hal : a % 4 = 0 := by omega
    have hword := word_tapWrite_injection (v := v) hok ha
    exact ⟨(tapNoted s a v).writeWord a v, by rw [exec_registerWrite_tap hal hans hreach, write_eq_writeWord (wordWindow_injection ha)],
      by rw [hword, if_pos rfl], find_tap_writeWord, fun b hb => by rw [hword, if_neg hb.symm]⟩

end Sys2Proof.Proofs
end

section
/-! The invariant of O58: one rule for each way a state is built, one for each operation that the commands share,
and the commands. An operation that changes none of the four parts that `Inv` speaks of needs no rule of its own: `inv_frame` covers it. -/

set_option Elab.async false

namespace Sys2Proof.Proofs

open Sys2Proof.Machine Sys2Proof.Safety Sys2Proof.Laws

/-! ## The four parts -/

/-- A command's outcome keeps the invariant: a next state has it. -/
def InvNext (r : Result) : Prop := ∀ t, r = .next t → Inv t

section

variable {s : State}

/-- A state that differs from one with the invariant in other parts than those that `Inv` speaks of has it too. -/
theorem inv_frame {sh hd la cy sp sd co cm cp rd lk fb p hi gv f ev r ca cr bi lc bo ra ou fc pe} (h : Inv s)
    (hp : s.plan.groups.length = 4 → p.groups.length = 4 := by exact id)
    (hf : s.faults.opened.length = 8 → f.opened.length = 8 := by exact id)
    (hr : (∀ m ∈ s.role.mirrors ++ s.role.mirrorNext, m.opened.length = 8) → ∀ m ∈ r.mirrors ++ r.mirrorNext, m.opened.length = 8 := by exact id) :
    Inv ⟨s.words, sh, hd, la, cy, sp, sd, co, cm, cp, rd, lk, fb, p, hi, gv, f, ev, r, ca, cr, bi, lc, bo, ra, ou, fc, pe⟩ :=
  ⟨h.1, hp h.2.1, hf h.2.2.1, hr h.2.2.2⟩

theorem inv_next (h : Inv s) : InvNext (.next s) := by
  rintro t ⟨⟩
  exact h

theorem inv_ite {c : Prop} {_ : Decidable c} {a b : State} (ha : Inv a) (hb : Inv b) : Inv (if c then a else b) := by
  split
  · exact ha
  · exact hb

theorem inv_when {b : Bool} {f : State → State} (h : Inv s) (hf : ∀ t : State, Inv t → Inv (f t)) : Inv (s.when b f) :=
  inv_ite (hf _ h) h

theorem inv_each {α : Type} {l : List α} {f : State → α → State} (h : Inv s) (hf : ∀ (t : State) a, Inv t → Inv (f t a)) : Inv (s.each l f) := by
  induction l generalizing s with
  | nil => exact h
  | cons a l ih => exact ih (hf s a h)

theorem inv_elim {α : Type} {o : Option α} {f : α → State} (h : Inv s) (hf : ∀ a, Inv (f a)) : Inv (o.elim s f) := by
  cases o with
  | none => exact h
  | some a => exact hf a

theorem length_setNth {α : Type} (l : List α) (i : Nat) (v : α) : (setNth l i v).length = l.length := List.length_set

theorem length_modGroup (p : Plan) (k : Nat) (f : Group → Group) : (p.modGroup k f).groups.length = p.groups.length := mapFrom_length ..

theorem sortedFrom_filter {o : Option Nat} {r : RegFile} (p : Nat × Word → Bool) (h : RegFile.sortedFrom o r = true) :
    RegFile.sortedFrom o (r.filter p) = true := by
  induction r generalizing o with
  | nil => rfl
  | cons x r ih =>
    obtain ⟨k, v⟩ := x
    simp only [RegFile.sortedFrom, Bool.and_eq_true] at h
    obtain ⟨hk, hr⟩ := h
    rw [List.filter_cons]
    split
    · simp only [RegFile.sortedFrom, Bool.and_eq_true]
      exact ⟨hk, ih hr⟩
    · cases o with
      | none => exact sortedFrom_weaken (ih hr)
      | some b => exact sortedFrom_mono (ih hr) (Nat.le_of_lt (by simpa using hk))

theorem fileOk_filter {d : Nat → Word} {w : RegFile} (p : Nat × Word → Bool) (h : fileOk d w = true) : fileOk d (w.filter p) = true := by
  simp only [fileOk, Bool.and_eq_true, List.all_eq_true] at *
  exact ⟨sortedFrom_filter p h.1, fun x hx => h.2 x (List.mem_of_mem_filter hx)⟩

/-! ## Messages, events, incidents, completions -/

theorem inv_idleTick (h : Inv s) : Inv s.idleTick :=
  inv_ite (inv_frame h) h

theorem inv_modSpur {n f} (h : Inv s) : Inv (s.modSpur n f) :=
  inv_frame h

theorem inv_mapSpurs {f} (h : Inv s) : Inv (s.mapSpurs f) :=
  inv_frame h

theorem inv_modSad {k f} (h : Inv s) : Inv (s.modSad k f) :=
  inv_frame h

theorem inv_mapSads {f} (h : Inv s) : Inv (s.mapSads f) :=
  inv_frame h

theorem inv_modCol {f g} (h : Inv s) : Inv (s.modCol f g) :=
  inv_frame h

theorem inv_mapCols {g} (h : Inv s) : Inv (s.mapCols g) :=
  inv_frame h

theorem inv_modChan {c g} (h : Inv s) : Inv (s.modChan c g) :=
  inv_frame h

theorem inv_tookFree (h : Inv s) : Inv s.tookFree :=
  inv_frame h

theorem inv_send {m} (h : Inv s) : Inv (s.send m) :=
  inv_frame h

theorem inv_raiseAs {ev sev kind idx detail} (h : Inv s) : Inv (s.raiseAs ev sev kind idx detail) := by
  unfold State.raiseAs
  split
  · exact inv_frame h
  · exact inv_frame h

theorem inv_sendLane {c} (h : Inv s) : Inv (s.sendLane c) :=
  inv_ite h (inv_send h)

theorem inv_raise {ev kind idx detail} (h : Inv s) : Inv (s.raise ev kind idx detail) :=
  inv_raiseAs h

theorem inv_incident {i} (h : Inv s) : Inv (s.incident i) :=
  inv_ite (inv_frame h (hf := (length_setNth ..).trans)) (inv_ite (inv_frame h) (inv_frame h))

theorem inv_closeIncident {c u} (h : Inv s) : Inv (s.closeIncident c u) := by
  unfold State.closeIncident
  split
  · exact inv_ite (inv_frame h (hf := (length_setNth ..).trans)) h
  · exact h

theorem inv_complete {c} (h : Inv s) : Inv (s.complete c) :=
  inv_frame h

/-! ## Register words -/

theorem inv_setWord {a w} (h : Inv s) : Inv (s.setWord a w) :=
  ⟨setWord_wordsOk h.1 a w, h.2⟩

theorem inv_setField {a hi lo v} (h : Inv s) : Inv (s.setField a hi lo v) :=
  inv_setWord h

theorem inv_noteSet {a i} (h : Inv s) : Inv (s.noteSet a i) :=
  inv_frame h

theorem inv_setBit {a i} (h : Inv s) : Inv (s.setBit a i) :=
  inv_noteSet (inv_setWord h)

theorem inv_setShadow {a w} (h : Inv s) : Inv (s.setShadow a w) :=
  inv_frame h

theorem inv_dropShadow {a} (h : Inv s) : Inv (s.dropShadow a) :=
  inv_frame h

theorem inv_cfgEvent {ev a v} (h : Inv s) : Inv (s.cfgEvent ev a v) :=
  inv_raise h

theorem inv_take {a v acc} {f : State → State} (h : Inv s) (hf : ∀ t : State, Inv t → Inv (f t)) : Inv (s.take a v acc f) :=
  inv_ite h (inv_ite (inv_cfgEvent h) (inv_ite (inv_cfgEvent h) (hf s h)))

/-! ## Status bits -/

theorem inv_strFlag {n i} (h : Inv s) : Inv (s.strFlag n i) :=
  inv_setBit h

theorem inv_wlFlag {n i} (h : Inv s) : Inv (s.wlFlag n i) :=
  inv_setBit h

theorem inv_sadFlag {k i} (h : Inv s) : Inv (s.sadFlag k i) :=
  inv_setBit h

theorem inv_refFlag {i} (h : Inv s) : Inv (s.refFlag i) :=
  inv_setBit h

/-! ## What the commands of a Spur share -/

theorem inv_baseMoved (h : Inv s) : Inv s.baseMoved :=
  inv_frame h

theorem inv_sadEvent {k ev detail} (h : Inv s) : Inv (s.sadEvent k ev detail) :=
  inv_ite h (inv_raise (inv_modSad h))

theorem inv_sadFail {k} (h : Inv s) : Inv (s.sadFail k) :=
  inv_ite h (inv_incident (inv_sadFlag (inv_sadEvent (inv_modSad h))))

theorem inv_sadError {k ev flag} (h : Inv s) : Inv (s.sadError k ev flag) :=
  have ht := inv_modSad (inv_sadFlag (inv_sadEvent h))
  inv_ite (inv_sadFail ht) ht

/-! ## Checksum frames -/

theorem inv_examine {n} (h : Inv s) : Inv (s.examine n) :=
  inv_modSpur (by split; exacts [inv_wlFlag (inv_raise h), h])

theorem inv_chkRate {n} (h : Inv s) : Inv (s.chkRate n) :=
  inv_baseMoved (inv_examine (inv_modSpur (inv_wlFlag (inv_raiseAs h))))

theorem inv_endFrame {n bits} (h : Inv s) : Inv (s.endFrame n bits) :=
  inv_when (inv_when (inv_modSpur h) fun _ h => inv_wlFlag (inv_raise h)) fun _ h => inv_chkRate h

theorem inv_sampleFrame {n} (h : Inv s) : Inv (s.sampleFrame n) := by
  unfold State.sampleFrame
  split
  · exact h
  · exact inv_ite (inv_modSpur h) (inv_endFrame h)

theorem inv_bandMark {r} (h : Inv s) : Inv (s.bandMark r) :=
  have ht := inv_modSpur h
  inv_ite (inv_tookFree ht) ht

/-! ## Registers of a Spur -/

theorem inv_applyShadow {n o} (h : Inv s) : Inv (s.applyShadow n o) := by
  unfold State.applyShadow
  split
  · exact h
  · exact inv_dropShadow (inv_setWord h)

theorem inv_putSpr {n o v mask} (h : Inv s) : Inv (s.putSpr n o v mask) :=
  inv_ite h (inv_ite (inv_setWord h) (by split; exacts [inv_setWord h, inv_modSpur h]))

theorem inv_applyHeld {n} (h : Inv s) : Inv (s.applyHeld n) :=
  inv_frame (inv_each h fun _ _ h => inv_putSpr h)

theorem inv_tellFields {a v es} (h : Inv s) : Inv (s.tellFields a v es) :=
  inv_each h fun _ _ h => inv_when h fun _ h1 => inv_cfgEvent h1

theorem inv_writeSpr {n o v} (h : Inv s) : Inv (s.writeSpr n o v) :=
  have ht := inv_tellFields h
  have hu := inv_ite (inv_frame ht) (inv_each ht fun _ _ h => inv_putSpr h)
  inv_ite hu (inv_each hu fun _ _ h => inv_setShadow h)

theorem inv_noteCeil {n} (h : Inv s) : Inv (s.noteCeil n) :=
  inv_ite h (inv_modSpur h)

theorem inv_writeCeil {n hi v} (h : Inv s) : Inv (s.writeCeil n hi v) :=
  inv_when (inv_tellFields h) fun _ h => inv_each h fun _ _ h1 => inv_setShadow (inv_noteCeil h1)

/-! ## The plan, requests for voltage -/

theorem inv_modPlan {g : Plan → Plan} (h : Inv s) (hg : s.plan.groups.length = 4 → (g s.plan).groups.length = 4) : Inv (s.modPlan g) :=
  ⟨h.1, hg h.2.1, h.2.2⟩

theorem inv_requests {now} (h : Inv s) : Inv (s.requests now) :=
  inv_mapCols h

/-! ## Spur generators, commits, field spares -/

theorem inv_spurFails {n cause ev} (h : Inv s) : Inv (s.spurFails n cause ev) :=
  inv_ite h (inv_modCol (inv_modSpur h))

theorem inv_restoreLoop (h : Inv s) : Inv s.restoreLoop :=
  inv_modSpur h

theorem inv_startReturn {n} (h : Inv s) : Inv (s.startReturn n) := by
  unfold State.startReturn
  extract_lets f t
  have ht : Inv t := inv_frame h
  split
  · exact inv_frame ht
  · exact inv_frame ht

theorem inv_testLocked {n} (h : Inv s) : Inv (s.testLocked n) :=
  have ht := inv_modSpur (inv_frame h)
  inv_ite h (inv_ite (inv_restoreLoop h) (inv_ite (inv_startReturn ht) ht))

theorem inv_execLoopCompare {n e ppm} (h : Inv s) : InvNext (execLoopCompare n e ppm s) :=
  inv_next (inv_ite h (inv_when (inv_when (inv_testLocked (inv_modSpur h)) fun _ h => inv_spurFails (inv_raise h)) fun _ h => inv_modSpur (inv_raise h)))

theorem inv_stageAt {c n} (h : Inv s) : Inv (State.stageAt c s n) := by
  unfold State.stageAt
  split
  · exact inv_modSpur h
  · exact inv_raise h

theorem inv_track {f r} (h : Inv s) : Inv (s.track f r) :=
  inv_modSpur (inv_modCol h)

theorem inv_splitField {f refusers target} (h : Inv s) : Inv (s.splitField f refusers target) :=
  have ht := inv_raise h
  inv_each (by split; exacts [inv_ite (inv_track ht) ht, ht]) fun _ _ h => inv_spurFails (inv_modSpur h)

theorem inv_execArm {d q} (h : Inv s) : InvNext (execArm d q s) :=
  have ht := inv_each (inv_each h fun _ _ h => inv_modSpur h) fun _ _ h => inv_raise h
  inv_next (inv_ite ht (inv_each ht fun _ _ h => inv_splitField h))

theorem inv_cancelAt {q n} (h : Inv s) : Inv (State.cancelAt q s n) :=
  inv_ite (inv_raise h) (inv_modSpur h)

theorem inv_discardBy {takes p} (h : Inv s) : Inv (s.discardBy takes p) :=
  inv_requests (inv_mapSpurs h)

theorem inv_discardAll (h : Inv s) : Inv s.discardAll :=
  inv_discardBy h

theorem inv_discardNew (h : Inv s) : Inv s.discardNew :=
  inv_discardBy h

theorem inv_discardOne {g} (h : Inv s) : Inv (s.discardOne g) :=
  inv_discardBy h

theorem inv_copyFence {src dst} (h : Inv s) : Inv (s.copyFence src dst) :=
  inv_setField h

theorem inv_takeOver {f r} (h : Inv s) : Inv (s.takeOver f r) :=
  inv_baseMoved (inv_closeIncident (inv_modCol (inv_copyFence (inv_modSpur (inv_modSpur h)))))

theorem inv_takeBack {f r} (h : Inv s) : Inv (s.takeBack f r) :=
  inv_baseMoved (inv_modCol (inv_copyFence (inv_modSpur (inv_modSpur h))))

theorem inv_undark {r} (h : Inv s) : Inv (s.undark r) :=
  inv_modCol (inv_modSpur (inv_modSpur h))

theorem inv_beginScan (h : Inv s) : Inv s.beginScan :=
  inv_modSpur (inv_frame h)

theorem inv_testTaken {r} (h : Inv s) : Inv (s.testTaken r) :=
  inv_ite (inv_beginScan h) h

theorem inv_execSpareHandover {f} (h : Inv s) : InvNext (execSpareHandover f s) := by
  refine inv_next (inv_ite h ?_)
  refine inv_ite h (inv_ite ?_ (inv_ite (inv_when (inv_testTaken (inv_takeOver h)) fun _ h => inv_raise h) h))
  split
  · exact inv_takeBack h
  · exact inv_undark h
  · exact h

theorem inv_forceOver {f} (h : Inv s) : Inv (s.forceOver f) :=
  inv_raise (inv_modCol (inv_testTaken (inv_takeOver h)))

theorem inv_sadMark {r} (h : Inv s) : Inv (s.sadMark r) :=
  inv_each h fun _ _ h => inv_ite (inv_modSad h) (inv_modSad h)

theorem inv_gradeMark {r m} (h : Inv s) : Inv (s.gradeMark r m) := by
  unfold State.gradeMark
  extract_lets due
  split
  · exact h
  · exact inv_frame (inv_frame h)

theorem inv_gateMark {n m} (h : Inv s) : Inv (s.gateMark n m) :=
  inv_ite (inv_ite (inv_modSpur h) (inv_modSpur h)) h

theorem inv_fenceMark {n} (h : Inv s) : Inv (s.fenceMark n) :=
  inv_ite (inv_modSpur h) h

theorem inv_endCaps {r} (h : Inv s) : Inv (s.endCaps r) :=
  inv_each h fun _ _ h => inv_modSpur h

theorem inv_cutRegion {r} (h : Inv s) : Inv (s.cutRegion r) :=
  have ht := inv_modCol (inv_each (inv_modSpur (inv_ite (inv_modCol h) (inv_ite (inv_endCaps h) h))) fun _ _ h => inv_modSad h)
  inv_ite ht (inv_send ht)

theorem inv_splitMark {n m} (h : Inv s) : Inv (s.splitMark n m) :=
  have ht := inv_modSpur h
  inv_ite h (inv_ite (inv_ite (inv_raise (inv_takeOver ht)) (inv_forceOver ht)) (by
    split
    · exact ht
    · exact inv_cutRegion ht))

theorem inv_windowMark {n m} (h : Inv s) : Inv (s.windowMark n m) :=
  inv_ite (inv_modSpur h) (inv_ite (inv_modSpur h) h)

theorem inv_execTallyMark {n} (h : Inv s) : InvNext (execTallyMark n s) := by
  refine inv_next (inv_ite h ?_)
  extract_lets x m late t u v w y z
  have hu : Inv u := inv_modSpur (inv_fenceMark (inv_gateMark h))
  have hv : Inv v := inv_each hu fun _ _ h => inv_raise h
  have hw : Inv w := inv_when hv fun _ h => inv_wlFlag (inv_raise h)
  have hy : Inv y := inv_when hw fun _ h => inv_baseMoved (inv_modSpur h)
  have hz : Inv z := inv_windowMark (inv_splitMark (inv_each hy fun _ _ h => inv_cutRegion h))
  split
  · exact inv_when hz fun _ h => inv_sadMark h
  · next r _ =>
    extract_lets a b c
    have hc : Inv c := inv_sadMark (inv_bandMark (inv_gradeMark (inv_modSpur hz)))
    split
    · exact hc
    · exact inv_sadMark (inv_bandMark hc)

theorem inv_applyFenceOp {n op} (h : Inv s) : Inv (s.applyFenceOp n op) :=
  inv_ite (inv_dropShadow (inv_setField h)) h

theorem inv_patchFab {stop g} (h : Inv s) : Inv (s.patchFab stop g) :=
  inv_frame h

theorem inv_applyLadder {laddered d} (h : Inv s) : Inv (State.applyLadder laddered s d) := by
  unfold State.applyLadder
  split
  · exact h
  · exact
      have ht := inv_each h fun _ _ h => inv_dropShadow h
      inv_ite ht (by split; exacts [inv_patchFab ht, inv_cfgEvent ht])

theorem inv_rebind (h : Inv s) : Inv s.rebind :=
  inv_frame h

theorem inv_sideModes {fb r m} (h : Inv s) : Inv (s.sideModes fb r m) :=
  inv_each h fun _ _ h => inv_each h fun _ _ h1 => inv_modSad h1

theorem inv_applySet {c laddered} (h : Inv s) : Inv (s.applySet c laddered) :=
  have ht := inv_each (inv_frame h) fun _ _ h => inv_applyLadder h
  inv_baseMoved (inv_requests (inv_rebind (inv_frame ht)))

theorem inv_execCommit {n} (h : Inv s) : InvNext (execCommit n s) := by
  refine inv_next ?_
  split
  · exact h
  · next e _ =>
    extract_lets fb r d fOld code t u v w y
    have ht : Inv t := inv_modSpur h
    have hu : Inv u := inv_ite (inv_applyHeld (inv_each ht fun _ _ h => inv_applyShadow h)) ht
    have hw : Inv w := inv_modSpur (inv_applyFenceOp hu)
    have hy : Inv y := by
      unfold y
      split
      · exact hw
      · exact inv_sideModes hw
    split
    · exact hy
    · exact inv_ite hy (inv_applySet hy)

/-! ## Edges -/

theorem inv_relayStep {n r} (h : Inv s) : Inv (s.relayStep n r) := by
  unfold State.relayStep
  split
  · exact h
  · exact inv_modSpur h

theorem inv_relayOwn {r change} (h : Inv s) : Inv (s.relayOwn r change) := by
  unfold State.relayOwn
  split
  · exact h
  · exact inv_each h fun _ _ h => inv_modSad h

theorem inv_endPerturb (h : Inv s) : Inv s.endPerturb :=
  inv_when (inv_when h fun _ h => inv_setField h) fun _ h => inv_setField h

theorem inv_sayAt {n code v} (h : Inv s) : Inv (s.sayAt n code v) :=
  inv_each h fun _ _ h => by split; exacts [h, inv_ite (inv_modSad h) (inv_modSad h)]

theorem inv_hearAt {g change v} (h : Inv s) : Inv (s.hearAt g change v) :=
  inv_each h fun _ _ h => inv_modSad h

theorem inv_wires {n r change} (h : Inv s) : Inv (s.wires n r change) :=
  inv_each (inv_each h fun _ _ h => inv_hearAt h) fun _ _ h => inv_sayAt h

theorem inv_edgeRun {n r slacks} (h : Inv s) : Inv (s.edgeRun n r slacks) :=
  inv_when (inv_sampleFrame (inv_when (inv_when
      (inv_when (inv_when (inv_wires (inv_relayOwn
          (inv_modSpur (inv_relayStep h)))) fun _ h => inv_strFlag h) fun _ h => inv_strFlag h) fun _ h => inv_raise h) fun _ h => inv_modCol
              (inv_raiseAs (inv_strFlag h)))) fun _ h => inv_endPerturb h

theorem inv_edgeIdle {n slacks} (h : Inv s) : Inv (s.edgeIdle n slacks) := by
  unfold State.edgeIdle
  split
  · exact inv_modSpur h
  · exact inv_modCol (inv_modSpur h)

theorem inv_execSpurEdge {n slacks} (h : Inv s) : InvNext (execSpurEdge n slacks s) := by
  refine inv_next (inv_ite h ?_)
  split
  · exact inv_edgeIdle h
  · exact inv_ite (inv_wires (inv_modSpur h)) (inv_ite (inv_wires (inv_relayOwn (inv_modSpur h))) (inv_edgeRun h))

theorem inv_notice {k toHigher w flip} (h : Inv s) : Inv (s.notice k toHigher w flip) := by
  unfold State.notice
  extract_lets recv send code t p u
  have ht : Inv t := inv_when h fun _ h => inv_strFlag (inv_strFlag (inv_sadEvent h))
  have hu : Inv u := inv_frame ht
  split
  · exact inv_frame hu
  · exact inv_frame hu

/-! ## Saddles -/

theorem inv_ratioDrop {k toHigher} (h : Inv s) : Inv (s.ratioDrop k toHigher) :=
  inv_sadFlag (inv_sadEvent (inv_modSad h))

theorem inv_tagFail {k toHigher ev flag} (h : Inv s) : Inv (s.tagFail k toHigher ev flag) :=
  inv_sadError (inv_modSad h)

theorem inv_captureInner {k toHigher c rc data} (h : Inv s) : Inv (s.captureInner k toHigher c rc data) :=
  have ht := inv_modSad h
  inv_ite (inv_modSad ht) (inv_tagFail ht)

theorem inv_captureSeam {k toHigher c rc data} (h : Inv s) : Inv (s.captureSeam k toHigher c rc data) :=
  have ht := inv_modSad h
  inv_ite (inv_modSad ht) (inv_tagFail ht)

theorem inv_captureRatio {k toHigher c rc data} (h : Inv s) : Inv (s.captureRatio k toHigher c rc data) :=
  inv_ite (inv_ite (inv_captureSeam h) (inv_modSad h)) (inv_ite (inv_captureSeam h) (inv_ratioDrop h))

theorem inv_execBulkWord {k toHigher c rc data} (h : Inv s) : InvNext (execBulkWord k toHigher c rc data s) :=
  inv_next (inv_ite (inv_modSad h) (inv_ite (inv_captureInner h) (inv_ite (inv_ratioDrop h) (inv_ite (inv_captureSeam h) (inv_captureRatio h)))))

theorem inv_resync {k r v} (h : Inv s) : Inv (s.resync k r v).1 := by
  unfold State.resync
  extract_lets
  split
  · exact h
  · split
    · exact h
    · exact inv_frame h
  · exact inv_frame h

theorem inv_resyncLender {b} (h : Inv s) : Inv (s.resyncLender b) := by
  unfold State.resyncLender
  split
  · exact inv_modSpur h
  · exact h

theorem inv_noticeSlip {k lo hi} (h : Inv s) : Inv (s.noticeSlip k lo hi) :=
  have ht := inv_sadFlag (inv_sadEvent h)
  have hu := inv_ite (inv_strFlag ht) ht
  inv_ite (inv_strFlag hu) hu

theorem inv_skewCheck {k} (h : Inv s) : Inv (s.skewCheck k) :=
  inv_when (inv_when (inv_modSad h) fun _ h => inv_sadFlag (inv_sadEvent h)) fun _ h => inv_sadFail h

theorem inv_resyncAll {k m} (h : Inv s) : Inv (s.resyncAll k m) :=
  have ht := inv_resync (inv_resync (inv_frame h))
  inv_when (inv_skewCheck (inv_when (inv_resyncLender (inv_resyncLender ht)) fun _ h => inv_noticeSlip h)) fun _ h => inv_frame h

theorem inv_execSaddleMeasure {k m0 number interval} (h : Inv s) : InvNext (execSaddleMeasure k m0 number interval s) := by
  refine inv_next ?_
  split
  · exact h
  · exact
      have ht := inv_when (inv_modSad h) fun _ h => inv_sadError h
      inv_ite h (inv_ite (inv_resyncAll ht) ht)

/-! ## Sets, markers, groups -/

theorem inv_finish {e st m detail domain merged} (h : Inv s) : Inv (s.finish e st m detail domain merged) :=
  inv_modPlan (inv_complete h) id

theorem inv_finishAll {es st} (h : Inv s) : Inv (s.finishAll es st) :=
  inv_each h fun _ _ h => inv_finish h

theorem inv_closeMarkers (h : Inv s) : Inv s.closeMarkers :=
  inv_each h fun _ _ h => inv_ite h (by split; exacts [inv_modPlan h id, inv_modPlan (inv_finish h) id])

theorem inv_closeGroups (h : Inv s) : Inv s.closeGroups :=
  inv_each h fun _ _ h => inv_ite h (by
    split
    · exact h
    · exact inv_modPlan (inv_elim h fun _ => inv_finish h) (length_modGroup ..).trans)

theorem inv_closeOut (h : Inv s) : Inv s.closeOut :=
  inv_closeMarkers (inv_closeGroups h)

theorem inv_sendStage {c} (h : Inv s) : Inv (s.sendStage c) :=
  inv_each h fun _ _ h => inv_sendLane h

theorem inv_tellDrop {c} (h : Inv s) : Inv (s.tellDrop c) :=
  inv_ite h (inv_raise h)

theorem inv_setSprint {n} (h : Inv s) : Inv (s.setSprint n) :=
  inv_when (inv_frame h) fun _ h => inv_raise h

theorem inv_followProfile (h : Inv s) : Inv s.followProfile :=
  inv_ite h (inv_setSprint h)

theorem inv_putStage {c r volt} (h : Inv s) : Inv (s.putStage c r volt) :=
  inv_when (inv_when (inv_requests (inv_sendStage (inv_modPlan h id))) fun _ h => inv_tellDrop h) fun _ h => inv_followProfile h

theorem inv_retarget {q t} (h : Inv s) : Inv (s.retarget q t) :=
  inv_modPlan h id

theorem inv_resend (h : Inv s) : Inv s.resend :=
  inv_each h fun _ _ h => inv_modPlan (inv_sendStage h) id

theorem inv_unstage {c} (h : Inv s) : Inv (s.unstage c) :=
  inv_ite (inv_requests (inv_sendLane (inv_modPlan h id))) h

theorem inv_withdraw {q} (h : Inv s) : Inv (s.withdraw q) :=
  inv_each h fun _ _ h => inv_modPlan (inv_unstage h) id

theorem inv_screen {c bad} (h : Inv s) : Inv (s.screen c bad) :=
  inv_ite h (inv_closeOut (inv_modPlan (inv_each h fun _ _ h => inv_elim h fun _ => inv_finish h) id))

theorem inv_buildSeries {c bases} (h : Inv s) : Inv (s.buildSeries c bases) :=
  inv_modPlan (inv_ite h (inv_retarget h)) id

theorem inv_raiseAfter {c r} (h : Inv s) : Inv (s.raiseAfter c r) :=
  inv_ite (inv_modPlan h id) h

/-! ## The life of a change -/

theorem inv_putReq {stop r} (h : Inv s) : Inv (s.putReq stop r) :=
  inv_rebind (inv_patchFab h)

theorem inv_nullify {c r} (h : Inv s) : Inv (s.nullify c r) :=
  have ht := inv_unstage h
  inv_ite (inv_when (inv_modPlan ht id) fun _ h => inv_putReq h) (inv_modPlan ht id)

theorem inv_nullRequests (h : Inv s) : Inv s.nullRequests :=
  inv_each h fun _ _ h => inv_putReq h

theorem inv_renew {q last} (h : Inv s) : Inv (s.renew q last) := by
  unfold State.renew
  split
  · exact h
  · extract_lets cap r bad t
    have ht : Inv t := inv_screen h
    split
    · exact ht
    · exact inv_ite (inv_modPlan (inv_unstage ht) id)
        (inv_ite (inv_nullify ht) (inv_ite (inv_unstage ht) (inv_ite (inv_raiseAfter (inv_putStage ht)) ht)))

theorem inv_stageFormed {q} (h : Inv s) : Inv (s.stageFormed q) := by
  unfold State.stageFormed
  split
  · exact h
  · extract_lets bad t
    have ht : Inv t := inv_screen h
    split
    · exact ht
    · refine inv_ite (inv_modPlan ht id) ?_
      extract_lets floor u tgt v c r view isMid w
      have hu : Inv u := inv_ite ht (inv_retarget ht)
      have hv : Inv v := by
        unfold v
        split
        · exact hu
        · exact inv_raise (inv_retarget hu)
      have hw : Inv w := inv_buildSeries hv
      refine inv_ite ?_ (inv_resend (inv_raiseAfter (inv_putStage hv)))
      split
      · exact hw
      · exact inv_putStage hw

theorem inv_setGate {m} (h : Inv s) : Inv (s.setGate m) :=
  inv_ite (inv_frame h) h

theorem inv_dropStep (h : Inv s) : Inv s.dropStep := by
  refine inv_ite (inv_setGate (inv_ite (inv_putReq (inv_frame h)) (inv_rebind (inv_frame h)))) ?_
  split
  · exact inv_setGate (inv_renew (inv_frame h))
  · exact inv_ite h (inv_setGate (inv_stageFormed (inv_modPlan (inv_frame h) id)))

theorem inv_stageNext (h : Inv s) : Inv s.stageNext := by
  unfold State.stageNext
  split
  · exact h
  · exact inv_ite (inv_stageFormed h) h

theorem inv_abandon {c st} (h : Inv s) : Inv (s.abandon c st) :=
  inv_withdraw (inv_each h fun _ _ h => inv_finish h)

theorem inv_requestNow (h : Inv s) : Inv s.requestNow :=
  inv_rebind (inv_frame h)

theorem inv_renewAfter {t} (h : Inv s) : Inv (s.renewAfter t) :=
  inv_each h fun _ _ h => inv_renew h

theorem inv_defer {c} (h : Inv s) : Inv (s.defer c) :=
  inv_renew (inv_resend (inv_retarget (inv_modPlan (inv_when h fun _ h => inv_raise h) id)))

theorem inv_mirrorArm {c} (h : Inv s) : Inv (s.mirrorArm c) := by
  refine inv_frame h (hr := fun hm m hmem => ?_)
  rcases List.mem_append.1 hmem with hold | hnext
  · exact hm m (List.mem_append_left _ hold)
  · obtain ⟨x, hx, rfl⟩ := List.mem_map.1 hnext
    split
    · exact hm x (List.mem_append_right _ hx)
    · exact hm x (List.mem_append_right _ hx)

theorem inv_execArmDecision (h : Inv s) : InvNext (execArmDecision s) := by
  refine inv_next ?_
  split
  · exact h
  · refine inv_ite h ?_
    split
    · exact inv_resend (inv_retarget (inv_raise h))
    · split
      · exact inv_sendLane (inv_mirrorArm (inv_modPlan h id))
      · exact inv_ite (inv_closeOut (inv_renewAfter (inv_requestNow (inv_abandon (inv_raise h))))) (inv_defer h)

theorem inv_execArmRefusedAll (h : Inv s) : InvNext (execArmRefusedAll s) := by
  refine inv_next ?_
  split
  · exact h
  · exact
      have ht := inv_modPlan h id
      inv_ite (inv_closeOut (inv_renewAfter (inv_abandon ht))) (inv_renew (inv_resend (inv_retarget ht)))

theorem inv_completeSet {c fb} (h : Inv s) : Inv (s.completeSet c fb) :=
  inv_closeOut (inv_modPlan (inv_each h fun _ _ h => inv_finish h) id)

/-! ## Windows -/

theorem inv_startWindows (h : Inv s) : Inv s.startWindows :=
  inv_ite (inv_frame h) h

theorem inv_stopWindows (h : Inv s) : Inv s.stopWindows :=
  inv_ite h (inv_frame h)

theorem inv_schedule {w us ms once} (h : Inv s) : Inv (s.schedule w us ms once) :=
  have ht := inv_setField (inv_setField h)
  inv_ite (inv_ite (inv_frame h) h) (inv_ite (inv_frame ht) (inv_ite (inv_frame ht) (inv_frame ht)))

/-! ## Descriptors -/

theorem inv_mergeInto {c e late slot} (h : Inv s) : Inv (s.mergeInto c e late slot) := by
  unfold State.mergeInto
  extract_lets fixed own q p
  split
  · exact inv_frame h
  · exact inv_frame h

theorem inv_formFor {e target late slot} (h : Inv s) : Inv (s.formFor e target late slot) := by
  unfold State.formFor
  extract_lets q p p'
  split
  · exact inv_frame h
  · exact inv_frame h

theorem inv_joinSet {e slot} (h : Inv s) : Inv (s.joinSet e slot) := by
  unfold State.joinSet
  dsimp only
  split
  · exact inv_ite (inv_finish h) (inv_mergeInto h)
  · split
    · exact inv_mergeInto h
    · exact inv_formFor h

theorem inv_act {e lead slot} (h : Inv s) : Inv (s.act e lead slot) :=
  inv_modPlan h id

theorem inv_takeDomain {e slot} (h : Inv s) : Inv (s.takeDomain e slot) :=
  inv_ite (inv_joinSet h) (inv_ite (inv_finish h) (inv_ite (inv_finish h) (inv_act h)))

theorem inv_accept {e} {f : State → FbEntry → Option Nat → State} (h : Inv s) (hf : ∀ (t : State) e k, Inv t → Inv (f t e k)) : Inv (s.accept e f) := by
  unfold State.accept
  split
  · exact hf _ _ _ h
  · next k _ =>
    have ht : ∀ g i m, Inv (s.modPlan fun p => (p.modGroup k g).modEntry i m) := fun _ _ _ => inv_modPlan h (length_modGroup ..).trans
    refine inv_ite (hf _ _ _ h) ?_
    dsimp only
    split
    · exact inv_closeOut (inv_finish (ht _ _ _))
    · exact inv_closeOut (inv_finish (ht _ _ _))
    · exact hf _ _ _ (ht _ _ _)
    · exact hf _ _ _ (ht _ _ _)

theorem inv_refuse {e st k} (h : Inv s) : Inv (s.refuse e st k) :=
  inv_closeOut (inv_finish h)

theorem inv_process {ty} {f : State → FbEntry → Option Nat → State} (h : Inv s) (hf : ∀ (t : State) e k, Inv t → Inv (f t e k)) :
    Inv (s.process ty f) := by
  unfold State.process
  split
  · exact h
  · next e _ =>
    have ht : Inv (s.modPlan fun p => p.examined e) := inv_modPlan h id
    refine inv_ite h ?_
    dsimp only
    split
    · exact inv_refuse ht
    · exact inv_accept ht hf

theorem inv_joins {e slot} (h : Inv s) : Inv (joins s e slot) :=
  inv_closeOut (inv_joinSet h)

theorem inv_joinsDomain {e slot} (h : Inv s) : Inv (joinsDomain s e slot) :=
  inv_closeOut (inv_takeDomain h)

theorem inv_execCondBegin (h : Inv s) : InvNext (execCondBegin s) :=
  inv_next (inv_process h fun _ _ _ h => by
    split
    · exact h
    · exact inv_modPlan h (length_modGroup ..).trans)

theorem inv_execCondEnd (h : Inv s) : InvNext (execCondEnd s) :=
  inv_next (inv_process h fun _ _ _ h => by
    split
    · exact h
    · exact inv_closeOut (inv_modPlan h (length_modGroup ..).trans))

theorem inv_execNop (h : Inv s) : InvNext (execNop s) :=
  inv_next (inv_process h fun _ _ _ h => by split; exacts [inv_modPlan h id, inv_closeOut (inv_finish h)])

/-! ## Lookout channels -/

theorem inv_freeChan {c} (h : Inv s) : Inv (s.freeChan c) :=
  have ht := inv_modChan h
  inv_ite (inv_modChan ht) ht

theorem inv_endMeasure {c timeout closed} (h : Inv s) : Inv (s.endMeasure c timeout closed) :=
  have ht := inv_when (inv_when (inv_modChan (inv_freeChan h)) fun _ h => inv_raise h) fun _ h => inv_raise h
  have hu := inv_send ht
  inv_ite h (by
    split
    · exact inv_closeOut (inv_elim hu fun _ => inv_finish hu)
    · exact inv_raise ht)

theorem inv_calibrated {c freq own stop} (h : Inv s) : Inv (s.calibrated c freq own stop) := by
  unfold State.calibrated
  extract_lets t
  have ht : Inv t := inv_modChan h
  split
  · exact ht
  · exact inv_modChan ht

theorem inv_armChan {c freq owner limit addr own stop u} (h : Inv s) (hu : s.armChan c freq owner limit addr own stop = .ok u) : Inv u := by
  unfold State.armChan at hu
  split at hu
  · cases hu
  · split at hu
    · cases hu
    · cases hu
      split
      · exact inv_frame (inv_calibrated (inv_frame h))
      · exact inv_frame (inv_calibrated (inv_frame h))

theorem inv_execRegisterArm {c own stop} (h : Inv s) : InvNext (execRegisterArm c own stop s) := by
  refine inv_next (inv_take h fun t h => ?_)
  split
  · next hok => exact inv_armChan h hok
  · exact inv_ite (inv_cfgEvent h) (inv_raise (inv_frame (inv_ite (inv_calibrated h) h)))

theorem inv_freeEdge {c ts} (h : Inv s) : Inv (s.freeEdge c ts) :=
  have ht := inv_modChan h
  inv_ite (inv_endMeasure ht) ht

theorem inv_freqEdge {c ts} (h : Inv s) : Inv (s.freqEdge c ts) :=
  have ht := inv_modChan h
  inv_ite (inv_modChan h) (inv_ite (inv_endMeasure ht) ht)

theorem inv_pair {k start stop iv tie} (h : Inv s) : Inv (s.pair k start stop iv tie) :=
  have ht := inv_modChan h
  inv_ite (inv_endMeasure ht) ht

theorem inv_startEdge {k ts} (h : Inv s) : Inv (s.startEdge k ts) := by
  unfold State.startEdge
  split
  · exact inv_ite (inv_pair (inv_modChan h)) (inv_modChan h)
  · exact inv_modChan h

theorem inv_stopEdge {k ts} (h : Inv s) : Inv (s.stopEdge k ts) := by
  unfold State.stopEdge
  extract_lets stray
  have hstray : Inv stray := inv_modChan h
  split
  · exact hstray
  · exact inv_ite (inv_pair h) (inv_ite (inv_pair h) hstray)

theorem inv_ppsEdge {ts} (h : Inv s) : Inv (s.ppsEdge ts) :=
  inv_ite h (inv_ite (inv_frame h) (inv_modChan (inv_frame h)))

theorem inv_feed {c ts falling} (h : Inv s) : Inv (s.feed c ts falling) := by
  unfold State.feed
  split
  · exact inv_ite (inv_startEdge h) (inv_stopEdge h)
  · exact inv_ite h (inv_ite (inv_freqEdge h) (inv_ite (inv_startEdge h) (inv_freeEdge h)))

theorem inv_execLookoutEdge {c time falling} (h : Inv s) : InvNext (execLookoutEdge c time falling s) :=
  have ht := inv_ite (inv_ppsEdge h) h
  inv_next (inv_ite h (inv_ite (by split; exacts [inv_modChan h, h]) (inv_ite h (inv_ite (inv_feed (inv_modChan ht)) ht))))

theorem inv_runMeasure {e late} (h : Inv s) : Inv (s.runMeasure e late) := by
  unfold State.runMeasure
  extract_lets done t own u stop v
  have hv : Inv v := inv_tookFree (inv_tookFree (inv_tookFree (inv_tookFree h)))
  refine inv_ite (inv_finish (inv_send h)) ?_
  split
  · next hok => exact inv_armChan hv hok
  · exact inv_finish (inv_ite (inv_calibrated hv) hv)

theorem inv_dropMeasures (h : Inv s) : Inv s.dropMeasures :=
  inv_each h fun _ _ h => by split; exacts [inv_freeChan h, h]

/-! ## References -/

theorem inv_modRdg {f} (h : Inv s) : Inv (s.modRdg f) :=
  inv_frame h

theorem inv_timeBase {src} (h : Inv s) : Inv (s.timeBase src) :=
  inv_ite h (inv_raise (inv_frame h))

theorem inv_lockTo {b} (h : Inv s) : Inv (s.lockTo b) :=
  inv_timeBase (inv_frame h)

theorem inv_switchTo {b} (h : Inv s) : Inv (s.switchTo b) :=
  inv_raise (inv_refFlag (inv_lockTo h))

theorem inv_unstageSets {p} (h : Inv s) : Inv (s.unstageSets p) :=
  inv_each h fun _ _ h => inv_ite (inv_unstage h) (inv_modPlan (inv_unstage h) id)

theorem inv_holdWindows (h : Inv s) : Inv s.holdWindows := by
  unfold State.holdWindows
  extract_lets fixed _ t u
  have ht : Inv t := inv_frame h
  have hu : Inv u := inv_when ht fun _ h => inv_sendLane h
  split
  · exact inv_raise hu
  · exact hu

theorem inv_enterHoldover (h : Inv s) : Inv s.enterHoldover :=
  inv_baseMoved (inv_holdWindows (inv_unstageSets (inv_raise (inv_refFlag (inv_timeBase (inv_frame h))))))

theorem inv_leaveHoldover {b} (h : Inv s) : Inv (s.leaveHoldover b) :=
  inv_closeIncident (inv_closeIncident (inv_raise (inv_frame (inv_modRdg (inv_lockTo h)))))

theorem inv_backToStage1 (h : Inv s) : Inv s.backToStage1 :=
  inv_frame h

theorem inv_refLose {b cause} (h : Inv s) : Inv (s.refLose b cause) :=
  have ht := inv_raise (inv_modRdg h)
  inv_ite h (inv_ite ht (inv_ite (inv_ite (inv_backToStage1 ht) ht) (inv_ite (inv_closeIncident (inv_switchTo (inv_incident ht)))
      (inv_enterHoldover (inv_incident ht)))))

theorem inv_execRefEdgeLoss {b} (h : Inv s) : InvNext (execRefEdgeLoss b s) :=
  have ht := inv_refLose (inv_refFlag (inv_modRdg h))
  inv_next (inv_ite (inv_timeBase ht) ht)

theorem inv_execRefEdgeReturn {b} (h : Inv s) : InvNext (execRefEdgeReturn b s) :=
  have ht := inv_modRdg h
  inv_next (inv_ite (inv_timeBase ht) ht)

theorem inv_qualified {b} (h : Inv s) : Inv (s.qualified b) :=
  have ht := inv_modRdg h
  inv_ite (inv_leaveHoldover ht) (inv_ite (inv_modRdg ht) ht)

theorem inv_execFreqGate {b count} (h : Inv s) : InvNext (execFreqGate b count s) :=
  have ht := inv_when (inv_modRdg h) fun _ h => inv_refLose (inv_refFlag h)
  inv_next (inv_ite (inv_when (inv_modRdg ht) fun _ h => inv_raise h) (inv_ite (inv_qualified ht) ht))

theorem inv_execRevertSwitch (h : Inv s) : InvNext (execRevertSwitch s) :=
  have ht := inv_modRdg h
  inv_next (inv_ite h (by split; exacts [ht, inv_ite (inv_switchTo h) (inv_ite (inv_enterHoldover (inv_incident ht)) ht)]))

theorem inv_execRequestedSwitch (h : Inv s) : InvNext (execRequestedSwitch s) :=
  have ht := inv_modRdg h
  inv_next (inv_ite h (by split; exacts [ht, inv_ite (inv_switchTo ht) (inv_raise ht)]))

theorem inv_record {f code ridge summit drove} (h : Inv s) : Inv (s.record f code ridge summit drove) :=
  inv_noteSet (inv_modCol h)

theorem inv_ridgeLost {f} (h : Inv s) : Inv (s.ridgeLost f) :=
  inv_raise (inv_record (inv_each h fun _ _ h => inv_modSpur h))

theorem inv_spineFails {f b} (h : Inv s) : Inv (s.spineFails f b) :=
  have ht := inv_modCol h
  inv_ite ht (inv_ite (inv_ridgeLost ht) (inv_ite (inv_raise (inv_modCol ht)) ht))

theorem inv_execSpineSwitch {f} (h : Inv s) : InvNext (execSpineSwitch f s) :=
  have ht := inv_modCol h
  inv_next (inv_ite h (inv_ite (inv_modCol ht) (inv_ite (inv_raise ht) ht)))

theorem inv_execBeaconArrival {f m sender driftA driftB skew} (h : Inv s) : InvNext (execBeaconArrival f m sender driftA driftB skew s) :=
  have ht := inv_modCol h
  have hu := inv_modCol ht
  inv_next (inv_ite h (inv_ite ht (inv_ite (inv_raiseAs (inv_modCol hu)) (inv_raise (inv_modCol (inv_spineFails hu))))))

/-! ## Synchronisation reads -/

theorem inv_readLate {obj watch} (h : Inv s) : Inv (s.readLate obj watch) :=
  inv_raise h

theorem inv_silentWait {w} (h : Inv s) : Inv (s.silentWait w) :=
  inv_when (inv_modPlan h id) fun _ h => inv_readLate h

theorem inv_silentGroup {k} (h : Inv s) : Inv (s.silentGroup k) :=
  inv_when (inv_modPlan h (length_modGroup ..).trans) fun _ h => inv_readLate h

theorem inv_silentMarks (h : Inv s) : Inv s.silentMarks := by
  refine inv_ite h (inv_modPlan ?_ id)
  refine inv_each ?_ fun _ _ h => inv_ite (inv_silentGroup h) h
  split
  · exact h
  · exact inv_ite (inv_silentWait h) h

theorem inv_resolve {k o last} (h : Inv s) : Inv (s.resolve k o last) :=
  inv_modPlan h (length_modGroup ..).trans

theorem inv_settleGroup {k} (h : Inv s) : Inv (s.settleGroup k) :=
  have ht := inv_elim h fun _ => inv_ite h (inv_finish h)
  inv_closeOut (inv_each (inv_each (inv_modPlan (inv_modPlan ht (length_modGroup ..).trans) id) fun _ _ h => inv_finish h) fun _ _ h => inv_finish h)

theorem inv_settleGroups (h : Inv s) : Inv s.settleGroups :=
  inv_each h fun _ _ h => inv_ite (inv_settleGroup h) h

theorem inv_readGroup {obj v k} (h : Inv s) : Inv (s.readGroup obj v k) :=
  inv_ite h (inv_ite (inv_modPlan h (length_modGroup ..).trans) (inv_resolve h))

theorem inv_readWait {obj v} (h : Inv s) : Inv (s.readWait obj v) := by
  unfold State.readWait
  split
  · exact h
  · exact inv_ite h (inv_ite (inv_closeOut (inv_modPlan (inv_elim h fun _ => inv_finish h) id)) (inv_modPlan h id))

theorem inv_execWaitTimeout (h : Inv s) : InvNext (execWaitTimeout s) := by
  refine inv_next ?_
  split
  · exact h
  · exact inv_ite h (inv_closeOut (inv_raise (inv_modPlan (inv_elim h fun _ => inv_finish h) id)))

/-! ## Calibration -/

theorem inv_askSave (h : Inv s) : Inv s.askSave :=
  inv_ite h (inv_frame h)

theorem inv_execWindowCommand (h : Inv s) : InvNext (execWindowCommand s) := by
  refine inv_next ?_
  split
  · exact h
  · exact inv_ite h (inv_ite (inv_frame h) (inv_resend (inv_each (inv_sendLane (inv_frame h)) fun _ _ h =>
      inv_ite (inv_retarget (inv_raise h)) (inv_raise h))))

theorem inv_calReject {u item v count} (h : Inv s) : Inv (s.calReject u item v count) :=
  inv_raiseAs (inv_frame h)

theorem inv_judgeSpur {n items} (h : Inv s) : Inv (s.judgeSpur n items) :=
  inv_modSpur (inv_each h fun _ _ h => inv_calReject h)

theorem inv_judgeSaddle {k items} (h : Inv s) : Inv (s.judgeSaddle k items) :=
  inv_modSad (inv_each h fun _ _ h => inv_calReject h)

theorem inv_execCalPlausibility {rs} (h : Inv s) : InvNext (execCalPlausibility rs s) :=
  inv_next (inv_ite h (inv_ite (inv_frame h)
      (inv_each (inv_each (inv_frame h) fun _ _ h => inv_ite (inv_modSpur h) (inv_ite h (inv_judgeSpur h))) fun _ _ h => inv_ite h (inv_judgeSaddle h))))

theorem inv_calSources {n rejected retrimmed} (h : Inv s) : Inv (s.calSources n rejected retrimmed) :=
  inv_ite h (inv_baseMoved (inv_modSpur h))

theorem inv_tempRange {u t} (h : Inv s) : Inv (s.tempRange u t) :=
  inv_raise h

theorem inv_applySpur {n} (h : Inv s) : Inv (s.applySpur n) :=
  have ht := inv_ite h (inv_tookFree h)
  inv_ite h (inv_calSources (by
    split
    · exact inv_when (inv_modSpur ht) fun _ h => inv_tempRange h
    · exact inv_ite (inv_modSpur ht) (inv_when (inv_modSpur ht) fun _ h => inv_askSave h)))

theorem inv_applySaddle {k} (h : Inv s) : Inv (s.applySaddle k) := by
  refine inv_ite h (inv_ite (inv_modSad h) ?_)
  split
  · exact inv_tempRange (inv_modSad h)
  · exact inv_when (inv_modSad h) fun _ h => inv_askSave h

theorem inv_execCalApply (h : Inv s) : InvNext (execCalApply s) :=
  have ht := inv_each (inv_each (inv_frame h) fun _ _ h => inv_applySpur h) fun _ _ h => inv_applySaddle h
  inv_next (inv_ite h (inv_ite (inv_mapSads (inv_mapSpurs (inv_frame h))) (inv_ite ht (inv_ite ht (inv_ite (inv_askSave ht) (inv_frame ht))))))

theorem inv_clampEvent {u was now t bin} (h : Inv s) : Inv (s.clampEvent u was now t bin) :=
  inv_when h fun _ h => inv_raise h

theorem inv_takeGap {n} (h : Inv s) : Inv (s.takeGap n) :=
  have ht := inv_ite (inv_modSpur h) (by
    split
    · exact inv_tempRange (inv_modSpur h)
    · exact inv_when (inv_modSpur h) fun _ h => inv_askSave h)
  inv_ite h (inv_ite (inv_calSources ht) ht)

theorem inv_recomputeSpur {n} (h : Inv s) : Inv (s.recomputeSpur n) := by
  unfold State.recomputeSpur
  extract_lets t x bins
  have ht : Inv t := inv_takeGap h
  split
  · exact ht
  · exact inv_clampEvent (inv_frame ht)

theorem inv_recomputeSaddle {k} (h : Inv s) : Inv (s.recomputeSaddle k) := by
  unfold State.recomputeSaddle
  extract_lets x bins
  split
  · exact h
  · exact inv_clampEvent (inv_frame h)

theorem inv_recomputeLookout (h : Inv s) : Inv s.recomputeLookout := by
  unfold State.recomputeLookout
  extract_lets l own bins
  split
  · exact h
  · exact inv_clampEvent (inv_frame h)

theorem inv_execCalRecompute (h : Inv s) : InvNext (execCalRecompute s) :=
  inv_next (inv_ite h (inv_recomputeLookout (inv_each (inv_each (inv_frame h) fun _ _ h => inv_recomputeSpur h) fun _ _ h => inv_recomputeSaddle h)))

theorem inv_execTrimApply {u} (h : Inv s) : InvNext (execTrimApply u s) := by
  refine inv_next ?_
  split
  · exact inv_ite (inv_modSpur h) h
  · split
    · exact inv_modSad h
    · exact inv_ite (inv_modSad h) h
  · split
    · exact inv_ite (inv_frame h) h
    · exact h

theorem inv_gapItem {n k i} (h : Inv s) : Inv (s.gapItem n k i) := by
  unfold State.gapItem
  extract_lets t
  have ht : Inv t := inv_modSpur h
  split
  · exact inv_modSpur ht
  · exact inv_calReject (inv_modSpur ht)

theorem inv_execGapStepDone {n item} (h : Inv s) : InvNext (execGapStepDone n item s) := by
  refine inv_next ?_
  split
  · exact h
  · exact
      have ht := inv_modSpur h
      have hu := inv_modSpur ht
      inv_ite h (inv_ite (inv_gapItem ht) (inv_ite hu (inv_gapItem hu)))

theorem inv_setTraced {v} (h : Inv s) : Inv (s.setTraced v) :=
  inv_ite h (inv_raise (inv_frame h))

theorem inv_execCalWincfgWrite {value} (h : Inv s) : InvNext (execCalWincfgWrite value s) :=
  inv_next (inv_take h fun _ h => inv_ite (inv_cfgEvent h) (inv_when (inv_frame (inv_setWord h)) fun _ h1 => inv_cfgEvent h1))

theorem inv_execSensorConversion {n which raw} (h : Inv s) : InvNext (execSensorConversion n which raw s) :=
  have ht := inv_when (inv_modSpur h) fun _ h => inv_closeIncident (inv_incident (inv_raise (inv_tookFree h)))
  inv_next (inv_ite h (inv_ite (inv_modSpur ht) ht))

/-! ## Host rings -/

theorem inv_startRead (h : Inv s) : Inv s.startRead :=
  inv_ite h (inv_ite (inv_frame h) (inv_send (inv_frame h)))

theorem inv_doorbellBad {new prev which} (h : Inv s) : Inv (s.doorbellBad new prev which) :=
  inv_raise h

theorem inv_execControlBlockRead {prod cmplCons evtCons} (h : Inv s) : InvNext (execControlBlockRead prod cmplCons evtCons s) :=
  have ht := inv_when (inv_when (inv_when (inv_frame h) fun _ h => inv_doorbellBad h) fun _ h => inv_doorbellBad h) fun _ h => inv_doorbellBad h
  inv_next (inv_ite h (inv_ite (inv_startRead ht) ht))

theorem inv_cancelPlan (h : Inv s) : Inv s.cancelPlan :=
  have ht := inv_each (inv_dropMeasures (inv_sendLane h)) fun _ _ h => inv_finish h
  inv_baseMoved (inv_requests (inv_modPlan ht fun _ => List.length_replicate))

theorem inv_execRingDisable (h : Inv s) : InvNext (execRingDisable s) :=
  inv_next (inv_take h fun _ h => inv_ite h (inv_stopWindows (inv_cancelPlan (inv_frame (inv_setField h)))))

theorem inv_enableRings (h : Inv s) : Inv s.enableRings := by
  unfold State.enableRings
  extract_lets t _ _ _ u v
  have ht : Inv t := inv_setField (inv_setField h)
  have hu : Inv u := inv_frame ht (hp := fun _ => List.length_replicate)
  exact inv_stopWindows (inv_when (inv_startRead hu) fun _ h => inv_startWindows h)

theorem inv_execRingEnable (h : Inv s) : InvNext (execRingEnable s) :=
  inv_next (inv_take h fun _ h => inv_ite h (inv_ite (inv_cfgEvent h) (inv_ite (inv_cfgEvent h) (inv_enableRings h))))

theorem inv_msi {vec} (h : Inv s) : Inv (s.msi vec) :=
  inv_ite h (inv_send (inv_frame h))

theorem inv_execCompletionWrite (h : Inv s) : InvNext (execCompletionWrite s) := by
  refine inv_next ?_
  split
  · exact h
  · exact inv_ite (inv_frame h) (inv_ite (inv_when (inv_frame h) fun _ h => inv_raise h) (inv_when (inv_send (inv_frame (inv_send h))) fun _ h => inv_msi h))

theorem inv_evtMsi {e} (h : Inv s) : Inv (s.evtMsi e) :=
  inv_when h fun _ h => inv_msi h

theorem inv_writeEvent {e} (h : Inv s) : Inv (s.writeEvent e) :=
  inv_ite h (inv_ite (inv_frame h) (inv_ite (inv_evtMsi (inv_send (inv_frame h))) (inv_evtMsi (inv_send (inv_frame (inv_send h))))))

theorem inv_escalate {e} (h : Inv s) : Inv (s.escalate e) :=
  have ht := inv_raiseAs h
  inv_ite (inv_spurFails ht) (inv_ite (inv_sadFail ht) (inv_closeIncident (inv_incident (inv_modCol (inv_spineFails ht)))))

theorem inv_repeats {e} (h : Inv s) : Inv (s.repeats e) :=
  inv_ite h (inv_when (inv_frame h) fun _ h => inv_escalate h)

theorem inv_newCurve (h : Inv s) : Inv s.newCurve :=
  inv_requests (inv_mapCols h)

theorem inv_takeTable {bs} (h : Inv s) : Inv (s.takeTable bs) :=
  inv_newCurve (inv_frame (inv_setWord (inv_setWord (inv_setField (inv_setField h)))))

theorem inv_execProfileWrite {value} (h : Inv s) : InvNext (execProfileWrite value s) :=
  inv_next (inv_take h fun _ h => inv_ite (inv_cfgEvent h) (inv_when (inv_baseMoved (inv_frame (inv_setWord h))) fun _ h1 => inv_cfgEvent h1))

/-! ## The Cairn store -/

theorem inv_flashErr {idx step addr cause} (h : Inv s) : Inv (s.flashErr idx step addr cause) :=
  inv_raise h

theorem inv_beginSave (h : Inv s) : Inv s.beginSave :=
  inv_ite (inv_flashErr (inv_tookFree (inv_frame h))) (inv_frame h)

theorem inv_takeRecords {n} (h : Inv s) : Inv (s.takeRecords n) :=
  inv_frame h

theorem inv_saveAgain (h : Inv s) : Inv s.saveAgain :=
  inv_frame h

theorem inv_endSave (h : Inv s) : Inv s.endSave :=
  inv_raise (inv_send (inv_frame h))

theorem inv_failSave {step addr cause} (h : Inv s) : Inv (s.failSave step addr cause) :=
  inv_flashErr (inv_frame h)

theorem inv_flashStep {r} (h : Inv s) : Inv (s.flashStep r) := by
  unfold State.flashStep
  split
  · exact inv_ite (inv_beginSave h) h
  · exact inv_ite (inv_takeRecords h) h
  · exact inv_ite (inv_endSave h) h
  · exact inv_ite (inv_failSave h) h

theorem inv_execSaveF {r} (h : Inv s) : InvNext (execSaveF r s) := by
  refine inv_next (inv_take h fun _ h => inv_ite (inv_cfgEvent h) (inv_ite h (inv_ite (inv_frame h) ?_)))
  split
  · exact inv_flashStep (inv_frame h)
  · exact inv_flashStep (inv_flashStep (inv_frame h))

theorem inv_abandonSave (h : Inv s) : Inv s.abandonSave :=
  inv_ite (inv_frame h) (inv_raise (inv_tookFree (inv_frame h)))

/-! ## Time of day -/

theorem inv_sampleRates (h : Inv s) : Inv s.sampleRates :=
  inv_frame h

theorem inv_tellStep {raw} (h : Inv s) : Inv (s.tellStep raw) :=
  inv_raise h

theorem inv_applyTodSet {edge} (h : Inv s) : Inv (s.applyTodSet edge) :=
  inv_ite h (inv_tellStep (inv_frame h))

theorem inv_applyStep (h : Inv s) : Inv s.applyStep :=
  inv_ite h (inv_tellStep (inv_frame h))

theorem inv_startDensity (h : Inv s) : Inv s.startDensity :=
  inv_ite h (inv_frame h)

theorem inv_execLookoutDensity {widths temp} (h : Inv s) : InvNext (execLookoutDensity widths temp s) := by
  refine inv_next (inv_ite h ?_)
  split
  · exact inv_calReject (inv_frame (inv_frame h))
  · split
    · exact inv_tempRange (inv_frame (inv_frame h))
    · exact inv_when (inv_frame (inv_frame h)) fun _ h => inv_askSave h

/-! ## Spares and borrows -/

theorem inv_testOver (h : Inv s) : Inv s.testOver :=
  inv_frame h

theorem inv_bistAbort {res src pats sig} (h : Inv s) : Inv (s.bistAbort res src pats sig) :=
  have ht := inv_raise (inv_frame h)
  inv_ite h (inv_ite (inv_testOver ht) (inv_ite (inv_modCol (inv_testOver ht)) (inv_frame ht)))

theorem inv_bistStop {res} (h : Inv s) : Inv (s.bistStop res) :=
  inv_ite h (inv_bistAbort (inv_tookFree (inv_tookFree h)))

theorem inv_modSadsOf {r g} (h : Inv s) : Inv (s.modSadsOf r g) :=
  inv_each h fun _ _ h => inv_modSad h

theorem inv_goDark {r} (h : Inv s) : Inv (s.goDark r) :=
  inv_raise (inv_ite (inv_cutRegion h) (inv_modSpur h))

theorem inv_beginBorrow {r l} (h : Inv s) : Inv (s.beginBorrow r l) :=
  inv_modCol (inv_modSadsOf h)

theorem inv_unborrow {r} (h : Inv s) : Inv (s.unborrow r) :=
  inv_modCol (inv_modSadsOf (inv_modSpur (inv_modSpur (inv_endCaps h))))

theorem inv_regain {r} (h : Inv s) : Inv (s.regain r) := by
  unfold State.regain
  split
  · exact h
  · exact inv_modSpur (inv_takeBack h)
  · exact inv_unborrow h
  · exact inv_undark h

theorem inv_tellFailed {n resp} (h : Inv s) : Inv (s.tellFailed n resp) :=
  inv_raise h

theorem inv_borrowOrDark {n r} (h : Inv s) : Inv (s.borrowOrDark n r) := by
  unfold State.borrowOrDark
  split
  · exact inv_tellFailed (inv_beginBorrow h)
  · exact inv_closeIncident (inv_tellFailed (inv_goDark h))

theorem inv_lenderFails {n r b} (h : Inv s) : Inv (s.lenderFails n r b) :=
  have ht := inv_tellFailed (inv_goDark h)
  inv_closeIncident (by split; exacts [inv_beginBorrow ht, inv_goDark ht])

theorem inv_execSpurFailed {n} (h : Inv s) : InvNext (execSpurFailed n s) := by
  refine inv_next (inv_ite h ?_)
  extract_lets f serving t
  have ht : Inv t := inv_ite (inv_bistStop h) (inv_ite (inv_testOver h) h)
  refine inv_ite ?_ ?_
  · split
    · exact inv_lenderFails ht
    · exact inv_borrowOrDark ht
  · split
    · exact inv_closeIncident (inv_tellFailed ht)
    · refine inv_ite (inv_tellFailed ht) (inv_ite (inv_tellFailed (inv_track ht)) (inv_ite (inv_tellFailed ht) ?_))
      split
      · exact inv_lenderFails ht
      · exact inv_borrowOrDark ht

theorem inv_execBorrowQuietMark {f} (h : Inv s) : InvNext (execBorrowQuietMark f s) := by
  refine inv_next ?_
  split
  · exact h
  · exact
      have ht := inv_modCol h
      inv_ite h (inv_ite ht (inv_ite (inv_raise ht) h))

theorem inv_connect {b slip} (h : Inv s) : Inv (s.connect b slip) := by
  refine inv_modCol (inv_each (inv_modSad (inv_modSadsOf (inv_modSpur (inv_ite (inv_modCol h) h)))) fun _ _ h => ?_)
  split
  · exact h
  · exact inv_modSpur h

theorem inv_execBorrowStart {f region} (h : Inv s) : InvNext (execBorrowStart f region s) :=
  inv_next (by split; exacts [h, inv_ite h (inv_closeIncident (inv_closeIncident (inv_raise (inv_connect h))))])

theorem inv_execBorrowRelease {f} (h : Inv s) : InvNext (execBorrowRelease f s) := by
  refine inv_next ?_
  split
  · exact h
  · exact inv_ite h (inv_ite (inv_unborrow h) (inv_ite (inv_takeOver (inv_modCol (inv_unborrow h))) h))

theorem inv_execSpur {f pos} (h : Inv s) : InvNext (execSpur f pos s) :=
  inv_next (inv_take h fun _ h => have hu := inv_modCol h; inv_ite (inv_cfgEvent hu) (have hu' := inv_modSpur hu; inv_ite (inv_startReturn hu') hu'))

theorem inv_suspend {i} (h : Inv s) : Inv (s.suspend i) :=
  inv_ite h (inv_modCol h)

theorem inv_stormTake {i} (h : Inv s) : Inv (s.stormTake i) :=
  inv_ite h (by split; exacts [h, inv_frame (inv_each h fun _ _ h => inv_goDark h)])

theorem inv_execIncidentOpen {c} (h : Inv s) : InvNext (execIncidentOpen c s) := by
  unfold execIncidentOpen
  extract_lets cur open1
  have hopen : ∀ i (t : State), Inv t → Inv (open1 i t) := fun _ _ ht => inv_frame ht (hf := (length_setNth ..).trans)
  refine inv_next (inv_ite h (inv_ite ?_ ?_))
  · split
    · refine inv_ite h (inv_stormTake (inv_frame h (hf := fun ho => ?_)))
      dsimp only
      split
      · exact (length_setNth ..).trans ho
      · exact ho
    · exact h
  · split
    · exact h
    · exact hopen _ _ h
    · exact inv_ite (inv_frame (hopen _ _ (inv_raise (inv_suspend h)))) h

theorem inv_execErrorStorm (h : Inv s) : InvNext (execErrorStorm s) := by
  refine inv_next ?_
  split
  · exact h
  · exact inv_when (inv_each (inv_frame h) fun _ _ h => inv_stormTake h) fun _ h => inv_raise h

theorem inv_driveFatal {src} (h : Inv s) : Inv (s.driveFatal src) :=
  inv_frame h

theorem inv_execFatalEvent (h : Inv s) : InvNext (execFatalEvent s) := by
  refine inv_next ?_
  split
  · exact h
  · exact inv_cancelPlan (inv_frame (inv_baseMoved (inv_unstageSets (inv_each (inv_sendLane (inv_driveFatal (inv_frame h))) fun _ _ h => inv_record h))))

/-! ## Life cycle and perturbations -/

theorem inv_clearPrt {o} (h : Inv s) : Inv (s.clearPrt o) :=
  inv_when (inv_setWord h) fun _ h => inv_raise h

theorem inv_guardShadow {n hi} (h : Inv s) : Inv (State.guardShadow n s hi) :=
  inv_ite h (inv_setShadow h)

theorem inv_enterDeployed (h : Inv s) : Inv s.enterDeployed :=
  inv_baseMoved (inv_each (inv_frame (inv_mapSads
      (inv_mapSpurs (inv_each (inv_when (inv_frame h) fun _ h => inv_bistStop h) fun _ _ h => inv_clearPrt h)))) fun _ _ h =>
        inv_each h fun _ _ h1 => inv_guardShadow h1)

theorem inv_dropSaveF (h : Inv s) : Inv s.dropSaveF :=
  inv_ite (inv_raise (inv_tookFree (inv_frame h))) (inv_frame h)

theorem inv_changeLcs {new} (h : Inv s) : Inv (s.changeLcs new) :=
  have ht := inv_raise (inv_frame h)
  have hu := inv_ite (inv_dropSaveF ht) ht
  inv_ite h (inv_ite (inv_enterDeployed hu) hu)

theorem inv_lcsReport {st} (h : Inv s) : Inv (s.lcsReport st) :=
  inv_ite (inv_frame h) (inv_changeLcs h)

theorem inv_relockMark (h : Inv s) : Inv s.relockMark :=
  have ht := inv_each (inv_frame h) fun _ _ h => inv_changeLcs h
  inv_ite (inv_changeLcs ht) ht

theorem inv_unlockFail {reason} (h : Inv s) : Inv (s.unlockFail reason) :=
  inv_raise (inv_frame h)

theorem inv_execReq (h : Inv s) : InvNext (execReq s) :=
  inv_next (inv_take h fun _ h => inv_ite (inv_unlockFail h) (inv_ite (inv_unlockFail h) (inv_send (inv_frame h))))

theorem inv_execSubmit (h : Inv s) : InvNext (execSubmit s) :=
  inv_next (inv_take h fun _ h => inv_ite (inv_unlockFail h) (inv_ite (inv_unlockFail h) (inv_ite (inv_unlockFail h) (inv_send (inv_frame h)))))

theorem inv_perturb {o v} {f : State → State} (h : Inv s) (hf : ∀ t : State, Inv t → Inv (f t)) : Inv (s.perturb o v f) :=
  have ht := inv_setWord (inv_tellFields h)
  inv_ite h (inv_ite ht (hf _ (inv_when ht fun _ h => inv_raise h)))

theorem inv_startInjection (h : Inv s) : Inv s.startInjection :=
  inv_mapSpurs h

theorem inv_execExtraSaddleDelay {value} (h : Inv s) : InvNext (execExtraSaddleDelay value s) :=
  inv_next (inv_perturb h fun _ h => h)

theorem inv_execTemperatureOverride {value} (h : Inv s) : InvNext (execTemperatureOverride value s) :=
  inv_next (inv_perturb h fun _ h => h)

theorem inv_execFieldPowerOverride {value} (h : Inv s) : InvNext (execFieldPowerOverride value s) :=
  inv_next (inv_perturb h fun _ h => h)

theorem inv_execRingFlow {value} (h : Inv s) : InvNext (execRingFlow value s) :=
  inv_next (inv_perturb h fun _ h => h)

theorem inv_execDoorbellDelay {value} (h : Inv s) : InvNext (execDoorbellDelay value s) :=
  inv_next (inv_perturb h fun _ h => h)

/-! ## Starts -/

theorem inv_keepTable (h : Inv s) : Inv s.keepTable :=
  inv_ite h (inv_setWord (inv_setWord (inv_setField (inv_setField h))))

theorem inv_powerUp : Inv s.powerUp :=
  ⟨reset_wordsOk, rfl, rfl, by simp [State.powerUp, State.reset, Role.reset]⟩

theorem inv_restart {kind} (h : Inv s) : Inv (s.restart kind) :=
  inv_keepTable ⟨fileOk_filter _ h.1, rfl, rfl, by simp [State.powerUp, State.reset, Role.reset]⟩

theorem inv_execPowerUp : InvNext (execPowerUp s) :=
  inv_next inv_powerUp

/-! ## Regulators, heat and power states -/

theorem inv_modAvs {f g} (h : Inv s) : Inv (s.modAvs f g) :=
  inv_modCol h

theorem inv_takeLower {f} (h : Inv s) : Inv (s.takeLower f) := by
  unfold State.takeLower
  split
  · exact h
  · exact inv_ite h (inv_modAvs h)

theorem inv_writeVolt {f} (h : Inv s) : Inv (s.writeVolt f) :=
  inv_send (inv_modAvs h)

theorem inv_transact {f k} (h : Inv s) : Inv (s.transact f k) := by
  unfold State.transact
  extract_lets a t
  have ht : Inv t := inv_modAvs h
  split
  · exact inv_writeVolt ht
  · exact inv_send ht
  · exact inv_send (inv_modAvs ht)
  · exact inv_send (inv_modAvs ht)

theorem inv_resendTx {f} (h : Inv s) : Inv (s.resendTx f) := by
  unfold State.resendTx
  extract_lets a
  split
  · exact inv_frame h
  · exact inv_frame h
  · exact inv_frame h

theorem inv_execAvsSlot {f} (h : Inv s) : InvNext (execAvsSlot f s) :=
  have ht := inv_modAvs h
  inv_next (inv_ite h (inv_ite ht (inv_ite (inv_resendTx ht) (inv_ite ht (inv_transact (inv_modAvs (inv_takeLower (inv_ite ht (inv_modAvs ht)))))))))

theorem inv_avsGood {f} (h : Inv s) : Inv (s.avsGood f) :=
  inv_ite (inv_modAvs h) (inv_ite (inv_modAvs h) (inv_baseMoved (inv_raise (inv_modAvs h))))

theorem inv_railBand {f alert} (h : Inv s) : Inv (s.railBand f alert) :=
  inv_raise h

theorem inv_alerted {f alert} (h : Inv s) : Inv (s.alerted f alert) :=
  inv_when h fun _ h => inv_railBand h

theorem inv_railRead {f mv} (h : Inv s) : Inv (s.railRead f mv) :=
  have ht := inv_modAvs h
  have hu := inv_modAvs ht
  have hv := inv_modAvs ht
  inv_ite ht (inv_ite (inv_ite hu (inv_baseMoved (inv_railBand (inv_modAvs hu)))) (inv_ite (inv_baseMoved (inv_modAvs hv)) hv))

theorem inv_execAvsReply {f r} (h : Inv s) : InvNext (execAvsReply f r s) :=
  have ht := inv_avsGood (inv_modAvs h)
  inv_next (inv_ite h (by
    split
    · exact ht
    · exact inv_alerted (inv_ite (inv_modAvs ht) ht)
    · exact inv_alerted (inv_railRead ht)
    · exact inv_alerted (inv_modAvs ht)))

theorem inv_envAbort {f src} (h : Inv s) : Inv (s.envAbort f src) :=
  inv_ite h (inv_bistAbort (inv_tookFree (inv_tookFree h)))

theorem inv_execRegLinkFail {f} (h : Inv s) : InvNext (execRegLinkFail f s) :=
  have ht := inv_closeIncident (inv_incident (inv_raise (inv_modAvs h)))
  inv_next (inv_ite h (inv_baseMoved (inv_envAbort (inv_ite (inv_frame ht) ht))))

theorem inv_govLimit {reason d fc} (h : Inv s) : Inv (s.govLimit reason d fc) :=
  inv_raise h

theorem inv_setTcap {n} (h : Inv s) : Inv (s.setTcap n) :=
  inv_when (inv_frame h) fun _ h => inv_raise h

theorem inv_takeCaps (h : Inv s) : Inv s.takeCaps :=
  inv_ite h (inv_setTcap (inv_frame h))

theorem inv_execGovernorEval (h : Inv s) : InvNext (execGovernorEval s) :=
  have ht := inv_takeCaps (inv_frame h)
  have hu := inv_frame ht
  inv_next (inv_ite h (inv_ite (inv_ite (inv_frame hu) (inv_baseMoved (inv_govLimit (inv_frame hu))))
      (inv_ite (inv_ite (inv_frame (inv_frame ht)) (inv_ite (inv_frame ht) (inv_baseMoved (inv_frame (inv_frame ht))))) (inv_frame ht))))

theorem inv_thermalOne {d} (h : Inv s) : Inv (s.thermalOne d) := by
  unfold State.thermalOne
  split
  · exact h
  · exact inv_ite (inv_ite (inv_frame h) (inv_baseMoved (inv_govLimit (inv_frame h)))) (inv_ite (inv_frame h) (inv_ite (inv_ite h (inv_frame h)) h))

theorem inv_tellState {st} (h : Inv s) : Inv (s.tellState st) :=
  inv_raise h

theorem inv_startHold (h : Inv s) : Inv s.startHold := by
  unfold State.startHold
  extract_lets gone ms t u _ v w
  have ht : Inv t := inv_each h fun _ _ h => inv_modPlan (inv_unstage h) id
  have hv : Inv v := inv_frame (inv_closeOut (inv_finishAll ht))
  have hw : Inv w := inv_baseMoved (inv_rebind (inv_patchFab hv))
  exact inv_ite (inv_frame hw) hw

theorem inv_enterHold (h : Inv s) : Inv s.enterHold :=
  have ht := inv_bistStop (inv_frame h)
  inv_ite (inv_frame ht) (inv_startHold ht)

theorem inv_takeReq {v} {f : State → State} (h : Inv s) (hf : ∀ t : State, Inv t → Inv (f t)) : Inv (s.takeReq v f) :=
  inv_ite (inv_cfgEvent h) (inv_take h hf)

theorem inv_execHoldExit (h : Inv s) : InvNext (execHoldExit s) :=
  inv_next (inv_takeReq h fun _ h => inv_ite (inv_cfgEvent h) (inv_ite h (inv_ite (inv_cfgEvent h) (inv_ite (inv_frame (inv_frame h)) (inv_frame h)))))

theorem inv_setTrip {k v} (h : Inv s) : Inv (s.setTrip k v) :=
  inv_frame h

theorem inv_thermTrip {level rel} (h : Inv s) : Inv (s.thermTrip level rel) :=
  inv_when h fun _ h => inv_raise h

theorem inv_safeGrants (h : Inv s) : Inv s.safeGrants :=
  inv_baseMoved (inv_each (inv_frame h) fun _ _ h => inv_govLimit h)

theorem inv_execTrip1 (h : Inv s) : InvNext (execTrip1 s) :=
  have ht := inv_setTrip h
  inv_next (inv_ite h (inv_ite (inv_thermTrip (inv_safeGrants (inv_frame ht))) (inv_frame ht)))

theorem inv_execTrip2 (h : Inv s) : InvNext (execTrip2 s) :=
  have ht := inv_thermTrip (inv_setTrip h)
  inv_next (inv_ite h (inv_ite (inv_enterHold ht) ht))

theorem inv_execSup0 : InvNext (execSup0 s) :=
  inv_next (inv_frame inv_powerUp)

theorem inv_wakeNow {code} (h : Inv s) : Inv (s.wakeNow code) :=
  inv_frame (inv_restart h)

theorem inv_wakeBy {c} (h : Inv s) : Inv (s.wakeBy c) :=
  inv_ite h (inv_ite (inv_wakeNow h) (inv_ite (inv_frame h) h))

theorem inv_execTripRelease {level} (h : Inv s) : InvNext (execTripRelease level s) :=
  have ht := inv_when (inv_setTrip h) fun _ h => inv_thermTrip h
  inv_next (inv_ite h (inv_ite ht (inv_wakeBy (inv_ite (inv_frame ht) ht))))

theorem inv_execSup1 {above} (h : Inv s) : InvNext (execSup1 above s) :=
  inv_next (inv_ite h (inv_ite (inv_wakeBy (inv_frame (inv_frame h))) (inv_ite (inv_raise (inv_frame h)) (inv_frame h))))

theorem inv_endMeasures (h : Inv s) : Inv s.endMeasures := by
  refine inv_each h fun _ _ h => ?_
  split
  · exact inv_closeOut (inv_elim (inv_freeChan h) fun _ => inv_finish (inv_freeChan h))
  · exact inv_endMeasure h

theorem inv_execParkEntry (h : Inv s) : InvNext (execParkEntry s) :=
  inv_next (inv_takeReq h fun _ h => inv_ite (inv_cfgEvent h) (inv_tellState (inv_frame (inv_mapCols (inv_endMeasures (inv_abandonSave h))))))

theorem inv_execParkReady (h : Inv s) : InvNext (execParkReady s) := by
  refine inv_next ?_
  split
  · exact h
  · refine inv_ite h ?_
    split
    · exact inv_frame h
    · exact inv_wakeNow (inv_frame h)

/-! ## Self-tests -/

theorem inv_copyConfig {n sp} (h : Inv s) : Inv (s.copyConfig n sp) :=
  inv_each h fun _ _ h => inv_setWord h

theorem inv_refuseTest {ev idx detail} (h : Inv s) : Inv (s.refuseTest ev idx detail) :=
  inv_raise (inv_ite h (inv_frame h))

theorem inv_beginTest {phase handover fcap} (h : Inv s) : Inv (s.beginTest phase handover fcap) :=
  inv_frame h

theorem inv_execStart (h : Inv s) : InvNext (execStart s) :=
  inv_next (inv_take h fun _ h => inv_ite (inv_refuseTest h)
      (inv_ite (inv_refuseTest h) (inv_ite (inv_refuseTest h)
          (inv_ite (inv_refuseTest h) (inv_ite (inv_beginTest h) (inv_ite (inv_raise (inv_frame (inv_beginTest h)))
              (inv_ite (inv_track (inv_copyConfig (inv_beginTest h))) (inv_beginScan (inv_beginTest h)))))))))

theorem inv_tellTest {ev sig} (h : Inv s) : Inv (s.tellTest ev sig) :=
  inv_raise h

theorem inv_execBistPatternsDone {signature} (h : Inv s) : InvNext (execBistPatternsDone signature s) :=
  have ht := inv_testOver (inv_tellTest (inv_frame h))
  have hu := inv_ite (inv_frame h) (inv_ite (inv_modSpur (inv_frame h)) (inv_modCol (inv_frame h)))
  inv_next (inv_ite h (inv_ite (inv_ite (inv_spurFails ht) (inv_modCol ht)) (inv_ite (inv_testOver (inv_tellTest hu)) (inv_frame hu))))

theorem inv_bistMark (h : Inv s) : Inv s.bistMark :=
  inv_ite (inv_frame h) (inv_ite (inv_frame h) (inv_ite (inv_restoreLoop (inv_frame h)) h))

theorem inv_settleShadow {n o} (h : Inv s) : Inv (State.settleShadow n s o) :=
  inv_ite h (inv_applyShadow (inv_setShadow h))

theorem inv_execBistReturn (h : Inv s) : InvNext (execBistReturn s) :=
  have ht := inv_ite (inv_regain h) h
  have hu := inv_testOver (inv_ite (inv_each ht fun _ _ h => inv_settleShadow h) ht)
  have hv := inv_ite (inv_tellTest hu) hu
  inv_next (inv_ite h (inv_ite (inv_startHold hv) hv))

/-! ## The stages of a start -/

theorem inv_toStage {k} (h : Inv s) : Inv (s.toStage k) :=
  inv_frame h

theorem inv_execRootLocked {field1Ok field23Ok st flashOk} (h : Inv s) : InvNext (execRootLocked field1Ok field23Ok st flashOk s) :=
  have ht := inv_mapCols (inv_when (inv_timeBase (inv_frame (inv_modRdg (inv_toStage h)))) fun _ h => inv_raise h)
  inv_next (inv_ite h (inv_ite ht (inv_raise (inv_frame (inv_tookFree (inv_tookFree ht))))))

theorem inv_bankBad {b sev reason} (h : Inv s) : Inv (s.bankBad b sev reason) :=
  inv_raiseAs h

theorem inv_loadTrims {n} (h : Inv s) : Inv (s.loadTrims n) := by
  unfold State.loadTrims
  extract_lets x bins
  split
  · exact h
  · exact inv_frame h

theorem inv_loadSpur {n} (h : Inv s) : Inv (s.loadSpur n) :=
  inv_loadTrims (inv_modSpur h)

theorem inv_loadSaddle {k} (h : Inv s) : Inv (s.loadSaddle k) := by
  unfold State.loadSaddle
  extract_lets r t bins
  have ht : Inv t := inv_frame h
  split
  · exact ht
  · exact inv_frame ht

theorem inv_loadLookout (h : Inv s) : Inv s.loadLookout := by
  refine inv_ite h ?_
  extract_lets r l
  split
  · exact inv_frame h
  · exact inv_frame h

theorem inv_tellBoot {a b} (h : Inv s) : Inv (s.tellBoot a b) :=
  inv_when (inv_raise (inv_when (inv_when h fun _ h => inv_bankBad h) fun _ h => inv_bankBad h)) fun _ h => inv_raiseAs h

theorem inv_porFails {idx exp} (h : Inv s) : Inv (s.porFails idx exp) :=
  inv_raise h

theorem inv_endPor {failed p} (h : Inv s) : Inv (s.endPor failed p) :=
  inv_raiseAs (inv_each (inv_each (inv_each (inv_frame h) fun _ _ h => inv_porFails (inv_modSpur h)) fun _ _ h => inv_porFails
      (inv_modCol h)) fun _ _ h => inv_porFails (inv_modCol h))

theorem inv_execTestSelectDone {a b spurs cols} (h : Inv s) : InvNext (execTestSelectDone a b spurs cols s) :=
  inv_next (inv_ite h (inv_loadLookout (inv_each
      (inv_each (inv_endPor (inv_tellBoot (inv_frame (inv_toStage h)))) fun _ _ h => inv_loadSpur h) fun _ _ h => inv_loadSaddle h)))

theorem inv_timesOut {n} (h : Inv s) : Inv (s.timesOut n) :=
  inv_ite h (inv_raise (inv_modSpur h))

theorem inv_placeRegion {r} (h : Inv s) : Inv (s.placeRegion r) := by
  refine inv_ite h (inv_ite (inv_raise (inv_tellFailed (inv_takeOver h))) ?_)
  split
  · exact inv_raise (inv_tellFailed (inv_connect h))
  · exact inv_tellFailed (inv_goDark h)

theorem inv_placeField {f} (h : Inv s) : Inv (s.placeField f) :=
  have ht := inv_each (inv_ite (inv_tellFailed h) h) fun _ _ h => inv_placeRegion h
  inv_ite (inv_raise ht) ht

theorem inv_service (h : Inv s) : Inv s.service := by
  unfold State.service
  extract_lets t u v _ _ _ w x
  have hv : Inv v := inv_each (inv_mapSads (inv_mapSpurs h)) fun _ _ h => inv_placeField h
  have hw : Inv w := inv_frame hv
  have hx : Inv x := inv_when (inv_tellState (inv_tookFree hw)) fun _ h => inv_safeGrants h
  exact inv_ite (inv_enterHold hx) hx

theorem inv_execFirstMarkOfService (h : Inv s) : InvNext (execFirstMarkOfService s) :=
  inv_next (inv_ite h (inv_ite (inv_service h) (inv_ite h (inv_service (inv_each (inv_each h fun _ _ h => inv_timesOut h) fun _ _ h => inv_timesOut h)))))

theorem inv_execReset (h : Inv s) : InvNext (execReset s) :=
  inv_next (inv_take h fun _ h => inv_ite (inv_cfgEvent h) (inv_frame h (hr := by simp)))

/-! ## Summit and the Cols -/

theorem inv_nextMark (h : Inv s) : Inv s.nextMark :=
  inv_ite (inv_frame h) (inv_frame h)

theorem inv_endSwap (h : Inv s) : Inv s.endSwap :=
  inv_ite (inv_frame h) h

theorem inv_pushPower (h : Inv s) : Inv s.pushPower :=
  inv_frame h

theorem inv_beacon (h : Inv s) : Inv s.beacon :=
  inv_frame (inv_sendLane h)

theorem inv_sendMirror (h : Inv s) : Inv s.sendMirror := by
  refine inv_frame h (hr := fun hm m hmem => ?_)
  rcases List.mem_append.1 hmem with hold | hnext
  · exact hm m (List.mem_append_left _ hold)
  · dsimp only at hnext
    split at hnext
    · have hin := List.mem_of_mem_take (List.mem_reverse.1 hnext)
      rcases List.mem_append.1 (List.mem_reverse.1 hin) with hq | hnew
      · exact hm m (List.mem_append_right _ hq)
      · exact List.mem_singleton.1 hnew ▸ h.2.2.1
    · cases hnext

theorem inv_sendGrades (h : Inv s) : Inv s.sendGrades :=
  inv_ite h (inv_sendLane (inv_frame (inv_mapSpurs h)))

theorem inv_idleApply {halves e done} (h : Inv s) : Inv (s.idleApply halves e done) :=
  inv_ite (inv_finish h) (inv_finish (inv_ite h (inv_patchFab h)))

theorem inv_runAction {halves a} (h : Inv s) : Inv (State.runAction halves s a) := by
  unfold State.runAction
  split
  · exact h
  · exact inv_ite (inv_finish (inv_setSprint (inv_setTcap (inv_frame h))))
      (inv_ite (inv_runMeasure h) (inv_ite (inv_finish (inv_ite (inv_frame (inv_setField (inv_setField h))) h)) (inv_idleApply h)))

theorem inv_runActions (h : Inv s) : Inv s.runActions :=
  inv_ite h (inv_closeOut (inv_each (inv_modPlan h id) fun _ _ h => inv_runAction h))

theorem inv_startGate (h : Inv s) : Inv s.startGate :=
  inv_ite (inv_frame h) h

theorem inv_staleGate (h : Inv s) : Inv s.staleGate :=
  inv_ite (inv_setTraced h) h

theorem inv_holdMark (h : Inv s) : Inv s.holdMark := by
  unfold State.holdMark
  split
  · exact inv_ite (inv_ite (inv_tellState (inv_frame h)) h) (inv_ite (inv_tellState (inv_frame h)) h)
  · exact h

theorem inv_closeSaddle (h : Inv s) : Inv s.closeSaddle := by
  unfold State.closeSaddle
  split
  · exact inv_ite h (inv_closeIncident h)
  · exact h

theorem inv_reprocess (h : Inv s) : Inv s.reprocess := by
  unfold State.reprocess
  extract_lets keep es applied p _ t
  have ht : Inv t := inv_frame h (hp := (mapFrom_length ..).trans)
  clear_value es
  cases es with
  | nil => exact inv_closeOut ht
  | cons => exact inv_raise (inv_closeOut (inv_modPlan ht id))

theorem inv_summitMark (h : Inv s) : Inv s.summitMark :=
  inv_sendMirror (inv_runActions (inv_nullRequests (inv_settleGroups (inv_silentMarks (inv_when (inv_sendGrades (inv_beacon h)) fun _ h => inv_reprocess h)))))

theorem inv_ceilsMark (h : Inv s) : Inv s.ceilsMark :=
  inv_when h fun _ h => inv_baseMoved h

theorem inv_holdLeftMark (h : Inv s) : Inv s.holdLeftMark :=
  inv_ite (inv_frame h) h

theorem inv_execMarkBeacon (h : Inv s) : InvNext (execMarkBeacon s) :=
  have ht := inv_holdLeftMark (inv_ceilsMark (inv_mapCols (inv_frame (inv_relockMark (inv_pushPower (inv_nextMark (inv_endSwap h)))))))
  inv_next (inv_ite h (inv_closeSaddle (inv_holdMark
      (inv_bistMark (inv_staleGate (inv_startDensity (inv_startGate (inv_ite (inv_frame ht) (inv_summitMark (inv_frame ht))))))))))

theorem inv_takeInputs {f} (h : Inv s) : Inv (s.takeInputs f) :=
  inv_each h fun _ _ h => inv_modSpur h

theorem inv_debtAlarm {n} (h : Inv s) : Inv (s.debtAlarm n) :=
  inv_baseMoved (inv_modSpur h)

theorem inv_takeAlarm {a} (h : Inv s) : Inv (s.takeAlarm a) :=
  inv_ite (inv_debtAlarm h) (inv_incident h)

theorem inv_execFieldReport {f} (h : Inv s) : InvNext (execFieldReport f s) :=
  have ht := inv_takeInputs (inv_modPlan (inv_send (inv_each (inv_modCol h) fun _ _ h => inv_modSpur h)) id)
  inv_next (inv_ite h (inv_ite ht (inv_each ht fun _ _ h => inv_takeAlarm h)))

theorem inv_execMirrorRecord (h : Inv s) : InvNext (execMirrorRecord s) := by
  refine inv_next ?_
  split
  · exact h
  · next m ms hnext =>
    refine inv_ite h (inv_frame h (hr := fun hm x hx => hm x ?_))
    rw [hnext]
    rcases List.mem_append.1 hx with hk | hk
    · rcases List.mem_cons.1 (List.mem_of_mem_take hk) with rfl | hold
      · simp
      · simp [hold]
    · simp [show x ∈ ms from hk]

theorem inv_execMirrorLate (h : Inv s) : InvNext (execMirrorLate s) := by
  refine inv_next ?_
  split
  · exact h
  · next m ms hnext =>
    refine inv_frame h (hr := fun hm x hx => hm x ?_)
    rw [hnext]
    rcases List.mem_append.1 hx with hk | hk
    · exact List.mem_append_left _ hk
    · exact List.mem_append_right _ (List.mem_cons_of_mem _ hk)

theorem inv_execStandbyLost {selfCheck} (h : Inv s) : InvNext (execStandbyLost selfCheck s) :=
  inv_next (inv_ite h (inv_closeIncident (inv_incident (inv_raise (inv_frame h (hr := by simp))))))

theorem inv_fromMirror {m} (h : Inv s) (hlen : m.opened.length = 8) : Inv (s.fromMirror m) := by
  unfold State.fromMirror
  extract_lets cs known t _ _ _ u
  have ht : Inv t := inv_setWord h
  have hu : Inv u := inv_frame ht (hf := fun _ => hlen)
  refine inv_ite hu ?_
  split
  · exact inv_frame hu
  · exact inv_frame hu

theorem inv_execSummitTakeover (h : Inv s) : InvNext (execSummitTakeover s) := by
  refine inv_next ?_
  split
  · exact h
  · refine inv_ite h ?_
    extract_lets _ t u v w x _ y
    have ht : Inv t := inv_frame h (hr := by simp)
    have hu : Inv u := by
      unfold u
      split
      · next m ms hms => exact inv_beacon (inv_fromMirror ht (h.2.2.2 m (by simp [hms])))
      · exact inv_beacon ht
    have hw : Inv w := inv_discardNew (inv_modPlan (inv_sendLane (inv_raise hu)) id)
    have hx : Inv x := inv_closeIncident (inv_incident hw)
    have hy : Inv y := inv_ite (inv_frame hx) hx
    exact inv_saveAgain (inv_baseMoved hy)

theorem inv_execColFailover {f} (h : Inv s) : InvNext (execColFailover f s) :=
  have ht := inv_modCol (inv_ite (inv_bistStop h) h)
  inv_next (inv_ite h (inv_ite (inv_frame h) (inv_ite (inv_raise ht) (inv_closeIncident (inv_incident (inv_raise (inv_modCol ht)))))))

/-! ## Workload notices -/

theorem inv_execSparingNotice {region array kind spare} (h : Inv s) : InvNext (execSparingNotice region array kind spare s) :=
  have ht := inv_wlFlag (inv_raise (inv_frame h))
  inv_next (inv_ite h (inv_ite (inv_raise h) (inv_ite ht (inv_baseMoved (inv_modSpur ht)))))

/-! ## Reads -/

theorem inv_latch {a} (h : Inv s) : Inv (s.latch a) :=
  inv_frame h

theorem inv_execSnapshotFracRead {load} (h : Inv s) : InvNext (execSnapshotFracRead load s) :=
  inv_next (inv_ite h (inv_ite (inv_each h fun _ _ h => inv_latch h) (inv_each h fun _ _ h => inv_latch h)))

/-! ## Register writes -/

theorem inv_tellWrite {a v gs} (h : Inv s) : Inv (s.tellWrite a v gs) :=
  inv_tellFields h

theorem inv_writeWord {a v} (h : Inv s) : Inv (s.writeWord a v) :=
  inv_setWord (inv_tellWrite h)

theorem inv_writeDom {o v} (h : Inv s) : Inv (s.writeDom o v) :=
  inv_when (inv_tellWrite h) fun _ h => inv_setShadow h

theorem inv_writeSad {k o v} (h : Inv s) : Inv (s.writeSad k o v) :=
  have ht := inv_tellWrite h
  inv_ite ht (inv_ite (inv_modSad ht) (inv_ite (inv_setWord ht) (inv_modSad ht)))

theorem inv_writeCol {f o v} (h : Inv s) : Inv (s.writeCol f o v) :=
  have ht := inv_tellWrite h
  inv_ite ht (inv_ite (inv_modCol ht) (inv_ite (inv_modCol ht) ht))

theorem inv_writeCalCtrl {v} (h : Inv s) : Inv (s.writeCalCtrl v) :=
  inv_ite (inv_cfgEvent h) (inv_setField h)

theorem inv_writeSeed {a v} (h : Inv s) : Inv (s.writeSeed a v) :=
  inv_ite (inv_cfgEvent h) (inv_writeWord h)

theorem inv_writeVgl {o v} (h : Inv s) : Inv (s.writeVgl o v) :=
  inv_ite (inv_setField (inv_frame h)) (inv_ite (inv_frame h) h)

theorem inv_writePstate {v} (h : Inv s) : Inv (s.writePstate v) :=
  inv_ite (inv_cfgEvent h) h

theorem inv_writeAt {a v} (h : Inv s) : Inv (s.writeAt a v) := by
  unfold State.writeAt
  split
  · exact inv_ite (inv_writeDom h) (inv_ite (inv_writePstate h) (inv_writeWord h))
  · exact inv_ite h (inv_writeSpr h)
  · exact inv_writeSad h
  · exact inv_writeCol h
  · exact inv_ite (inv_writeCalCtrl h) (inv_writeWord h)
  · exact inv_ite (inv_writeSeed h) (inv_writeWord h)
  · exact inv_writeVgl h
  · exact h
  · exact inv_writeWord h

theorem inv_write {a v} (h : Inv s) : Inv (s.write a v) :=
  inv_writeAt (inv_when h fun _ h => inv_sendLane h)

theorem inv_writeUnder {a v} (h : Inv s) : Inv (s.writeUnder a v) := by
  unfold State.writeUnder
  split
  · exact inv_write h
  · exact inv_frame (inv_writeAt (inv_write h)) (hf := fun _ => (inv_write h).2.2.1)

theorem inv_execRegisterWrite {addr value how} (h : Inv s) : InvNext (execRegisterWrite addr value how s) :=
  have ht := inv_ite h (inv_frame h)
  inv_next (inv_ite ht (inv_ite (inv_ite (inv_write (inv_frame ht)) ht) (inv_writeUnder ht)))

/-! ## Every command -/

theorem inv_exec (c : Instr) (h : Inv s) : InvNext (exec c s) :=
  match c with
  | .registerWrite .. => inv_execRegisterWrite h
  | .wideLowWordRead .. => inv_next (inv_ite (inv_latch h) h)
  | .snapshotFracRead .. => inv_execSnapshotFracRead h
  | .lastEventRead => inv_next (inv_ite h (inv_each h fun _ _ h => inv_latch h))
  | .markBeacon => inv_execMarkBeacon h
  | .beaconArrival .. => inv_execBeaconArrival h
  | .ridgeCounterReload .. => inv_next (inv_ite h (inv_modCol h))
  | .ridgeCountWrap => inv_next (inv_ite (inv_modRdg h) h)
  | .commandReceive .. => inv_next (inv_ite h (inv_when (inv_modCol h) fun _ h => inv_raise h))
  | .fieldReport .. => inv_execFieldReport h
  | .mirrorRecord => inv_execMirrorRecord h
  | .mirrorLate => inv_execMirrorLate h
  | .selfCheckFailure => inv_next (inv_frame h)
  | .summitTakeover => inv_execSummitTakeover h
  | .swap => inv_next (inv_take h fun _ h => inv_ite h (inv_frame h))
  | .standbyLost .. => inv_execStandbyLost h
  | .summitLost .. => inv_next (inv_ite h (inv_frame (inv_driveFatal (inv_record h))))
  | .colFailover .. => inv_execColFailover h
  | .refEdgeLoss .. => inv_execRefEdgeLoss h
  | .freqGate .. => inv_execFreqGate h
  | .safeCapLift => inv_next (inv_ite (inv_modRdg h) h)
  | .holdoverExpired => inv_next (inv_ite (inv_raise (inv_refFlag (inv_modRdg h))) h)
  | .rootUnlock => inv_next (by split; exacts [h, inv_ite h (inv_refLose (inv_raise (inv_refFlag (inv_modRdg h))))])
  | .revertSwitch => inv_execRevertSwitch h
  | .refSwitchRequest => inv_next (inv_take h fun _ h => inv_modRdg h)
  | .requestedSwitch => inv_execRequestedSwitch h
  | .spineFault .. => inv_next (inv_spineFails h)
  | .spineSwitch .. => inv_execSpineSwitch h
  | .spineRecover .. => inv_next (inv_modCol h)
  | .spineRequest .. => inv_next (inv_take h fun _ h => inv_modCol h)
  | .loopCompare .. => inv_execLoopCompare h
  | .acqTimeout .. => inv_next (inv_ite (inv_spurFails (inv_raise (inv_modSpur h))) h)
  | .spurEdge .. => inv_execSpurEdge h
  | .noticeDelivery .. => inv_next (by split; exacts [h, inv_ite h (inv_ite (inv_notice h) (inv_modSad h))])
  | .droopCrossing .. => inv_next (inv_modSpur h)
  | .tallyMark .. => inv_execTallyMark h
  | .commit .. => inv_execCommit h
  | .stage .. => inv_next (inv_each h fun _ _ h => inv_stageAt h)
  | .arm .. => inv_execArm h
  | .cancel .. => inv_next (inv_requests (inv_each h fun _ _ h => inv_cancelAt h))
  | .discard => inv_next (inv_discardAll h)
  | .discardGroup .. => inv_next (inv_discardOne h)
  | .stageSet => inv_next (inv_ite h (by split; exacts [inv_renew h, inv_ite (inv_dropStep h) (inv_stageNext h)]))
  | .lastReevaluation => inv_next (by split; exacts [h, inv_renew h])
  | .armDecision => inv_execArmDecision h
  | .armRefusedAll => inv_execArmRefusedAll h
  | .setAppliedReport => inv_next (by split; exacts [h, inv_completeSet h])
  | .bulkWord .. => inv_execBulkWord h
  | .saddleMeasure .. => inv_execSaddleMeasure h
  | .saddleDisable .. => inv_next (inv_take h fun _ h => inv_modSad h)
  | .spareTrack .. => inv_next (inv_ite h (inv_ite (inv_ite h (inv_modSpur (inv_modCol h))) (inv_ite (inv_track h) h)))
  | .spareAligned .. => inv_next (inv_ite (inv_modCol h) h)
  | .spareHandover .. => inv_execSpareHandover h
  | .spareForced .. => inv_next (inv_ite (inv_forceOver h) h)
  | .spurFailed .. => inv_execSpurFailed h
  | .faultFence .. => inv_next (inv_ite h (inv_modSpur h))
  | .borrowQuietMark .. => inv_execBorrowQuietMark h
  | .borrowStart .. => inv_execBorrowStart h
  | .borrowRelease .. => inv_execBorrowRelease h
  | .intentAnnounce .. => inv_next (inv_ite h (inv_modSpur (inv_modSpur h)))
  | .holdExpiry .. => inv_next (inv_ite (inv_modSpur h) h)
  | .checksumFrame .. => inv_next (inv_ite h (inv_modSpur h))
  | .rateWindowEnd .. => inv_next (inv_ite (inv_modSpur (inv_examine h)) h)
  | .chkHoldExpiry .. => inv_next (inv_ite (inv_baseMoved (inv_modSpur h)) h)
  | .sparingNotice .. => inv_execSparingNotice h
  | .gradeCompute => inv_next (inv_ite h (inv_frame (inv_mapSpurs h)))
  | .ceilingWrite .. => inv_next (inv_ite (inv_writeCeil h) h)
  | .nudge => inv_next (inv_take h fun _ h => inv_startRead h)
  | .poll => inv_next (inv_ite h (inv_startRead h))
  | .controlBlockRead .. => inv_execControlBlockRead h
  | .descriptorFetch .. => inv_next (inv_ite h (inv_send (inv_frame (inv_send h))))
  | .hostReadErr .. => inv_next (inv_cancelPlan (inv_frame (inv_closeIncident (inv_incident (inv_raise h)))))
  | .completionWrite => inv_execCompletionWrite h
  | .eventRecord => inv_next (by split; exacts [h, inv_repeats (inv_writeEvent (inv_frame h))])
  | .ringEnable => inv_execRingEnable h
  | .ringDisable => inv_execRingDisable h
  | .ringDisableDone => inv_next (inv_ite h (inv_send (inv_frame h)))
  | .bdtLoad => inv_next (inv_take h fun _ h => inv_ite (inv_cfgEvent h) (inv_send (inv_frame h)))
  | .bdtReadDone .. => inv_next (inv_ite h (by split; exacts [inv_raise (inv_frame h), inv_takeTable h]))
  | .setStep => inv_next (inv_process h fun _ _ _ h => inv_joinsDomain h)
  | .setLadder => inv_next (inv_process h fun _ _ _ h => inv_joinsDomain h)
  | .formatPhase => inv_next (inv_process h fun _ _ _ h => inv_joinsDomain h)
  | .waitSync => inv_next (inv_process h fun _ _ _ h => inv_modPlan h id)
  | .condBegin => inv_execCondBegin h
  | .condEnd => inv_execCondEnd h
  | .budget => inv_next (inv_process h fun _ _ _ h => inv_act h)
  | .calWindow => inv_next (inv_process h fun _ _ _ h => have hu := inv_act h; inv_ite hu (inv_schedule hu))
  | .measure => inv_next (inv_process h fun _ _ _ h => inv_act h)
  | .fence => inv_next (inv_process h fun _ _ _ h => inv_joins h)
  | .unfence => inv_next (inv_process h fun _ _ _ h => inv_ite (inv_closeOut (inv_finish h)) (inv_joins h))
  | .domainMap => inv_next (inv_process h fun _ _ _ h => inv_joins h)
  | .marker => inv_next (inv_process h fun _ _ _ h => inv_closeOut (inv_modPlan h id))
  | .nop => inv_execNop h
  | .undefinedDescriptor => inv_next (inv_process h fun _ _ _ h => h)
  | .planIdle => inv_next (inv_ite h (inv_raise (inv_baseMoved (inv_rebind (inv_patchFab h)))))
  | .profileWrite .. => inv_execProfileWrite h
  | .basicRaise => inv_next (inv_ite h (inv_ite h (inv_stageFormed (inv_modPlan h id))))
  | .syncRead => inv_next (inv_ite h (inv_modPlan (inv_each h fun _ _ h => inv_send h) id))
  | .syncReply .. => inv_next (inv_ite h (inv_each (inv_readWait (inv_modPlan h id)) fun _ _ h => inv_readGroup h))
  | .waitTimeout => inv_execWaitTimeout h
  | .groupDeadline .. => inv_next (inv_ite h (inv_raise (inv_settleGroup (inv_resolve h))))
  | .windowCommand => inv_execWindowCommand h
  | .calWindowOpen => inv_next (by split; exacts [h, inv_frame (inv_mapSads (inv_mapSpurs h))])
  | .calExcursion .. => inv_next (inv_ite h (inv_modSpur h))
  | .calLoopRestore => inv_next (inv_ite h (inv_mapSpurs (inv_frame h)))
  | .calPlausibility .. => inv_execCalPlausibility h
  | .calApply => inv_execCalApply h
  | .calWindowClose => inv_next (by split; exacts [h, inv_ite h (inv_frame (inv_mapSpurs h))])
  | .calRecompute => inv_execCalRecompute h
  | .trimApply .. => inv_execTrimApply h
  | .calHoldRise .. => inv_next (inv_ite (inv_modSpur h) h)
  | .gapStepDone .. => inv_execGapStepDone h
  | .gapStepAbort .. => inv_next (by split; exacts [h, inv_ite h (inv_modSpur (inv_frame h))])
  | .calrefGate .. => inv_next (inv_ite h (inv_setTraced (inv_when (inv_frame h) fun _ h => inv_raise h)))
  | .calrefLost => inv_next (inv_setTraced (inv_frame h))
  | .calWincfgWrite .. => inv_execCalWincfgWrite h
  | .nativeEnable => inv_next (inv_take h fun _ h => inv_ite h (inv_startWindows (inv_frame (inv_setField h))))
  | .sensorConversion .. => inv_execSensorConversion h
  | .save => inv_next (inv_take h fun _ h => inv_ite h (inv_frame h))
  | .cairnSave .. => inv_next (inv_flashStep h)
  | .saveF .. => inv_execSaveF h
  | .lookoutEdge .. => inv_execLookoutEdge h
  | .disarm .. => inv_next (inv_take h fun _ h => inv_ite (inv_endMeasure h) h)
  | .measureTimeout .. => inv_next (inv_ite (inv_endMeasure h) h)
  | .todTick .. => inv_next (inv_ite h (inv_frame (inv_ite (inv_sampleRates h) (inv_frame h))))
  | .todSnapshot .. => inv_next (inv_ite h (inv_send (inv_sampleRates (inv_frame (inv_applyStep (inv_applyTodSet h))))))
  | .set => inv_next (inv_take h fun _ h => inv_frame h)
  | .step => inv_next (inv_take h fun _ h => inv_frame h)
  | .slew => inv_next (inv_take h fun _ h => inv_frame h)
  | .ppsInMissing => inv_next (inv_ite (inv_raise (inv_frame h)) h)
  | .loErrorMeasure .. => inv_next (by split; exacts [inv_ite (inv_frame h) h, h])
  | .lookoutDensity .. => inv_execLookoutDensity h
  | .timerUnlock => inv_next (inv_ite h (inv_raise (inv_frame (inv_each h fun _ _ h => inv_endMeasure h))))
  | .lookoutLost => inv_next (inv_ite h (inv_raise (inv_frame h)))
  | .start => inv_execStart h
  | .abort => inv_next (inv_take h fun _ h => inv_bistStop h)
  | .bistPatternsDone .. => inv_execBistPatternsDone h
  | .bistEnvAbort .. => inv_next (inv_ite h (inv_ite (inv_ite h (inv_frame h)) (inv_ite (inv_bistAbort h) h)))
  | .bistReturn => inv_execBistReturn h
  | .bistPorRepeat .. => inv_next (inv_ite (inv_frame h) h)
  | .incidentOpen .. => inv_execIncidentOpen h
  | .errorStorm => inv_execErrorStorm h
  | .fatalEvent => inv_execFatalEvent h
  | .clear => inv_next (inv_take h fun _ h => inv_ite (inv_baseMoved (inv_frame h)) (inv_cfgEvent h))
  | .spur .. => inv_execSpur h
  | .inst .. => inv_next (inv_take h fun _ h => inv_ite (inv_modCol h) (inv_cfgEvent h))
  | .avsSlot .. => inv_execAvsSlot h
  | .avsReply .. => inv_execAvsReply h
  | .regLinkFail .. => inv_execRegLinkFail h
  | .governorEval => inv_execGovernorEval h
  | .thermalEval => inv_next (inv_ite h (inv_each (inv_frame h) fun _ _ h => inv_thermalOne h))
  | .trip1 => inv_execTrip1 h
  | .trip2 => inv_execTrip2 h
  | .trip3 => inv_next (inv_ite h (inv_when (inv_driveFatal (inv_setTrip h)) fun _ h => inv_raise h))
  | .tripRelease .. => inv_execTripRelease h
  | .governorResume => inv_next (by split; exacts [h, inv_ite (inv_frame h) h])
  | .sup0 => inv_execSup0
  | .sup1 .. => inv_execSup1 h
  | .holdEntry => inv_next (inv_takeReq h fun _ h => inv_ite (inv_cfgEvent h) (inv_ite h (inv_enterHold h)))
  | .holdExit => inv_execHoldExit h
  | .parkEntry => inv_execParkEntry h
  | .parkReady => inv_execParkReady h
  | .wake .. => inv_next (inv_wakeBy h)
  | .powerUp => inv_execPowerUp
  | .blockReset => inv_next (inv_ite h (inv_ite (inv_frame (inv_restart h)) (inv_frame h)))
  | .oscillatorSettled => inv_next (inv_ite h (inv_ite (inv_toStage (inv_frame h)) (inv_frame h)))
  | .stage1Done => inv_next (inv_ite (inv_toStage h) h)
  | .rootLocked .. => inv_execRootLocked h
  | .bankFVerified .. => inv_next (inv_ite h (inv_when (inv_mapSpurs (inv_frame (inv_toStage h))) fun _ h => inv_bankBad h))
  | .testSelectDone .. => inv_execTestSelectDone h
  | .startPulse => inv_next (inv_ite h (inv_mapCols (inv_mapSpurs (inv_modRdg (inv_toStage h)))))
  | .firstMarkOfService => inv_execFirstMarkOfService h
  | .reset => inv_execReset h
  | .instanceSelfCheckDone .. => inv_next (inv_ite h (inv_frame h))
  | .lcsChange .. => inv_next (inv_ite h (inv_lcsReport h))
  | .req => inv_execReq h
  | .challengeIssued .. => inv_next (inv_ite (inv_frame h) h)
  | .submit => inv_execSubmit h
  | .unlockVerdict .. => inv_next (inv_ite h (inv_ite (inv_lcsReport (inv_frame h)) (inv_unlockFail (inv_frame h))))
  | .challengeExpired => inv_next (inv_ite (inv_frame h) h)
  | .relock => inv_next (inv_take h fun _ h => inv_ite (inv_frame h) (inv_ite (inv_frame h) h))
  | .tapSegmentSet .. => inv_next (inv_ite (inv_frame h) (inv_ite h (inv_raise (inv_frame h))))
  | .stretchInjection .. => inv_next (inv_perturb h fun _ h => inv_frame (inv_startInjection h))
  | .injectionBurst => inv_next (by split; exacts [h, inv_ite h (inv_frame (inv_startInjection h))])
  | .falseDroop .. => inv_next (inv_perturb h fun _ h => inv_mapSpurs h)
  | .extraSaddleDelay .. => inv_execExtraSaddleDelay h
  | .temperatureOverride .. => inv_execTemperatureOverride h
  | .fieldPowerOverride .. => inv_execFieldPowerOverride h
  | .ringFlow .. => inv_execRingFlow h
  | .doorbellDelay .. => inv_execDoorbellDelay h
  | .nopath => inv_next (inv_ite (inv_frame h) h)
  | .refEdgeReturn .. => inv_execRefEdgeReturn h
  | .calrefReturn => inv_next (inv_frame h)
  | .timerRelock => inv_next (inv_frame h)
  | .registerArm .. => inv_execRegisterArm h
  | .blkResetAssert => inv_next (inv_ite h (inv_frame (inv_restart h)))

end

/-- Settles O58: the idle tick and every command keep the invariant, and taking a command off the queue leaves its four parts. -/
theorem everyStepKeepsInv : Obligations.EveryStepKeepsInv := by
  intro s t h hstep
  unfold step at hstep
  split at hstep
  · exact inv_next (inv_idleTick h) t hstep
  · exact inv_exec _ (inv_frame h) t hstep

end Sys2Proof.Proofs
end

section
/-! Messages and events of the commands of Summit and the Cols: what is sent and raised at the present ridge count. Mirror records, the self-check and SWAP (O4). -/

set_option Elab.async false

namespace Sys2Proof.Proofs

open Sys2Proof.Machine Sys2Proof.Safety Sys2Proof.Laws

/-- An event takes no more from the state than the ridge count and EPOCH. -/
theorem event_congr {s t : State} (h : t.rdg = s.rdg) (ev : Ev) (sev : Sev) (kind idx : Nat) (detail : List Byte) :
    t.event ev sev kind idx detail = s.event ev sev kind idx detail := by
  simp [State.event, h]

theorem raised_raiseAs (s : State) (ev : Ev) (sev : Sev) (kind idx : Nat) (detail : List Byte) :
    (s.raiseAs ev sev kind idx detail).raised = s.raised ++ [s.event ev sev kind idx detail] := rfl

theorem raised_raise (s : State) (ev : Ev) (kind idx : Nat) (detail : List Byte) :
    (s.raise ev kind idx detail).raised = s.raised ++ [s.event ev ev.sev kind idx detail] := rfl

/-- The event raised last is the latest that waits, as seen from any state with the same ridge count. -/
theorem raisedLast_raiseAs {s t : State} (h : t.rdg = s.rdg) (ev : Ev) (sev : Sev) (kind idx : Nat) (detail : List Byte) :
    RaisedLast s (t.raiseAs ev sev kind idx detail) ev sev kind idx detail := by
  rw [RaisedLast, raised_raiseAs, List.getLast?_concat, event_congr h]

theorem sendLane_of_silent {s : State} (h : s.role.silent = true) (c : LaneCmd) : s.sendLane c = s := if_pos h

theorem sendLane_of_active {s : State} (h : s.role.silent = false) (c : LaneCmd) : s.sendLane c = s.send (.lane c) := by
  rw [State.sendLane, if_neg (by simp [h])]

/-- An RWL field with a row of its own takes a write outside DEPLOYED. -/
theorem take_rwl_of_open {s : State} {a : Nat} (hans : s.answers a = true) (hopen : s.locked = false) (v : Word) (f : State → State) :
    s.take a v .rwl f = f s := by
  simp [State.take, hans, hopen]

theorem exec_swap_open {s : State} (hans : s.answers 0x100 = true) (hopen : s.locked = false) :
    exec .swap s = .next (if !s.mirrorOk || s.role.silent then s else { s with role := { s.role with swap := true } }) :=
  congrArg Host.Outcome.next (take_rwl_of_open hans hopen ..)

/-- Settles O4: each command unfolds to one update of the role. -/
theorem mirrorRecordsAndSwap : Obligations.MirrorRecordsAndSwap := by
  refine ⟨fun s m ms hnext hok => ?_, fun s m ms hnext => ?_, fun s => rfl, fun s c hsilent => sendLane_of_silent hsilent c,
    fun s hans hopen hmirror hactive => ?_, fun s hans hopen hno => ?_⟩
  · change execMirrorRecord s = _
    simp [execMirrorRecord, hnext, hok]
  · change execMirrorLate s = _
    simp [execMirrorLate, hnext]
  · rw [exec_swap_open hans hopen, if_neg (by simp [hmirror, hactive])]
  · rw [exec_swap_open hans hopen, if_pos (by rcases hno with h | h <;> simp [h])]

end Sys2Proof.Proofs
end

section
/-! The check of the ridge counters at a beacon's arrival and their reload (O14). -/

set_option Elab.async false

namespace Sys2Proof.Proofs

open Sys2Proof.Machine Sys2Proof.Safety Sys2Proof.Laws

/-! ## What a list of updates keeps -/

/-- What each update of a list keeps, all of them keep. -/
theorem each_keeps {α β : Type} (p : State → β) {f : State → α → State} (h : ∀ t a, p (f t a) = p t) (s : State) (l : List α) :
    p (s.each l f) = p s := by
  induction l generalizing s with
  | nil => rfl
  | cons a l ih => rw [each_cons, ih, h]

theorem when_keeps {β : Type} (p : State → β) {f : State → State} (h : ∀ t, p (f t) = p t) (s : State) (b : Bool) : p (s.when b f) = p s := by
  unfold State.when
  split
  · exact h s
  · rfl

/-! ## A counter's mark and tick -/

theorem mark_toNat (r : Ridge) : r.mark.toNat = r.toNat / 256 := by
  have := r.isLt
  simp only [Ridge.mark, BitVec.toNat_setWidth, BitVec.toNat_ushiftRight, Nat.shiftRight_eq_div_pow]
  omega

theorem ofMark_toNat (m : Mark) : (Ridge.ofMark m).toNat = 256 * m.toNat := by
  have := m.isLt
  simp only [Ridge.ofMark, BitVec.toNat_shiftLeft, BitVec.toNat_setWidth, Nat.shiftLeft_eq]
  omega

/-- A counter passes a beacon's check where it stands 12 ticks into the beacon's mark. -/
theorem counterOk_iff (m : Mark) (r : Ridge) : counterOk m r = true ↔ r = Ridge.ofMark m + 0x0C#48 := by
  have hm := m.isLt
  have hr := r.isLt
  simp only [counterOk, Bool.and_eq_true, beq_iff_eq, tick_eq_mod, ← BitVec.toNat_inj, mark_toNat, BitVec.toNat_add, ofMark_toNat,
    BitVec.toNat_ofNat]
  omega

theorem counterOk_eq (m : Mark) (r : Ridge) : counterOk m r = decide (r = Ridge.ofMark m + 0x0C#48) :=
  Bool.eq_iff_iff.2 ((counterOk_iff m r).trans decide_eq_true_iff.symm)

/-! ## A spine becomes faulty -/

theorem record_at_col (s : State) (f : Fin 25) (code : Nat) (r u d : Bool) : (s.record f code r u d).col f = (s.col f).record code r u d := by
  rw [State.record, noteSet_at_col, col_modCol_self]

theorem record_rdg (s : State) (f code : Nat) (r u d : Bool) : (s.record f code r u d).rdg = s.rdg := rfl

theorem ridgeLost_rdg (s : State) (f : Nat) : (s.ridgeLost f).rdg = s.rdg := by
  rw [State.ridgeLost, raise_rdg, record_rdg]
  exact each_keeps State.rdg (fun t n => modSpur_rdg ..) s (fieldSpurs f)

theorem ridgeLost_at_col (s : State) (f : Fin 25) : (s.ridgeLost f).col f = (s.col f).record Ev.ridgeLost.code true false false := by
  rw [State.ridgeLost, raise_at_col, record_at_col]
  exact congrArg (Col.record · ..) (each_keeps (fun t : State => t.col f) (fun t n => modSpur_at_col ..) s (fieldSpurs f))

theorem spineFails_rdg (s : State) (f : Nat) (b : Bool) : (s.spineFails f b).rdg = s.rdg := by
  unfold State.spineFails
  extract_lets c t
  split
  · rfl
  · split
    · exact ridgeLost_rdg ..
    · split
      · rfl
      · rfl

/-- What neither the record of a FATAL code nor a due switch touches in a Col is, once a spine has failed, as its new health leaves it. -/
theorem spineFails_at_col {β : Type} (p : Col → β) (hrec : ∀ c code r u d, p (c.record code r u d) = p c)
    (hsw : ∀ c v, p { c with switchDue := v } = p c) (s : State) (f : Fin 25) (b : Bool) :
    p ((s.spineFails f b).col f) = p ((s.col f).setOk b false) := by
  unfold State.spineFails
  extract_lets c t
  have ht : t.col f = (s.col f).setOk b false := col_modCol_self ..
  rw [← ht]
  split
  · rfl
  · split
    · rw [ridgeLost_at_col, hrec]
    · split
      · rw [raise_at_col, col_modCol_self, hsw]
      · rfl

/-! ## The beacon's arrival -/

/-- The Col once the beacon has come, before the check. -/
def arrived (s : State) (f : Nat) (da db : Ridge) (k : Int) : State :=
  s.modCol f fun c => { c with commander := s.role.active, beaconAge := 0, skew := k, errA := c.errA + da, errB := c.errB + db }

/-- The state with one mismatch more counted at a Col. -/
def mismatched (s : State) (f : Nat) : State := s.modCol f fun c => { c with mismatches := min 255 (c.mismatches + 1) }

/-- One counter fails the check, that of spine B where `b`: its spine fails, and it is due for reload. -/
def oneWrong (s : State) (f : Nat) (b : Bool) : State :=
  (((mismatched s f).spineFails f b).modCol f fun c => if b then { c with reloadB := true } else { c with reloadA := true }).raise .ridgeMismatch 1 f []

/-- Both counters fail the check. -/
def bothWrong (s : State) (f : Nat) : State :=
  ((mismatched s f).modCol f fun c => (c.hit false).hit true).raiseAs .ridgeMismatch .degraded 1 f []

/-- The outcome of the check, by whether the counters of spines A and B pass. -/
def afterCheck (s : State) (f : Nat) : Bool → Bool → State
  | true, true => s
  | false, true => oneWrong s f false
  | true, false => oneWrong s f true
  | false, false => bothWrong s f

/-- What the check of the counters leaves of an arrival: the commander, the beacon's age, the spine difference and the counters' errors. -/
def beaconPart (c : Col) : Bool × Nat × Int × Ridge × Ridge := (c.commander, c.beaconAge, c.skew, c.errA, c.errB)

/-- The health of the spines and the count of mismatches. -/
def healthPart (c : Col) : Bool × Bool × Nat := (c.aOk, c.bOk, c.mismatches)

section

variable {s : State} {f : Fin 25} {m : Mark} {da db : Ridge} {k : Int}

/-- An arrival that counts leaves what the check makes of the Col as it has taken the beacon. -/
theorem exec_beaconArrival {okA okB : Bool} (hrun : s.rdg.started = true) (htick : s.tick = 12) (hlast : s.role.lastBeacon = some s.mark)
    (hage : (s.col f).beaconAge ≠ 0) (hA : counterOk m ((arrived s f da db k).counter f false) = okA)
    (hB : counterOk m ((arrived s f da db k).counter f true) = okB) :
    exec (.beaconArrival f m s.role.active da db k) s = .next (afterCheck (arrived s f da db k) f okA okB) := by
  change execBeaconArrival f m s.role.active da db k s = _
  unfold execBeaconArrival
  extract_lets t a b bad
  rw [if_neg (by simp [hrun, htick, hlast, hage]), show a = okA from hA, show b = okB from hB]
  cases okA <;> cases okB <;> rfl

theorem counter_eq {t : State} (hrdg : t.rdg = s.rdg) (f : Nat) (b : Bool) :
    t.counter f b = s.rdg.ridge + if b then (t.col f).errB else (t.col f).errA := by
  rw [State.counter, hrdg]

theorem arrived_at_col : (arrived s f da db k).col f =
    { s.col f with commander := s.role.active, beaconAge := 0, skew := k, errA := (s.col f).errA + da, errB := (s.col f).errB + db } :=
  col_modCol_self ..

theorem counterOk_arrived_A :
    counterOk m ((arrived s f da db k).counter f false) = decide (s.rdg.ridge + ((s.col f).errA + da) = Ridge.ofMark m + 0x0C#48) := by
  rw [counterOk_eq, counter_eq rfl, arrived_at_col]
  rfl

theorem counterOk_arrived_B :
    counterOk m ((arrived s f da db k).counter f true) = decide (s.rdg.ridge + ((s.col f).errB + db) = Ridge.ofMark m + 0x0C#48) := by
  rw [counterOk_eq, counter_eq rfl, arrived_at_col]
  rfl

theorem arrived_healthPart : healthPart ((arrived s f da db k).col f) = healthPart (s.col f) := by
  rw [arrived_at_col]
  rfl

theorem bothWrong_at_col : (bothWrong s f).col f = ((({ s.col f with mismatches := min 255 ((s.col f).mismatches + 1) } : Col).hit false).hit true) := by
  rw [bothWrong, raiseAs_at_col, col_modCol_self, mismatched, col_modCol_self]

theorem oneWrong_at_col (b : Bool) : (oneWrong s f b).col f =
    (fun c : Col => if b then { c with reloadB := true } else { c with reloadA := true }) (((mismatched s f).spineFails f b).col f) := by
  rw [oneWrong, raise_at_col, col_modCol_self]

theorem oneWrong_rdg (b : Bool) : (oneWrong s f b).rdg = s.rdg := spineFails_rdg (mismatched s f) f b

theorem bothWrong_beaconPart : beaconPart ((bothWrong s f).col f) = beaconPart (s.col f) := by
  rw [bothWrong_at_col]
  rfl

theorem oneWrong_beaconPart (b : Bool) : beaconPart ((oneWrong s f b).col f) = beaconPart (s.col f) := by
  have hfail := spineFails_at_col beaconPart (fun _ _ _ _ _ => rfl) (fun _ _ => rfl) (mismatched s f) f b
  rw [mismatched, col_modCol_self] at hfail
  cases b <;> simpa [oneWrong_at_col, Col.setOk, mismatched, beaconPart] using hfail

theorem bothWrong_health : ((bothWrong s f).col f).aOk = (s.col f).aOk ∧ ((bothWrong s f).col f).bOk = (s.col f).bOk := by
  rw [bothWrong_at_col]
  exact ⟨rfl, rfl⟩

theorem oneWrong_health (b : Bool) : ((oneWrong s f b).col f).aOk = (if b then (s.col f).aOk else false) ∧
    ((oneWrong s f b).col f).bOk = (if b then false else (s.col f).bOk) ∧
    ((oneWrong s f b).col f).mismatches = min 255 ((s.col f).mismatches + 1) := by
  have hfail := spineFails_at_col healthPart (fun _ _ _ _ _ => rfl) (fun _ _ => rfl) (mismatched s f) f b
  rw [mismatched, col_modCol_self] at hfail
  cases b <;> simpa [oneWrong_at_col, Col.setOk, mismatched, healthPart] using hfail

/-- Whatever the check has left of the arrival: commander, age, spine difference, and counters that stand where the true count does but for their errors. -/
theorem arrival_parts {t : State} (hrdg : t.rdg = s.rdg) (h : beaconPart (t.col f) = beaconPart ((arrived s f da db k).col f)) :
    (t.col f).commander = s.role.active ∧ (t.col f).beaconAge = 0 ∧ (t.col f).skew = k ∧
      t.counter f false = s.rdg.ridge + ((s.col f).errA + da) ∧ t.counter f true = s.rdg.ridge + ((s.col f).errB + db) := by
  rw [arrived_at_col] at h
  simp only [beaconPart, Prod.mk.injEq] at h
  obtain ⟨hcmd, hage, hskew, hA, hB⟩ := h
  exact ⟨hcmd, hage, hskew, by rw [counter_eq hrdg]; simp [hA], by rw [counter_eq hrdg]; simp [hB]⟩

theorem oneWrong_raisedLast {t : State} (h : t.rdg = s.rdg) (b : Bool) : RaisedLast s (oneWrong t f b) .ridgeMismatch .corrected 1 f [] :=
  raisedLast_raiseAs ((spineFails_rdg (mismatched t f) f b).trans h) ..

end

/-- An arrival at another tick, at a Col that has taken the beacon, or of another sender than the active copy changes nothing. -/
theorem exec_beaconArrival_ignored {s : State} {f : Fin 25} {m : Mark} {q : Bool} {da db : Ridge} {k : Int}
    (h : s.tick ≠ 12 ∨ s.role.lastBeacon ≠ some s.mark ∨ q ≠ s.role.active ∨ (s.col f).beaconAge = 0) :
    exec (.beaconArrival f m q da db k) s = .next s :=
  congrArg Host.Outcome.next (if_pos (by rcases h with h | h | h | h <;> simp [h]))

/-- At a mark the counter of spine A is loaded first, then that of spine B. -/
theorem exec_ridgeCounterReload {s : State} (f : Fin 25) (h : s.atMark = true) :
    exec (.ridgeCounterReload f) s = .next (s.modCol f fun c =>
      let a := if c.reloadA && c.bOk then { c with errA := c.errB, reloadA := false } else c
      if a.reloadB && a.aOk then { a with errB := a.errA, reloadB := false } else a) :=
  congrArg Host.Outcome.next (if_neg (by simp [h]))

/-- Settles O14: the four cases are those of which counters pass. -/
theorem beaconChecksBothRidgeCounters : Obligations.BeaconChecksBothRidgeCounters := by
  refine ⟨counterOk_iff, fun s f m da db k hrun htick hlast hage => ?_, fun s f m q da db k h => exec_beaconArrival_ignored h,
    fun s f hmark hdue hok => ?_, fun s f hmark hnot hdue hok => ?_⟩
  · intro a b okA okB
    refine ⟨_, exec_beaconArrival (okA := okA) (okB := okB) hrun htick hlast hage counterOk_arrived_A counterOk_arrived_B, ?_⟩
    clear_value okA okB
    have hbefore := arrived_healthPart (s := s) (f := f) (da := da) (db := db) (k := k)
    simp only [healthPart, Prod.mk.injEq] at hbefore
    obtain ⟨haOk, hbOk, hcount⟩ := hbefore
    match okA, okB with
    | true, true =>
      obtain ⟨hcmd, hyoung, hskew, hA, hB⟩ := arrival_parts (t := arrived s f da db k) (s := s) (f := f) rfl rfl
      exact ⟨hcmd, hyoung, hskew, hA, hB, fun _ _ => ⟨haOk, hbOk, rfl⟩, nofun, nofun, nofun⟩
    | false, true =>
      obtain ⟨hcmd, hyoung, hskew, hA, hB⟩ := arrival_parts (s := s) (f := f) (da := da) (db := db) (k := k)
        (oneWrong_rdg (s := arrived s f da db k) false) (oneWrong_beaconPart false)
      obtain ⟨ha, hb, hm⟩ := oneWrong_health (s := arrived s f da db k) (f := f) false
      exact ⟨hcmd, hyoung, hskew, hA, hB, nofun,
        fun _ _ => ⟨ha, hb.trans hbOk, congrArg Col.reloadA (oneWrong_at_col false), hm.trans (by rw [hcount]), oneWrong_raisedLast rfl _⟩, nofun, nofun⟩
    | true, false =>
      obtain ⟨hcmd, hyoung, hskew, hA, hB⟩ := arrival_parts (s := s) (f := f) (da := da) (db := db) (k := k)
        (oneWrong_rdg (s := arrived s f da db k) true) (oneWrong_beaconPart true)
      obtain ⟨ha, hb, hm⟩ := oneWrong_health (s := arrived s f da db k) (f := f) true
      exact ⟨hcmd, hyoung, hskew, hA, hB, nofun, nofun,
        fun _ _ => ⟨hb, ha.trans haOk, congrArg Col.reloadB (oneWrong_at_col true), hm.trans (by rw [hcount]), oneWrong_raisedLast rfl _⟩, nofun⟩
    | false, false =>
      obtain ⟨hcmd, hyoung, hskew, hA, hB⟩ := arrival_parts (t := bothWrong (arrived s f da db k) f) (s := s) (f := f) rfl bothWrong_beaconPart
      obtain ⟨ha, hb⟩ := bothWrong_health (s := arrived s f da db k) (f := f)
      exact ⟨hcmd, hyoung, hskew, hA, hB, nofun, nofun, nofun, fun _ _ => ⟨ha.trans haOk, hb.trans hbOk, raisedLast_raiseAs rfl ..⟩⟩
  · refine ⟨_, exec_ridgeCounterReload f hmark, ?_, ?_⟩
    · rw [counter_eq rfl, counter_eq rfl, col_modCol_self]
      simp [hdue, hok]
      split <;> rfl
    · rw [col_modCol_self]
      simp [hdue, hok]
      split <;> rfl
  · refine ⟨_, exec_ridgeCounterReload f hmark, ?_, ?_⟩
    · rw [counter_eq rfl, counter_eq rfl, col_modCol_self]
      simp [hnot, hdue, hok]
    · rw [col_modCol_self]
      simp [hnot, hdue, hok]

end Sys2Proof.Proofs
end

section
/-! A Col's commands, its field report and its failover (O7). -/

set_option Elab.async false

namespace Sys2Proof.Proofs

open Sys2Proof.Machine Sys2Proof.Safety Sys2Proof.Laws

/-! ## Commands at a Col -/

theorem heeds_iff {s : State} {f : Nat} : s.heeds f = true ↔ (s.col f).commander = s.role.active := beq_iff_eq

/-- The Col has acted on its own copy of a command; a difference from the other copy is told. -/
def commandTaken (s : State) (f : Nat) (own other : Word) : State :=
  (s.modCol f fun x => { x with lastCmd := own }).when (own != other) fun t => t.raise .spineMismatch 1 f (le 4 own.toNat ++ le 4 other.toNat)

theorem commandTaken_at_col (s : State) (f : Nat) (own other : Word) (k : Nat) :
    (commandTaken s f own other).col k = (s.modCol f fun x => { x with lastCmd := own }).col k :=
  when_keeps (fun t : State => t.col k) (fun _ => raise_at_col ..) ..

theorem commandTaken_same {own other : Word} (h : own = other) (s : State) (f : Nat) : (commandTaken s f own other).raised = s.raised := by
  rw [commandTaken, State.when, if_neg (by simp [h]), modCol_raised]

theorem commandTaken_differ {own other : Word} (h : own ≠ other) (s : State) (f : Nat) :
    RaisedLast s (commandTaken s f own other) .spineMismatch .corrected 1 f (le 4 own.toNat ++ le 4 other.toNat) := by
  rw [commandTaken, State.when, if_pos (bne_iff_ne.2 h)]
  exact raisedLast_raiseAs (modCol_rdg ..) ..

/-- A Col acts on the copy of its selected spine. -/
theorem exec_commandReceive {s : State} {f : Fin 25} (h : (s.col f).commander = s.role.active) (a b : Word) :
    exec (.commandReceive f a b) s = .next (commandTaken s f (if (s.col f).sel then b else a) (if (s.col f).sel then a else b)) := by
  change execCommandReceive f a b s = _
  unfold execCommandReceive
  extract_lets c own other
  rw [if_neg (by simp [heeds_iff.2 h])]
  rfl

/-- A Col that has accepted another copy's beacon acts on nothing. -/
theorem exec_commandReceive_unheeded {s : State} {f : Fin 25} (h : (s.col f).commander ≠ s.role.active) (a b : Word) :
    exec (.commandReceive f a b) s = .next s := by
  have hno : s.heeds f = false := Bool.eq_false_iff.2 fun hh => h (heeds_iff.1 hh)
  change execCommandReceive f a b s = _
  unfold execCommandReceive
  extract_lets c own other
  rw [if_pos (by simp [hno])]

/-- The copies of the selected and of the other spine agree where those of the two spines do. -/
theorem selected_eq_other_iff (sel : Bool) (a b : Word) : ((if sel then b else a) = if sel then a else b) ↔ a = b := by
  cases sel
  · exact Iff.rfl
  · exact eq_comm

/-! ## Field reports -/

/-- A change of some Spurs leaves the Cols. -/
theorem each_modSpur_at_col (s : State) (l : List Nat) (g : Nat → Spur → Spur) (f : Nat) : (s.each l fun t n => t.modSpur n (g n)).col f = s.col f :=
  each_keeps (fun t : State => t.col f) (fun _ _ => modSpur_at_col ..) s l

theorem takeInputs_at_col (s : State) (g f : Nat) : (s.takeInputs g).col f = s.col f := each_modSpur_at_col ..

theorem takeInputs_out (s : State) (g : Nat) : (s.takeInputs g).out = s.out :=
  each_keeps State.out (fun _ _ => modSpur_out ..) s (fieldRegions g)

/-- An alarm reaches Summit: its Spur's limit or an incident, nothing at the Cols. -/
theorem takeAlarm_at_col (s : State) (a : Ev × Nat) (f : Nat) : (s.takeAlarm a).col f = s.col f := by
  unfold State.takeAlarm
  split
  · rfl
  · exact incident_at_col ..

theorem takeAlarm_out (s : State) (a : Ev × Nat) : (s.takeAlarm a).out = s.out := by
  unfold State.takeAlarm
  split
  · rfl
  · exact incident_out ..

/-- What the report of a field leaves in its Col. -/
def reported (s : State) (f : Nat) (c : Col) : Col :=
  { c with
    repSeq := (s.reportOf f).seq, repMark := some s.mark, repArmed := (s.reportOf f).armed, telem := (c.telem + 1) % (telemUnits f).length
    repHeld := s.fieldHeld f, alarms := if s.role.silent then c.alarms else []
    avs := { c.avs with reported := if c.avs.failed then 0 else c.avs.acked } }

/-- A report that is due goes out, and the Col keeps what it reported. -/
theorem fieldReport_due {s : State} {f : Fin 25} (hrun : s.rdg.started = true) (htick : s.tick = 10 * f.val)
    (hnew : (s.col f).repMark ≠ some s.mark) (hcan : (s.col f).reports = true) :
    Runs (.fieldReport f) s fun t => Message.report (s.reportOf f) ∈ t.out ∧ t.col f = reported s f (s.col f) := by
  change ∃ t, execFieldReport f s = .next t ∧ _
  unfold execFieldReport
  rw [if_neg (by simp [hrun, htick, hnew, hcan])]
  extract_lets r done t u v w
  have hu : u.col f = reported s f (s.col f) := by
    have ht : t.col f = reported s f (s.col f) := col_modCol_self ..
    rw [← ht]
    exact each_modSpur_at_col ..
  have hw : w.col f = reported s f (s.col f) := calc
    w.col f = v.col f := takeInputs_at_col ..
    _ = (u.send (.report r)).col f := modPlan_at_col ..
    _ = u.col f := send_at_col ..
    _ = reported s f (s.col f) := hu
  have hsent : Message.report r ∈ w.out := by
    rw [takeInputs_out]
    exact List.mem_append_right _ (List.mem_singleton_self _)
  refine ⟨_, rfl, ?_⟩
  split
  · exact ⟨hsent, hw⟩
  · constructor
    · rwa [each_keeps State.out takeAlarm_out]
    · rwa [each_keeps (fun t : State => t.col f) fun _ _ => takeAlarm_at_col ..]

theorem exec_fieldReport_idle {s : State} {f : Fin 25} (h : s.tick ≠ 10 * f.val ∨ (s.col f).repMark = some s.mark) :
    exec (.fieldReport f) s = .next s :=
  congrArg Host.Outcome.next (if_pos (by rcases h with h | h <;> simp [h]))

/-! ## Failover -/

/-- The Col's active copy counts as failed. -/
def activeFails (c : Col) : Col := if c.active then { c with sFailed := true, testPassed := false } else { c with pFailed := true, testPassed := false }

theorem toList_getD_eq_bget {α : Type} {n : Nat} (v : Vector α n) (d : α) (i : Nat) : v.toList.getD i d = bget v d i := by
  unfold bget
  split
  · next h => simp [h]
  · next h => simp [h]

/-- The other copy of a Col goes on in place of the one that has failed. -/
def switchedOver (s : State) (f : Nat) : State :=
  ((((s.modCol f activeFails).modCol f fun x => x.failover (bget s.colsPrev Col.reset f)).raise .colFailover 1 f
    (le 1 (if (s.col f).active then 0 else 1))).incident { cls := 2, sev := .corrected, ev := .colFailover, unit := f }).closeIncident 2 f

theorem switchedOver_at_col (s : State) (f : Fin 25) :
    (switchedOver s f).col f = (activeFails (s.col f)).failover (bget s.colsPrev Col.reset f) := by
  rw [switchedOver, closeIncident_at_col, incident_at_col, raise_at_col, col_modCol_self, col_modCol_self]

theorem switchedOver_raisedLast (s : State) (f : Nat) :
    RaisedLast s (switchedOver s f) .colFailover .corrected 1 f (le 1 (if (s.col f).active then 0 else 1)) := by
  rw [RaisedLast, switchedOver, closeIncident_raised, incident_raised]
  exact raisedLast_raiseAs rfl ..

/-- Outside a test a failover marks the active copy as failed; the other goes on where it is healthy, and otherwise the Col is lost. -/
theorem exec_colFailover {s : State} {f : Fin 25} (hmark : s.atMark = true) (hone : ((s.col f).pFailed && (s.col f).sFailed) = false)
    (htest : s.bist.phase = 0) :
    exec (.colFailover f) s = .next
      (if (activeFails (s.col f)).pFailed && (activeFails (s.col f)).sFailed then (s.modCol f activeFails).raise .colLost 1 f []
        else switchedOver s f) := by
  have hrun : s.testRuns = false := by simp [State.testRuns, htest]
  change execColFailover f s = _
  unfold execColFailover
  extract_lets c b tested old t u
  have hnot : tested = false := by simp [tested, hrun]
  have ht : t = s := if_neg (by simp [hnot])
  have hold : old = bget s.colsPrev Col.reset f := toList_getD_eq_bget ..
  rw [if_neg (by simp [hmark, c, hone]), if_neg (by simp [hnot])]
  have hu : u.col f = activeFails (s.col f) := by
    rw [← ht]
    exact col_modCol_self ..
  rw [hu]
  clear_value old t
  subst hold ht
  rfl

/-- Settles O7. -/
theorem colActsReportsAndFailsOver : Obligations.ColActsReportsAndFailsOver := by
  refine ⟨fun s f a b h => ?_, fun s f a b h => exec_commandReceive_unheeded h a b, fun s f hrun htick hnew hcan => ?_,
    fun s f h => exec_fieldReport_idle h, fun s f hmark hp hs htest => ?_, fun s f hmark hact hp hs htest => ?_⟩
  · intro own other
    have hsame : own = other ↔ a = b := selected_eq_other_iff ..
    refine ⟨_, exec_commandReceive h a b, ?_, fun heq => commandTaken_same (hsame.2 heq) s f, fun hne => commandTaken_differ (mt hsame.1 hne) s f,
      fun k hk => ?_⟩
    · rw [commandTaken_at_col, col_modCol_self]
    · rw [commandTaken_at_col, col_modCol, if_neg fun hcon => hk (Fin.ext hcon.1.symm)]
  · obtain ⟨t, hexec, hsent, hcol⟩ := fieldReport_due hrun htick hnew hcan
    refine ⟨t, hexec, hsent, ?_⟩
    rw [hcol]
    exact ⟨rfl, rfl, rfl, rfl⟩
  · have hone : ¬((activeFails (s.col f)).pFailed && (activeFails (s.col f)).sFailed) = true := by
      unfold activeFails
      split <;> simp [hp, hs]
    have hexec := exec_colFailover (f := f) hmark (by simp [hp]) htest
    rw [if_neg hone] at hexec
    have hcol := switchedOver_at_col s f
    refine ⟨_, hexec, ?_, ?_, ?_, ?_, ?_, ?_, switchedOver_raisedLast s f⟩
    · rw [hcol]
      cases h : (s.col f).active <;> simp [Col.failover, activeFails, h]
    · rw [hcol]
      cases h : (s.col f).active <;> simp [Col.failover, activeFails, h, hp]
    · rw [hcol]
      cases h : (s.col f).active <;> simp [Col.failover, activeFails, h, hs]
    · rw [hcol]
      rfl
    · rw [hcol]
      rfl
    · rw [hcol]
      rfl
  · have hcol : activeFails (s.col f) = { s.col f with sFailed := true, testPassed := false } := if_pos hact
    refine ⟨_, exec_colFailover hmark (by simp [hs]) htest, ?_⟩
    rw [if_pos (by simp [hcol, hp])]
    refine ⟨?_, ?_, raisedLast_raiseAs rfl ..⟩
    · rw [raise_at_col, col_modCol_self, hcol]
    · rw [raise_at_col, col_modCol_self, hcol]
      exact hp

end Sys2Proof.Proofs
end

section
/-! The completions of an applied set's descriptors (O22). -/

set_option Elab.async false

namespace Sys2Proof.Proofs

open Sys2Proof.Machine Sys2Proof.Safety Sys2Proof.Laws

/-- What each update of a list preserves, all of them preserve. -/
theorem each_preserves {α : Type} (P : State → Prop) {f : State → α → State} (h : ∀ t a, P t → P (f t a)) {s : State} (hs : P s) (l : List α) :
    P (s.each l f) := by
  induction l generalizing s with
  | nil => exact hs
  | cons a l ih => exact ih (h s a hs)

/-- Descriptors have completed on the way from `s` to `t`: the sets are the same, and no completion has been taken away. -/
def Completing (s t : State) : Prop := t.plan.sets = s.plan.sets ∧ ∀ k ∈ s.hri.cmplQ, k ∈ t.hri.cmplQ

theorem Completing.refl (s : State) : Completing s s := ⟨rfl, fun _ hk => hk⟩

section

variable {s t u : State}

theorem completing_finish (h : Completing s t) (e : FbEntry) (st : Status) (m : Mark) (detail domain : Nat) (merged : Bool) :
    Completing s (t.finish e st m detail domain merged) :=
  ⟨h.1, fun k hk => List.mem_append_left _ (h.2 k hk)⟩

theorem completing_modPlan (h : Completing s t) {g : Plan → Plan} (hg : (g t.plan).sets = t.plan.sets) : Completing s (t.modPlan g) :=
  ⟨hg.trans h.1, h.2⟩

theorem completing_closeMarkers (h : Completing s t) : Completing s t.closeMarkers := by
  refine each_preserves (Completing s) (fun u i hu => ?_) h _
  split
  · exact hu
  · split
    · exact completing_modPlan hu rfl
    · exact completing_modPlan (completing_finish hu ..) rfl

theorem completing_closeGroups (h : Completing s t) : Completing s t.closeGroups := by
  refine each_preserves (Completing s) (fun u k hu => ?_) h _
  extract_lets g
  split
  · exact hu
  · split
    · exact hu
    · refine completing_modPlan ?_ rfl
      cases u.plan.entry _ with
      | none => exact hu
      | some e => exact completing_finish hu ..

theorem completing_closeOut (h : Completing s t) : Completing s t.closeOut := completing_closeMarkers (completing_closeGroups h)

end

/-- A completion of a descriptor at a mark: it carries its sequence number, type and NOTIFY flag. -/
def Tells (e : FbEntry) (m : Mark) (k : Completion) : Prop := k.seq = e.seq ∧ k.ty = e.ty ∧ k.mark = m ∧ k.notify = e.flag 2

theorem finish_tells (t : State) (e : FbEntry) (st : Status) (m : Mark) (detail domain : Nat) (merged : Bool) :
    ∃ k ∈ (t.finish e st m detail domain merged).hri.cmplQ, Tells e m k :=
  ⟨_, List.mem_append_right _ (List.mem_singleton_self _), rfl, rfl, rfl, rfl⟩

/-- Where each update of a list of descriptors tells its own, all are told at the end. -/
theorem each_tells {f : State → FbEntry → State} {m : Mark} (hgrow : ∀ s t e, Completing s t → Completing s (f t e))
    (htell : ∀ t e, ∃ k ∈ (f t e).hri.cmplQ, Tells e m k) (l : List FbEntry) (s : State) :
    ∀ e ∈ l, ∃ k ∈ (s.each l f).hri.cmplQ, Tells e m k := by
  induction l generalizing s with
  | nil => nofun
  | cons e l ih =>
    intro d hd
    rw [each_cons]
    rcases List.mem_cons.1 hd with rfl | hd
    · obtain ⟨k, hk, htells⟩ := htell s d
      have hkept : Completing (f s d) ((f s d).each l f) := each_preserves (Completing (f s d)) (hgrow _) (Completing.refl _) l
      exact ⟨k, hkept.2 k hk, htells⟩
    · exact ih _ d hd

theorem completeSet_sets (s : State) (c : CommitSet) (fb : Fabric) :
    (s.completeSet c fb).plan.sets = s.plan.sets.filter fun x => x.seq != c.seq := by
  unfold State.completeSet
  extract_lets t
  have ht : Completing s t := each_preserves (Completing s) (fun _ _ h => completing_finish h ..) (Completing.refl s) _
  rw [(completing_closeOut (Completing.refl _)).1, ← ht.1]
  rfl

theorem completeSet_find (s : State) (c : CommitSet) (fb : Fabric) : (s.completeSet c fb).plan.find c.seq = none := by
  rw [Plan.find, completeSet_sets]
  simp

theorem completeSet_tells (s : State) (c : CommitSet) (fb : Fabric) :
    ∀ e ∈ c.members.filterMap s.plan.entry, ∃ k ∈ (s.completeSet c fb).hri.cmplQ, Tells e c.target k := by
  intro e he
  unfold State.completeSet
  extract_lets t
  obtain ⟨k, hk, htells⟩ : ∃ k ∈ t.hri.cmplQ, Tells e c.target k :=
    each_tells (fun _ _ _ h => completing_finish h ..) (fun _ _ => finish_tells ..) _ s e he
  exact ⟨k, (completing_closeOut (s := t.modPlan fun p => p.dropSet c.seq) (Completing.refl _)).2 k hk, htells⟩

/-- Settles O22: each descriptor's completion is made by its `finish` and kept by what follows it. -/
theorem appliedSetCompletesItsDescriptors : Obligations.AppliedSetCompletesItsDescriptors := by
  refine ⟨fun s c hdue => ?_, fun s hnone => ?_⟩
  · refine ⟨s.completeSet c (if c.isNull then s.fab else c.result), ?_, completeSet_find .., completeSet_tells s c _⟩
    change execSetAppliedReport s = _
    rw [execSetAppliedReport, hdue]
  · change execSetAppliedReport s = _
    rw [execSetAppliedReport, hnone]

end Sys2Proof.Proofs
end

section
/-! A takeover of Summit (O5): the state that the new copy takes up, and what it does with it. -/

set_option Elab.async false

namespace Sys2Proof.Proofs

open Sys2Proof.Machine Sys2Proof.Safety Sys2Proof.Laws

/-! ## What the new copy takes up -/

/-- The other copy is the active one; nothing has been taken from a record yet. -/
def roleSwitched (s : State) : State :=
  { s with role := { s.role with
      active := !s.role.active, silent := false, swap := false, standbyOk := false, mirrors := [], mirrorNext := [], mirrorLate := false
      takeovers := min 255 (s.role.takeovers + 1), noAnswer := 0, nopath := false, grades := [], resumeDue := true } }

/-- The state that the new copy takes up: that of the latest mirror record, where there is one. -/
def takenUp (s : State) : State := s.role.mirrors.head?.elim (roleSwitched s) (roleSwitched s).fromMirror

theorem takenUp_of_none {s : State} (h : s.role.mirrors = []) : takenUp s = roleSwitched s := by
  rw [takenUp, h]
  rfl

theorem takenUp_of_record {s : State} {m : Mirror} {ms : List Mirror} (h : s.role.mirrors = m :: ms) :
    takenUp s = (roleSwitched s).fromMirror m := by
  rw [takenUp, h]
  rfl

/-- The record gives the role no more than the last committed sequence numbers, and leaves the ridge count, the sets, the Spurs, and what has been sent and raised. -/
def TakenFrom (s t : State) : Prop :=
  (∃ l, t.role = { s.role with lastSeq := l }) ∧ t.rdg = s.rdg ∧ t.plan = s.plan ∧ t.spurs = s.spurs ∧ t.out = s.out ∧ t.raised = s.raised

theorem takenFrom_fromMirror (s : State) (m : Mirror) : TakenFrom s (s.fromMirror m) := by
  unfold State.fromMirror
  extract_lets cs known t u
  split
  · exact ⟨⟨_, rfl⟩, rfl, rfl, rfl, rfl, rfl⟩
  · split
    · exact ⟨⟨_, rfl⟩, rfl, rfl, rfl, rfl, rfl⟩
    · exact ⟨⟨_, rfl⟩, rfl, rfl, rfl, rfl, rfl⟩

theorem takenFrom_takenUp (s : State) : TakenFrom (roleSwitched s) (takenUp s) := by
  unfold takenUp
  cases s.role.mirrors.head? with
  | none => exact ⟨⟨_, rfl⟩, rfl, rfl, rfl, rfl, rfl⟩
  | some m => exact takenFrom_fromMirror ..

theorem fromMirror_agreed (s : State) (m : Mirror) : (s.fromMirror m).hri.agreed = m.agreed := by
  unfold State.fromMirror
  extract_lets cs known t u
  split
  · rfl
  · split
    · rfl
    · rfl

theorem fromMirror_gov (s : State) (m : Mirror) : (s.fromMirror m).gov = { m.gov with hist := s.gov.hist } := by
  unfold State.fromMirror
  extract_lets cs known t u
  split
  · rfl
  · split
    · rfl
    · rfl

/-- A set that the plan holds under a number has that number. -/
theorem find_getD_seq (p : Plan) (c : CommitSet) : ((p.find c.seq).getD c).seq = c.seq := by
  cases h : p.find c.seq with
  | none => rfl
  | some x => simpa using List.find?_some (p := fun y : CommitSet => y.seq == c.seq) h

/-- Where no report tells of a commit armed in the record or applied by now, none has been applied since the record. -/
theorem appliedSince_eq_nil {s : State} {m : Mirror} (h : ∀ c ∈ m.armed ++ s.plan.sets.filter CommitSet.applied, s.tellsApplied c.seq = false) :
    s.appliedSince m = [] := by
  refine List.filter_eq_nil_iff.2 fun x hx => Bool.eq_false_iff.1 ?_
  rcases List.mem_append.1 hx with hold | hlater
  · obtain ⟨c, hc, rfl⟩ := List.mem_map.1 hold
    rw [find_getD_seq]
    exact h c (List.mem_append_left _ hc)
  · obtain ⟨hmem, happlied⟩ := List.mem_filter.1 hlater
    exact h x (List.mem_append_right _ (List.mem_filter.2 ⟨hmem, (Bool.and_eq_true_iff.1 happlied).1⟩))

theorem fromMirror_of_none_applied {s : State} {m : Mirror} (hknown : ∀ f : Fin 25, (s.col f).repSeq ∈ m.lastSeq)
    (hnone : s.appliedSince m = []) : (s.fromMirror m).fab = m.fab ∧ (s.fromMirror m).role.lastSeq = m.lastSeq := by
  unfold State.fromMirror
  extract_lets cs known t u
  have hall : known = true := by
    refine List.all_eq_true.2 fun c hc => Bool.or_eq_true_iff.2 (Or.inl ?_)
    obtain ⟨f, hf, rfl⟩ := List.mem_iff_getElem.1 hc
    have hf25 : f < 25 := by simpa using hf
    have hget := hknown ⟨f, hf25⟩
    simpa [State.col, bget, hf25] using hget
  have hcs : cs = [] := hnone
  rw [if_neg (by simp [hall]), hcs]
  exact ⟨rfl, rfl⟩

/-! ## What it does with it -/

/-- The new copy makes itself known: its beacon, the event, and the discard. -/
def announced (t : State) (b : Mark) : State := (t.beacon.raise .summitTakeover 0 t.beacon.summitIdx (le 5 b.toNat)).sendLane .discard

/-- The sets and entries that are not armed or applied are gone. -/
def cleared (t : State) (b : Mark) : State := ((announced t b).modPlan fun p => { p with sets := p.sets.filter CommitSet.final }).discardNew

/-- A late recomputation noted, where the takeover falls into a native window's end. -/
def lateNoted (s t : State) : State :=
  if s.calBetween (fun w => w.n - 2) (fun w => w.n - 1) && decide (s.cal.phase < 3) then { t with cal := { t.cal with lateAt := some (s.mark + 2) } } else t

/-- The takeover of state `t` by the copy that was the standby in `s`. -/
def handedOver (s t : State) (b : Mark) : State :=
  (lateNoted s (((cleared t b).incident { cls := 1, sev := .corrected, ev := .summitTakeover, unit := s.summitIdx }).closeIncident 1
    s.summitIdx)).baseMoved.saveAgain

theorem exec_summitTakeover {s : State} {b : Mark} (hmark : s.atMark = true) (hlast : s.role.lastBeacon = some b) (hok : s.role.standbyOk = true)
    (hthird : s.since b = 3) : exec .summitTakeover s = .next (handedOver s (takenUp s) b) := by
  change execSummitTakeover s = _
  unfold execSummitTakeover
  split
  · next hnone => exact absurd (hnone.symm.trans hlast) nofun
  · next c hc =>
    obtain rfl : c = b := Option.some.inj (hc.symm.trans hlast)
    rw [if_neg (by simp [hmark, hok, hthird])]
    split
    · next m ms hm =>
      rw [takenUp_of_record hm]
      rfl
    · next hm =>
      rw [takenUp_of_none hm]
      rfl

/-- At another mark, or without a standby, nothing happens. -/
theorem exec_summitTakeover_idle {s : State} {b : Mark} (hlast : s.role.lastBeacon = some b)
    (h : s.atMark = false ∨ s.since b ≠ 3 ∨ s.role.standbyOk = false) : exec .summitTakeover s = .next s := by
  change execSummitTakeover s = _
  unfold execSummitTakeover
  split
  · rfl
  · next c hc =>
    obtain rfl : c = b := Option.some.inj (hc.symm.trans hlast)
    rw [if_pos (by rcases h with h | h | h <;> simp [h])]

section

variable {β : Type} (p : State → β)

theorem incident_keeps (hf : ∀ u fl, p { u with faults := fl } = p u) (s : State) (i : Incident) : p (s.incident i) = p s := by
  unfold State.incident
  extract_lets i' fl s'
  split
  · exact (hf ..).trans (hf ..)
  · split
    · exact (hf ..).trans (hf ..)
    · exact (hf ..).trans (hf ..)

theorem closeIncident_keeps (hf : ∀ u fl, p { u with faults := fl } = p u) (s : State) (c u : Nat) : p (s.closeIncident c u) = p s := by
  unfold State.closeIncident
  split
  · split
    · exact hf ..
    · rfl
  · rfl

/-- After the discard a takeover changes the faults, the native window, the save and the due choice of a base. -/
theorem handedOver_keeps (s t : State) (b : Mark) (hf : ∀ u fl, p { u with faults := fl } = p u := by exact fun _ _ => rfl)
    (hc : ∀ u c, p { u with cal := c } = p u := by exact fun _ _ => rfl) (hk : ∀ u c, p { u with crn := c } = p u := by exact fun _ _ => rfl)
    (hb : ∀ u : State, p u.baseMoved = p u := by exact fun _ => rfl) :
    p (handedOver s t b) = p (cleared t b) := by
  have hlate (u : State) : p (lateNoted s u) = p u := by
    unfold lateNoted
    split
    · exact hc ..
    · rfl
  rw [handedOver, State.saveAgain, hk, hb, hlate, closeIncident_keeps p hf, incident_keeps p hf]

end

section

variable {s t : State} {b : Mark}

/-- What the role holds once a base is due. -/
def roleDue (u : State) : Role := { u.role with baseDue := true }

theorem handedOver_role : (handedOver s t b).role = { (cleared t b).role with baseDue := true } :=
  handedOver_keeps roleDue s t b

theorem beacon_role (t : State) : t.beacon.role = { t.role with lastBeacon := some t.mark } := by
  rw [State.beacon, sendLane_role]

theorem beacon_out {t : State} (h : t.role.silent = false) : t.beacon.out = t.out ++ [.lane (.beacon t.mark t.summitField)] := by
  rw [State.beacon, sendLane_of_active h]
  rfl

theorem cleared_role : (cleared t b).role = { t.role with lastBeacon := some t.mark } := by
  rw [cleared]
  simp only [State.discardNew, State.discardBy, requests_role, mapSpurs_role, modPlan_role, announced, sendLane_role, raise_role, beacon_role]

theorem cleared_out (h : t.role.silent = false) : (cleared t b).out = t.out ++ [.lane (.beacon t.mark t.summitField), .lane .discard] := by
  have hsilent : (t.beacon.raise .summitTakeover 0 t.beacon.summitIdx (le 5 b.toNat)).role.silent = false := by
    rw [raise_role, beacon_role]
    exact h
  rw [cleared, State.discardNew, State.discardBy, requests_out, mapSpurs_out, modPlan_out, announced, sendLane_of_active hsilent, State.send,
    raise_out, beacon_out h, List.append_assoc]
  rfl

theorem cleared_raised : (cleared t b).raised = t.raised ++ [t.event .summitTakeover .corrected 0 t.summitIdx (le 5 b.toNat)] := by
  have hbeacon : t.beacon.raised = t.raised := by
    rw [State.beacon]
    exact sendLane_raised ..
  have hidx : t.beacon.summitIdx = t.summitIdx := by
    rw [State.summitIdx, beacon_role]
    rfl
  have hrdg : t.beacon.rdg = t.rdg := by
    rw [State.beacon]
    exact sendLane_rdg ..
  rw [cleared, State.discardNew, State.discardBy, requests_raised, mapSpurs_raised, modPlan_raised, announced, sendLane_raised, raised_raise, hbeacon,
    hidx, event_congr hrdg]
  rfl

theorem cleared_plan : (cleared t b).plan.sets = t.plan.sets.filter CommitSet.final := by
  have hplan : t.beacon.plan = t.plan := by
    rw [State.beacon]
    exact sendLane_plan ..
  rw [cleared, State.discardNew, State.discardBy, requests_plan, mapSpurs_plan, ← hplan]
  exact congrArg (fun p : Plan => p.sets.filter CommitSet.final) (sendLane_plan ..)

/-- A discard of every entry leaves none staged. -/
theorem discard_not_staged (g : Gen) : ∀ e ∈ (g.discard fun _ => true).entries, e.st ≠ .staged := by
  intro e he
  obtain ⟨d, -, rfl⟩ := List.mem_map.1 he
  split
  · decide
  · next h => simpa using h

theorem cleared_spur (n : Fin 425) : ∀ e ∈ ((cleared t b).spur n).gen.entries, e.st ≠ .staged := by
  rw [cleared, State.discardNew, State.discardBy, requests_at_spur, spur_mapSpurs _ n.isLt]
  exact discard_not_staged _

theorem cleared_hri : (cleared t b).hri = t.hri := by
  simp [cleared, State.discardNew, State.discardBy, announced, State.beacon]

theorem cleared_gov : (cleared t b).gov = t.gov := by
  simp [cleared, State.discardNew, State.discardBy, announced, State.beacon]

theorem cleared_fab : (cleared t b).fab = t.fab := by
  simp [cleared, State.discardNew, State.discardBy, announced, State.beacon]

end

/-- Settles O5: the new copy takes up the record, and what it does with it leaves what the record gave. -/
theorem takeoverHandsTheActiveRoleOver : Obligations.TakeoverHandsTheActiveRoleOver := by
  refine ⟨fun s b hmark hlast hok hthird => ?_, fun s m ms b hmark hlast hok hthird hrec => ?_, fun s b hlast h => exec_summitTakeover_idle hlast h⟩
  · obtain ⟨⟨l, hrole⟩, hrdg, hplan, hspurs, hout, hraised⟩ := takenFrom_takenUp s
    have hsilent : (takenUp s).role.silent = false := by rw [hrole]; rfl
    have hidx : (takenUp s).summitIdx = if s.role.active then 0 else 1 := by
      rw [State.summitIdx, hrole]
      cases h : s.role.active <;> simp [roleSwitched, h]
    have hmarkEq : (takenUp s).mark = s.mark := congrArg (fun r : Ridgeline => r.ridge.mark) hrdg
    have hfield : (takenUp s).summitField = if s.role.active then 1 else 23 := by
      rw [State.summitField, hrole]
      cases h : s.role.active <;> simp [roleSwitched, h]
    have houtEq : (handedOver s (takenUp s) b).out = s.out ++ [.lane (.beacon s.mark (if s.role.active then 1 else 23)), .lane .discard] := by
      rw [handedOver_keeps State.out, cleared_out hsilent, hout, hmarkEq, hfield]
      rfl
    have hroleEq : (handedOver s (takenUp s) b).role = { (roleSwitched s).role with lastSeq := l, lastBeacon := some s.mark, baseDue := true } := by
      rw [handedOver_role, cleared_role, hmarkEq, hrole]
    refine ⟨_, exec_summitTakeover hmark hlast hok hthird, ?_, ?_, ?_, ?_, ?_, ?_, ?_, ?_, ?_, fun n => ?_⟩
    · rw [hroleEq]; rfl
    · rw [hroleEq]; rfl
    · rw [hroleEq]; rfl
    · rw [hroleEq]
    · rw [hroleEq]; rfl
    · rw [houtEq]
      simp
    · rw [houtEq]
      simp
    · rw [Raises, handedOver_keeps State.raised, cleared_raised, hidx, event_congr hrdg]
      exact List.mem_append_right _ (List.mem_singleton_self _)
    · rw [handedOver_keeps State.plan, cleared_plan, hplan]
      rfl
    · rw [handedOver_keeps (fun u => u.spur n)]
      exact cleared_spur n
  · have hexec := exec_summitTakeover hmark hlast hok hthird
    rw [takenUp_of_record hrec] at hexec
    refine ⟨_, hexec, ?_, ?_, fun hknown hnone => ?_⟩
    · rw [handedOver_keeps State.hri, cleared_hri, fromMirror_agreed]
    · rw [handedOver_keeps State.gov, cleared_gov, fromMirror_gov]
      rfl
    · obtain ⟨hfab, hseq⟩ := fromMirror_of_none_applied (s := roleSwitched s) (m := m) hknown (appliedSince_eq_nil hnone)
      constructor
      · rw [handedOver_keeps State.fab, cleared_fab, hfab]
      · rw [handedOver_role, cleared_role]
        exact hseq

end Sys2Proof.Proofs
end

section
/-! The next mark (O3). What the work of a mark leaves as the beacon has put it: the ridge count, the Cols kept for a failover,
the age of every Col's beacon, which copy is active and when it was last heard, and every message already sent.
An operation that touches none of these needs no rule of its own: `kept_frame` covers it. -/

set_option Elab.async false

namespace Sys2Proof.Proofs

open Sys2Proof.Machine Sys2Proof.Safety Sys2Proof.Laws

/-- Which copy is active, whether it is silent, the mark of the last beacon, and the marks without an answer. -/
def heard (r : Role) : Bool × Bool × Option Mark × Nat := (r.active, r.silent, r.lastBeacon, r.noAnswer)

/-- The ridge count, and whether the first beacon has come. -/
def counted (r : Ridgeline) : Ridge × Bool := (r.ridge, r.tick0)

/-- What the work of a mark leaves of a state. -/
def Kept (s t : State) : Prop :=
  counted t.rdg = counted s.rdg ∧ t.colsMark = s.colsMark ∧ t.colsPrev = s.colsPrev ∧ (∀ f : Nat, (t.col f).beaconAge = (s.col f).beaconAge) ∧
    heard t.role = heard s.role ∧ ∀ m ∈ s.out, m ∈ t.out

theorem Kept.refl (s : State) : Kept s s := ⟨rfl, rfl, rfl, fun _ => rfl, rfl, fun _ hm => hm⟩

section

variable {s₀ s : State}

theorem kept_frame {wo sh hd la cy sp sd co rd lk fb p hi gv f ev r ca cr bi lc bo ra ou fc pe} (h : Kept s₀ s)
    (hc : ∀ f, (bget co Col.reset f).beaconAge = (bget s.cols Col.reset f).beaconAge := by exact fun _ => rfl)
    (hn : counted rd = counted s.rdg := by exact rfl) (hr : heard r = heard s.role := by exact rfl) (ho : ∀ m ∈ s.out, m ∈ ou := by exact fun _ hm => hm) :
    Kept s₀ ⟨wo, sh, hd, la, cy, sp, sd, co, s.colsMark, s.colsPrev, rd, lk, fb, p, hi, gv, f, ev, r, ca, cr, bi, lc, bo, ra, ou, fc, pe⟩ := by
  obtain ⟨hrdg, hmark, hprev, hage, hrole, hout⟩ := h
  exact ⟨hn.trans hrdg, hmark, hprev, fun f => (hc f).trans (hage f), hr.trans hrole, fun m hm => ho m (hout m hm)⟩

theorem kept_ite {c : Prop} {_ : Decidable c} {a b : State} (ha : Kept s₀ a) (hb : Kept s₀ b) : Kept s₀ (if c then a else b) := by
  split
  · exact ha
  · exact hb

theorem kept_when {b : Bool} {f : State → State} (h : Kept s₀ s) (hf : ∀ t, Kept s₀ t → Kept s₀ (f t)) : Kept s₀ (s.when b f) :=
  kept_ite (hf _ h) h

theorem kept_each {α : Type} {l : List α} {f : State → α → State} (h : Kept s₀ s) (hf : ∀ t a, Kept s₀ t → Kept s₀ (f t a)) : Kept s₀ (s.each l f) :=
  each_preserves (Kept s₀) hf h l

theorem kept_elim {α : Type} {o : Option α} {f : α → State} (h : Kept s₀ s) (hf : ∀ a, Kept s₀ (f a)) : Kept s₀ (o.elim s f) := by
  cases o with
  | none => exact h
  | some a => exact hf a

/-! ## Shared operations -/

theorem kept_raise {ev kind idx detail} (h : Kept s₀ s) : Kept s₀ (s.raise ev kind idx detail) := kept_frame h

theorem kept_send {m} (h : Kept s₀ s) : Kept s₀ (s.send m) := kept_frame h (ho := fun _ => List.mem_append_left _)

theorem kept_sendLane {c} (h : Kept s₀ s) : Kept s₀ (s.sendLane c) := kept_ite h (kept_send h)

theorem kept_baseMoved (h : Kept s₀ s) : Kept s₀ s.baseMoved := kept_frame h

theorem kept_finish {e st m detail domain merged} (h : Kept s₀ s) : Kept s₀ (s.finish e st m detail domain merged) := kept_frame h

theorem kept_closeMarkers (h : Kept s₀ s) : Kept s₀ s.closeMarkers := by
  refine kept_each h fun t i ht => kept_ite ht ?_
  split
  · exact kept_frame ht
  · exact kept_frame (kept_finish ht)

theorem kept_closeGroups (h : Kept s₀ s) : Kept s₀ s.closeGroups := by
  refine kept_each h fun t k ht => kept_ite ht ?_
  split
  · exact ht
  · exact kept_frame (kept_elim ht fun e => kept_finish ht)

theorem kept_closeOut (h : Kept s₀ s) : Kept s₀ s.closeOut := kept_closeMarkers (kept_closeGroups h)

/-! ## What falls due at a mark -/

theorem kept_nullRequests (h : Kept s₀ s) : Kept s₀ s.nullRequests := kept_each h fun _ _ ht => kept_frame ht

theorem kept_calibrated {c freq own stop} (h : Kept s₀ s) : Kept s₀ (s.calibrated c freq own stop) := by
  unfold State.calibrated
  extract_lets t
  have ht : Kept s₀ t := kept_frame h
  split
  · exact ht
  · exact kept_frame ht

theorem kept_armChan {c freq owner limit addr own stop u} (h : Kept s₀ s) (hu : s.armChan c freq owner limit addr own stop = .ok u) : Kept s₀ u := by
  unfold State.armChan at hu
  split at hu
  · cases hu
  · split at hu
    · cases hu
    · cases hu
      split
      · exact kept_frame (kept_calibrated (kept_frame h))
      · exact kept_frame (kept_calibrated (kept_frame h))

theorem kept_runMeasure {e late} (h : Kept s₀ s) : Kept s₀ (s.runMeasure e late) := by
  unfold State.runMeasure
  extract_lets done t own u stop v
  have hv : Kept s₀ v := kept_frame h
  refine kept_ite (kept_finish (kept_send h)) ?_
  split
  · next hok => exact kept_armChan hv hok
  · exact kept_finish (kept_ite (kept_calibrated hv) hv)

theorem kept_idleApply {halves e done} (h : Kept s₀ s) : Kept s₀ (s.idleApply halves e done) :=
  kept_ite (kept_finish h) (kept_finish (kept_ite h (kept_frame h)))

theorem kept_setTcap {n} (h : Kept s₀ s) : Kept s₀ (s.setTcap n) := kept_when (kept_frame h) fun _ => kept_raise

theorem kept_setSprint {n} (h : Kept s₀ s) : Kept s₀ (s.setSprint n) := kept_when (kept_frame h) fun _ => kept_raise

theorem kept_runAction {halves a} (h : Kept s₀ s) : Kept s₀ (State.runAction halves s a) := by
  unfold State.runAction
  split
  · exact h
  · exact kept_ite (kept_finish (kept_setSprint (kept_setTcap (kept_frame h))))
      (kept_ite (kept_runMeasure h) (kept_ite (kept_finish (kept_ite (kept_frame h) h)) (kept_idleApply h)))

theorem kept_runActions (h : Kept s₀ s) : Kept s₀ s.runActions :=
  kept_ite h (kept_closeOut (kept_each (kept_frame h) fun _ _ => kept_runAction))

theorem kept_silentWait {w} (h : Kept s₀ s) : Kept s₀ (s.silentWait w) := kept_when (kept_frame h) fun _ => kept_raise

theorem kept_silentGroup {k} (h : Kept s₀ s) : Kept s₀ (s.silentGroup k) := kept_when (kept_frame h) fun _ => kept_raise

theorem kept_silentMarks (h : Kept s₀ s) : Kept s₀ s.silentMarks := by
  refine kept_ite h (kept_frame (kept_each ?_ fun _ _ ht => kept_ite (kept_silentGroup ht) ht))
  split
  · exact h
  · exact kept_ite (kept_silentWait h) h

theorem kept_settleGroup {k} (h : Kept s₀ s) : Kept s₀ (s.settleGroup k) :=
  have ht := kept_elim h fun _ => kept_ite h (kept_finish h)
  kept_closeOut (kept_each (kept_each (kept_frame ht) fun _ _ => kept_finish) fun _ _ => kept_finish)

theorem kept_settleGroups (h : Kept s₀ s) : Kept s₀ s.settleGroups := kept_each h fun _ _ ht => kept_ite (kept_settleGroup ht) ht

theorem kept_sendGrades (h : Kept s₀ s) : Kept s₀ s.sendGrades := kept_ite h (kept_sendLane (kept_frame h))

theorem kept_reprocess (h : Kept s₀ s) : Kept s₀ s.reprocess := by
  unfold State.reprocess
  extract_lets keep es applied p _ t
  have ht : Kept s₀ t := kept_frame h
  clear_value es
  cases es with
  | nil => exact kept_closeOut ht
  | cons => exact kept_raise (kept_closeOut (kept_frame ht))

theorem kept_sendMirror (h : Kept s₀ s) : Kept s₀ s.sendMirror := kept_frame h

/-! ## Other work of a mark -/

theorem kept_modCol {g f} (h : Kept s₀ s) (hage : ∀ c, (g c).beaconAge = c.beaconAge) : Kept s₀ (s.modCol f g) := by
  refine kept_frame h (hc := fun k => ?_)
  rw [bget_bmod]
  split
  · exact hage _
  · rfl

theorem kept_bistAbort {res src pats sig} (h : Kept s₀ s) : Kept s₀ (s.bistAbort res src pats sig) :=
  have ht := kept_raise (kept_frame h)
  kept_ite h (kept_ite (kept_frame ht) (kept_ite (kept_modCol (kept_frame ht) fun _ => rfl) (kept_frame ht)))

theorem kept_bistStop {res} (h : Kept s₀ s) : Kept s₀ (s.bistStop res) := kept_ite (kept_frame h) (kept_bistAbort (kept_frame h))

theorem kept_clearPrt {o} (h : Kept s₀ s) : Kept s₀ (s.clearPrt o) := kept_when (kept_frame h) fun _ => kept_raise

theorem kept_enterDeployed (h : Kept s₀ s) : Kept s₀ s.enterDeployed :=
  kept_baseMoved (kept_each (kept_frame (kept_each (kept_when (kept_frame h) fun _ => kept_bistStop) fun _ _ => kept_clearPrt)) fun _ _ ht =>
    kept_each ht fun _ _ hu => kept_ite hu (kept_frame hu))

theorem kept_dropSaveF (h : Kept s₀ s) : Kept s₀ s.dropSaveF := kept_ite (kept_raise (kept_frame h)) (kept_frame h)

theorem kept_changeLcs {new} (h : Kept s₀ s) : Kept s₀ (s.changeLcs new) :=
  have ht := kept_raise (kept_frame h)
  have hu := kept_ite (kept_dropSaveF ht) ht
  kept_ite h (kept_ite (kept_enterDeployed hu) hu)

theorem kept_relockMark (h : Kept s₀ s) : Kept s₀ s.relockMark :=
  have ht := kept_each (kept_frame h) fun _ _ => kept_changeLcs
  kept_ite (kept_changeLcs ht) ht

theorem kept_ceilsMark (h : Kept s₀ s) : Kept s₀ s.ceilsMark := kept_when h fun _ => kept_baseMoved

theorem kept_holdLeftMark (h : Kept s₀ s) : Kept s₀ s.holdLeftMark := kept_ite (kept_frame h) h

theorem kept_startGate (h : Kept s₀ s) : Kept s₀ s.startGate := kept_ite (kept_frame h) h

theorem kept_startDensity (h : Kept s₀ s) : Kept s₀ s.startDensity := kept_ite h (kept_frame h)

theorem kept_staleGate (h : Kept s₀ s) : Kept s₀ s.staleGate := kept_ite (kept_ite h (kept_raise (kept_frame h))) h

theorem kept_bistMark (h : Kept s₀ s) : Kept s₀ s.bistMark := kept_ite (kept_frame h) (kept_ite (kept_frame h) (kept_ite (kept_frame h) h))

theorem kept_holdMark (h : Kept s₀ s) : Kept s₀ s.holdMark := by
  unfold State.holdMark
  split
  · exact kept_ite (kept_ite (kept_raise (kept_frame h)) h) (kept_ite (kept_raise (kept_frame h)) h)
  · exact h

theorem kept_closeSaddle (h : Kept s₀ s) : Kept s₀ s.closeSaddle := by
  unfold State.closeSaddle
  split
  · refine kept_ite h ?_
    unfold State.closeIncident
    split
    · exact kept_ite (kept_frame h) h
    · exact h
  · exact h

theorem kept_summitMark : Kept s.beacon s.summitMark := by
  have hgrades : Kept s.beacon s.beacon.sendGrades := kept_sendGrades (Kept.refl _)
  exact kept_sendMirror (kept_runActions (kept_nullRequests (kept_settleGroups (kept_silentMarks (kept_when hgrades fun _ => kept_reprocess)))))

end

/-! ## The parts of MARK_BEACON -/

/-- The state in which a mark has begun: the ridge count of its tick 0, the Cols kept for a failover and aged. -/
def markBegun (s : State) : State :=
  let t := s.endSwap.nextMark.pushPower.relockMark
  { t with hri := { t.hri with msiSent := [] }, colsPrev := t.colsMark, colsMark := t.cols }.mapCols fun _ c => c.endMark

/-- What Summit does at the mark: an active copy its work, a silent one nothing. -/
def summitHeard (t : State) : State :=
  if t.role.silent then { t with role := { t.role with noAnswer := min 16 (t.role.noAnswer + 1) } }
  else ({ t with role := { t.role with noAnswer := 0, nopath := false } }).summitMark

/-- The other work of the mark. -/
def restOfMark (t : State) : State := t.startGate.startDensity.staleGate.bistMark.holdMark.closeSaddle

/-- The state after MARK_BEACON, from that in which Summit's work begins. -/
def afterMark (t : State) : State := restOfMark (summitHeard t.ceilsMark.holdLeftMark)

theorem exec_markBeacon {s : State} (hrun : s.rdg.started = true) (hlast : s.rdg.tick0 = false ∨ s.tick = 255) :
    exec .markBeacon s = .next (afterMark (markBegun s)) :=
  congrArg Host.Outcome.next (if_neg (by rcases hlast with h | h <;> simp [hrun, h]))

theorem exec_markBeacon_early {s : State} (h : s.rdg.started = false ∨ (s.rdg.tick0 = true ∧ s.tick ≠ 255)) : exec .markBeacon s = .next s :=
  congrArg Host.Outcome.next (if_pos (by rcases h with h | ⟨h, htick⟩ <;> simp [*]))

theorem kept_restOfMark (t : State) : Kept t (restOfMark t) :=
  kept_closeSaddle (kept_holdMark (kept_bistMark (kept_staleGate (kept_startDensity (kept_startGate (Kept.refl t))))))

theorem kept_beforeSummit (t : State) : Kept t t.ceilsMark.holdLeftMark := kept_holdLeftMark (kept_ceilsMark (Kept.refl t))

theorem kept_beforeCols (s : State) : Kept s.endSwap.nextMark s.endSwap.nextMark.pushPower.relockMark := kept_relockMark (kept_frame (Kept.refl _))

section

variable {s : State}

theorem endSwap_of_no_swap (h : s.role.swap = false) : s.endSwap = s := if_neg (by simp [h])

theorem endSwap_role_of_silent (h : s.role.silent = true) : heard s.endSwap.role = heard s.role := by
  unfold State.endSwap
  split
  · simp [heard, h]
  · rfl

/-- The fields of the state that a due swap leaves. -/
theorem endSwap_keeps {β : Type} (p : State → β) (s : State) (hr : ∀ u r, p { u with role := r } = p u := by exact fun _ _ => rfl) : p s.endSwap = p s := by
  unfold State.endSwap
  split
  · exact hr ..
  · rfl

theorem nextMark_keeps {β : Type} (p : State → β) (s : State) (hr : ∀ u r, p { u with rdg := r } = p u := by exact fun _ _ => rfl) : p s.nextMark = p s := by
  unfold State.nextMark
  extract_lets r
  split
  · exact hr ..
  · exact hr ..

theorem counted_nextMark (h : s.rdg.tick0 = true) : counted s.nextMark.rdg = (Ridge.ofMark (s.mark + 1), true) := by
  rw [State.nextMark]
  simp [h, counted, State.mark]

theorem counted_nextMark_first (h : s.rdg.tick0 = false) : counted s.nextMark.rdg = (s.rdg.ridge, true) := by
  rw [State.nextMark]
  simp [h, counted]

theorem mark_ofMark (m : Mark) : (Ridge.ofMark m).mark = m := by
  rw [← BitVec.toNat_inj, mark_toNat, ofMark_toNat]
  omega

theorem tick_ofMark (m : Mark) : (Ridge.ofMark m).tick = 0 := by
  rw [tick_eq_mod, ofMark_toNat]
  omega

theorem markBegun_counted : counted (markBegun s).rdg = counted s.endSwap.nextMark.rdg := by
  obtain ⟨hcount, -⟩ := kept_beforeCols s
  exact hcount

theorem markBegun_colsPrev : (markBegun s).colsPrev = s.colsMark := by
  obtain ⟨-, hmark, -⟩ := kept_beforeCols s
  rwa [nextMark_keeps State.colsMark, endSwap_keeps State.colsMark] at hmark

theorem markBegun_heard : heard (markBegun s).role = heard s.endSwap.role := by
  obtain ⟨-, -, -, -, hrole, -⟩ := kept_beforeCols s
  rwa [nextMark_keeps State.role] at hrole

theorem markBegun_beaconAge (f : Fin 25) : ((markBegun s).col f).beaconAge = min 255 ((s.col f).beaconAge + 1) := by
  obtain ⟨-, -, -, hage, -⟩ := kept_beforeCols s
  have hold := hage f
  rw [nextMark_keeps (fun u => u.col f), endSwap_keeps (fun u => u.col f)] at hold
  rw [← hold, markBegun, col_mapCols _ f.isLt]
  rfl

end

/-! ## Summit at the mark -/

/-- An active copy answers. -/
def answering (t : State) : State := { t with role := { t.role with noAnswer := 0, nopath := false } }

/-- It is heard: its beacon has gone out. -/
def answered (t : State) : State := (answering t).beacon

/-- No copy is heard for one mark more. -/
def unanswered (t : State) : State := { t with role := { t.role with noAnswer := min 16 (t.role.noAnswer + 1) } }

section

variable {s t : State}

theorem Kept.trans {u : State} (h : Kept s t) (hu : Kept t u) : Kept s u := by
  obtain ⟨hcount, hmark, hprev, hage, hrole, hsent⟩ := h
  obtain ⟨hcount', hmark', hprev', hage', hrole', hsent'⟩ := hu
  exact ⟨hcount'.trans hcount, hmark'.trans hmark, hprev'.trans hprev, fun f => (hage' f).trans (hage f), hrole'.trans hrole,
    fun m hm => hsent' m (hsent m hm)⟩

theorem kept_afterMark_active (h : t.role.silent = false) : Kept (answered t.ceilsMark.holdLeftMark) (afterMark t) := by
  obtain ⟨-, -, -, -, hrole, -⟩ := kept_beforeSummit t
  have hactive : t.ceilsMark.holdLeftMark.role.silent = false := (congrArg (fun r => r.2.1) hrole).trans h
  refine Kept.trans ?_ (kept_restOfMark _)
  rw [summitHeard, if_neg (by simp [hactive])]
  exact kept_summitMark

theorem kept_afterMark_silent (h : t.role.silent = true) : Kept (unanswered t.ceilsMark.holdLeftMark) (afterMark t) := by
  obtain ⟨-, -, -, -, hrole, -⟩ := kept_beforeSummit t
  have hsilent : t.ceilsMark.holdLeftMark.role.silent = true := (congrArg (fun r => r.2.1) hrole).trans h
  refine Kept.trans ?_ (kept_restOfMark _)
  rw [summitHeard, if_pos hsilent]
  exact Kept.refl _

/-- Whether or not Summit is heard, the ridge count, the Cols kept and the ages stay. -/
theorem afterMark_keeps (t : State) : counted (afterMark t).rdg = counted t.rdg ∧ (afterMark t).colsPrev = t.colsPrev ∧
    ∀ f : Nat, ((afterMark t).col f).beaconAge = (t.col f).beaconAge := by
  obtain ⟨hcount, -, hprev, hage, -, -⟩ := kept_beforeSummit t
  have hrdg : (answered t.ceilsMark.holdLeftMark).rdg = t.ceilsMark.holdLeftMark.rdg := sendLane_rdg ..
  have hcols : (answered t.ceilsMark.holdLeftMark).cols = t.ceilsMark.holdLeftMark.cols := sendLane_cols ..
  have hkept : (answered t.ceilsMark.holdLeftMark).colsPrev = t.ceilsMark.holdLeftMark.colsPrev := sendLane_colsPrev ..
  cases h : t.role.silent with
  | true =>
    obtain ⟨hcount', -, hprev', hage', -, -⟩ := kept_afterMark_silent h
    exact ⟨hcount'.trans hcount, hprev'.trans hprev, fun f => (hage' f).trans (hage f)⟩
  | false =>
    obtain ⟨hcount', -, hprev', hage', -, -⟩ := kept_afterMark_active h
    rw [hrdg] at hcount'
    refine ⟨hcount'.trans hcount, hprev'.trans (hkept.trans hprev), fun f => (hage' f).trans (Eq.trans ?_ (hage f))⟩
    rw [State.col, hcols]
    rfl

theorem mark_eq_of_counted (h : counted t.rdg = counted s.rdg) : t.mark = s.mark := congrArg (fun c => c.1.mark) h

theorem answered_sends (h : t.role.silent = false) : Message.lane (.beacon t.mark t.summitField) ∈ (answered t).out := by
  rw [answered, beacon_out (t := answering t) h]
  exact List.mem_append_right _ (List.mem_singleton_self _)

theorem answered_heard (t : State) : heard (answered t).role = (t.role.active, t.role.silent, some t.mark, 0) := by
  rw [answered, beacon_role]
  rfl

theorem afterMark_heard_silent (h : t.role.silent = true) :
    (afterMark t).role.lastBeacon = t.role.lastBeacon ∧ (afterMark t).role.noAnswer = min 16 (t.role.noAnswer + 1) := by
  obtain ⟨-, -, -, -, hrole, -⟩ := kept_afterMark_silent h
  obtain ⟨-, -, -, -, hbefore, -⟩ := kept_beforeSummit t
  simp only [heard, Prod.mk.injEq] at hrole hbefore
  obtain ⟨-, -, hlast, hno⟩ := hrole
  obtain ⟨-, -, hlast', hno'⟩ := hbefore
  exact ⟨hlast.trans hlast', hno.trans (by rw [← hno']; rfl)⟩

theorem afterMark_heard_active (h : t.role.silent = false) :
    Message.lane (.beacon (afterMark t).mark t.summitField) ∈ (afterMark t).out ∧ (afterMark t).role.lastBeacon = some (afterMark t).mark ∧
      (afterMark t).role.noAnswer = 0 := by
  obtain ⟨hcount, -, -, -, hrole, hsent⟩ := kept_afterMark_active h
  obtain ⟨-, -, -, -, hbefore, -⟩ := kept_beforeSummit t
  have hactive : t.ceilsMark.holdLeftMark.role.active = t.role.active := congrArg (fun r => r.1) hbefore
  have hsilent : t.ceilsMark.holdLeftMark.role.silent = false := (congrArg (fun r => r.2.1) hbefore).trans h
  have hfield : t.ceilsMark.holdLeftMark.summitField = t.summitField := by rw [State.summitField, hactive]; rfl
  have hmark : (afterMark t).mark = t.ceilsMark.holdLeftMark.mark :=
    (mark_eq_of_counted hcount).trans (congrArg (fun r : Ridgeline => r.ridge.mark) (sendLane_rdg ..))
  have hmsg := hsent _ (answered_sends hsilent)
  rw [answered_heard] at hrole
  simp only [heard, Prod.mk.injEq] at hrole
  obtain ⟨-, -, hlast, hno⟩ := hrole
  rw [hmark]
  exact ⟨hfield ▸ hmsg, hlast, hno⟩

end

/-- Settles O3: what the beginning of the mark sets, the rest of its work keeps. -/
theorem markBeaconBeginsTheNextMark : Obligations.MarkBeaconBeginsTheNextMark := by
  refine ⟨fun s hrun hcame htick => ?_, fun s hrun hfirst => ?_, fun s hrun hlast hactive hswap => ?_, fun s hrun hlast hsilent => ?_,
    fun s h => exec_markBeacon_early h⟩
  · obtain ⟨hcount, -, hage⟩ := afterMark_keeps (markBegun s)
    have hend : s.endSwap.rdg = s.rdg := endSwap_keeps State.rdg s
    have hridge : (afterMark (markBegun s)).rdg.ridge = Ridge.ofMark (s.mark + 1) := by
      rw [markBegun_counted, counted_nextMark (by rw [hend]; exact hcame)] at hcount
      exact (congrArg Prod.fst hcount).trans (by rw [State.mark, hend]; rfl)
    refine ⟨_, exec_markBeacon hrun (.inr htick), ?_, ?_, fun f => (hage f).trans (markBegun_beaconAge f)⟩
    · exact (congrArg Ridge.mark hridge).trans (mark_ofMark _)
    · exact (congrArg Ridge.tick hridge).trans (tick_ofMark _)
  · obtain ⟨hcount, -, -⟩ := afterMark_keeps (markBegun s)
    have hend : s.endSwap.rdg = s.rdg := endSwap_keeps State.rdg s
    rw [markBegun_counted, counted_nextMark_first (by rw [hend]; exact hfirst), hend] at hcount
    exact ⟨_, exec_markBeacon hrun (.inl hfirst), congrArg Prod.fst hcount, congrArg Prod.snd hcount⟩
  · have hheard : heard (markBegun s).role = heard s.role := by rw [markBegun_heard, endSwap_of_no_swap hswap]
    have hfield : (markBegun s).summitField = if s.role.active then 23 else 1 := by
      rw [State.summitField, show (markBegun s).role.active = s.role.active from congrArg Prod.fst hheard]
    obtain ⟨hmsg, hbeacon, hno⟩ := afterMark_heard_active (t := markBegun s) ((congrArg (fun r => r.2.1) hheard).trans hactive)
    obtain ⟨-, hprev, -⟩ := afterMark_keeps (markBegun s)
    exact ⟨_, exec_markBeacon hrun hlast, hfield ▸ hmsg, hbeacon, hno, hprev.trans markBegun_colsPrev⟩
  · have hheard : heard (markBegun s).role = heard s.role := markBegun_heard.trans (endSwap_role_of_silent hsilent)
    obtain ⟨hbeacon, hno⟩ := afterMark_heard_silent (t := markBegun s) ((congrArg (fun r => r.2.1) hheard).trans hsilent)
    refine ⟨_, exec_markBeacon hrun hlast, hbeacon.trans (congrArg (fun r => r.2.2.1) hheard), hno.trans ?_⟩
    rw [show (markBegun s).role.noAnswer = s.role.noAnswer from congrArg (fun r => r.2.2.2) hheard]

end Sys2Proof.Proofs
end

section
/-! The reference inputs: loss, qualification and what the root loop does about them (O8, O9).
The switchover and the entry to holdover leave the inputs as the loss has put them, take no event back and clear no flag. -/

namespace Sys2Proof.Proofs

open Sys2Proof.Machine Sys2Proof.Safety Sys2Proof.Laws

/-! ## One input of Ridgeline -/

@[simp] theorem ref_modRef_same (r : Ridgeline) (b : Bool) (g : RefIn → RefIn) : (r.modRef b g).ref b = g (r.ref b) := by
  cases b <;> rfl

@[simp] theorem ref_modRef_not (r : Ridgeline) (b : Bool) (g : RefIn → RefIn) : (r.modRef b g).ref (!b) = r.ref (!b) := by
  cases b <;> rfl

theorem modRef_congr {r : Ridgeline} {b : Bool} {g k : RefIn → RefIn} (h : g (r.ref b) = k (r.ref b)) : r.modRef b g = r.modRef b k := by
  cases b
  · exact congrArg (fun x => { r with a := x }) h
  · exact congrArg (fun x => { r with b := x }) h

theorem modRef_id (r : Ridgeline) (b : Bool) : r.modRef b id = r := by
  cases b <;> rfl

@[simp] theorem modRef_root (r : Ridgeline) (b : Bool) (g : RefIn → RefIn) : (r.modRef b g).root = r.root := by
  cases b <;> rfl

@[simp] theorem modRef_selected (r : Ridgeline) (b : Bool) (g : RefIn → RefIn) : (r.modRef b g).selected = r.selected := by
  cases b <;> rfl

@[simp] theorem modRef_started (r : Ridgeline) (b : Bool) (g : RefIn → RefIn) : (r.modRef b g).started = r.started := by
  cases b <;> rfl

@[simp] theorem modRef_safeCap (r : Ridgeline) (b : Bool) (g : RefIn → RefIn) : (r.modRef b g).safeCap = r.safeCap := by
  cases b <;> rfl

/-- The root that is locked to an input. -/
abbrev rootOf (b : Bool) : Root := if b then .selB else .selA

theorem selected_rootOf {r : Ridgeline} {b : Bool} (h : r.root = rootOf b) : r.selected = some b := by
  cases b <;> simp [Ridgeline.selected, rootOf, h]

/-! ## The bits of a flag register -/

theorem word_setBit {s : State} (h : WordsOk s) (a i b : Nat) :
    (s.setBit a i).word b = if a = b then s.word a ||| BitVec.ofNat 32 (2 ^ i) else s.word b := by
  rw [State.setBit, noteSet_at_word, word_setWord h]

theorem bit_or (x y : Word) (i : Nat) : Word.bit (x ||| y) i = (x.bit i || y.bit i) := BitVec.getLsbD_or

theorem bit_setBit_self {s : State} (h : WordsOk s) (a : Nat) {i : Nat} (hi : i < 32) : ((s.setBit a i).word a).bit i = true := by
  rw [word_setBit h, if_pos rfl, bit_or, Bool.or_eq_true]
  exact Or.inr ((BitVec.getLsbD_ofNat ..).trans (by simp [hi]))

/-- The block sets a bit and clears none. -/
theorem bit_setBit_of_bit {s : State} (h : WordsOk s) (a i : Nat) {b j : Nat} (hj : (s.word b).bit j = true) : ((s.setBit a i).word b).bit j = true := by
  rw [word_setBit h]
  split
  · next hab => rw [bit_or, hab, hj, Bool.true_or]
  · exact hj

theorem wordsOk_setBit {s : State} (h : WordsOk s) (a i : Nat) : WordsOk (s.setBit a i) := setWord_wordsOk h a _

/-! ## What the root loop's answer leaves -/

/-- The time that an event takes from Ridgeline. -/
def stamp (r : Ridgeline) : Ridge × Nat := (r.ridge, r.epoch)

theorem event_of_stamp {s t : State} (h : stamp t.rdg = stamp s.rdg) (ev : Ev) (sev : Sev) (kind idx : Nat) (detail : List Byte) :
    t.event ev sev kind idx detail = s.event ev sev kind idx detail := by
  obtain ⟨hridge, hepoch⟩ := Prod.mk.inj h
  simp [State.event, hridge, hepoch]

/-- From `s` to `t` the inputs and the time of Ridgeline stay, no event is taken back and no flag is cleared. -/
structure LoopMoved (s t : State) : Prop where
  inputs : t.rdg.ref = s.rdg.ref
  time : stamp t.rdg = stamp s.rdg
  events : ∀ e ∈ s.raised, e ∈ t.raised
  flags : WordsOk s → WordsOk t ∧ ∀ a i, (s.word a).bit i = true → (t.word a).bit i = true

theorem LoopMoved.refl (s : State) : LoopMoved s s := ⟨rfl, rfl, fun _ he => he, fun h => ⟨h, fun _ _ hi => hi⟩⟩

theorem LoopMoved.trans {s t u : State} (h : LoopMoved s t) (k : LoopMoved t u) : LoopMoved s u where
  inputs := k.inputs.trans h.inputs
  time := k.time.trans h.time
  events e he := k.events e (h.events e he)
  flags hok := ⟨(k.flags (h.flags hok).1).1, fun a i hi => (k.flags (h.flags hok).1).2 a i ((h.flags hok).2 a i hi)⟩

theorem LoopMoved.ref {s t : State} (h : LoopMoved s t) (b : Bool) : t.rdg.ref b = s.rdg.ref b := congrFun h.inputs b

section

variable {s₀ s : State}

/-- An operation that changes neither the register words nor the inputs, and takes no event back, needs no rule of its own. -/
theorem moved_frame {sh hd la cy sp sd co cm cp rd lk fb p hr gv f ev r ca cr bi lc bo ra ou fc pe} (h : LoopMoved s₀ s)
    (hi : rd.ref = s.rdg.ref := by exact rfl) (ht : stamp rd = stamp s.rdg := by exact rfl) (he : ∀ e ∈ s.raised, e ∈ ra := by exact fun _ he => he) :
    LoopMoved s₀ ⟨s.words, sh, hd, la, cy, sp, sd, co, cm, cp, rd, lk, fb, p, hr, gv, f, ev, r, ca, cr, bi, lc, bo, ra, ou, fc, pe⟩ :=
  h.trans ⟨hi, ht, he, fun hok => ⟨hok, fun _ _ hb => hb⟩⟩

theorem moved_ite {c : Prop} {_ : Decidable c} {a b : State} (ha : LoopMoved s₀ a) (hb : LoopMoved s₀ b) : LoopMoved s₀ (if c then a else b) := by
  split
  · exact ha
  · exact hb

theorem moved_raise {ev kind idx detail} (h : LoopMoved s₀ s) : LoopMoved s₀ (s.raise ev kind idx detail) :=
  moved_frame h (he := fun _ => List.mem_append_left _)

theorem moved_refFlag {i} (h : LoopMoved s₀ s) : LoopMoved s₀ (s.refFlag i) :=
  h.trans ⟨rfl, rfl, fun _ he => he, fun hok => ⟨wordsOk_setBit hok .., fun _ _ hb => bit_setBit_of_bit hok _ _ hb⟩⟩

/-- An operation that leaves Ridgeline, the register words and the events. -/
theorem moved_of_same {t : State} (h : LoopMoved s₀ s) (hr : t.rdg = s.rdg) (hw : t.words = s.words) (he : t.raised = s.raised) : LoopMoved s₀ t :=
  h.trans ⟨by rw [hr], by rw [hr], by simp [he], fun hok => by simp only [WordsOk, State.word, hw]; exact ⟨hok, fun _ _ hb => hb⟩⟩

theorem moved_incident {i} (h : LoopMoved s₀ s) : LoopMoved s₀ (s.incident i) :=
  moved_of_same h (incident_rdg ..) (incident_words ..) (incident_raised ..)

theorem moved_closeIncident {c u} (h : LoopMoved s₀ s) : LoopMoved s₀ (s.closeIncident c u) :=
  moved_of_same h (closeIncident_rdg ..) (closeIncident_words ..) (closeIncident_raised ..)

theorem moved_sendLane {c} (h : LoopMoved s₀ s) : LoopMoved s₀ (s.sendLane c) := moved_ite h (moved_frame h)

theorem moved_timeBase {src} (h : LoopMoved s₀ s) : LoopMoved s₀ (s.timeBase src) := moved_ite h (moved_raise (moved_frame h))

theorem moved_lockTo {b} (h : LoopMoved s₀ s) : LoopMoved s₀ (s.lockTo b) := moved_timeBase (moved_frame h)

theorem moved_switchTo {b} (h : LoopMoved s₀ s) : LoopMoved s₀ (s.switchTo b) := moved_raise (moved_refFlag (moved_lockTo h))

theorem moved_unstage {c} (h : LoopMoved s₀ s) : LoopMoved s₀ (s.unstage c) := moved_ite (moved_frame (moved_sendLane (moved_frame h))) h

theorem moved_unstageSets {p} (h : LoopMoved s₀ s) : LoopMoved s₀ (s.unstageSets p) :=
  each_preserves (LoopMoved s₀) (fun _ _ ht => moved_ite (moved_unstage ht) (moved_frame (moved_unstage ht))) h _

theorem moved_holdWindows (h : LoopMoved s₀ s) : LoopMoved s₀ s.holdWindows := by
  unfold State.holdWindows
  extract_lets fixed c t u
  have hu : LoopMoved s₀ u := moved_ite (moved_sendLane (moved_frame h)) (moved_frame h)
  split
  · exact moved_raise hu
  · exact hu

theorem moved_enterHoldover (h : LoopMoved s₀ s) : LoopMoved s₀ s.enterHoldover :=
  moved_frame (moved_holdWindows (moved_unstageSets (moved_raise (moved_refFlag (moved_timeBase (moved_frame h))))))

theorem moved_leaveHoldover {b} (h : LoopMoved s₀ s) : LoopMoved s₀ (s.leaveHoldover b) :=
  moved_closeIncident (moved_closeIncident (moved_raise (moved_frame (moved_frame (moved_lockTo h)))))

/-- An event raised on the way waits at its end. -/
theorem raises_of_events {t u : State} (ht : stamp t.rdg = stamp s.rdg) {ev : Ev} {kind idx : Nat} {detail : List Byte}
    (h : ∀ e ∈ (t.raise ev kind idx detail).raised, e ∈ u.raised) : Raises s u ev ev.sev kind idx detail := by
  refine h _ ?_
  rw [raised_raise, event_of_stamp ht]
  exact List.mem_append_right _ (List.mem_singleton_self _)

theorem raises_of_stamp {t u : State} (ht : stamp t.rdg = stamp s.rdg) {ev : Ev} {sev : Sev} {kind idx : Nat} {detail : List Byte}
    (h : Raises t u ev sev kind idx detail) : Raises s u ev sev kind idx detail := by
  rwa [Raises, ← event_of_stamp ht]

theorem raisedLast_of_stamp {t u : State} (ht : stamp t.rdg = stamp s.rdg) {ev : Ev} {sev : Sev} {kind idx : Nat} {detail : List Byte}
    (h : RaisedLast t u ev sev kind idx detail) : RaisedLast s u ev sev kind idx detail := by
  rwa [RaisedLast, ← event_of_stamp ht]

/-- The event raised last, as seen from any state with the same time. -/
theorem raisedLast_raise_of_stamp {t : State} (h : stamp t.rdg = stamp s.rdg) (ev : Ev) (kind idx : Nat) (detail : List Byte) :
    RaisedLast s (t.raise ev kind idx detail) ev ev.sev kind idx detail := by
  rw [RaisedLast, raised_raise, List.getLast?_concat, event_of_stamp h]

end

/-! ## The root loop after a switchover and in holdover -/

theorem timeBase_rdg (s : State) (src : Nat) : (s.timeBase src).rdg = s.rdg := by
  unfold State.timeBase
  split <;> rfl

theorem lockTo_rdg (s : State) (b : Bool) :
    (s.lockTo b).rdg = { s.rdg with root := rootOf b, lock := true, wordFrozen := false, fanHold := false, revertDue := false } := timeBase_rdg ..

theorem switchTo_rdg (s : State) (b : Bool) :
    (s.switchTo b).rdg = { s.rdg with root := rootOf b, lock := true, wordFrozen := false, fanHold := false, revertDue := false } := lockTo_rdg ..

theorem switchTo_selected (s : State) (b : Bool) : (s.switchTo b).rdg.selected = some b := selected_rootOf (by rw [switchTo_rdg])

theorem switchTo_raisedLast (s : State) (b : Bool) : RaisedLast s (s.switchTo b) .refSwitch .info 5 (refIdx b) [] :=
  raisedLast_raise_of_stamp (moved_refFlag (i := 3) (moved_lockTo (.refl s))).time ..

theorem unstage_rdg (s : State) (c : CommitSet) : (s.unstage c).rdg = s.rdg := by
  unfold State.unstage
  split
  · rw [requests_rdg, sendLane_rdg]
    rfl
  · rfl

theorem unstageSets_rdg (s : State) (p : CommitSet → Bool) : (s.unstageSets p).rdg = s.rdg := by
  refine each_keeps State.rdg (fun t c => ?_) s _
  split
  · exact unstage_rdg t c
  · exact unstage_rdg t c

theorem holdWindows_rdg (s : State) : s.holdWindows.rdg = s.rdg := by
  unfold State.holdWindows
  extract_lets fixed c t u
  have hu : u.rdg = s.rdg := when_keeps State.rdg (fun t => sendLane_rdg ..) t fixed
  split
  · exact hu
  · exact hu

theorem enterHoldover_rdg (s : State) : s.enterHoldover.rdg =
    { s.rdg with root := .holdover, lock := false, wordFrozen := true, fanHold := true, holdStart := s.mark, safeCap := true } := by
  rw [State.enterHoldover, baseMoved_rdg, holdWindows_rdg, unstageSets_rdg]
  exact timeBase_rdg ..

theorem leaveHoldover_rdg (s : State) (b : Bool) : (s.leaveHoldover b).rdg =
    { s.rdg with root := rootOf b, lock := true, wordFrozen := false, fanHold := false, revertDue := false, holdLeft := some s.mark } := by
  rw [State.leaveHoldover, closeIncident_rdg, closeIncident_rdg]
  exact congrArg (fun r : Ridgeline => { r with holdLeft := some s.mark }) (lockTo_rdg s b)

theorem leaveHoldover_raisedLast (s : State) (b : Bool) : RaisedLast s (s.leaveHoldover b) .holdoverEnd .corrected 5 2 [] := by
  rw [RaisedLast, State.leaveHoldover, closeIncident_raised, closeIncident_raised]
  exact raisedLast_raise_of_stamp (moved_frame (moved_frame (moved_lockTo (.refl s)))).time ..

/-- Holdover entered raises its event, whatever the native windows and the staged sets then raise. -/
theorem enterHoldover_raises (s : State) : Raises s s.enterHoldover .holdover .degraded 5 2 [] :=
  raises_of_events (moved_refFlag (moved_timeBase (moved_frame (.refl s)))).time
    (moved_of_same (moved_holdWindows (moved_unstageSets (.refl _))) (baseMoved_rdg _) (baseMoved_words _) (baseMoved_raised _)).events

theorem switchTo_raises (s : State) (b : Bool) : Raises s (s.switchTo b) .refSwitch .info 5 (refIdx b) [] :=
  List.mem_of_getLast? (switchTo_raisedLast s b)

/-! ## An input loses its qualification -/

theorem stamp_modRef (r : Ridgeline) (b : Bool) (g : RefIn → RefIn) : stamp (r.modRef b g) = stamp r := by
  cases b <;> rfl

/-- An input after a loss: one that a table declares is no longer qualified. -/
def loses (x : RefIn) : RefIn := { x with qual := !x.declared && x.qual }

theorem loses_qual {x : RefIn} (h : x.declared = true) : (loses x).qual = false := by
  simp [loses, h]

/-- The input has lost its qualification and REF_LOST is raised; the root loop has not answered yet. -/
def lost (s : State) (b : Bool) (cause : Nat) : State :=
  (s.modRdg fun r => r.modRef b fun y => { y with qual := false }).raise .refLost 5 (refIdx b) (le 1 cause)

section

variable {s : State} {b : Bool}

theorem lost_time (s : State) (b : Bool) (cause : Nat) : stamp (lost s b cause).rdg = stamp s.rdg := stamp_modRef ..

theorem refLose_of_qual (hdecl : (s.rdg.ref b).declared = true) (hqual : (s.rdg.ref b).qual = true) (cause : Nat) :
    LoopMoved (lost s b cause) (s.refLose b cause) := by
  have hx : ¬ (!((s.rdg.ref b).declared && (s.rdg.ref b).qual)) = true := by simp [hdecl, hqual]
  unfold State.refLose
  rw [if_neg hx]
  have ht : LoopMoved (lost s b cause) (lost s b cause) := .refl _
  exact moved_ite ht (moved_ite (moved_ite (moved_frame ht) ht)
    (moved_ite (moved_closeIncident (moved_switchTo (moved_incident ht))) (moved_enterHoldover (moved_incident ht))))

theorem refLose_of_not_qual (h : ((s.rdg.ref b).declared && (s.rdg.ref b).qual) = false) (cause : Nat) : s.refLose b cause = s :=
  if_pos (by simp [h])

/-- A loss changes its own input alone, by `loses`. -/
theorem refLose_moved (s : State) (b : Bool) (cause : Nat) : LoopMoved (s.modRdg fun r => r.modRef b loses) (s.refLose b cause) := by
  cases h : (s.rdg.ref b).declared && (s.rdg.ref b).qual with
  | true =>
    obtain ⟨hdecl, hqual⟩ := Bool.and_eq_true_iff.1 h
    have hsame : s.rdg.modRef b loses = s.rdg.modRef b fun y => { y with qual := false } := modRef_congr (by simp [loses, hdecl])
    rw [State.modRdg, hsame]
    exact (moved_raise (.refl _)).trans (refLose_of_qual hdecl hqual cause)
  | false =>
    have hkept : (!(s.rdg.ref b).declared && (s.rdg.ref b).qual) = (s.rdg.ref b).qual := by
      rcases Bool.and_eq_false_iff.1 h with h | h <;> simp [h]
    have hid : loses (s.rdg.ref b) = s.rdg.ref b := congrArg (fun q => { s.rdg.ref b with qual := q }) hkept
    have hsame : s.rdg.modRef b loses = s.rdg := (modRef_congr (k := id) hid).trans (modRef_id ..)
    rw [refLose_of_not_qual h, State.modRdg, hsame]
    exact .refl s

theorem refLose_raises (hdecl : (s.rdg.ref b).declared = true) (hqual : (s.rdg.ref b).qual = true) (cause : Nat) :
    Raises s (s.refLose b cause) .refLost .corrected 5 (refIdx b) (le 1 cause) :=
  raises_of_events (stamp_modRef ..) (refLose_of_qual hdecl hqual cause).events

/-- In V0 and V1 with marks running, the loss of the selected input makes the loop switch to the other one, or hold over. -/
theorem refLose_selected (hrun : s.rdg.started = true) (hpst : s.boot.pst = .v0 ∨ s.boot.pst = .v1) (hsel : s.rdg.selected = some b)
    (hdecl : (s.rdg.ref b).declared = true) (hqual : (s.rdg.ref b).qual = true) (cause : Nat) :
    s.refLose b cause = if (s.rdg.ref !b).qual then (((lost s b cause).incident (refIncident b)).switchTo !b).closeIncident 0 (refIdx b)
      else ((lost s b cause).incident (refIncident b)).enterHoldover := by
  have hstate : ¬ (s.rdg.selected ≠ some b || s.boot.pst == .v2 || s.boot.pst == .v3) = true := by rcases hpst with h | h <;> simp [hsel, h]
  unfold State.refLose
  rw [if_neg (by simp [hdecl, hqual]), if_neg hstate, if_neg (by simp [hrun])]
  rfl

end

/-! ## The commands of an input -/

/-- The missing-edge detector of an input has fired (R64). -/
def edgesLost (s : State) (b : Bool) : State := (s.modRdg fun r => r.modRef b fun x => { x with present := false, clean := false }).refFlag (refIdx b)

section

variable {s : State} {b : Bool}

theorem edgesLost_time (s : State) (b : Bool) : stamp (edgesLost s b).rdg = stamp s.rdg := stamp_modRef ..

theorem edgesLost_ref (s : State) (b : Bool) : (edgesLost s b).rdg.ref b = { s.rdg.ref b with present := false, clean := false } := ref_modRef_same ..

theorem edgesLost_ref_not (s : State) (b : Bool) : (edgesLost s b).rdg.ref (!b) = s.rdg.ref (!b) := ref_modRef_not ..

theorem exec_refEdgeLoss (s : State) (b : Bool) : exec (.refEdgeLoss b) s =
    .next (if s.boot.pst = .v2 ∧ s.lko.todSrc = refIdx b then ((edgesLost s b).refLose b 0).timeBase 2 else (edgesLost s b).refLose b 0) := rfl

theorem exec_refEdgeLoss_powered (hpst : s.boot.pst = .v0 ∨ s.boot.pst = .v1) : exec (.refEdgeLoss b) s = .next ((edgesLost s b).refLose b 0) := by
  rw [exec_refEdgeLoss, if_neg (by rcases hpst with h | h <;> simp [h])]

/-- With its edges lost, the selected input is lost, and the loop answers. -/
theorem refLose_edgesLost (hrun : s.rdg.started = true) (hpst : s.boot.pst = .v0 ∨ s.boot.pst = .v1) (hsel : s.rdg.selected = some b)
    (hdecl : (s.rdg.ref b).declared = true) (hqual : (s.rdg.ref b).qual = true) :
    (edgesLost s b).refLose b 0 = if (s.rdg.ref !b).qual
      then (((lost (edgesLost s b) b 0).incident (refIncident b)).switchTo !b).closeIncident 0 (refIdx b)
      else ((lost (edgesLost s b) b 0).incident (refIncident b)).enterHoldover := by
  rw [refLose_selected (s := edgesLost s b) ((modRef_started ..).trans hrun) hpst ((modRef_selected ..).trans hsel) (by rw [edgesLost_ref]; exact hdecl)
    (by rw [edgesLost_ref]; exact hqual), edgesLost_ref_not]

theorem refLose_edgesLost_raises (hdecl : (s.rdg.ref b).declared = true) (hqual : (s.rdg.ref b).qual = true) :
    Raises s ((edgesLost s b).refLose b 0) .refLost .corrected 5 (refIdx b) (le 1 0) :=
  raises_of_stamp (edgesLost_time s b) (refLose_raises (by rw [edgesLost_ref]; exact hdecl) (by rw [edgesLost_ref]; exact hqual) 0)

theorem refEdgeLoss_moved (s : State) (b : Bool) :
    Runs (.refEdgeLoss b) s fun t => LoopMoved ((edgesLost s b).modRdg fun r => r.modRef b loses) t :=
  ⟨_, exec_refEdgeLoss s b, moved_ite (moved_timeBase (refLose_moved ..)) (refLose_moved ..)⟩

theorem refEdgeReturn_moved (s : State) (b : Bool) :
    Runs (.refEdgeReturn b) s fun t => LoopMoved (s.modRdg fun r => r.modRef b fun x => { x with present := true, absentRaised := false }) t :=
  ⟨_, rfl, moved_ite (moved_timeBase (.refl _)) (.refl _)⟩

end

/-! ## The end of a gate -/

/-- A gate of an input has ended with a count (R65). -/
def gateRead (s : State) (b : Bool) (n : Nat) : State :=
  s.modRdg fun r => r.modRef b fun y =>
    { y with count := min n (2 ^ 18 - 1), valid := y.clean, clean := y.present, counts := y.declared, strict := s.lko.trimLoaded }

/-- An off-frequency gate has told, and its input is lost. -/
def gateJudged (s : State) (b : Bool) (n : Nat) : State :=
  (gateRead s b n).when (offFrequency (s.rdg.ref b).strict n) fun u => (u.refFlag 2).refLose b 1

/-- A gate without an edge of a declared input has told, once in a qualification attempt (R67). -/
def absentNoted (s : State) (b : Bool) (again : Bool) : State :=
  (s.modRdg fun r => r.modRef b fun y => { y with absentRaised := true }).when (!again) fun u => u.raise .refAbsent 5 (refIdx b) []

section

variable {s : State} {b : Bool} {n : Nat}

theorem exec_freqGate (s : State) (b : Bool) (n : Nat) : exec (.freqGate b n) s = .next
    (if (s.rdg.ref b).declared && n == 0 then absentNoted (gateJudged s b n) b (s.rdg.ref b).absentRaised
      else if !offFrequency (s.rdg.ref b).strict n && (s.rdg.ref b).clean && (s.rdg.ref b).counts && (s.rdg.ref b).declared && !(s.rdg.ref b).qual
      then (gateJudged s b n).qualified b
      else gateJudged s b n) := rfl

theorem gateRead_ref (s : State) (b : Bool) (n : Nat) : (gateRead s b n).rdg.ref b =
    { s.rdg.ref b with
      count := min n (2 ^ 18 - 1), valid := (s.rdg.ref b).clean, clean := (s.rdg.ref b).present
      counts := (s.rdg.ref b).declared, strict := s.lko.trimLoaded } := ref_modRef_same ..

theorem gateJudged_of_off (h : offFrequency (s.rdg.ref b).strict n = true) : gateJudged s b n = ((gateRead s b n).refFlag 2).refLose b 1 := by
  rw [gateJudged, State.when, if_pos h]

theorem gateJudged_of_inFrequency (h : offFrequency (s.rdg.ref b).strict n = false) : gateJudged s b n = gateRead s b n := by
  rw [gateJudged, State.when, if_neg (by simp [h])]

theorem refLose_ref (s : State) (b : Bool) (cause : Nat) : (s.refLose b cause).rdg.ref b = loses (s.rdg.ref b) :=
  ((refLose_moved s b cause).ref b).trans (ref_modRef_same ..)

theorem gateJudged_ref (s : State) (b : Bool) (n : Nat) : (gateJudged s b n).rdg.ref b =
    if offFrequency (s.rdg.ref b).strict n then loses ((gateRead s b n).rdg.ref b) else (gateRead s b n).rdg.ref b := by
  cases h : offFrequency (s.rdg.ref b).strict n with
  | true => rw [gateJudged_of_off h, refLose_ref]; rfl
  | false => rw [gateJudged_of_inFrequency h]; rfl

theorem absentNoted_moved (s : State) (b : Bool) (again : Bool) :
    LoopMoved (s.modRdg fun r => r.modRef b fun y => { y with absentRaised := true }) (absentNoted s b again) :=
  moved_ite (moved_raise (.refl _)) (.refl _)

theorem absentNoted_ref (s : State) (b : Bool) (again : Bool) : (absentNoted s b again).rdg.ref b = { s.rdg.ref b with absentRaised := true } :=
  ((absentNoted_moved s b again).ref b).trans (ref_modRef_same ..)

theorem qualified_ref (s : State) (b : Bool) : (s.qualified b).rdg.ref b = { s.rdg.ref b with qual := true, absentRaised := false } := by
  have hmoved : LoopMoved (s.modRdg fun r => r.modRef b fun x => { x with qual := true, absentRaised := false }) (s.qualified b) :=
    moved_ite (moved_leaveHoldover (.refl _)) (moved_ite (moved_frame (.refl _)) (.refl _))
  exact (hmoved.ref b).trans (ref_modRef_same ..)

/-- A gate leaves in its input what it has read, but for the qualification and the record of REF_ABSENT. -/
theorem freqGate_keeps {β : Type} (p : RefIn → β) (hp : ∀ x q a, p { x with qual := q, absentRaised := a } = p x) (s : State) (b : Bool) (n : Nat) :
    Runs (.freqGate b n) s fun t => p (t.rdg.ref b) = p ((gateRead s b n).rdg.ref b) := by
  have hjudged : p ((gateJudged s b n).rdg.ref b) = p ((gateRead s b n).rdg.ref b) := by
    rw [gateJudged_ref]
    split
    · exact hp ..
    · rfl
  refine ⟨_, exec_freqGate s b n, ?_⟩
  split
  · rw [absentNoted_ref]
    exact (hp ..).trans hjudged
  · split
    · rw [qualified_ref]
      exact (hp ..).trans hjudged
    · exact hjudged

theorem freqGate_of_off (h : offFrequency (s.rdg.ref b).strict n = true) : Runs (.freqGate b n) s fun t =>
    (WordsOk s → (t.word 0x18008).bit 2 = true) ∧ ((s.rdg.ref b).declared = true → (t.rdg.ref b).qual = false) := by
  have hflag : WordsOk s → WordsOk (gateJudged s b n) ∧ ((gateJudged s b n).word 0x18008).bit 2 = true := by
    intro hok
    obtain ⟨hok', hkept⟩ := (refLose_moved ((gateRead s b n).refFlag 2) b 1).flags (wordsOk_setBit (s := gateRead s b n) hok ..)
    rw [gateJudged_of_off h]
    exact ⟨hok', hkept _ _ (bit_setBit_self (s := gateRead s b n) hok 0x18008 (by decide))⟩
  have hlost : (s.rdg.ref b).declared = true → ((gateJudged s b n).rdg.ref b).qual = false := by
    intro hdecl
    rw [gateJudged_ref, if_pos h]
    exact loses_qual (by rw [gateRead_ref]; exact hdecl)
  refine ⟨_, exec_freqGate s b n, ?_⟩
  split
  · rw [absentNoted_ref]
    exact ⟨fun hok => ((absentNoted_moved (gateJudged s b n) b _).flags (hflag hok).1).2 _ _ (hflag hok).2, hlost⟩
  · rw [if_neg (by simp [h])]
    exact ⟨fun hok => (hflag hok).2, hlost⟩

theorem offFrequency_strict (h : n + 39 < 131072 ∨ 131072 + 39 < n) : offFrequency true n = true := by
  simpa [offFrequency] using h

/-- A count within the tight bound is in frequency in every gate. -/
theorem inFrequency (strict : Bool) (hlo : 131072 ≤ n + 39) (hhi : n ≤ 131072 + 39) : offFrequency strict n = false := by
  cases strict <;> simp [offFrequency] <;> omega

/-- A gate in frequency that counts, free of loss, of a declared input that is not qualified yet. -/
theorem exec_freqGate_qualifies (hdecl : (s.rdg.ref b).declared = true) (hclean : (s.rdg.ref b).clean = true) (hcounts : (s.rdg.ref b).counts = true)
    (hqual : (s.rdg.ref b).qual = false) (hlo : 131072 ≤ n + 39) (hhi : n ≤ 131072 + 39) :
    exec (.freqGate b n) s = .next ((gateRead s b n).qualified b) := by
  have hin := inFrequency (s.rdg.ref b).strict hlo hhi
  rw [exec_freqGate, if_neg (by simp; omega), if_pos (by simp [hin, hclean, hcounts, hdecl, hqual]), gateJudged_of_inFrequency hin]

theorem exec_freqGate_qualified (hqual : (s.rdg.ref b).qual = true) (hlo : 131072 ≤ n + 39) (hhi : n ≤ 131072 + 39) :
    exec (.freqGate b n) s = .next (gateRead s b n) := by
  have hin := inFrequency (s.rdg.ref b).strict hlo hhi
  rw [exec_freqGate, if_neg (by simp; omega), if_neg (by simp [hqual]), gateJudged_of_inFrequency hin]

end

/-- Settles O8: a loss changes its own input by `loses`, a gate by what it has read; the rest of each command moves the root loop alone. -/
theorem referenceInputsLoseAndQualify : Obligations.ReferenceInputsLoseAndQualify := by
  refine ⟨fun s b hdecl => ?_, fun s b => ?_, fun s b n => ?_, fun s b n hok hstrict hoff => ?_, fun s b n hdecl _ hclean hcounts hlo hhi => ?_⟩
  · obtain ⟨t, hexec, hmoved⟩ := refEdgeLoss_moved s b
    have hsame : t.rdg.ref b = loses { s.rdg.ref b with present := false, clean := false } := by
      rw [hmoved.ref, ← edgesLost_ref]
      exact ref_modRef_same ..
    refine ⟨t, hexec, by rw [hsame]; rfl, by rw [hsame]; exact loses_qual hdecl, ?_⟩
    exact (hmoved.ref !b).trans ((ref_modRef_not ..).trans (edgesLost_ref_not s b))
  · obtain ⟨t, hexec, hmoved⟩ := refEdgeReturn_moved s b
    have hsame : t.rdg.ref b = { s.rdg.ref b with present := true, absentRaised := false } := (hmoved.ref b).trans (ref_modRef_same ..)
    exact ⟨t, hexec, by rw [hsame], by rw [hsame], (hmoved.ref !b).trans (ref_modRef_not ..)⟩
  · obtain ⟨t, hexec, hkeeps⟩ := freqGate_keeps (fun x => (x.count, x.valid)) (fun _ _ _ => rfl) s b n
    rw [gateRead_ref] at hkeeps
    obtain ⟨hcount, hvalid⟩ := Prod.mk.inj hkeeps
    exact ⟨t, hexec, hcount, hvalid⟩
  · obtain ⟨t, hexec, hflag, hlost⟩ := freqGate_of_off (s := s) (b := b) (n := n) (by rw [hstrict]; exact offFrequency_strict hoff)
    exact ⟨t, hexec, hflag hok, hlost⟩
  · cases hqual : (s.rdg.ref b).qual with
    | true => exact ⟨_, exec_freqGate_qualified hqual hlo hhi, (congrArg RefIn.qual (gateRead_ref s b n)).trans hqual⟩
    | false => exact ⟨_, exec_freqGate_qualifies hdecl hclean hcounts hqual hlo hhi, congrArg RefIn.qual (qualified_ref ..)⟩

/-! ## The root loop loses lock -/

/-- The loop has lost lock on an input, and ROOT_UNLOCK is raised (R72). -/
def unlocked (s : State) (b : Bool) : State :=
  ((s.modRdg fun r => r.modRef b fun x => { x with counts := false }).refFlag 4).raise .rootUnlock 5 2 []

theorem unlocked_time (s : State) (b : Bool) : stamp (unlocked s b).rdg = stamp s.rdg := stamp_modRef ..

theorem unlocked_ref (s : State) (b : Bool) : (unlocked s b).rdg.ref b = { s.rdg.ref b with counts := false } := ref_modRef_same ..

theorem exec_rootUnlock {s : State} {b : Bool} (hsel : s.rdg.selected = some b) (hqual : (s.rdg.ref b).qual = true) :
    exec .rootUnlock s = .next ((unlocked s b).refLose b 2) := by
  change execRootUnlock s = _
  simp [execRootUnlock, hsel, hqual, unlocked]

/-- Settles O9: the first two clauses are the two branches of `refLose_selected`. -/
theorem selectedReferenceLossSwitchesOrHoldsOver : Obligations.SelectedReferenceLossSwitchesOrHoldsOver := by
  have htime : ∀ s b, stamp (((lost (edgesLost s b) b 0).incident (refIncident b))).rdg = stamp s.rdg := fun s b => by
    rw [incident_rdg, lost_time, edgesLost_time]
  refine ⟨fun s b hrun hpst hsel hdecl hqual hother => ?_, fun s b hrun hpst hsel hdecl hqual hother => ?_, fun s b hsel hdecl hqual => ?_⟩
  · have hexec := exec_refEdgeLoss_powered (b := b) hpst
    have hlost := refLose_edgesLost_raises hdecl hqual
    rw [refLose_edgesLost hrun hpst hsel hdecl hqual, if_pos hother] at hexec hlost
    refine ⟨_, hexec, ?_, ?_, hlost, ?_⟩
    · rw [closeIncident_rdg, switchTo_selected]
    · rw [closeIncident_rdg, switchTo_rdg]
    · rw [Raises, closeIncident_raised]
      exact raises_of_stamp (htime s b) (switchTo_raises ..)
  · have hexec := exec_refEdgeLoss_powered (b := b) hpst
    have hlost := refLose_edgesLost_raises hdecl hqual
    rw [refLose_edgesLost hrun hpst hsel hdecl hqual, if_neg (by simp [hother])] at hexec hlost
    have hmark := congrArg (fun time => time.1.mark) (htime s b)
    have hrdg := enterHoldover_rdg ((lost (edgesLost s b) b 0).incident (refIncident b))
    exact ⟨_, hexec, congrArg Ridgeline.root hrdg, congrArg Ridgeline.wordFrozen hrdg, congrArg Ridgeline.fanHold hrdg, congrArg Ridgeline.safeCap hrdg,
      (congrArg Ridgeline.holdStart hrdg).trans hmark, hlost, raises_of_stamp (htime s b) (enterHoldover_raises _)⟩
  · refine ⟨_, exec_rootUnlock hsel hqual, ?_, ?_, ?_, ?_⟩
    · rw [refLose_ref]
      exact loses_qual (by rw [unlocked_ref]; exact hdecl)
    · rw [refLose_ref, unlocked_ref]
      rfl
    · exact raises_of_events (stamp_modRef ..) (refLose_moved (unlocked s b) b 2).events
    · exact raises_of_stamp (unlocked_time s b) (refLose_raises (by rw [unlocked_ref]; exact hdecl) (by rw [unlocked_ref]; exact hqual) 2)

end Sys2Proof.Proofs
end

section
/-! Switches on request and by preference, the end of holdover, and the wrap of the ridge count (O10, O11, O12). -/

namespace Sys2Proof.Proofs

open Sys2Proof.Machine Sys2Proof.Safety Sys2Proof.Laws

/-- An RW field with a row of its own takes every write that its window answers. -/
theorem take_rw {s : State} {a : Nat} (hans : s.answers a = true) (v : Word) (f : State → State) : s.take a v .rw f = f s := by
  simp [State.take, hans]

/-! ## The switch on request -/

section

variable {s : State} {b : Bool}

theorem exec_refSwitchRequest (hans : s.answers 0x18000 = true) :
    exec .refSwitchRequest s = .next { s with rdg := { s.rdg with reqSwitch := true } } := by
  change execRefSwitchRequest s = _
  rw [execRefSwitchRequest, take_rw hans]
  rfl

/-- The request of a switch is noted no more. -/
def requestTaken (s : State) : State := s.modRdg fun r => { r with reqSwitch := false }

theorem exec_requestedSwitch_none (hmark : s.atMark = true) (hreq : s.rdg.reqSwitch = true) (hsel : s.rdg.selected = none) :
    exec .requestedSwitch s = .next (requestTaken s) := by
  change execRequestedSwitch s = _
  simp [execRequestedSwitch, hmark, hreq, hsel, requestTaken]

theorem exec_requestedSwitch_some (hmark : s.atMark = true) (hreq : s.rdg.reqSwitch = true) (hsel : s.rdg.selected = some b) :
    exec .requestedSwitch s =
      .next (if (s.rdg.ref !b).qual then (requestTaken s).switchTo !b else (requestTaken s).raise .refNotQual 5 (refIdx !b) []) := by
  change execRequestedSwitch s = _
  simp [execRequestedSwitch, hmark, hreq, hsel, requestTaken]

theorem exec_requestedSwitch_idle (hreq : s.rdg.reqSwitch = false) : exec .requestedSwitch s = .next s := by
  change execRequestedSwitch s = _
  simp [execRequestedSwitch, hreq]

theorem requestTaken_idle (hreq : s.rdg.reqSwitch = false) : requestTaken s = s :=
  congrArg (fun q => { s with rdg := { s.rdg with reqSwitch := q } }) hreq.symm

end

/-- Settles O10: at a mark the request is taken off, and the other input's qualification decides. -/
theorem requestedSwitchNeedsQualifiedInput : Obligations.RequestedSwitchNeedsQualifiedInput := by
  refine ⟨fun s hans => ?_, fun s b hmark hreq hsel hqual => ?_, fun s b hmark hreq hsel hqual => ?_, fun s hreq => exec_requestedSwitch_idle hreq,
    fun s hmark hsel => ?_⟩
  · exact exec_refSwitchRequest hans
  · have hexec := exec_requestedSwitch_some hmark hreq hsel
    rw [if_pos hqual] at hexec
    have hrdg := switchTo_rdg (requestTaken s) !b
    exact ⟨_, hexec, switchTo_selected .., congrArg Ridgeline.reqSwitch hrdg, raisedLast_of_stamp (t := requestTaken s) rfl (switchTo_raisedLast ..)⟩
  · rw [exec_requestedSwitch_some hmark hreq hsel, if_neg (by simp [hqual])]
    rfl
  · cases hreq : s.rdg.reqSwitch with
    | true => exact exec_requestedSwitch_none hmark hreq hsel
    | false => exact (exec_requestedSwitch_idle hreq).trans (congrArg Host.Outcome.next (requestTaken_idle hreq).symm)

/-! ## The end of holdover -/

section

variable {s : State} {b : Bool}

/-- An input that has qualified, before the loop follows it. -/
def nowQualified (s : State) (b : Bool) : State := s.modRdg fun r => r.modRef b fun x => { x with qual := true, absentRaised := false }

theorem qualified_of_holdover (h : s.rdg.root = .holdover) : s.qualified b = (nowQualified s b).leaveHoldover b := if_pos h

/-- Holdover has run out: the loop has failed (R75). -/
theorem exec_holdoverExpired (hroot : s.rdg.root = .holdover) (hlong : 15625 ≤ s.since s.rdg.holdStart) :
    exec .holdoverExpired s = .next (((s.modRdg fun r => { r with root := .failed }).refFlag 6).raise .holdoverExpired 5 2 []) :=
  congrArg Host.Outcome.next (if_pos ⟨hroot, hlong⟩)

theorem exec_holdoverExpired_early (h : s.since s.rdg.holdStart < 15625) : exec .holdoverExpired s = .next s :=
  congrArg Host.Outcome.next (if_neg fun hc => by omega)

theorem exec_safeCapLift (hmark : s.atMark = true) (hcap : s.rdg.safeCap = true) (hlock : s.rdg.lock = true) :
    exec .safeCapLift s = .next (s.modRdg fun r => { r with safeCap := false }) :=
  congrArg Host.Outcome.next (if_pos ⟨hmark, hcap, hlock⟩)

/-- A revertive switch to the qualified preferred input is made at the mark (R70). -/
theorem exec_revertSwitch (hmark : s.atMark = true) (hsel : s.rdg.selected = some b) (hdue : s.rdg.revertDue = true) (hqual : (s.rdg.ref !b).qual = true)
    (hrev : s.reverts = true) (hpref : s.prefersB = !b) : exec .revertSwitch s = .next (s.switchTo !b) := by
  change execRevertSwitch s = _
  simp [execRevertSwitch, hmark, hsel, hdue, hqual, hrev, hpref]

end

/-- Settles O11: the gate of an input that qualifies in holdover ends in `leaveHoldover`; each other clause is one branch of its command. -/
theorem holdoverEndsExpiresAndReverts : Obligations.HoldoverEndsExpiresAndReverts := by
  refine ⟨fun s b n hroot hdecl _ hclean hcounts hqual hlo hhi => ?_, fun s hroot hlong => ?_, fun s hearly => exec_holdoverExpired_early hearly,
    fun s hmark hcap hlock => exec_safeCapLift hmark hcap hlock, fun s b hmark hsel hdue hqual hrev hpref => ?_⟩
  · have hroot' : (gateRead s b n).rdg.root = .holdover := (modRef_root ..).trans hroot
    have hexec := exec_freqGate_qualifies hdecl hclean hcounts hqual hlo hhi
    rw [qualified_of_holdover hroot'] at hexec
    have hrdg := leaveHoldover_rdg (nowQualified (gateRead s b n) b) b
    have htime : stamp (nowQualified (gateRead s b n) b).rdg = stamp s.rdg := (stamp_modRef ..).trans (stamp_modRef ..)
    have hcap : (nowQualified (gateRead s b n) b).rdg.safeCap = s.rdg.safeCap := (modRef_safeCap ..).trans (modRef_safeCap ..)
    have hmark := congrArg (fun time => some time.1.mark) htime
    exact ⟨_, hexec, selected_rootOf (congrArg Ridgeline.root hrdg), congrArg Ridgeline.lock hrdg, congrArg Ridgeline.fanHold hrdg,
      (congrArg Ridgeline.holdLeft hrdg).trans hmark, (congrArg Ridgeline.safeCap hrdg).trans hcap, raisedLast_of_stamp htime (leaveHoldover_raisedLast ..)⟩
  · exact ⟨_, exec_holdoverExpired hroot hlong, rfl, raisedLast_raise_of_stamp rfl ..⟩
  · have hrdg := switchTo_rdg s !b
    exact ⟨_, exec_revertSwitch hmark hsel hdue hqual hrev hpref, switchTo_selected .., congrArg Ridgeline.revertDue hrdg, switchTo_raisedLast ..⟩

/-! ## The wrap of the ridge count -/

/-- Settles O12: the command is one update of Ridgeline, made at the last tick of the last mark alone. -/
theorem ridgeCountWrapsAndEpochCounts : Obligations.RidgeCountWrapsAndEpochCounts :=
  ⟨fun _ hrun hlast => congrArg Host.Outcome.next (if_pos ⟨hrun, hlast⟩), fun _ hnot => congrArg Host.Outcome.next (if_neg fun hwrap => hnot hwrap.2)⟩

end Sys2Proof.Proofs
end

section
/-! The spines of a Col: fault, switch, recovery and request (O13). -/

namespace Sys2Proof.Proofs

open Sys2Proof.Machine Sys2Proof.Safety Sys2Proof.Laws

/-! ## One Col, one spine -/

theorem col_modCol_other (s : State) {f k : Fin 25} (h : k ≠ f) (g : Col → Col) : (s.modCol f g).col k = s.col k := by
  rw [col_modCol, if_neg fun hsame => h (Fin.ext hsame.1.symm)]

@[simp] theorem ok_setOk_same (c : Col) (b v : Bool) : (c.setOk b v).ok b = v := by
  cases b <;> rfl

@[simp] theorem setOk_sel (c : Col) (b v : Bool) : (c.setOk b v).sel = c.sel := by
  cases b <;> rfl

/-! ## The loops of a Col's Spurs -/

/-- A change that is made once and for all, made to a list of Spurs, is made to each of them. -/
theorem spur_each_modSpur {g : Spur → Spur} (hg : ∀ x, g (g x) = g x) (s : State) (l : List Nat) {n : Nat} (hn : n < 425) :
    (s.each l fun t k => t.modSpur k g).spur n = if n ∈ l then g (s.spur n) else s.spur n := by
  induction l generalizing s with
  | nil => rfl
  | cons k l ih =>
    rw [each_cons, ih, spur_modSpur]
    by_cases hk : k = n
    · subst hk
      simp [hn, hg]
    · simp [hk, Ne.symm hk]

theorem lt_of_mem_fieldSpurs {f : Fin 25} {n : Nat} (h : n ∈ fieldSpurs f) : n < 425 := by
  have hf := f.isLt
  rcases List.mem_append.1 h with h | h
  · obtain ⟨p, hp, rfl⟩ := List.mem_map.1 h
    have hp := List.mem_range.1 hp
    rw [spurAt, if_pos hp]
    omega
  · obtain rfl := List.mem_singleton.1 h
    omega

/-- A Spur's loop freezes unless it has failed (R81). -/
def frozen (x : Spur) : Spur := if x.gen.loop = .failed then x else { x with gen := { x.gen with loop := .frozen } }

theorem frozen_frozen (x : Spur) : frozen (frozen x) = frozen x := by
  unfold frozen
  split
  · rfl
  · rfl

theorem ridgeLost_spur (s : State) (f : Fin 25) {n : Nat} (h : n ∈ fieldSpurs f) : (s.ridgeLost f).spur n = frozen (s.spur n) := by
  have heach := spur_each_modSpur frozen_frozen s (fieldSpurs f) (lt_of_mem_fieldSpurs h)
  rw [if_pos h] at heach
  rw [State.ridgeLost, raise_at_spur, State.record, noteSet_at_spur, modCol_at_spur]
  exact heach

theorem ridgeLost_raisedLast {s t : State} (h : t.rdg = s.rdg) (f : Nat) : RaisedLast s (t.ridgeLost f) .ridgeLost .fatal 1 f [] := by
  refine raisedLast_raiseAs ?_ ..
  rw [record_rdg, ← h]
  exact each_keeps State.rdg (fun u n => modSpur_rdg ..) t (fieldSpurs f)

/-! ## A fault of a spine -/

section

variable {s : State} {f : Fin 25} {b : Bool}

/-- One spine of a Col is faulty. -/
def spineDown (s : State) (f : Nat) (b : Bool) : State := s.modCol f fun x => x.setOk b false

theorem spineFails_selected (hsel : (s.col f).sel = b) (hok : (s.col f).ok b = true) (hother : (s.col f).ok (!b) = true) :
    s.spineFails f b = ((spineDown s f b).modCol f fun x => { x with switchDue := true }).raise .spineLost 1 f [] := by
  unfold State.spineFails
  extract_lets c t
  rw [if_neg (by simp [c, hok]), if_neg (by simp [c, hother]), if_pos hsel]
  rfl

theorem spineFails_last (hok : (s.col f).ok b = true) (hother : (s.col f).ok (!b) = false) :
    s.spineFails f b = (spineDown s f b).ridgeLost f := by
  unfold State.spineFails
  extract_lets c t
  rw [if_neg (by simp [c, hok]), if_pos (by simp [c, hother])]
  rfl

theorem spineFails_ok (s : State) (f : Fin 25) (b : Bool) : ((s.spineFails f b).col f).ok b = false :=
  (spineFails_at_col (fun c => c.ok b) (fun _ _ _ _ _ => rfl) (fun _ _ => rfl) s f b).trans (ok_setOk_same ..)

theorem spineFails_sel (s : State) (f : Fin 25) (b : Bool) : ((s.spineFails f b).col f).sel = (s.col f).sel :=
  (spineFails_at_col Col.sel (fun _ _ _ _ _ => rfl) (fun _ _ => rfl) s f b).trans (setOk_sel ..)

/-! ## The switch at a mark -/

/-- A due switch of the spine is taken off. -/
def switchTaken (s : State) (f : Nat) : State := s.modCol f fun x => { x with switchDue := false, switchAsked := false }

theorem exec_spineSwitch (hmark : s.atMark = true) (hdue : (s.col f).switchDue = true) : exec (.spineSwitch f) s = .next
    (if (s.col f).ok !(s.col f).sel then (switchTaken s f).modCol f fun x => { x with sel := !(s.col f).sel }
      else if (s.col f).switchAsked then (switchTaken s f).raise .spineNotOk 1 f [] else switchTaken s f) := by
  change execSpineSwitch f s = _
  simp [execSpineSwitch, hmark, hdue, switchTaken]

/-! ## Recovery and request -/

/-- The Col after 16 marks without a fault on a faulty spine that need not stay faulty. -/
theorem spineRecover_col (hdown : (s.col f).ok b = false) (hrun : 16 ≤ (if b then (s.col f).bRun else (s.col f).aRun))
    (hstuck : (if b then (s.col f).bStuck else (s.col f).aStuck) = false) : Runs (.spineRecover f b) s fun t => t.col f = (s.col f).setOk b true :=
  ⟨_, rfl, (col_modCol_self ..).trans (if_pos (by simp [hdown, hrun, hstuck]))⟩

theorem exec_spineRequest (hans : s.answers (colAddr f 0x10) = true) :
    exec (.spineRequest f) s = .next (s.modCol f fun c => { c with switchDue := true, switchAsked := true }) := by
  change execSpineRequest f s = _
  rw [execSpineRequest, take_rw hans]

end

/-- Settles O13: a fault of the last healthy spine is `ridgeLost`, one of the selected spine makes the switch due that SPINE_SWITCH takes. -/
theorem spinesFailSwitchAndRecover : Obligations.SpinesFailSwitchAndRecover := by
  refine ⟨fun s f cause b hsel hok hother => ?_, fun s f cause b hok hother => ?_, fun s f hmark hdue hother => ?_,
    fun s f hmark hdue hasked hother => ?_, fun s f hdown hstuck hrun => ?_, fun s f hdown hstuck hrun => ?_, fun s f hans => ?_⟩
  · refine ⟨s.spineFails f b, rfl, spineFails_ok s f b, ?_, (spineFails_sel s f b).trans hsel, ?_, fun g hg => ?_⟩
    all_goals rw [spineFails_selected hsel hok hother]
    · rw [raise_at_col, col_modCol_self]
    · exact raisedLast_raiseAs rfl ..
    · rw [raise_at_col, col_modCol_other _ hg, spineDown, col_modCol_other _ hg]
  · refine ⟨s.spineFails f b, rfl, spineFails_ok s f b, ?_, fun n hn hloop => ?_⟩
    all_goals rw [spineFails_last hok hother]
    · exact ridgeLost_raisedLast rfl f
    · rw [ridgeLost_spur _ f hn, spineDown, modCol_at_spur, frozen, if_neg hloop]
  · have hexec := exec_spineSwitch hmark hdue
    rw [if_pos hother] at hexec
    refine ⟨_, hexec, ?_, ?_, fun g hg => ?_⟩
    · rw [col_modCol_self]
    · rw [col_modCol_self, switchTaken, col_modCol_self]
    · rw [col_modCol_other _ hg, switchTaken, col_modCol_other _ hg]
  · have hexec := exec_spineSwitch hmark hdue
    rw [if_neg (by simp [hother]), if_pos hasked] at hexec
    refine ⟨_, hexec, ?_, raisedLast_raiseAs rfl ..⟩
    rw [raise_at_col, switchTaken, col_modCol_self]
  · obtain ⟨t, hexec, hcol⟩ := spineRecover_col (b := false) hdown hrun hstuck
    exact ⟨t, hexec, by rw [hcol]; rfl, by rw [hcol]; rfl, by rw [hcol, setOk_sel]⟩
  · obtain ⟨t, hexec, hcol⟩ := spineRecover_col (b := true) hdown hrun hstuck
    exact ⟨t, hexec, by rw [hcol]; rfl, by rw [hcol]; rfl, by rw [hcol, setOk_sel]⟩
  · refine ⟨_, exec_spineRequest hans, ?_, ?_, ?_⟩ <;> rw [col_modCol_self]

end Sys2Proof.Proofs
end

section
/-! The board description table: its load, and the table taken whole or rejected whole (O32). -/

namespace Sys2Proof.Proofs

open Sys2Proof.Machine Sys2Proof.Safety Sys2Proof.Laws

section

variable {s : State}

theorem exec_bdtLoad (hans : s.answers 0xD0000 = true) : exec .bdtLoad s = .next
    (if !s.hriQuiet then s.cfgEvent .cfgBusy 0xD0000 2#32
      else ({ s with hri := { s.hri with bdt := 1 } } : State).send (.hostRead (s.hriAddr 0x40) 512)) := by
  change execBdtLoad s = _
  rw [execBdtLoad, take_rw hans]

/-- A read of 512 bytes brings the table as it is. -/
theorem tableBytes {bs : List Byte} (hlen : bs.length = 512) : (bs ++ List.replicate 512 0).take 512 = bs := List.take_left' hlen

/-- A table with a failing byte is rejected whole (R303). -/
theorem exec_bdtReadDone_rejected {bs : List Byte} {k : Nat} (hlen : bs.length = 512) (hasked : s.hri.bdt = 1) (hbad : s.tabBad bs = some k) :
    exec (.bdtReadDone bs) s = .next (({ s with hri := { s.hri with bdt := 3 } } : State).raise .boardRange 10 4 (le 2 k)) := by
  change execBdtReadDone bs s = _
  simp only [execBdtReadDone, tableBytes hlen, hasked, hbad, ne_eq, not_true_eq_false, if_false]

/-- A table with none is taken whole (R303). -/
theorem exec_bdtReadDone_accepted {bs : List Byte} (hlen : bs.length = 512) (hasked : s.hri.bdt = 1) (hgood : s.tabBad bs = none) :
    exec (.bdtReadDone bs) s = .next (s.takeTable bs) := by
  change execBdtReadDone bs s = _
  simp only [execBdtReadDone, tableBytes hlen, hasked, hgood, ne_eq, not_true_eq_false, if_false]

end

/-- Settles O32: a failing byte changes the status alone; without one `takeTable` puts each named part in force. -/
theorem boardTableIsTakenWholeOrNotAtAll : Obligations.BoardTableIsTakenWholeOrNotAtAll := by
  refine ⟨fun s hans hquiet => ?_, fun s hans hbusy => ?_, fun s bs k hlen hasked hbad => ?_, fun s bs hlen hasked hgood => ?_⟩
  · rw [exec_bdtLoad hans, if_neg (by simp [hquiet])]
  · rw [exec_bdtLoad hans, if_pos (by simp [hbusy])]
    rfl
  · exact exec_bdtReadDone_rejected hlen hasked hbad
  · exact ⟨_, exec_bdtReadDone_accepted hlen hasked hgood, rfl, rfl, rfl, rfl, rfl, rfl, rfl, rfl⟩

end Sys2Proof.Proofs
end

section
/-! What one operation leaves of the Spurs, and what a failure of a Spur does: the rules that the statements on the generators share. -/

set_option Elab.async false

namespace Sys2Proof.Proofs

open Sys2Proof.Machine Sys2Proof.Safety Sys2Proof.Laws

/-! ## Numbers of fields, Spurs and Saddles -/

theorem fieldOf_lt {n : Nat} (h : n < 425) : fieldOf n < 25 := by
  unfold fieldOf regX regY
  split <;> omega

theorem fieldOf_of_mem_fieldSpurs {f n : Nat} (hf : f < 25) (h : n ∈ fieldSpurs f) : fieldOf n = f := by
  rcases List.mem_append.1 h with h | h
  · obtain ⟨p, hp, rfl⟩ := List.mem_map.1 h
    have hp := List.mem_range.1 hp
    rw [spurAt, if_pos hp, fieldOf, if_pos (by omega), regX, regY]
    omega
  · obtain rfl := List.mem_singleton.1 h
    rw [fieldOf, if_neg (by omega)]
    omega

theorem lt_of_mem_sadsOf {r k : Nat} (hr : r < 400) (h : k ∈ sadsOf r) : k < 760 := by
  obtain ⟨dir, -, hk⟩ := List.mem_filterMap.1 h
  unfold sadToward regX regY at hk
  grind

/-! ## One Spur -/

section

variable (s : State)

theorem spur_modSpur_of_lt {n : Nat} (h : n < 425) (f : Spur → Spur) : (s.modSpur n f).spur n = f (s.spur n) :=
  bget_bmod_same _ _ _ h

theorem spur_modSpur_of_ne {i n : Nat} (h : i ≠ n) (f : Spur → Spur) : (s.modSpur i f).spur n = s.spur n :=
  bget_bmod_ne _ _ _ h

theorem col_modCol_of_lt {f : Nat} (h : f < 25) (g : Col → Col) : (s.modCol f g).col f = g (s.col f) :=
  bget_bmod_same _ _ _ h

/-- What a change of a Spur keeps, changing it in the state keeps. -/
theorem modSpur_keeps {β : Type} (p : Spur → β) (i n : Nat) {f : Spur → Spur} (h : ∀ x, p (f x) = p x := by exact fun _ => rfl) :
    p ((s.modSpur i f).spur n) = p (s.spur n) := by
  rw [spur_modSpur]
  split
  · exact h _
  · rfl

end

theorem spur_of_spurs {s t : State} (h : t.spurs = s.spurs) (n : Nat) : t.spur n = s.spur n := by
  rw [State.spur, h, State.spur]

theorem when_true {b : Bool} (h : b = true) (s : State) (f : State → State) : s.when b f = f s := if_pos h

theorem when_false {b : Bool} (h : b = false) (s : State) (f : State → State) : s.when b f = s := if_neg (by simp [h])

/-- A conditional update that leaves the Spurs. -/
theorem spur_when (s : State) (b : Bool) (f : State → State) (n : Nat) (h : ∀ u, (f u).spur n = u.spur n := by exact fun _ => rfl) :
    (s.when b f).spur n = s.spur n :=
  when_keeps (fun u => u.spur n) h s b

/-! ## A Spur that fails (R434) -/

section

variable (s : State) (n cause : Nat) (ev : Ev)

theorem spurFails_raised : (s.spurFails n cause ev).raised = s.raised := by
  unfold State.spurFails
  split <;> rfl

theorem spurFails_rdg : (s.spurFails n cause ev).rdg = s.rdg := by
  unfold State.spurFails
  split <;> rfl

/-- A failure changes no more of a Spur than its gates. -/
theorem spurFails_keeps {β : Type} (p : Spur → β) (h : ∀ x g, p { x with gates := g } = p x) (k : Nat) :
    p ((s.spurFails n cause ev).spur k) = p (s.spur k) := by
  unfold State.spurFails
  split
  · rfl
  · exact modSpur_keeps s p n k (fun x => h x _)

theorem spurFails_failed (n : Fin 425) : ((s.spurFails n cause ev).spur n).gates.failed = true := by
  unfold State.spurFails
  split
  · assumption
  · rw [modCol_at_spur, spur_modSpur_self]

end

end Sys2Proof.Proofs
end

section
/-! The loop of a Spur: its comparisons and the time-out of an ACQUIRE (O15). -/

set_option Elab.async false

namespace Sys2Proof.Proofs

open Sys2Proof.Machine Sys2Proof.Safety Sys2Proof.Laws

/-! ## One comparison (R102, R103, R107) -/

section

variable (g : Gen)

/-- The residual measurement leaves the rest of a generator. -/
theorem residual_keeps {β : Type} (p : Gen → β) (h : ∀ g c r b, p { g with residCount := c, resid := r, residHi := b } = p g) (ppm : Int) :
    p (g.residual ppm) = p g := by
  unfold Gen.residual
  split
  · split
    · exact h ..
    · exact h g _ g.resid g.residHi
  · rfl

/-- The filter changes its own state and the code, and nothing else. -/
theorem filter_keeps {β : Type} (p : Gen → β) (h : ∀ g i w d c, p { g with integ := i, fcw := w, dither := d, dcoCode := c } = p g) (bw : Bool) (e : Int) :
    p (g.filter bw e) = p g := by
  unfold Gen.filter
  split
  · rfl
  · exact h ..

/-- A running loop takes the filter's next value. -/
theorem filter_of_runs {g : Gen} (h : g.runs = true) (bw : Bool) (e : Int) :
    (g.filter bw e).integ = Config.filterInteg bw g.integ e ∧ (g.filter bw e).fcw = Config.filterOut bw (g.filter bw e).integ e := by
  simp [Gen.filter, h]

theorem runs_iff {g : Gen} : g.runs = true ↔ g.loop = .acquire ∨ g.loop = .locked := by simp [Gen.runs]

end

/-- Consecutive comparisons within 1/16 phase, this one counted (R103). -/
def closeRun (g : Gen) (e : Int) : Nat := if -1 ≤ e ∧ e ≤ 1 then g.lockRun + 1 else 0

/-- Consecutive comparisons more than 2 phases off, this one counted (R104). -/
def farRun (g : Gen) (e : Int) : Nat := if 32 < e ∨ e < -32 then g.lossRun + 1 else 0

section

variable {g : Gen} {e : Int}

theorem compare_acquire (h : g.loop = .acquire) : g.compare e =
    if 16 ≤ closeRun g e then { g with loopErr := e, loop := .locked, reacq := false, lockRun := 0, lossRun := 0 }
    else { g with loopErr := e, lockRun := closeRun g e } := by
  simp only [Gen.compare, h, closeRun]

theorem compare_locked (h : g.loop = .locked) : g.compare e =
    if 4 ≤ farRun g e then { g with loopErr := e, loop := .failed, lossRun := 0 } else { g with loopErr := e, lossRun := farRun g e } := by
  simp only [Gen.compare, h, farRun]

/-- The 16th close comparison locks the loop. -/
theorem compare_locks (h : g.loop = .acquire) (hlo : -1 ≤ e) (hhi : e ≤ 1) (hrun : 15 ≤ g.lockRun) : (g.compare e).loop = .locked := by
  simp [compare_acquire h, closeRun, hlo, hhi, hrun]

theorem compare_close (h : g.loop = .acquire) (hlo : -1 ≤ e) (hhi : e ≤ 1) (hrun : g.lockRun < 15) :
    (g.compare e).loop = .acquire ∧ (g.compare e).lockRun = g.lockRun + 1 := by
  simp [compare_acquire h, closeRun, hlo, hhi, show ¬ 15 ≤ g.lockRun by omega, h]

theorem compare_far (h : g.loop = .acquire) (hfar : e < -1 ∨ 1 < e) : (g.compare e).loop = .acquire ∧ (g.compare e).lockRun = 0 := by
  simp [compare_acquire h, closeRun, show ¬ (-1 ≤ e ∧ e ≤ 1) by omega, h]

/-- The 4th far comparison loses the lock. -/
theorem compare_loses (h : g.loop = .locked) (hfar : e < -32 ∨ 32 < e) (hrun : 3 ≤ g.lossRun) : (g.compare e).loop = .failed := by
  simp [compare_locked h, farRun, hfar.symm, hrun]

theorem compare_strays (h : g.loop = .locked) (hfar : e < -32 ∨ 32 < e) (hrun : g.lossRun < 3) :
    (g.compare e).loop = .locked ∧ (g.compare e).lossRun = g.lossRun + 1 := by
  simp [compare_locked h, farRun, hfar.symm, show ¬ 3 ≤ g.lossRun by omega, h]

theorem compare_holds (h : g.loop = .locked) (hlo : -32 ≤ e) (hhi : e ≤ 32) : (g.compare e).loop = .locked ∧ (g.compare e).lossRun = 0 := by
  simp [compare_locked h, farRun, show ¬ (32 < e ∨ e < -32) by omega, h]

/-- A comparison of a running loop keeps the error, and neither the tally nor the filter's state moves with it. -/
theorem compare_of_runs (h : g.runs = true) : (g.compare e).loopErr = e ∧ (g.compare e).tallyMark = g.tallyMark ∧
    (g.compare e).tallyCyc = g.tallyCyc ∧ (g.compare e).integ = g.integ ∧ ((g.compare e).loop ≠ .failed → (g.compare e).runs = true) := by
  rcases runs_iff.1 h with h | h
  · rw [compare_acquire h]
    split <;> simp [Gen.runs, h]
  · rw [compare_locked h]
    split <;> simp [Gen.runs, h]

end

/-! ## LOOP_COMPARE and ACQ_TIMEOUT -/

/-- The generator of a Spur after a comparison that falls due. -/
def compared (s : State) (n : Nat) (e ppm : Int) : Gen :=
  { ((((s.spur n).gen.compare e).residual ppm).filter ((s.word (sprAddr n 0x08)).bit 0) e) with cmpAt := some s.rdg.ridge }

/-- The state with that generator in place. -/
def comparedAt (s : State) (n : Nat) (e ppm : Int) : State := s.modSpur n fun x => { x with
  gen := compared s n e ppm, cal := if s.calBetween (fun _ => 10) (fun _ => 11) then x.cal.average (compared s n e ppm) else x.cal }

/-- The loop of a Spur has lost its lock (R104). -/
def lockLost (s : State) (n : Nat) : State := (s.raise .loopUnlock 2 n []).spurFails n 1 .loopUnlock

/-- The residual after a commit cycle is too large (R107). -/
def residualTold (s : State) (n fcode : Nat) : State :=
  (s.raise .dcoResidual 2 n []).modSpur n fun x => { x with cal := { x.cal with marked := x.cal.marked ++ [(fcode, none)] } }

section

variable {s : State} {n : Fin 425} {e ppm : Int}

theorem testLocked_of_not_underTest (h : s.underTest n = false) : s.testLocked n = s := by
  rw [State.testLocked, if_pos (by simp [h])]

theorem exec_loopCompare (hdue : s.compares n = true) (htest : s.underTest n = false) : exec (.loopCompare n e ppm) s = .next
    (((comparedAt s n e ppm).when ((compared s n e ppm).loop == .failed) fun u => lockLost u n).when
      ((s.spur n).gen.residCount == 3 && (compared s n e ppm).residHi) fun u => residualTold u n (compared s n e ppm).fcode) := by
  have htest' : (comparedAt s n e ppm).underTest n = false := htest
  rw [← testLocked_of_not_underTest htest']
  exact congrArg Host.Outcome.next (if_neg (by simp [hdue]))

/-- What neither the residual measurement nor the filter changes is as the comparison leaves it. -/
theorem compared_keeps {β : Type} (p : Gen → β) (hr : ∀ g c r b, p { g with residCount := c, resid := r, residHi := b } = p g := by exact fun _ _ _ _ => rfl)
    (hf : ∀ g i w d c, p { g with integ := i, fcw := w, dither := d, dcoCode := c } = p g := by exact fun _ _ _ _ _ => rfl)
    (hc : ∀ g c, p { g with cmpAt := c } = p g := by exact fun _ _ => rfl) : p (compared s n e ppm) = p ((s.spur n).gen.compare e) :=
  (hc ..).trans ((filter_keeps _ p hf ..).trans (residual_keeps _ p hr ppm))

theorem lockLost_gen (u : State) (n : Nat) (k : Nat) : ((lockLost u n).spur k).gen = (u.spur k).gen := spurFails_keeps _ n 1 _ Spur.gen (fun _ _ => rfl) k

theorem residualTold_keeps {β : Type} (p : Spur → β) (h : ∀ x c, p { x with cal := c } = p x) (u : State) (n fcode k : Nat) :
    p ((residualTold u n fcode).spur k) = p (u.spur k) := modSpur_keeps _ p n k (fun x => h x _)

/-- A due comparison: the generator it leaves. -/
theorem loopCompare_runs (hdue : s.compares n = true) (htest : s.underTest n = false) : Runs (.loopCompare n e ppm) s fun t =>
    (t.spur n).gen = compared s n e ppm ∧
      ((compared s n e ppm).loop = .failed → (t.spur n).gates.failed = true ∧ Raises s t .loopUnlock .degraded 2 n []) := by
  refine ⟨_, exec_loopCompare hdue htest, ?_, fun hfail => ?_⟩
  · rw [when_keeps (fun u => (u.spur n).gen) fun u => residualTold_keeps Spur.gen (fun _ _ => rfl) u ..,
      when_keeps (fun u => (u.spur n).gen) fun u => lockLost_gen u n n, comparedAt, spur_modSpur_self]
  · rw [hfail]
    refine ⟨?_, raises_of_events (t := comparedAt s n e ppm) rfl fun ev hev => ?_⟩
    · rw [when_keeps (fun u => (u.spur n).gates) fun u => residualTold_keeps Spur.gates (fun _ _ => rfl) u ..]
      exact spurFails_failed ..
    · have hlost : ev ∈ (lockLost (comparedAt s n e ppm) n).raised := by rwa [lockLost, spurFails_raised]
      unfold State.when
      split
      · exact List.mem_append_left _ hlost
      · exact hlost

theorem runs_of_compares (h : s.compares n = true) : (s.spur n).gen.runs = true := by
  simp only [State.compares, Bool.and_eq_true] at h
  exact h.2

theorem exec_loopCompare_idle (h : s.compares n = false) : exec (.loopCompare n e ppm) s = .next s :=
  congrArg Host.Outcome.next (if_pos (by simp [h]))

theorem exec_acqTimeout (h : (s.spur n).gen.loop = .acquire) (hreq : (s.spur n).gen.reacq = true ∨ s.cal.cur.isSome = true)
    (hlong : 8 ≤ s.since (s.spur n).gen.acqMark) : exec (.acqTimeout n) s = .next
      (((s.modSpur n fun x => { x with gen := { x.gen with loop := .failed } }).raise .acqTimeout 2 n []).spurFails n 2 .acqTimeout) :=
  congrArg Host.Outcome.next (if_pos ⟨h, hreq, hlong⟩)

end

/-- Settles O15: each clause on the loop is one of `Gen.compare`, which the residual measurement and the filter leave as it is. -/
theorem spurLoopLocksFailsAndTimesOut : Obligations.SpurLoopLocksFailsAndTimesOut := by
  refine ⟨fun s n e ppm hdue htest => ?_, fun s n e ppm h => exec_loopCompare_idle ?_, fun s n hloop hreq hlong => ?_, fun s n h => ?_⟩
  · obtain ⟨t, hexec, hgen, hfail⟩ := loopCompare_runs (e := e) (ppm := ppm) hdue htest
    obtain ⟨herr, hmark, hcyc, hinteg, hruns⟩ := compare_of_runs (e := e) (runs_of_compares hdue)
    refine ⟨t, hexec, ?_⟩
    dsimp only
    rw [hgen]
    have hloop : (compared s n e ppm).loop = ((s.spur n).gen.compare e).loop := compared_keeps Gen.loop
    have hlock : (compared s n e ppm).lockRun = ((s.spur n).gen.compare e).lockRun := compared_keeps Gen.lockRun
    have hloss : (compared s n e ppm).lossRun = ((s.spur n).gen.compare e).lossRun := compared_keeps Gen.lossRun
    refine ⟨(compared_keeps Gen.loopErr).trans herr, (compared_keeps Gen.tallyMark).trans hmark, (compared_keeps Gen.tallyCyc).trans hcyc, ?_⟩
    rw [hloop, hlock, hloss]
    refine ⟨fun hup => ?_, compare_locks, compare_close, compare_far, fun hl hfar hrun => ?_, compare_strays, compare_holds⟩
    · have hresid : (((s.spur n).gen.compare e).residual ppm).runs = true :=
        (residual_keeps _ Gen.runs (fun _ _ _ _ => rfl) ppm).trans (hruns hup)
      have hsame : (((s.spur n).gen.compare e).residual ppm).integ = (s.spur n).gen.integ :=
        (residual_keeps _ Gen.integ (fun _ _ _ _ => rfl) ppm).trans hinteg
      rw [← hsame]
      exact filter_of_runs hresid _ e
    · have hlost := compare_loses hl hfar hrun
      exact ⟨hlost, hfail (hloop.trans hlost)⟩
  · rcases h with h | h | h | h | h <;> simp [State.compares, Gen.runs, h]
  · refine ⟨_, exec_acqTimeout hloop hreq hlong, ?_, spurFails_failed .., raises_of_events rfl fun ev hev => by rwa [spurFails_raised]⟩
    rw [spurFails_keeps _ n 2 _ (fun x => x.gen.loop) (fun _ _ => rfl), raise_at_spur, spur_modSpur_self]
  · refine congrArg Host.Outcome.next (if_neg ?_)
    rintro ⟨hloop, -, hlong⟩
    rcases h with h | h
    · exact h hloop
    · omega

end Sys2Proof.Proofs
end

section
/-! An output edge of a Spur, the report of a droop detector, and the delivery of a notice (O17). -/

set_option Elab.async false

namespace Sys2Proof.Proofs

open Sys2Proof.Machine Sys2Proof.Safety Sys2Proof.Laws

/-! ## What the work beside the decision leaves of the Spurs -/

section

variable (s : State) (n r : Nat)

theorem hearAt_spurs (g : Gen) (change : Int) (v : Nat) : (s.hearAt g change v).spurs = s.spurs := by
  refine each_keeps State.spurs (fun t k => ?_) _ _
  exact modSad_spurs ..

theorem sayAt_spurs (code : BitVec 3) (v : Nat) : (s.sayAt n code v).spurs = s.spurs := by
  refine each_keeps State.spurs (fun t k => ?_) _ _
  split
  · rfl
  · split <;> rfl

/-- Notices go out and come in on the Saddles alone. -/
theorem wires_spurs (change : Int) : (s.wires n r change).spurs = s.spurs :=
  (each_keeps State.spurs (fun t v => sayAt_spurs t n _ v) _ _).trans (each_keeps State.spurs (fun t v => hearAt_spurs t _ change v) _ _)

theorem relayOwn_spurs (change : Int) : (s.relayOwn r change).spurs = s.spurs := by
  unfold State.relayOwn
  split
  · rfl
  · refine each_keeps State.spurs (fun t k => ?_) _ _
    exact modSad_spurs ..

theorem endPerturb_spurs : s.endPerturb.spurs = s.spurs := by
  unfold State.endPerturb
  extract_lets inj fd t
  have ht : t.spurs = s.spurs := by
    refine when_keeps State.spurs (fun u => ?_) ..
    exact setField_spurs ..
  refine (when_keeps State.spurs (fun u => ?_) ..).trans ht
  exact setField_spurs ..

end

section

variable {β : Type} (p : Spur → β) (h : ∀ x w l, p { x with wl := w, lim := l } = p x)

include h

theorem examine_keeps (s : State) (n k : Nat) : p ((s.examine n).spur k) = p (s.spur k) := by
  refine (modSpur_keeps _ p n k (fun x => h x _ x.lim)).trans ?_
  split <;> rfl

theorem chkRate_keeps (s : State) (n k : Nat) : p ((s.chkRate n).spur k) = p (s.spur k) :=
  (examine_keeps p h ..).trans (modSpur_keeps _ p n k (fun x => h x ..))

theorem endFrame_keeps (s : State) (n k : Nat) (bits : BitVec 5) : p ((s.endFrame n bits).spur k) = p (s.spur k) := by
  unfold State.endFrame
  extract_lets t t'
  have ht : p (t.spur k) = p (s.spur k) := modSpur_keeps s p n k (fun x => h x _ x.lim)
  have ht' : p (t'.spur k) = p (t.spur k) := by
    refine when_keeps (fun u => p (u.spur k)) (fun u => ?_) ..
    exact congrArg p (setBit_at_spur ..)
  refine (when_keeps (fun u => p (u.spur k)) (fun u => ?_) ..).trans (ht'.trans ht)
  exact chkRate_keeps p h u n k

/-- The sampling of a checksum frame touches the workload state and the limits. -/
theorem sampleFrame_keeps (s : State) (n k : Nat) : p ((s.sampleFrame n).spur k) = p (s.spur k) := by
  unfold State.sampleFrame
  split
  · rfl
  · split
    · exact modSpur_keeps s p n k (fun x => h x _ x.lim)
    · exact endFrame_keeps p h s n k _

end

/-! ## The edge of a Spur that drives a region -/

/-- The decision of a Spur that drives region `r` and lends to none (R137). -/
def decision (s : State) (n r : Nat) : Decision :=
  decide1 (s.demand n) (s.follow r (s.spur n).str.leads).toNat (if (s.spur n).str.cap2 then 2 else 3) (s.spur n).str.debt (s.repayAllowed n r)

section

variable {s : State} {n : Fin 425} {r : Nat} {slacks : List Int}

theorem relayStep_of_not_lent (h : s.lentTo r = none) (n : Nat) : s.relayStep n r = s := by rw [State.relayStep, h]

/-- What neither the workload state nor the limits show of the Spur is as its decision leaves it. -/
theorem edgeRun_keeps {β : Type} (p : Spur → β) (hp : ∀ x w l, p { x with wl := w, lim := l } = p x) (hlent : s.lentTo r = none) :
    p ((s.edgeRun n r slacks).spur n) =
      p ((s.spur n).afterEdge (decision s n r) (s.droopLevel n) slacks (lowSlack slacks (s.monitors n))) := by
  have hrelay := relayStep_of_not_lent hlent n
  unfold State.edgeRun
  simp only [hrelay]
  have hend : ∀ u : State, p (u.endPerturb.spur n) = p (u.spur n) := fun u => congrArg p (spur_of_spurs (endPerturb_spurs u) n)
  refine (when_keeps (fun u => p (u.spur n)) hend ..).trans ((sampleFrame_keeps p hp ..).trans (congrArg p ?_))
  exact (spur_when ..).trans ((spur_when ..).trans ((spur_when ..).trans ((spur_when ..).trans
    ((spur_of_spurs ((wires_spurs ..).trans (relayOwn_spurs ..)) n).trans (spur_modSpur_self ..)))))

theorem exec_spurEdge_run (hready : s.edgeReady n = true) (hreg : s.regionOf n = some r) (hfrozen : (s.spur n).str.frozen = false)
    (hv1 : (s.spur n).gates.v1 = false) : exec (.spurEdge n slacks) s = .next (s.edgeRun n r slacks) := by
  change execSpurEdge n slacks s = _
  simp [execSpurEdge, hready, hreg, hfrozen, hv1]

theorem exec_spurEdge_frozen (hready : s.edgeReady n = true) (hreg : s.regionOf n = some r) (hfrozen : (s.spur n).str.frozen = true) :
    exec (.spurEdge n slacks) s = .next ((s.modSpur n fun x => x.edgeFrozen slacks (lowSlack slacks (s.monitors n))).wires n r 0) := by
  change execSpurEdge n slacks s = _
  simp [execSpurEdge, hready, hreg, hfrozen]

theorem exec_spurEdge_v1 (hready : s.edgeReady n = true) (hreg : s.regionOf n = some r) (hfrozen : (s.spur n).str.frozen = false)
    (hv1 : (s.spur n).gates.v1 = true) : Runs (.spurEdge n slacks) s fun t =>
      t.spur n = (s.spur n).edgeV1 (s.droopLevel n) slacks (lowSlack slacks (s.monitors n)) := by
  refine ⟨_, congrArg Host.Outcome.next (if_neg (by simp [hready])), ?_⟩
  simp only [hreg, hfrozen, hv1, Bool.false_eq_true, if_false, if_true]
  exact (spur_of_spurs ((wires_spurs ..).trans (relayOwn_spurs ..)) n).trans (spur_modSpur_self ..)

theorem exec_spurEdge_idle (hready : s.edgeReady n = true) (hreg : s.regionOf n = none) (htrack : s.tracked n = none) :
    exec (.spurEdge n slacks) s = .next (s.modSpur n fun x =>
      { x with gen := x.gen.tallyEdge, str := { x.str.sense (s.droopLevel n) slacks (lowSlack slacks (s.monitors n)) false with notice := 0 } }) := by
  change execSpurEdge n slacks s = _
  simp [execSpurEdge, State.edgeIdle, hready, hreg, htrack]

theorem exec_spurEdge_early (h : s.edgeReady n = false) : exec (.spurEdge n slacks) s = .next s :=
  congrArg Host.Outcome.next (if_pos (by simp [h]))

end

/-- In V1 the debt falls by 1 after 7 edges without a short cycle (R157). -/
theorem edgeV1_debt (x : Spur) (level : Nat) (slacks : List Int) (low : Int × Nat) (h : 0 < x.str.debt) :
    (x.edgeV1 level slacks low).str.debt = if 7 ≤ x.str.sinceShort then x.str.debt - 1 else x.str.debt := by
  simp [Spur.edgeV1, Str.repaysV1, show 1 ≤ x.str.debt from h]

theorem edgeV1_of_no_debt (x : Spur) (level : Nat) (slacks : List Int) (low : Int × Nat) (h : x.str.debt = 0) :
    (x.edgeV1 level slacks low).str.debt = 0 ∧ (x.edgeV1 level slacks low).str.leads = ⟨0, 0, 0, 0⟩ := by
  simp [Spur.edgeV1, Str.repaysV1, h]

/-! ## Droop detectors (R139) -/

theorem nth_setNth_same {l : List Nat} {i : Nat} (h : i < l.length) (v : Nat) : nth (setNth l i v) i = v := by
  simp [nth, setNth, h]

theorem nth_setNth_ne {l : List Nat} {i j : Nat} (h : i ≠ j) (v : Nat) : nth (setNth l i v) j = nth l j := by
  simp [nth, setNth, h]

section

variable {sp cur rail : Nat} {l : Nat → Nat}

/-- The level that a detector takes, level by level (R139). -/
theorem droopAfter_eq : droopAfter sp l cur rail = [1, 2, 3].foldl (fun m k =>
    if 400 * rail < 1000 * sp * (400 - l k) ∨ (k ≤ cur ∧ 400 * rail < 1000 * sp * (402 - l k)) then max m k else m) 0 := by
  simp [droopAfter, List.range_succ]

theorem le_droopAfter {k : Nat} (hk : k ∈ [1, 2, 3]) (h : 400 * rail < 1000 * sp * (400 - l k)) : k ≤ droopAfter sp l cur rail := by
  rw [droopAfter_eq]
  simp only [List.foldl_cons, List.foldl_nil]
  fin_cases hk <;> simp only [h, true_or, if_true] <;> split_ifs <;> omega

/-- Above every threshold raised by half a percent a detector stands at level 0: no level is kept either. -/
theorem droopAfter_eq_zero (h : ∀ k ∈ [1, 2, 3], 1000 * sp * (402 - l k) ≤ 400 * rail) : droopAfter sp l cur rail = 0 := by
  have hno : ∀ k ∈ [1, 2, 3], ¬ (400 * rail < 1000 * sp * (400 - l k) ∨ (k ≤ cur ∧ 400 * rail < 1000 * sp * (402 - l k))) := by
    intro k hk
    have hle : 1000 * sp * (400 - l k) ≤ 1000 * sp * (402 - l k) := Nat.mul_le_mul_left _ (by omega)
    have := h k hk
    omega
  rw [droopAfter_eq]
  simp only [List.foldl_cons, List.foldl_nil]
  rw [if_neg (hno 3 (by simp)), if_neg (hno 2 (by simp)), if_neg (hno 1 (by simp))]

end

theorem droopCrossing_runs (s : State) (n : Fin 425) (q : Fin 4) (rail : Nat) : Runs (.droopCrossing n q rail) s fun t =>
    (t.spur n).str.droop = setNth (s.spur n).str.droop q (droopAfter (s.col (fieldOf n)).avs.inForce
      (fun k => (s.word (sprAddr n 0x60)).bits (8 * k - 1) (8 * k - 8)) (nth (s.spur n).str.droop q) rail) :=
  ⟨_, rfl, congrArg (fun x : Spur => x.str.droop) (spur_modSpur_self ..)⟩

/-! ## Notices (R143 to R148) -/

theorem sadHigh_lt (k : Fin 760) : sadHigh k < 400 := by
  unfold sadHigh sadLow
  grind

theorem sadLow_lt (k : Fin 760) : sadLow k < 400 := by
  unfold sadLow
  grind

section

variable {s : State} {k : Fin 760}

theorem sadEvent_spur (s : State) (k : Nat) (ev : Ev) (detail : List Byte) (n : Nat) : (s.sadEvent k ev detail).spur n = s.spur n := by
  unfold State.sadEvent
  split <;> rfl

theorem sadEvent_lane (s : State) (k : Fin 760) (ev : Ev) (detail : List Byte) (hi : Bool) : ((s.sadEvent k ev detail).sad k).lane hi = (s.sad k).lane hi := by
  unfold State.sadEvent
  split
  · rfl
  · rw [raise_at_sad, sad_modSad_self]
    rfl

theorem lane_modLane (x : Saddle) (hi : Bool) (f : Lane → Lane) : (x.modLane hi f).lane hi = f (x.lane hi) := by
  cases hi <;> rfl

theorem driverSpur_of_own {n : Nat} (h : (s.spur n).gates.driver = .own) : s.driverSpur n = n := by
  simp [State.driverSpur, h]

theorem convert_of_ratio_one {w : Notice} (h : w.ratio = 1) (a carry : Int) : w.convert a carry = (a, carry) := by
  simp [Notice.convert, h]

theorem exec_noticeDelivery {hi : Bool} {w : Notice} {ws : List Notice} (hflight : ((s.sad k).lane hi).flight = w :: ws) (hwait : w.wait = 0)
    (hnotices : s.notices k = true) (flip : BitVec 3) : exec (.noticeDelivery k hi flip) s = .next (s.notice k hi w flip) := by
  change execNoticeDelivery k hi flip s = _
  simp [execNoticeDelivery, hflight, hwait, hnotices]

theorem exec_noticeDelivery_early {hi : Bool} (h : ∀ w ∈ ((s.sad k).lane hi).flight, w.wait ≠ 0) (flip : BitVec 3) :
    exec (.noticeDelivery k hi flip) s = .next s := by
  change execNoticeDelivery k hi flip s = _
  unfold execNoticeDelivery
  split
  · rfl
  · next w _ hflight => rw [if_pos (h w (by simp [hflight]))]

/-- A notice delivered at ratio 1, with no fault on the wires, to a region whose own Spur drives it: the estimate moves by what the code stands for,
the notice leaves the lane, and a code that no Spur sends is told. -/
theorem notice_to_own {hi : Bool} {w : Notice} {r : Nat} (hr : r = if hi then sadHigh k else sadLow k) (hratio : w.ratio = 1)
    (hown : (s.spur r).gates.driver = .own) :
    ((s.notice k hi w 0).spur r).str.leads = (s.spur r).str.leads.mod (sadDir k r) (fun v => v + noticeAmount w.code.toNat) ∧
      (((s.notice k hi w 0).sad k).lane hi).flight = ((s.sad k).lane hi).flight.tail ∧
      (6 ≤ w.code.toNat → (s.sad k).raisedNow = [] → Raises s (s.notice k hi w 0) .noticeBad (Ev.sev .noticeBad) 3 k []) := by
  have hlt : r < 425 := by
    have := sadHigh_lt k
    have := sadLow_lt k
    subst hr
    split <;> omega
  unfold State.notice
  extract_lets recv send code t p t'
  obtain rfl : r = recv := hr
  have hcode : code = w.code.toNat := by simp [code]
  have hp : p = (noticeAmount w.code.toNat, ((s.sad k).lane hi).carry) := by rw [← hcode]; exact convert_of_ratio_one hratio ..
  have hspur : t'.spur recv = s.spur recv := spur_when s _ _ recv fun u => sadEvent_spur u k .noticeBad [] recv
  have hlane : (t.sad k).lane hi = (s.sad k).lane hi := by
    refine when_keeps (fun u => (u.sad k).lane hi) (fun u => ?_) s _
    rw [State.strFlag, setBit_at_sad, State.strFlag, setBit_at_sad, sadEvent_lane]
  simp only [hown]
  rw [driverSpur_of_own hown]
  refine ⟨?_, ?_, fun hbad hfirst => raises_of_events (t := s.modSad k fun x => { x with raisedNow := x.raisedNow ++ [.noticeBad] }) rfl fun ev hev => ?_⟩
  · rw [spur_modSpur_of_lt _ hlt, hspur, hp]
  · rw [modSpur_at_sad, sad_modSad_self, lane_modLane, hlane]
  · have ht : t.raised = (s.sadEvent k .noticeBad []).raised := (congrArg State.raised (when_true (decide_eq_true (hcode ▸ hbad)) s _)).trans rfl
    rw [modSpur_raised, modSad_raised, ht, State.sadEvent, if_neg (by simp [hfirst])]
    exact hev

end

/-- Settles O17: an edge that drives a region ends in `Spur.afterEdge` with the decision, in a native window in `Spur.edgeFrozen`, in V1 in `Spur.edgeV1`. -/
theorem spurEdgeAppliesTheDecision : Obligations.SpurEdgeAppliesTheDecision := by
  refine ⟨fun s n slacks hready hn hreg hlent hv1 hfrozen => ?_, fun s n r slacks hready hreg hfrozen => ?_, fun s n r slacks hready hreg hfrozen hv1 => ?_,
    fun s n slacks hready hreg htrack => ?_, fun s n slacks h => exec_spurEdge_early h, fun s n q rail hq => ?_,
    fun sp cur rail l => ⟨fun k => le_droopAfter, droopAfter_eq_zero⟩, fun s k hi w ws hflight hwait hnotices hratio hown => ?_,
    fun s k hi flip h => exec_noticeDelivery_early h flip⟩
  · refine ⟨_, exec_spurEdge_run hready hreg hfrozen hv1, ?_⟩
    have hstr := edgeRun_keeps (n := n) (slacks := slacks) Spur.str (fun _ _ _ => rfl) hlent
    have hgen := edgeRun_keeps (n := n) (slacks := slacks) Spur.gen (fun _ _ _ => rfl) hlent
    dsimp only
    rw [hstr, hgen]
    exact ⟨rfl, rfl, rfl, rfl, rfl⟩
  · refine ⟨_, exec_spurEdge_frozen hready hreg hfrozen, ?_⟩
    dsimp only
    rw [spur_of_spurs (wires_spurs ..), spur_modSpur_self]
    exact ⟨rfl, rfl, rfl, rfl⟩
  · obtain ⟨t, hexec, ht⟩ := exec_spurEdge_v1 (slacks := slacks) hready hreg hfrozen hv1
    refine ⟨t, hexec, ?_⟩
    dsimp only
    rw [ht]
    exact ⟨rfl, rfl, edgeV1_of_no_debt _ _ _ _, edgeV1_debt _ _ _ _⟩
  · refine ⟨_, exec_spurEdge_idle hready hreg htrack, ?_⟩
    dsimp only
    rw [spur_modSpur_self]
    exact ⟨rfl, rfl, rfl⟩
  · obtain ⟨t, hexec, ht⟩ := droopCrossing_runs s n q rail
    refine ⟨t, hexec, ?_⟩
    dsimp only
    rw [ht]
    exact ⟨nth_setNth_same hq _, fun p hp => nth_setNth_ne (fun h => hp (Fin.ext h.symm)) _⟩
  · obtain ⟨hleads, hleft, htold⟩ := notice_to_own (k := k) rfl hratio hown
    exact ⟨_, exec_noticeDelivery hflight hwait hnotices 0, hleads, hleft.trans (by rw [hflight]; rfl), htold⟩

end Sys2Proof.Proofs
end

section
/-! The tally mark and the commit cycle of a Spur (O18). -/

set_option Elab.async false

namespace Sys2Proof.Proofs

open Sys2Proof.Machine Sys2Proof.Safety Sys2Proof.Laws

/-! ## What the other work of a tally mark leaves of the generators -/

section

variable (s : State) (n k : Nat) (m : Mark)

theorem gateMark_gen : ((s.gateMark n m).spur k).gen = (s.spur k).gen := by
  unfold State.gateMark
  split
  · split
    · exact modSpur_keeps s Spur.gen n k
    · exact modSpur_keeps s Spur.gen n k
  · rfl

theorem fenceMark_gen : ((s.fenceMark n).spur k).gen = (s.spur k).gen := by
  unfold State.fenceMark
  split
  · exact modSpur_keeps s Spur.gen n k
  · rfl

theorem windowMark_gen : ((s.windowMark n m).spur k).gen = (s.spur k).gen := by
  unfold State.windowMark
  split
  · exact modSpur_keeps s Spur.gen n k
  · split
    · exact modSpur_keeps s Spur.gen n k
    · rfl

theorem gradeMark_gen : ((s.gradeMark n m).spur k).gen = (s.spur k).gen := by
  unfold State.gradeMark
  extract_lets due
  split
  · rfl
  · exact modSpur_keeps s Spur.gen n k

theorem bandMark_gen : ((s.bandMark n).spur k).gen = (s.spur k).gen := by
  unfold State.bandMark
  split
  · exact modSpur_keeps s Spur.gen n k
  · exact modSpur_keeps s Spur.gen n k

theorem sadMark_spurs : (s.sadMark n).spurs = s.spurs := by
  refine each_keeps State.spurs (fun t j => ?_) _ _
  split
  · exact modSad_spurs ..
  · exact modSad_spurs ..

theorem endCaps_keeps {β : Type} (p : Spur → β) (h : ∀ x a, p { x with str := a } = p x) : p ((s.endCaps n).spur k) = p (s.spur k) := by
  refine each_keeps (fun u => p (u.spur k)) (fun t j => ?_) _ _
  exact modSpur_keeps t p j k (fun x => h x _)

/-- A region that goes dark changes of a Spur no more than its stretching, its windows and what its gates tell of the region. -/
theorem cutRegion_keeps {β : Type} (p : Spur → β) (hs : ∀ x a, p { x with str := a } = p x := by exact fun _ _ => rfl)
    (hg : ∀ x w a b d v g q, p { x with wl := w, gates := { x.gates with comp := a, tran := b, darkDue := d, driver := v, grade := g, gradeNext := q } } = p x := by
      exact fun _ _ _ _ _ _ _ _ => rfl) : p ((s.cutRegion n).spur k) = p (s.spur k) := by
  unfold State.cutRegion
  extract_lets f t t' t''
  have ht : p (t.spur k) = p (s.spur k) := by
    unfold t
    split
    · rfl
    · split
      · exact endCaps_keeps s n k p hs
      · rfl
  have ht' : p (t'.spur k) = p (s.spur k) := (modSpur_keeps t p n k fun x => hg x ..).trans ht
  have hsads : p ((t'.each (sadsOf n) fun u j => u.modSad j fun x => { x with held := true, borrow := 0, active := false }).spur k) = p (t'.spur k) := by
    refine each_keeps (fun u => p (u.spur k)) (fun u j => ?_) _ _
    exact congrArg p (modSad_at_spur ..)
  have ht'' : p (t''.spur k) = p (s.spur k) := hsads.trans ht'
  split
  · exact ht''
  · exact ht''

end

/-- What a tally mark and a commit move of a generator: the tally, the entries and the count of expired ones. -/
def tally (g : Gen) : Mark × Nat × Bool × List Entry × Nat := (g.tallyMark, g.tallyCyc, g.wrap, g.entries, g.expired)

section

variable (s : State) (f n k : Nat)

/-- A Spur whose trees the field spare takes over keeps its generator. -/
theorem takeOver_gen : ((s.takeOver f n).spur n).gen = (s.spur n).gen := by
  have hfirst : ((s.modSpur (400 + f) fun x => x.takeFrom (s.spur n)).spur n).gen = (s.spur n).gen := by
    rw [spur_modSpur]
    split
    · rfl
    · rfl
  rw [State.takeOver, baseMoved_at_spur, closeIncident_at_spur, modCol_at_spur, State.copyFence, setField_at_spur]
  exact (modSpur_keeps _ Spur.gen n n).trans hfirst

/-- The save of a Spur to be tested changes no more of a Spur than its code. -/
theorem testTaken_keeps {β : Type} (p : Spur → β) (h : ∀ x c, p { x with gen := { x.gen with dcoCode := c } } = p x) :
    p ((s.testTaken n).spur k) = p (s.spur k) := by
  unfold State.testTaken
  split
  · exact modSpur_keeps _ p _ k (fun x => h x _)
  · rfl

theorem forceOver_tally (h : (s.col f).spare.target = n) : tally ((s.forceOver f).spur n).gen = tally (s.spur n).gen := by
  unfold State.forceOver
  extract_lets r slip
  obtain rfl : n = r := h.symm
  rw [raise_at_spur, modCol_at_spur, testTaken_keeps _ _ _ (fun x => tally x.gen) (fun _ _ => rfl), takeOver_gen]

theorem splitMark_tally (m : Mark) : tally ((s.splitMark n m).spur n).gen = tally (s.spur n).gen := by
  unfold State.splitMark
  split
  · rfl
  · extract_lets f t
    have ht : (t.spur n).gen = (s.spur n).gen := modSpur_keeps s Spur.gen n n
    rw [← ht]
    split
    · next htrack =>
      split
      · rw [raise_at_spur, takeOver_gen]
      · exact forceOver_tally t f n htrack.2
    · split
      · rfl
      · rw [cutRegion_keeps _ _ _ Spur.gen]

end

/-! ## TALLY_MARK -/

/-- TALLY_MARK where it is due: its own Spur's generator begins the next mark. -/
theorem tallyMark_runs {s : State} {n : Fin 425} (hready : s.markReady n = true) :
    Runs (.tallyMark n) s fun t => tally (t.spur n).gen = tally ((s.spur n).gen.nextMark false) := by
  refine ⟨_, congrArg Host.Outcome.next (if_neg (by simp [hready])), ?_⟩
  extract_lets x m late t₀ t₁ t₂ t₃ t₄ t₅
  have h₀ : (t₀.spur n).gen = (s.spur n).gen := (fenceMark_gen _ n n).trans (gateMark_gen s n n m)
  have h₁ : tally (t₁.spur n).gen = tally ((s.spur n).gen.nextMark false) := by
    rw [← h₀, show t₁.spur n = _ from spur_modSpur_self ..]
    rfl
  have h₂ : t₂.spur n = t₁.spur n := by
    refine each_keeps (fun u => u.spur n) (fun u _ => ?_) _ _
    exact raise_at_spur ..
  have h₃ : t₃.spur n = t₂.spur n := spur_when ..
  have h₄ : (t₄.spur n).gen = (t₃.spur n).gen := by
    refine when_keeps (fun u => (u.spur n).gen) (fun u => ?_) _ _
    exact modSpur_keeps u Spur.gen n n
  have h₅ : tally (t₅.spur n).gen = tally (t₄.spur n).gen := by
    have hcut : ((t₄.each (s.darkMark n) State.cutRegion).spur n).gen = (t₄.spur n).gen :=
      each_keeps (fun u => (u.spur n).gen) (fun u r => cutRegion_keeps u r n Spur.gen) _ _
    rw [show (t₅.spur n).gen = _ from windowMark_gen .., splitMark_tally, hcut]
  have h₅' : tally (t₅.spur n).gen = tally ((s.spur n).gen.nextMark false) := by rw [h₅, h₄, h₃, h₂, h₁]
  rw [← h₅']
  split
  · exact congrArg (fun x : Spur => tally x.gen) (spur_when _ _ _ _ fun u => spur_of_spurs (sadMark_spurs u n) n)
  · next r _ =>
    extract_lets t₆ t₇ t₈
    have h₆ : (t₆.spur n).gen = (t₅.spur n).gen := modSpur_keeps t₅ Spur.gen r n
    have h₇ : (t₇.spur n).gen = (t₆.spur n).gen := (bandMark_gen _ r n).trans (gradeMark_gen t₆ r n m)
    have h₈ : (t₈.spur n).gen = (t₇.spur n).gen := congrArg Spur.gen (spur_of_spurs (sadMark_spurs t₇ r) n)
    have h₈' : (t₈.spur n).gen = (t₅.spur n).gen := h₈.trans (h₇.trans h₆)
    split
    · exact congrArg tally h₈'
    · next b _ => exact congrArg tally ((congrArg Spur.gen (spur_of_spurs (sadMark_spurs _ b) n)).trans ((bandMark_gen t₈ b n).trans h₈'))

theorem exec_tallyMark_early {s : State} {n : Fin 425} (h : s.markReady n = false) : exec (.tallyMark n) s = .next s :=
  congrArg Host.Outcome.next (if_pos (by simp [h]))

/-- No entry stays STAGED past its target. -/
theorem atMark_expires (m : Mark) (e : Entry) : ¬ ((e.atMark m).st = .staged ∧ (e.atMark m).target = m) := by
  unfold Entry.atMark
  split
  · simp [Entry.none]
  · split
    · simp [Entry.none]
    · assumption

/-- An ARMED entry stays until it has been applied and reported. -/
theorem atMark_of_armed {m : Mark} {e : Entry} (h : e.st = .armed) (hkeep : e.applied = false ∨ e.reported = false) : e.atMark m = e := by
  unfold Entry.atMark
  rw [if_neg (by rcases hkeep with hk | hk <;> simp [hk]), if_neg (by simp [h])]

/-! ## COMMIT -/

section

variable {β : Type} (p : Spur → β)

theorem putSpr_keeps (h : ∀ x c, p { x with cal := c } = p x) (s : State) (n o : Nat) (v mask : Word) (k : Nat) :
    p ((s.putSpr n o v mask).spur k) = p (s.spur k) := by
  unfold State.putSpr
  extract_lets a
  split
  · rfl
  · split
    · rfl
    · split
      · rfl
      · exact modSpur_keeps s p n k (fun x => h x _)

theorem applyHeld_keeps (h : ∀ x c, p { x with cal := c } = p x) (s : State) (n k : Nat) : p ((s.applyHeld n).spur k) = p (s.spur k) := by
  refine each_keeps (fun u => p (u.spur k)) (fun u b => ?_) s (s.held.filter fun b => winOf b.1 == .spr n (b.1 - sprAddr n 0))
  exact putSpr_keeps p h ..

end

theorem applyShadow_spurs (s : State) (n o : Nat) : (s.applyShadow n o).spurs = s.spurs := by
  unfold State.applyShadow
  split <;> rfl

theorem applyFenceOp_spurs (s : State) (n op : Nat) : (s.applyFenceOp n op).spurs = s.spurs := by
  unfold State.applyFenceOp
  split <;> rfl

theorem sideModes_spurs (s : State) (fb : Fabric) (r : Nat) (m : Mark) : (s.sideModes fb r m).spurs = s.spurs := by
  refine each_keeps State.spurs (fun t v => ?_) _ _
  refine each_keeps State.spurs (fun u k => ?_) _ _
  exact modSad_spurs ..

theorem applyLadder_spurs (laddered : List Nat) (s : State) (d : Nat) : (State.applyLadder laddered s d).spurs = s.spurs := by
  unfold State.applyLadder
  split
  · rfl
  · next a as _ =>
    extract_lets t
    have ht : t.spurs = s.spurs := by
      refine each_keeps State.spurs (fun u b => ?_) _ _
      exact dropShadow_spurs ..
    split
    · exact ht
    · split
      · exact ht
      · exact ht

/-- A set put in force changes no Spur. -/
theorem applySet_spurs (s : State) (c : CommitSet) (laddered : List Nat) : (s.applySet c laddered).spurs = s.spurs := by
  unfold State.applySet
  extract_lets t t' t''
  exact each_keeps State.spurs (applyLadder_spurs laddered) t _

/-- The entry that a Spur's commit cycle applies (R120). -/
def entryDue (g : Gen) : Option Entry := g.entries.find? fun e => e.st == .armed && !e.applied && e.target == g.tallyMark

/-- The debt restated for a new FCODE, rounded up (R122). -/
def restatedDebt (d fNew fOld : Nat) : Nat := if fOld = 0 then d else ceilDiv (d * fNew) fOld

section

variable {s : State} {n : Fin 425}

theorem commitDue_eq : (s.spur n).gen.commitDue = (s.atCycle0 n && (entryDue (s.spur n).gen).isSome) := by
  rw [Gen.commitDue, State.atCycle0, entryDue, List.isSome_find?]

theorem exec_commit_none (h : s.atCycle0 n = false ∨ entryDue (s.spur n).gen = none) : exec (.commit n) s = .next s := by
  have hdue : (s.spur n).gen.commitDue = false := by
    rw [commitDue_eq]
    rcases h with h | h <;> simp [h]
  change execCommit n s = _
  simp [execCommit, hdue]

/-- What a commit moves of a Spur, apart from its estimates. -/
def committed (x : Spur) : Gen × Nat := (x.gen, x.str.debt)

/-- COMMIT where an entry is due: what the registers, the gates and the set bring leaves the generator and the debt. -/
theorem commit_runs {e : Entry} (htest : s.testAway n = false) (hat : s.atCycle0 n = true) (hdue : entryDue (s.spur n).gen = some e) :
    Runs (.commit n) s fun t => (t.spur n).gen = (s.spur n).gen.commit e (entryOf (s.spur n).cal.trims.codes e.fcode) ∧
      (t.spur n).str.debt = restatedDebt (s.spur n).str.debt e.fcode (s.spur n).gen.fcode := by
  have hcommit : (s.spur n).gen.commitDue = true := by simp [commitDue_eq, hat, hdue]
  refine ⟨_, rfl, ?_⟩
  rw [if_pos (by simp [hcommit, htest])]
  split
  · next hnone => exact absurd (hnone.symm.trans hdue) nofun
  · next e' hsome =>
    obtain rfl : e' = e := Option.some.inj (hsome.symm.trans hdue)
    extract_lets fb r d fOld code t t₁ t₂ t₃ t₄
    have ht : committed (t.spur n) = ((s.spur n).gen.commit e' code, restatedDebt d e'.fcode fOld) := congrArg committed (spur_modSpur_self ..)
    have h₁ : committed (t₁.spur n) = committed (t.spur n) := by
      unfold t₁
      split
      · refine (applyHeld_keeps committed (fun _ _ => rfl) _ n n).trans (congrArg committed (spur_of_spurs ?_ n))
        exact each_keeps State.spurs (fun u o => applyShadow_spurs u n o) t rwsRegs
      · rfl
    have h₂ : t₂.spurs = t₁.spurs := applyFenceOp_spurs ..
    have h₃ : committed (t₃.spur n) = committed (t₂.spur n) := modSpur_keeps t₂ committed n n
    have h₄ : t₄.spurs = t₃.spurs := by
      unfold t₄
      split
      · rfl
      · exact sideModes_spurs ..
    have hparts : ∀ u : State, u.spurs = t₄.spurs → committed (u.spur n) = ((s.spur n).gen.commit e' code, restatedDebt d e'.fcode fOld) := by
      intro u hu
      rw [spur_of_spurs (hu.trans h₄), h₃, spur_of_spurs h₂, h₁, ht]
    refine Prod.mk.inj (hparts _ ?_)
    split
    · rfl
    · split
      · rfl
      · exact applySet_spurs ..

end

theorem le_ceilDiv_mul (a : Nat) {b : Nat} (h : 0 < b) : a ≤ ceilDiv a b * b ∧ ceilDiv a b * b < a + b := by
  have hdiv := Nat.div_add_mod' (a + b - 1) b
  have hmod := Nat.mod_lt (a + b - 1) h
  unfold ceilDiv
  omega

/-- A loop that runs at its commit cycle acquires again from the code table's entry (R119). -/
theorem commit_of_runs {g : Gen} (h : g.runs = true) (e : Entry) (code : BitVec 16) :
    (g.commit e code).loop = .acquire ∧ (g.commit e code).reacq = true ∧ (g.commit e code).dcoCode = code := by
  simp [Gen.commit, h]

/-- Settles O18: at the mark the generator is `Gen.nextMark`, at the commit cycle `Gen.commit`, and nothing else there moves the tally or the entries. -/
theorem tallyMarksExpireAndCommitEntries : Obligations.TallyMarksExpireAndCommitEntries := by
  refine ⟨fun s n hready => ?_, fun s n h => exec_tallyMark_early ?_, fun s n e htest hat hdue hf => ?_, fun s n h => exec_commit_none h⟩
  · obtain ⟨t, hexec, ht⟩ := tallyMark_runs hready
    simp only [tally, Prod.mk.injEq] at ht
    obtain ⟨hmark, hcyc, hwrap, hentries, hexpired⟩ := ht
    refine ⟨t, hexec, hmark, hcyc, hwrap, fun e he => ?_, fun e he harmed hkeep => ?_, hexpired⟩
    · rw [hentries] at he
      obtain ⟨d, -, rfl⟩ := List.mem_map.1 he
      rw [hmark]
      exact atMark_expires _ d
    · rw [hentries]
      exact List.mem_map.2 ⟨e, he, atMark_of_armed harmed hkeep⟩
  · rcases h with h | h <;> simp [State.markReady, h]
  · obtain ⟨t, hexec, hgen, hdebt⟩ := commit_runs htest hat hdue
    obtain ⟨hle, hlt⟩ := le_ceilDiv_mul ((s.spur n).str.debt * e.fcode) hf
    refine ⟨t, hexec, ?_⟩
    dsimp only
    rw [hgen, hdebt, restatedDebt, if_neg (by omega)]
    exact ⟨rfl, rfl, rfl, rfl, hle, hlt, rfl, rfl, fun hloop => commit_of_runs (runs_iff.2 (.inr hloop)) e _⟩

end Sys2Proof.Proofs
end

section
/-! The commit entries under STAGE, ARM, CANCEL and the discards (O19). -/

set_option Elab.async false

namespace Sys2Proof.Proofs

open Sys2Proof.Machine Sys2Proof.Safety Sys2Proof.Laws

/-! ## A command that reaches the Spurs of a domain one after another -/

/-- What a command does at one Spur: it leaves every other Spur and the time, and takes no event back. -/
structure AtOneSpur (f : State → Nat → State) : Prop where
  other : ∀ (t : State) (i k : Nat), i ≠ k → (f t i).spur k = t.spur k
  time : ∀ (t : State) (i : Nat), (f t i).rdg = t.rdg
  events : ∀ (t : State) (i : Nat), ∀ e ∈ t.raised, e ∈ (f t i).raised

section

variable {f : State → Nat → State}

theorem AtOneSpur.not_mem (h : AtOneSpur f) (s : State) {l : List Nat} {n : Nat} (hn : n ∉ l) : (s.each l f).spur n = s.spur n := by
  induction l generalizing s with
  | nil => rfl
  | cons a l ih =>
    obtain ⟨ha, hl⟩ := not_or.1 (mt List.mem_cons.2 hn)
    rw [each_cons, ih _ hl, h.other _ _ _ (Ne.symm ha)]

/-- Each Spur of the list is reached once, as it was at first, and what happens there stays. -/
theorem AtOneSpur.mem (h : AtOneSpur f) (s : State) {l : List Nat} (hl : l.Nodup) {n : Nat} (hn : n ∈ l) :
    ∃ t : State, t.spur n = s.spur n ∧ t.rdg = s.rdg ∧ (s.each l f).spur n = (f t n).spur n ∧ ∀ e ∈ (f t n).raised, e ∈ (s.each l f).raised := by
  induction l generalizing s with
  | nil => cases hn
  | cons a l ih =>
    obtain ⟨hal, hl⟩ := List.nodup_cons.1 hl
    rw [each_cons]
    by_cases ha : n = a
    · subst ha
      exact ⟨s, rfl, rfl, h.not_mem _ hal, fun e he => each_preserves (fun u => e ∈ u.raised) (fun u i => h.events u i e) he l⟩
    · obtain ⟨t, hspur, htime, hend, hev⟩ := ih (f s a) hl ((List.mem_cons.1 hn).resolve_left ha)
      exact ⟨t, hspur.trans (h.other _ _ _ (Ne.symm ha)), htime.trans (h.time _ _), hend, hev⟩

theorem atOneSpur_modSpur (g : Spur → Spur) : AtOneSpur fun t n => t.modSpur n g :=
  ⟨fun t _ _ h => spur_modSpur_of_ne t h g, fun _ _ => rfl, fun _ _ _ he => he⟩

end

theorem nodup_fieldSpurs {f : Nat} (hf : f < 25) : (fieldSpurs f).Nodup := by
  have hmap : (fieldRegions f).Nodup := by
    refine List.Nodup.map_on (fun p hp q hq h => ?_) List.nodup_range
    have hp := List.mem_range.1 hp
    have hq := List.mem_range.1 hq
    rw [spurAt, if_pos hp, spurAt, if_pos hq] at h
    omega
  refine List.Nodup.append hmap (List.nodup_singleton _) fun n hn hspare => ?_
  obtain ⟨p, hp, rfl⟩ := List.mem_map.1 hn
  have hp := List.mem_range.1 hp
  rw [List.mem_singleton, spurAt, if_pos hp] at hspare
  omega

section

variable (s : State) (d : Nat) (q : Seq)

theorem fieldsFor_spec : (s.fieldsFor d q).Nodup ∧ ∀ f ∈ s.fieldsFor d q, f < 25 := by
  unfold State.fieldsFor
  split
  · exact ⟨List.nodup_range.filter _, fun f hf => List.mem_range.1 (List.mem_of_mem_filter hf)⟩
  · exact ⟨List.nodup_range.filter _, fun f hf => List.mem_range.1 (List.mem_of_mem_filter hf)⟩

/-- No Spur takes a command of a domain twice. -/
theorem nodup_spursOf : (s.spursOf d q).Nodup := by
  obtain ⟨hnodup, hlt⟩ := fieldsFor_spec s d q
  refine List.Nodup.filter _ (List.nodup_flatMap.2 ⟨fun f hf => nodup_fieldSpurs (hlt f (List.mem_of_mem_filter hf)), ?_⟩)
  refine (hnodup.filter _).imp_of_mem fun {f g} hf hg hne n hn hn' => hne ?_
  rw [← fieldOf_of_mem_fieldSpurs (hlt f (List.mem_of_mem_filter hf)) hn, fieldOf_of_mem_fieldSpurs (hlt g (List.mem_of_mem_filter hg)) hn']

end

/-! ## Entries made EMPTY -/

section

variable {P : Entry → Prop} [DecidablePred P] {l : List Entry} {e : Entry}

theorem mem_map_empty (he : e ∈ l) (h : ¬ (e.st = .staged ∧ P e)) : e ∈ l.map fun x => if x.st = .staged ∧ P x then Entry.none else x :=
  List.mem_map.2 ⟨e, he, if_neg h⟩

theorem not_of_mem_map_empty (he : e ∈ l.map fun x => if x.st = .staged ∧ P x then Entry.none else x) : ¬ (e.st = .staged ∧ P e) := by
  obtain ⟨x, -, rfl⟩ := List.mem_map.1 he
  split
  · simp [Entry.none]
  · assumption

end

/-! ## STAGE and ARM -/

/-- A Spur with every entry EMPTY stages a command in the first of them (R114, R115). -/
theorem stage_of_empty {g : Gen} {c : StageCmd} (fenceOp : Nat) (hempty : g.entries = List.replicate 8 Entry.none) (hnear : 3 ≤ Mark.dist c.target g.tallyMark)
    (hahead : Mark.dist c.target g.tallyMark < 2 ^ 39) (hmin : 8 ≤ c.fcode) (hmax : c.fcode ≤ 96) (hrise : 8 * c.fcode ≤ 9 * g.fcode) :
    g.stage c fenceOp = .ok (stageEntry c fenceOp :: List.replicate 7 Entry.none) := by
  have hbefore : g.fcodeBefore c.seq c.target = g.fcode := by simp [Gen.fcodeBefore, hempty, Entry.used, Entry.none]
  unfold Gen.stage
  extract_lets d
  rw [if_neg (by omega), if_neg (by omega), hempty, if_neg (by simp [Entry.none, Entry.used]), if_neg (by simp [Entry.none]), if_pos (by decide)]
  rfl

theorem stage_of_late {g : Gen} {c : StageCmd} (fenceOp : Nat) (h : Mark.dist c.target g.tallyMark < 3) : g.stage c fenceOp = .error .stageLate :=
  if_pos (.inl h)

theorem atOneSpur_stage (c : StageCmd) : AtOneSpur (State.stageAt c) where
  other t i k h := by
    unfold State.stageAt
    split
    · exact spur_modSpur_of_ne t h _
    · rfl
  time t i := by
    unfold State.stageAt
    split <;> rfl
  events t i e he := by
    unfold State.stageAt
    split
    · exact he
    · exact List.mem_append_left _ he

/-- FENCE_OP of a stage command for Spur `n` (R124). -/
def fenceOpFor (c : StageCmd) (n : Nat) : Nat := ((c.fences.find? fun p => p.1 == n).map Prod.snd).getD 0

section

variable {t : State} {c : StageCmd} {n : Fin 425}

theorem stageAt_ok {es : List Entry} (h : (t.spur n).gen.stage c (fenceOpFor c n) = .ok es) : ((State.stageAt c t n).spur n).gen.entries = es := by
  rw [fenceOpFor] at h
  simp only [State.stageAt, h]
  rw [spur_modSpur_self]

theorem stageAt_error {ev : Ev} (h : (t.spur n).gen.stage c (fenceOpFor c n) = .error ev) : State.stageAt c t n = t.raise ev 2 n [] := by
  rw [fenceOpFor] at h
  simp only [State.stageAt, h]

end

/-- The Spurs of a domain that accept the arm of a set (R115). -/
def acceptors (s : State) (d : Nat) (q : Seq) : List Nat := (s.spursOf d q).filter fun n => (s.spur n).gen.armAnswer q == some true

theorem nodup_acceptors (s : State) (d : Nat) (q : Seq) : (acceptors s d q).Nodup := (nodup_spursOf s d q).filter _

/-- ARM where no Spur of the domain refuses: every Spur with a STAGED entry of the number takes it. -/
theorem arm_runs {s : State} {d : Fin 8} {q : Seq} (h : ∀ n ∈ s.spursOf d q, (s.spur n).gen.armAnswer q ≠ some false) :
    Runs (.arm d q) s fun t => t = s.each (acceptors s d q) fun u n => u.modSpur n fun x => { x with gen := x.gen.armed q } := by
  have hrefuse : ((s.spursOf d q).filter fun n => (s.spur n).gen.armAnswer q == some false) = [] :=
    List.filter_eq_nil_iff.2 fun n hn => by simpa using h n hn
  refine ⟨_, rfl, ?_⟩
  simp only [hrefuse, List.isEmpty_nil, Bool.or_true, if_true]
  rfl

/-! ## CANCEL and the discards -/

/-- A Spur holds an ARMED entry of a sequence number. -/
def holdsArmed (g : Gen) (q : Seq) : Bool := g.entries.any fun e => e.st == .armed && e.seq == q

section

variable {s t : State} {q : Seq} {n : Fin 425}

theorem cancelAt_armed (h : holdsArmed (t.spur n).gen q = true) : State.cancelAt q t n = t.raise .cancelRefused 2 n [] := if_pos h

theorem cancelAt_entries (h : holdsArmed (t.spur n).gen q = false) : ((State.cancelAt q t n).spur n).gen.entries =
    (t.spur n).gen.entries.map fun e => if e.st = .staged ∧ e.seq = q then Entry.none else e := by
  rw [State.cancelAt, if_neg (by simpa [holdsArmed] using h), spur_modSpur_self]

theorem atOneSpur_cancel (q : Seq) : AtOneSpur (State.cancelAt q) where
  other t i k h := by
    unfold State.cancelAt
    split
    · rfl
    · exact spur_modSpur_of_ne t h _
  time t i := by
    unfold State.cancelAt
    split <;> rfl
  events t i e he := by
    unfold State.cancelAt
    split
    · exact List.mem_append_left _ he
    · exact he

theorem discardBy_at_spur (s : State) (takes : Nat → Bool) (p : Entry → Bool) (n : Fin 425) :
    (s.discardBy takes p).spur n = if takes (fieldOf n) then { s.spur n with gen := (s.spur n).gen.discard p } else s.spur n := by
  rw [State.discardBy, requests_at_spur, spur_mapSpurs _ n.isLt]

/-- Every ARMED entry of every Spur stays. -/
def ArmedStay (s t : State) : Prop := ∀ n : Fin 425, ∀ e ∈ (s.spur n).gen.entries, e.st = .armed → e ∈ (t.spur n).gen.entries

theorem armedStay_discardBy (s : State) (takes : Nat → Bool) (p : Entry → Bool) : ArmedStay s (s.discardBy takes p) := by
  intro n e he harmed
  rw [discardBy_at_spur]
  split
  · exact mem_map_empty (P := fun e => p e = true) he (by simp [harmed])
  · exact he

theorem armedStay_cancelAt (h : ArmedStay s t) (i : Nat) : ArmedStay s (State.cancelAt q t i) := by
  intro n e he harmed
  have ht := h n e he harmed
  unfold State.cancelAt
  split
  · exact ht
  · rw [spur_modSpur]
    split
    · exact mem_map_empty (P := fun e => e.seq = q) ht (by simp [harmed])
    · exact ht

end

/-- Settles O19: STAGE and CANCEL reach each Spur once, as it stood, ARM maps the entries of the Spurs that accept, and the discards those of the Spurs that heed them. -/
theorem commitEntriesAreStagedArmedAndDropped : Obligations.CommitEntriesAreStagedArmedAndDropped := by
  refine ⟨fun s d c n hn hempty hnear hahead hmin hmax hrise => ?_, fun s d c n hn hlate => ?_, fun s d q h => ?_, fun s d q n hn hfree => ?_,
    fun s d q n hn harmed => ?_, fun s => ⟨_, rfl, fun n => ?_⟩, fun s g => ⟨_, rfl, fun n => ?_⟩, fun s d q g c hc => ?_⟩
  · obtain ⟨t, hspur, -, hend, -⟩ := (atOneSpur_stage c).mem s (nodup_spursOf s d c.seq) hn
    have hok := stage_of_empty (fenceOpFor c n) hempty hnear hahead hmin hmax hrise
    refine ⟨_, rfl, stageEntry c (fenceOpFor c n), ?_, rfl, rfl, rfl, rfl, rfl, rfl, rfl, rfl⟩
    rw [hend, stageAt_ok (by rw [hspur]; exact hok)]
    exact List.mem_cons_self
  · obtain ⟨t, hspur, htime, hend, hev⟩ := (atOneSpur_stage c).mem s (nodup_spursOf s d c.seq) hn
    have herr := stageAt_error (by rw [hspur]; exact stage_of_late (fenceOpFor c n) hlate)
    refine ⟨_, rfl, ?_, raises_of_events (congrArg stamp htime) (herr ▸ hev)⟩
    rw [hend, herr, raise_at_spur, hspur]
  · obtain ⟨t, hexec, rfl⟩ := arm_runs h
    refine ⟨_, hexec, fun n hn hyes => ?_⟩
    have hmem : n.val ∈ acceptors s d q := List.mem_filter.2 ⟨hn, beq_iff_eq.2 hyes⟩
    obtain ⟨t, hspur, -, hend, -⟩ := (atOneSpur_modSpur fun x => { x with gen := x.gen.armed q }).mem s (nodup_acceptors s d q) hmem
    rw [hend, spur_modSpur_self, hspur]
    rfl
  · obtain ⟨t, hspur, -, hend, -⟩ := (atOneSpur_cancel q).mem s (nodup_spursOf s d q) hn
    refine ⟨_, rfl, fun e he => ?_⟩
    rw [requests_at_spur, hend, cancelAt_entries (by rw [hspur]; exact hfree)] at he
    exact not_of_mem_map_empty (P := fun e => e.seq = q) he
  · obtain ⟨t, hspur, htime, hend, hev⟩ := (atOneSpur_cancel q).mem s (nodup_spursOf s d q) hn
    have hrefused := cancelAt_armed (t := t) (n := n) (q := q) (by rw [hspur]; exact harmed)
    refine ⟨_, rfl, ?_, raises_of_events (congrArg stamp htime) (hrefused ▸ hev)⟩
    rw [requests_at_spur, hend, hrefused, raise_at_spur, hspur]
  · rw [State.discardAll, discardBy_at_spur]
    refine ⟨fun h => ?_, fun h => ?_⟩
    · rw [if_pos h]
      exact discard_not_staged _
    · rw [if_neg (by simp [h])]
  · rw [State.discardOne, discardBy_at_spur]
    refine ⟨fun h e he => ?_, fun e he hne => ?_⟩
    · rw [if_pos h] at he
      simpa using not_of_mem_map_empty (P := fun e => (e.group == g) = true) he
    · split
      · exact mem_map_empty (P := fun e => (e.group == g) = true) he (by simp [hne])
      · exact he
  · rcases hc with rfl | rfl | rfl
    · exact ⟨_, rfl, each_preserves (ArmedStay s) (fun t i ht => armedStay_cancelAt ht i) (fun _ _ he _ => he) _⟩
    · exact ⟨_, rfl, armedStay_discardBy s _ _⟩
    · exact ⟨_, rfl, armedStay_discardBy s _ _⟩

end Sys2Proof.Proofs
end

section
/-! The field spare: tracking, handover, forced handover and return (O46). -/

set_option Elab.async false

namespace Sys2Proof.Proofs

open Sys2Proof.Machine Sys2Proof.Safety Sys2Proof.Laws

/-! ## What tracking and a handover make of the Spurs and the Col -/

section

variable (s : State) (f : Fin 25) (r : Fin 400)

theorem spare_lt : 400 + f.val < 425 := by omega

theorem spare_ne_region : 400 + f.val ≠ r.val := by omega

theorem region_lt : r.val < 425 := by omega

/-- The field spare that is set to track takes the debt and the tally of the Spur that clocks the region. -/
theorem track_spare : (s.track f r).spur (400 + f) = (s.spur (400 + f)).follow (s.spur ((s.clockedBy r).getD r)) :=
  spur_modSpur_of_lt _ (spare_lt f) _

theorem track_col : ((s.track f r).col f).spare = { (s.col f).spare.begin r s.mark with track := true } :=
  congrArg Col.spare (col_modCol_self ..)

theorem takeOver_spare : (s.takeOver f r).spur (400 + f) = (s.spur (400 + f)).takeFrom (s.spur r) := by
  rw [State.takeOver, baseMoved_at_spur, closeIncident_at_spur, modCol_at_spur, State.copyFence, setField_at_spur,
    spur_modSpur_of_ne _ (spare_ne_region f r).symm, spur_modSpur_of_lt _ (spare_lt f)]

theorem takeOver_region : (s.takeOver f r).spur r = { (s.spur r).given with gates := { (s.spur r).gates with driver := .spare } } := by
  rw [State.takeOver, baseMoved_at_spur, closeIncident_at_spur, modCol_at_spur, State.copyFence, setField_at_spur,
    spur_modSpur_of_lt _ (region_lt r), spur_modSpur_of_ne _ (spare_ne_region f r)]

theorem takeOver_col : ((s.takeOver f r).col f).spare = { (s.col f).spare.over with driving := true, target := r } := by
  rw [State.takeOver, baseMoved_at_col, closeIncident_at_col, col_modCol_self]
  rfl

theorem takeOver_rdg : (s.takeOver f r).rdg = s.rdg := by
  rw [State.takeOver, baseMoved_rdg, closeIncident_rdg]
  rfl

theorem takeBack_region : (s.takeBack f r).spur r =
    { (s.spur r).takeFrom (s.spur (400 + f)) with gates := { ((s.spur r).takeFrom (s.spur (400 + f))).gates with driver := .own, cause := 0 } } := by
  rw [State.takeBack, baseMoved_at_spur, modCol_at_spur, State.copyFence, setField_at_spur, spur_modSpur_of_ne _ (spare_ne_region f r),
    spur_modSpur_of_lt _ (region_lt r)]

theorem takeBack_col : ((s.takeBack f r).col f).spare = { (s.col f).spare.over with driving := false, target := 0 } := by
  rw [State.takeBack, baseMoved_at_col, col_modCol_self]
  rfl

theorem testTaken_at_col (n k : Nat) : (s.testTaken n).col k = s.col k := by
  unfold State.testTaken
  split <;> rfl

theorem testTaken_rdg (n : Nat) : (s.testTaken n).rdg = s.rdg := by
  unfold State.testTaken
  split <;> rfl

end

/-- The parts of a Spur that a handover passes on (R126, R158). -/
def passedOn (x : Spur) : Nat × Leads × Nat × Mark × Nat := (x.str.debt, x.str.leads, x.str.sinceShort, x.gen.tallyMark, x.gen.tallyCyc)

/-- The field spare has the region: it drives and tracks no more, and goes on as the region's Spur stood. -/
structure SpareHas (s t : State) (f : Fin 25) (r : Fin 400) : Prop where
  driver : (t.spur r).gates.driver = .spare
  driving : (t.col f).spare.driving = true
  track : (t.col f).spare.track = false
  target : (t.col f).spare.target = r
  parts : passedOn (t.spur (400 + f)) = passedOn (s.spur r)

section

variable {s : State} {f : Fin 25} {r : Fin 400}

theorem spareHas_taken (s : State) (f : Fin 25) (r : Fin 400) : SpareHas s ((s.takeOver f r).testTaken r) f r := by
  have hspur : ∀ {β : Type} (p : Spur → β) (_ : ∀ x c, p { x with gen := { x.gen with dcoCode := c } } = p x) (k : Nat),
      p (((s.takeOver f r).testTaken r).spur k) = p ((s.takeOver f r).spur k) := fun p hp k => testTaken_keeps _ _ k p hp
  have hcol : (((s.takeOver f r).testTaken r).col f).spare = { (s.col f).spare.over with driving := true, target := r.val } := by
    rw [testTaken_at_col, takeOver_col]
  refine ⟨?_, by rw [hcol], by rw [hcol]; rfl, by rw [hcol], ?_⟩
  · rw [hspur (fun x => x.gates.driver) (fun _ _ => rfl), takeOver_region]
  · rw [hspur passedOn (fun _ _ => rfl), takeOver_spare]
    rfl

theorem SpareHas.of_same {t u : State} (h : SpareHas s t f r) (hs : u.spurs = t.spurs) (hc : (u.col f).spare = (t.col f).spare) : SpareHas s u f r := by
  obtain ⟨hdriver, hdriving, htrack, htarget, hparts⟩ := h
  exact ⟨by rwa [spur_of_spurs hs], by rwa [hc], by rwa [hc], by rwa [hc], by rwa [spur_of_spurs hs]⟩

/-! ## The commands -/

theorem exec_spareTrack (hfield : fieldOf r = f.val) (hdriving : (s.col f).spare.driving = false) (hidle : s.spareIdle f = true) (hlit : s.dark r = false) :
    exec (.spareTrack f r) s = .next (s.track f r) := by
  change execSpareTrack f r s = _
  simp [execSpareTrack, hfield, hdriving, hidle, hlit]

theorem exec_spareAligned (htrack : (s.col f).spare.track = true) (hrun : (s.col f).spare.run = 16) :
    exec (.spareAligned f) s = .next (s.modCol f fun c => { c with spare := { c.spare with aligned := true } }) :=
  congrArg Host.Outcome.next (if_pos ⟨.inl htrack, hrun⟩)

theorem exec_spareHandover_over (htarget : (s.col f).spare.target = r) (haligned : (s.col f).spare.aligned = true) (htrack : (s.col f).spare.track = true)
    (hreturn : (s.col f).spare.returning = false) (hown : (s.spur r).gates.driver = .own) (hcal : s.cal.cur = none)
    (hat : s.atCycle0 (400 + f) = true) (hfree : (s.spur (400 + f)).gen.commitHere = false) :
    exec (.spareHandover f) s = .next (((s.takeOver f r).testTaken r).when (s.spur r).gates.failed fun u => u.raise .spareTakeover 1 f (le 2 r)) := by
  change execSpareHandover f s = _
  simp [execSpareHandover, htarget, haligned, htrack, hreturn, hown, hcal, hat, hfree]

theorem exec_spareHandover_back (htarget : (s.col f).spare.target = r) (haligned : (s.col f).spare.aligned = true) (hreturn : (s.col f).spare.returning = true)
    (hspare : (s.spur r).gates.driver = .spare) (htest : s.underTest r = false) (hcal : s.cal.cur = none) (hat : s.atCycle0 r = true)
    (hfree : (s.spur (400 + f)).gen.commitHere = false) : exec (.spareHandover f) s = .next (s.takeBack f r) := by
  change execSpareHandover f s = _
  simp [execSpareHandover, htarget, haligned, hreturn, hspare, htest, hcal, hat, hfree]

theorem exec_spareForced (htarget : (s.col f).spare.target = r) (htrack : (s.col f).spare.track = true) (haligned : (s.col f).spare.aligned = false)
    (hcal : s.cal.cur = none) (hat : s.atCycle0 (400 + f) = true) (hfree : (s.spur (400 + f)).gen.commitHere = false)
    (hlong : notAfter ((s.col f).spare.since + 4) (s.spur (400 + f)).gen.tallyMark = true) : exec (.spareForced f r) s = .next (s.forceOver f) := by
  exact congrArg Host.Outcome.next (if_pos ⟨htrack, htarget, by simp [haligned], by simp [hcal], hat, by simp [hfree], hlong⟩)

/-- A forced handover keeps the slip and tells it. -/
theorem forceOver_eq (htarget : (s.col f).spare.target = r) : s.forceOver f =
    (((s.takeOver f r).testTaken r).modCol f fun c => { c with slip := slipOf (s.spur r).gen (s.spur (400 + f)).gen }).raise .spareForced 1 f
      (le 2 r ++ le 1 (twos 8 (slipOf (s.spur r).gen (s.spur (400 + f)).gen))) := by
  rw [State.forceOver, htarget]

end

theorem slip7_bounds (v : Int) : -127 ≤ slip7 v ∧ slip7 v ≤ 127 := by
  unfold slip7 satInt
  omega

/-- Settles O46: tracking is `Spur.follow`, either handover to the spare `State.takeOver`, the return `State.takeBack`. -/
theorem fieldSpareTracksAndTakesTheRegion : Obligations.FieldSpareTracksAndTakesTheRegion := by
  refine ⟨fun s f r hfield hdriving hidle hlit => ?_, fun s f => exec_spareAligned, fun s f r htarget haligned htrack hreturn hown hcal hat hfree => ?_,
    fun s f r htarget haligned hreturn hspare htest hcal hat hfree => ?_, fun s f r htarget htrack haligned hcal hat hfree hlong => ?_⟩
  · refine ⟨_, exec_spareTrack hfield hdriving hidle hlit, ?_, ?_, ?_, fun n hn => ?_⟩
    · rw [track_col]
    · rw [track_col]; rfl
    · rw [track_col]; rfl
    · rw [track_spare, hn]
      exact ⟨rfl, rfl, rfl⟩
  · have hhas := spareHas_taken s f r
    have hstays : SpareHas s (((s.takeOver f r).testTaken r).when (s.spur r).gates.failed fun u => u.raise .spareTakeover 1 f (le 2 r)) f r := by
      unfold State.when
      split
      · exact hhas.of_same rfl rfl
      · exact hhas
    obtain ⟨hdriver, hdrives, hends, htarget', hparts⟩ := hstays
    simp only [passedOn, Prod.mk.injEq] at hparts
    obtain ⟨hdebt, hleads, hshort, hmark, hcyc⟩ := hparts
    refine ⟨_, exec_spareHandover_over htarget haligned htrack hreturn hown hcal hat hfree, hdriver, hdrives, hends, htarget', hdebt, hleads, hshort, hmark, hcyc,
      fun hfailed => ?_⟩
    rw [when_true hfailed]
    exact raises_of_events (congrArg stamp ((testTaken_rdg ..).trans (takeOver_rdg s f r))) fun _ he => he
  · refine ⟨_, exec_spareHandover_back htarget haligned hreturn hspare htest hcal hat hfree, ?_⟩
    dsimp only
    rw [takeBack_region, takeBack_col]
    exact ⟨rfl, rfl, rfl, rfl, rfl, rfl⟩
  · obtain ⟨hlo, hhi⟩ : -127 ≤ slipOf (s.spur r).gen (s.spur (400 + f)).gen ∧ slipOf (s.spur r).gen (s.spur (400 + f)).gen ≤ 127 := slip7_bounds _
    have hhas : SpareHas s (s.forceOver f) f r := by
      rw [forceOver_eq htarget]
      refine (spareHas_taken s f r).of_same rfl ?_
      rw [raise_at_col, col_modCol_self]
    refine ⟨_, exec_spareForced htarget htrack haligned hcal hat hfree hlong, hhas.driver, hhas.driving, ?_, hlo, hhi, congrArg Prod.fst hhas.parts, ?_⟩
    · rw [forceOver_eq htarget, raise_at_col, col_modCol_self]
    · rw [forceOver_eq htarget]
      exact raises_of_events (congrArg stamp ((testTaken_rdg ..).trans (takeOver_rdg s f r))) fun _ he => he

end Sys2Proof.Proofs
end

section
/-! The response to a failed Spur: the field spare, a borrow, or a dark region, and the fault fence (O47). -/

set_option Elab.async false

namespace Sys2Proof.Proofs

open Sys2Proof.Machine Sys2Proof.Safety Sys2Proof.Laws

/-! ## A region that goes dark -/

/-- The root gates of a region without a driver: both closed, at grade 0. -/
def GatesDark (x : Gates) : Prop := x.driver = .dark ∧ x.comp = true ∧ x.tran = true ∧ x.grade = 0

section

variable (s : State)

theorem endCaps_rdg (r : Nat) : (s.endCaps r).rdg = s.rdg := by
  refine each_keeps State.rdg (fun t n => ?_) _ _
  exact modSpur_rdg ..

theorem cutRegion_rdg (r : Nat) : (s.cutRegion r).rdg = s.rdg := by
  unfold State.cutRegion
  extract_lets f t t' t''
  have ht : t.rdg = s.rdg := by
    unfold t
    split
    · rfl
    · split
      · exact endCaps_rdg ..
      · rfl
  have hsads : (t'.each (sadsOf r) fun u j => u.modSad j fun x => { x with held := true, borrow := 0, active := false }).rdg = t'.rdg := by
    refine each_keeps State.rdg (fun u j => ?_) _ _
    exact modSad_rdg ..
  have ht'' : t''.rdg = s.rdg := hsads.trans ht
  split
  · exact ht''
  · exact ht''

theorem cutRegion_gates {r : Nat} (hr : r < 425) : GatesDark ((s.cutRegion r).spur r).gates := by
  unfold State.cutRegion
  extract_lets f t t' t''
  have ht' : GatesDark (t'.spur r).gates := by
    rw [show t'.spur r = _ from spur_modSpur_of_lt t hr _]
    exact ⟨rfl, rfl, rfl, rfl⟩
  have hsads : (t'.each (sadsOf r) fun u j => u.modSad j fun x => { x with held := true, borrow := 0, active := false }).spur r = t'.spur r := by
    refine each_keeps (fun u => u.spur r) (fun u j => ?_) _ _
    exact modSad_at_spur ..
  have ht'' : GatesDark (t''.spur r).gates := by
    rw [show t''.spur r = _ from hsads]
    exact ht'
  split
  · exact ht''
  · exact ht''

/-- What `State.goDark` makes of the state before it tells of it. -/
def darkened (s : State) (r : Nat) (now : Bool) : State :=
  if now then s.cutRegion r else s.modSpur r fun x => { x with gates := { x.gates with darkDue := true } }

theorem goDark_eq {r n : Nat} (h : s.clockedBy r = some n) : s.goDark r =
    (darkened s r (s.atCycle0 n)).raise .fieldDegraded 1 (fieldOf r) (le 2 r ++ le 1 ((darkened s r (s.atCycle0 n)).darkIn (fieldOf r))) := by
  unfold State.goDark
  rw [h]
  rfl

theorem darkened_rdg (r : Nat) (now : Bool) : (darkened s r now).rdg = s.rdg := by
  unfold darkened
  split
  · exact cutRegion_rdg ..
  · rfl

theorem darkened_cause (r n : Nat) (now : Bool) : ((darkened s r now).spur n).gates.cause = (s.spur n).gates.cause := by
  unfold darkened
  split
  · exact cutRegion_keeps s r n fun x => x.gates.cause
  · exact modSpur_keeps s (fun x => x.gates.cause) r n

end

/-- The count of dark regions is one of the Spurs. -/
theorem darkIn_of_spurs {s t : State} (h : t.spurs = s.spurs) (f : Nat) : t.darkIn f = s.darkIn f := by
  simp only [State.darkIn, State.dark, spur_of_spurs h]

section

variable {s : State} {r n : Nat} (h : s.clockedBy r = some n)

include h

theorem goDark_spurs : (s.goDark r).spurs = (darkened s r (s.atCycle0 n)).spurs := by
  rw [goDark_eq s h, raise_spurs]

theorem goDark_rdg : (s.goDark r).rdg = s.rdg := by
  rw [goDark_eq s h, raise_rdg, darkened_rdg]

theorem goDark_cause (k : Nat) : ((s.goDark r).spur k).gates.cause = (s.spur k).gates.cause := by
  rw [spur_of_spurs (goDark_spurs h), darkened_cause]

theorem goDark_gates (hr : r < 425) (hat : s.atCycle0 n = true) : GatesDark ((s.goDark r).spur r).gates := by
  rw [spur_of_spurs (goDark_spurs h), hat]
  exact cutRegion_gates s hr

theorem goDark_darkDue (hr : r < 425) (hat : s.atCycle0 n = false) : ((s.goDark r).spur r).gates.darkDue = true := by
  rw [spur_of_spurs (goDark_spurs h), hat, show darkened s r false = s.modSpur r _ from rfl, spur_modSpur_of_lt s hr]

theorem goDark_raises : Raises s (s.goDark r) .fieldDegraded .degraded 1 (fieldOf r) (le 2 r ++ le 1 ((s.goDark r).darkIn (fieldOf r))) := by
  rw [darkIn_of_spurs (goDark_spurs h), goDark_eq s h]
  exact raises_of_events (congrArg stamp (darkened_rdg ..)) fun _ he => he

end

/-! ## A borrow begun -/

/-- A change of several Saddles that is the same done twice. -/
theorem sad_modSadsOf {g : Saddle → Saddle} (hg : ∀ x, g (g x) = g x) (s : State) (l : List Nat) {k : Nat} (hk : k < 760) :
    (s.each l fun t j => t.modSad j g).sad k = if k ∈ l then g (s.sad k) else s.sad k := by
  induction l generalizing s with
  | nil => rfl
  | cons j l ih =>
    rw [each_cons, ih, sad_modSad]
    by_cases hj : j = k
    · simp [hj, hk, hg]
    · simp [hj, Ne.symm hj]

section

variable (s : State) (r : Fin 400) (l : Nat)

theorem beginBorrow_spurs : (s.beginBorrow r l).spurs = s.spurs := by
  refine each_keeps State.spurs (fun t k => ?_) _ _
  exact modSad_spurs ..

theorem beginBorrow_rdg : (s.beginBorrow r l).rdg = s.rdg := by
  refine each_keeps State.rdg (fun t k => ?_) _ _
  exact modSad_rdg ..

theorem beginBorrow_held {k : Nat} (h : k ∈ sadsOf r) : ((s.beginBorrow r l).sad k).held = true := by
  have hsad : (s.beginBorrow r l).sad k = if k ∈ sadsOf r then { s.sad k with held := true } else s.sad k :=
    sad_modSadsOf (g := fun x => { x with held := true }) (fun _ => rfl) s _ (lt_of_mem_sadsOf r.isLt h)
  rw [hsad, if_pos h]

theorem beginBorrow_col : ((s.beginBorrow r l).col (fieldOf r)).borrow =
    some { region := r, lender := l, since := s.mark, ready := false, quietAt := 0, connected := false } := by
  rw [State.beginBorrow, col_modCol_of_lt _ (fieldOf_lt (by omega))]

end

/-! ## SPUR_FAILED -/

/-- SPUR_FAILED tells the cause that the state before the response holds. -/
theorem tellFailed_raises {s t u : State} {n resp : Nat} (htime : t.rdg = s.rdg) (hcause : (t.spur n).gates.cause = (s.spur n).gates.cause)
    (h : ∀ e ∈ (t.tellFailed n resp).raised, e ∈ u.raised) : Raises s u .spurFailed .degraded 2 n (le 1 (s.spur n).gates.cause ++ le 1 resp) := by
  rw [← hcause]
  exact raises_of_events (congrArg stamp htime) h

/-- The response to the failure of Spur `n` is due: its incident is open and reported, outside a storm, with no test running. -/
structure FailureDue (s : State) (n : Fin 425) : Prop where
  opened : (s.faults.opened.getD 3 none).any (fun i => i.unit == n.val) = true
  storm : s.faults.storm = false
  silent : s.role.silent = false
  atMark : s.atMark = true
  told : (s.col (fieldOf n)).repMark ≠ some s.mark
  failed : (s.spur n).gates.failed = true
  untested : s.testRuns = false

section

variable {s : State} {n : Fin 425}

theorem FailureDue.of_opened {i : Incident} (hopen : s.faults.opened.getD 3 none = some i) (hunit : i.unit = n) (hstorm : s.faults.storm = false)
    (hsilent : s.role.silent = false) (hmark : s.atMark = true) (htold : (s.col (fieldOf n)).repMark ≠ some s.mark)
    (hfailed : (s.spur n).gates.failed = true) (htest : s.testRuns = false) : FailureDue s n :=
  ⟨by rw [hopen]; exact beq_iff_eq.2 hunit, hstorm, hsilent, hmark, htold, hfailed, htest⟩

/-- A Spur that drives its region is not held dark. -/
theorem splitDark_of_region {r : Nat} (h : s.regionOf n = some r) : s.splitDark n = false := by
  unfold State.regionOf at h
  unfold State.splitDark State.dark
  split at h
  · split at h
    · next hown => simp [hown]
    · cases h
  · next hspare => simp [hspare]

/-- No premise of the response is missing. -/
theorem FailureDue.goesOn (h : FailureDue s n) :
    ¬ (!s.atMark || (s.col (fieldOf n)).repMark == some s.mark || !(s.faults.opened.getD 3 none).any (fun i => i.unit == n.val) || s.faults.storm ||
      s.role.silent || !(s.spur n).gates.failed) = true := by
  obtain ⟨hopen, hstorm, hsilent, hmark, htold, hfailed, -⟩ := h
  rw [hopen, hstorm, hsilent, hmark, hfailed]
  simp [htold]

theorem exec_spurFailed_tracks {r : Nat} (hdue : FailureDue s n) (hn : n.val < 400) (hregion : s.regionOf n = some r) (hidle : s.spareIdle (fieldOf n) = true) :
    exec (.spurFailed n) s = .next ((s.track (fieldOf n) r).tellFailed n 1) := by
  have hfree : (s.col (fieldOf n)).spare.track = false := by
    simp only [State.spareIdle, State.spareFree, Bool.and_eq_true, Bool.not_eq_true'] at hidle
    exact hidle.1.1.1.2
  refine (congrArg Host.Outcome.next (if_neg hdue.goesOn)).trans ?_
  simp [State.underTest, hdue.untested, splitDark_of_region hregion, hregion, hn, hfree, hidle]

theorem exec_spurFailed_noSpare {r : Nat} (hdue : FailureDue s n) (hregion : s.regionOf n = some r)
    (hspare : 400 ≤ n.val ∨ (s.spareIdle (fieldOf n) = false ∧ (s.col (fieldOf n)).spare.track = false)) (hlent : s.lentTo r = none) :
    exec (.spurFailed n) s = .next (s.borrowOrDark n r) := by
  refine (congrArg Host.Outcome.next (if_neg hdue.goesOn)).trans ?_
  rcases hspare with hn | ⟨hbusy, hfree⟩
  · simp [State.underTest, hdue.untested, splitDark_of_region hregion, hregion, hlent, Nat.not_lt.2 hn]
  · simp [State.underTest, hdue.untested, splitDark_of_region hregion, hregion, hlent, hbusy, hfree]

theorem exec_spurFailed_noRegion (hdue : FailureDue s n) (hregion : s.regionOf n = none) (hdark : s.splitDark n = false) (htaken : s.splitTaken n = false) :
    exec (.spurFailed n) s = .next ((s.tellFailed n 0).closeIncident 3 n) := by
  refine (congrArg Host.Outcome.next (if_neg hdue.goesOn)).trans ?_
  simp [State.underTest, hdue.untested, hdark, htaken, hregion]

/-- A region with a lender is borrowed, once the field has no other borrow. -/
theorem borrowOrDark_lent {r l : Nat} (hnone : (s.col (fieldOf r)).borrow = none) (hlender : s.lenderFor r none = some l) :
    s.borrowOrDark n r = (s.beginBorrow r l).tellFailed n 2 := by
  simp [State.borrowOrDark, hnone, hlender]

theorem borrowOrDark_dark {r : Nat} (hlender : s.lenderFor r none = none) :
    s.borrowOrDark n r = ((s.goDark r).tellFailed n 3).closeIncident 3 n := by
  simp [State.borrowOrDark, hlender]

/-! ## FAULT_FENCE -/

/-- A Spur that FAULT_FENCE fences: its compute gate closes where its tally mark begins. -/
def fenced (x : Spur) (now : Bool) : Spur :=
  let y := if now then x.setComp true else x
  { y with gates := { y.gates with faultFence := true } }

theorem fenced_comp (x : Spur) (now : Bool) : (fenced x now).gates.comp = (now || x.gates.comp) := by
  cases now
  · rfl
  · rfl

theorem exec_faultFence {r : Fin 400} (hcal : s.cal.cur = none) (htold : s.failureTold (s.driverSpur r) = true) (hno : s.noSpareFor (s.driverSpur r) r = true) :
    exec (.faultFence r) s = .next (s.modSpur (s.driverSpur r) fun x => fenced x (s.atCycle0 (s.driverSpur r))) :=
  congrArg Host.Outcome.next (if_neg (by simp [hcal, htold, hno]))

theorem driverSpur_lt (r : Fin 400) : s.driverSpur r < 425 := by
  have hf := fieldOf_lt (n := r) (by omega)
  unfold State.driverSpur
  split <;> omega

end

/-- Settles O47: the field spare first, then a borrow, and else the region goes dark; the fault fence acts on the Spur that drives the region. -/
theorem failedSpurIsAnsweredBySpareBorrowOrDark : Obligations.FailedSpurIsAnsweredBySpareBorrowOrDark := by
  refine ⟨fun s n i hopen hunit hstorm hsilent hmark htold hfailed htest hn hregion hidle => ?_,
    fun s n i r hopen hunit hstorm hsilent hmark htold hfailed htest hregion hclock hspare hlent hnone => ⟨fun l hlender => ?_, fun hlender => ?_⟩,
    fun s n i hopen hunit hstorm hsilent hmark htold hfailed htest hregion hdark htaken => ?_, fun s r hcal htold hno => ?_⟩
  · have hdue := FailureDue.of_opened hopen hunit hstorm hsilent hmark htold hfailed htest
    have hcol : ((s.track (fieldOf n) n).col (fieldOf n)).spare = { (s.col (fieldOf n)).spare.begin n s.mark with track := true } :=
      congrArg Col.spare (col_modCol_of_lt s (fieldOf_lt n.isLt) _)
    have hspur : (s.track (fieldOf n) n).spur n = s.spur n := spur_modSpur_of_ne _ (by omega) _
    have hcause : ((s.track (fieldOf n) n).spur n).gates.cause = (s.spur n).gates.cause := by rw [hspur]
    exact ⟨_, exec_spurFailed_tracks hdue hn hregion hidle, congrArg Spare.track hcol, congrArg Spare.target hcol,
      tellFailed_raises (t := s.track (fieldOf n) n) rfl hcause fun _ he => he⟩
  · have hdue := FailureDue.of_opened hopen hunit hstorm hsilent hmark htold hfailed htest
    refine ⟨_, exec_spurFailed_noSpare hdue hregion hspare hlent, ?_⟩
    rw [borrowOrDark_lent hnone hlender]
    exact ⟨beginBorrow_col s r l, fun k hk => beginBorrow_held s r l hk,
      tellFailed_raises (beginBorrow_rdg ..) (by rw [spur_of_spurs (beginBorrow_spurs s r l)]) fun _ he => he⟩
  · have hdue := FailureDue.of_opened hopen hunit hstorm hsilent hmark htold hfailed htest
    refine ⟨_, exec_spurFailed_noSpare hdue hregion hspare hlent, ?_⟩
    rw [borrowOrDark_dark hlender]
    have hspurs : (((s.goDark r).tellFailed n 3).closeIncident 3 n).spurs = (s.goDark r).spurs := closeIncident_spurs ..
    have hraised : (((s.goDark r).tellFailed n 3).closeIncident 3 n).raised = ((s.goDark r).tellFailed n 3).raised := closeIncident_raised ..
    dsimp only
    rw [spur_of_spurs hspurs, darkIn_of_spurs hspurs]
    refine ⟨goDark_gates hclock (region_lt r), goDark_darkDue hclock (region_lt r), ?_, tellFailed_raises (goDark_rdg hclock) (goDark_cause hclock n) ?_⟩
    · rw [Raises, hraised]
      exact List.mem_append_left _ (goDark_raises hclock)
    · rw [hraised]
      exact fun _ he => he
  · exact exec_spurFailed_noRegion (.of_opened hopen hunit hstorm hsilent hmark htold hfailed htest) hregion hdark htaken
  · refine ⟨_, exec_faultFence hcal htold hno, ?_⟩
    dsimp only
    rw [spur_modSpur_of_lt s (driverSpur_lt r)]
    exact ⟨fenced_comp .., rfl, rfl⟩

end Sys2Proof.Proofs
end

section
/-! The decision of a Spur at an edge (O16). -/

namespace Sys2Proof.Proofs

open Sys2Proof.Machine

/-- The stretch of an edge with a demand: the demand cut to the cap, and to what the debt leaves below 47 phases (R143, R155). -/
def granted (want cap debt : Nat) : Nat := if 47 < debt + min want cap then 47 - debt else min want cap

theorem granted_le_ceiling {want cap debt : Nat} (h : 0 < granted want cap debt) : debt + granted want cap debt ≤ 47 := by
  unfold granted at *
  split at h <;> split <;> omega

theorem granted_of_room {want cap debt : Nat} (h : debt + min want cap ≤ 47) : granted want cap debt = min want cap := if_neg (Nat.not_lt.2 h)

theorem granted_of_no_room {want cap debt : Nat} (h : 47 < debt + min want cap) : granted want cap debt = 47 - debt := if_pos h

section

variable {demand follow cap debt : Nat}

/-- With a demand the debt rises by the stretch granted, be it 0, and nothing is repaid (R143). -/
theorem decide1_of_demand (h : max demand follow ≠ 0) (repay : Bool) : decide1 demand follow cap debt repay =
    { change := granted (max demand follow) cap debt, notice := BitVec.ofNat 3 (granted (max demand follow) cap debt),
      capped := cap < max demand follow, unmet := 47 < debt + min (max demand follow) cap, own := follow ≤ demand } := by
  unfold decide1
  extract_lets want cut g
  have hg : granted (max demand follow) cap debt = g := rfl
  rw [hg]
  split
  · rfl
  · next hnone =>
    have hzero : g = 0 := by omega
    rw [if_neg (fun hw => h hw.1), hzero]
    simp [want, cut, Nat.pos_of_ne_zero h]

theorem decide1_of_no_demand (h : max demand follow = 0) (repay : Bool) : decide1 demand follow cap debt repay =
    { change := if repay then -1 else 0, notice := if repay then 4 else 0, capped := false, unmet := false, own := true } := by
  obtain ⟨rfl, rfl⟩ : demand = 0 ∧ follow = 0 := by omega
  have hcut : ¬ 0 < if 47 < debt then 47 - debt else 0 := by split <;> omega
  cases repay <;> simp [decide1, hcut]

end

/-- Settles O16: with a demand the decision is `decide1_of_demand`, with none `decide1_of_no_demand`. -/
theorem edgeDecisionStretchesByLargestDemandUnderCapAndCeiling : Obligations.EdgeDecisionStretchesByLargestDemandUnderCapAndCeiling := by
  intro demand follow cap debt repay _ want d
  by_cases hwant : want = 0
  · have hd : d = _ := decide1_of_no_demand hwant repay
    rw [hd, hwant]
    cases repay <;> simp
  · have hd : d = _ := decide1_of_demand hwant repay
    rw [hd]
    refine ⟨fun hpos => ?_, fun _ hroom => ?_, fun _ hfull => ?_, fun h => absurd h hwant, fun h => absurd h hwant, decide_eq_true_iff⟩
    · have hle := granted_le_ceiling (Int.natCast_pos.1 hpos)
      dsimp only
      omega
    · have hgrant := granted_of_room hroom
      exact ⟨congrArg Nat.cast hgrant, congrArg (BitVec.ofNat 3) hgrant, decide_eq_false (Nat.not_lt.2 hroom)⟩
    · have hgrant := granted_of_no_room hfull
      exact ⟨congrArg Nat.cast hgrant, congrArg (BitVec.ofNat 3) hgrant, decide_eq_true hfull⟩

end Sys2Proof.Proofs
end

section
/-! A Saddle's checks, its measurements and its resynchronisation (O24). -/

set_option Elab.async false

namespace Sys2Proof.Proofs

open Sys2Proof.Machine Sys2Proof.Safety Sys2Proof.Laws

/-! ## What the checks of a Saddle leave -/

/-- What a change of a Saddle keeps, changing it in the state keeps. -/
theorem modSad_keeps {β : Type} (p : Saddle → β) (s : State) (i k : Nat) {f : Saddle → Saddle} (h : ∀ x, p (f x) = p x := by exact fun _ => rfl) :
    p ((s.modSad i f).sad k) = p (s.sad k) := by
  rw [sad_modSad]
  split
  · exact h _
  · rfl

/-- A part of a Saddle that its checks leave: its events of the mark, its failure, the counts of its residual skew, and whether it is held. -/
def Unchecked {β : Type} (p : Saddle → β) : Prop := ∀ x l fa di ba ok op re he,
  p { x with raisedNow := l, failed := fa, disableNext := di, skewBad := ba, skewOk := ok, skewOpen := op, retrim := re, held := he } = p x

/-- From `s` to `t` a Saddle has been checked and events were told: the Spurs, the Cols, the time and part `p` of the Saddle stay, and no event is taken back. -/
structure Told {β : Type} (p : Saddle → β) (k : Nat) (s t : State) : Prop where
  spurs : t.spurs = s.spurs
  cols : t.cols = s.cols
  time : t.rdg = s.rdg
  events : ∀ e ∈ s.raised, e ∈ t.raised
  saddle : p (t.sad k) = p (s.sad k)

section

variable {β : Type} {p : Saddle → β} {k : Nat} {s₀ s : State}

theorem Told.refl (s : State) : Told p k s s := ⟨rfl, rfl, rfl, fun _ he => he, rfl⟩

theorem told_when {b : Bool} {f : State → State} (h : Told p k s₀ s) (hf : ∀ t, Told p k s₀ t → Told p k s₀ (f t)) : Told p k s₀ (s.when b f) := by
  unfold State.when
  split
  · exact hf s h
  · exact h

theorem told_modSad {i : Nat} {f : Saddle → Saddle} (h : Told p k s₀ s) (hf : ∀ x, p (f x) = p x) : Told p k s₀ (s.modSad i f) :=
  ⟨h.spurs, h.cols, h.time, h.events, (modSad_keeps p s i k hf).trans h.saddle⟩

theorem told_raise {ev kind idx detail} (h : Told p k s₀ s) : Told p k s₀ (s.raise ev kind idx detail) :=
  ⟨h.spurs, h.cols, h.time, fun e he => List.mem_append_left _ (h.events e he), h.saddle⟩

theorem told_setBit {a i} (h : Told p k s₀ s) : Told p k s₀ (s.setBit a i) := ⟨h.spurs, h.cols, h.time, h.events, h.saddle⟩

theorem told_incident {i} (h : Told p k s₀ s) : Told p k s₀ (s.incident i) :=
  ⟨(incident_spurs ..).trans h.spurs, (incident_cols ..).trans h.cols, (incident_rdg ..).trans h.time, by rw [incident_raised]; exact h.events,
    (congrArg p (incident_at_sad ..)).trans h.saddle⟩

variable (hp : Unchecked p)

include hp

theorem told_sadEvent {i ev detail} (h : Told p k s₀ s) : Told p k s₀ (s.sadEvent i ev detail) := by
  unfold State.sadEvent
  split
  · exact h
  · exact told_raise (told_modSad h fun x => hp x ..)

theorem told_sadFail {i} (h : Told p k s₀ s) : Told p k s₀ (s.sadFail i) := by
  unfold State.sadFail
  split
  · exact h
  · exact told_incident (told_setBit (told_sadEvent hp (told_modSad h fun x => hp x ..)))

theorem told_sadError {i ev flag} (hlast : ∀ x m, p { x with lastErr := m } = p x) (h : Told p k s₀ s) : Told p k s₀ (s.sadError i ev flag) := by
  have ht : Told p k s₀ (((s.sadEvent i ev []).sadFlag i flag).modSad i fun x => { x with lastErr := some s.mark }) :=
    told_modSad (told_setBit (told_sadEvent hp h)) fun x => hlast x _
  unfold State.sadError
  extract_lets m again t
  split
  · exact told_sadFail hp ht
  · exact ht

theorem told_noticeSlip {i lo hi} (h : Told p k s₀ s) : Told p k s₀ (s.noticeSlip i lo hi) := by
  unfold State.noticeSlip
  extract_lets t u
  have ht : Told p k s₀ t := told_setBit (told_sadEvent hp h)
  have hu : Told p k s₀ u := by
    unfold u
    split
    · exact told_setBit ht
    · exact ht
  split
  · exact told_setBit hu
  · exact hu

theorem told_skewCheck {i} (h : Told p k s₀ s) : Told p k s₀ (s.skewCheck i) :=
  told_when (told_when (told_modSad h fun x => hp x ..) fun _ ht => told_setBit (told_sadEvent hp ht)) fun _ ht => told_sadFail hp ht

end

section

variable {s : State} {k : Fin 760}

theorem sadError_lastErr (ev : Ev) (flag : Nat) : ((s.sadError k ev flag).sad k).lastErr = some s.mark := by
  unfold State.sadError
  extract_lets m again t
  have ht : (t.sad k).lastErr = some m := congrArg Saddle.lastErr (sad_modSad_self ..)
  split
  · exact (told_sadFail (p := Saddle.lastErr) (fun _ _ _ _ _ _ _ _ _ => rfl) (Told.refl t)).saddle.trans ht
  · exact ht

/-- A Saddle's event is raised at most once a mark. -/
theorem sadEvent_raises {ev : Ev} (h : (s.sad k).raisedNow.contains ev = false) (detail : List Byte) :
    Raises s (s.sadEvent k ev detail) ev ev.sev 3 k detail := by
  unfold State.sadEvent
  rw [if_neg (by rw [h]; exact Bool.false_ne_true)]
  exact raises_of_events (t := s.modSad k fun x => { x with raisedNow := x.raisedNow ++ [ev] }) rfl fun _ he => he

theorem sadError_raises {ev : Ev} (flag : Nat) (h : (s.sad k).raisedNow.contains ev = false) : Raises s (s.sadError k ev flag) ev ev.sev 3 k [] := by
  unfold State.sadError
  extract_lets m again t
  have ht : Raises s t ev ev.sev 3 k [] := sadEvent_raises h []
  split
  · exact (told_sadFail (p := fun _ => ()) (k := k) (fun _ _ _ _ _ _ _ _ _ => rfl) (Told.refl t)).events _ ht
  · exact ht

end

/-! ## The resynchronisation at cycle 8 -/

/-- What a measurement moves of a Saddle beside its peaks: the residual skew with its remainder, DIFF, and the mark of the last error. -/
def measured (x : Saddle) : Int × Int × Int × Option Mark := (x.rbar, x.rfrac, x.diff, x.lastErr)

theorem measured_unchecked : Unchecked measured := fun _ _ _ _ _ _ _ _ _ => rfl

/-- What the resynchronisation reads of a Saddle. -/
def skewParts (x : Saddle) : Int × Int × Bool × Lane × Lane × Nat × Nat := (x.rbar, x.rfrac, x.holdTrack, x.toLo, x.toHi, x.factor false, x.factor true)

theorem skewParts_unchecked : Unchecked skewParts := fun _ _ _ _ _ _ _ _ _ => rfl

theorem trackSkew_moves {x : Saddle} {e : Int} (hfree : x.holdTrack = false) (hlo : -16 ≤ e) (hhi : e ≤ 16) :
    16 * (x.trackSkew e).rbar + (x.trackSkew e).rfrac = 16 * x.rbar + x.rfrac + e := by
  unfold Saddle.trackSkew
  rw [if_neg (by simp [hfree, hlo, hhi])]
  exact Int.mul_ediv_add_emod ..

theorem trackSkew_stays {x : Saddle} {e : Int} (h : x.holdTrack = true ∨ e < -16 ∨ 16 < e) : x.trackSkew e = x := by
  unfold Saddle.trackSkew
  rw [if_pos (by simpa [or_assoc, or_comm (a := e < -16)] using h)]

theorem trackSkew_keeps {β : Type} (p : Saddle → β) (h : ∀ x r q, p { x with rbar := r, rfrac := q } = p x) (x : Saddle) (e : Int) : p (x.trackSkew e) = p x := by
  unfold Saddle.trackSkew
  split
  · rfl
  · exact h ..

theorem modRelay_keeps {β : Type} (p : Saddle → β) (h : ∀ x lo hi, p { x with toLo := lo, toHi := hi } = p x) (x : Saddle) (k b : Nat) (f : Int → Int) :
    p (x.modRelay k b f) = p x := by
  unfold Saddle.modRelay
  split
  · exact h x x.toLo _
  · exact h x _ x.toHi

section

variable {γ : Type} (q : State → γ) (hsad : ∀ t i b f, q (t.modSad i fun x => x.modRelay i b f) = q t) (hspur : ∀ t n f, q (t.modSpur n f) = q t)

include hspur

theorem resyncLender_keeps (s : State) (b : Nat) : q (s.resyncLender b) = q s := by
  unfold State.resyncLender
  split
  · exact hspur ..
  · rfl

include hsad

theorem resync_keeps (s : State) (k r : Nat) (v8 : Int) : q (s.resync k r v8).1 = q s := by
  unfold State.resync
  extract_lets v n w old
  split
  · rfl
  · split
    · rfl
    · exact hsad ..
  · exact hspur ..

end

/-- The part of a measurement that neither debt nor the residual skew explains (R205). -/
def skewError (s : State) (k : Nat) (m : Int) : Int := m - 16 * s.skewDebt k / ((s.sad k).factor false : Int) - (s.sad k).rbar

/-- The residual skew tracked and the measurement kept as DIFF. -/
def tracked (s : State) (k : Nat) (m : Int) : State := s.modSad k fun y => { y.trackSkew (skewError s k m) with diff := m }

/-- The estimates of both sides of a Saddle replaced, for the values `a` and `b` that the measurement gives for cycle 8. -/
def restated (s : State) (k : Nat) (a b : Int) : State :=
  (((s.resync k (sadLow k) a).1.resync k (sadHigh k) b).1.resyncLender (sadLow k)).resyncLender (sadHigh k)

/-- The resynchronisation before its checks. -/
def resynced (s : State) (k : Nat) (m : Int) : State :=
  let t := tracked s k m
  restated t k (roundDiv ((m - (t.sad k).rbar) * (s.sad k).factor false) 16) (roundDiv (-(m - (t.sad k).rbar) * (s.sad k).factor true) 16)

theorem tracked_sad (s : State) (k : Fin 760) (m : Int) : (tracked s k m).sad k = { (s.sad k).trackSkew (skewError s k m) with diff := m } := sad_modSad_self ..

theorem told_resyncAll {β : Type} {p : Saddle → β} (hp : Unchecked p) (s : State) (k : Nat) (m : Int) : Told p k (resynced s k m) (s.resyncAll k m) := by
  unfold State.resyncAll
  extract_lets x lo hi e t net a b t' u
  have hu : Told p k (resynced s k m) u := told_when (Told.refl _) fun _ h => told_noticeSlip hp h
  exact told_when (told_skewCheck hp hu) fun _ h => told_modSad h fun x => hp x ..

theorem resynced_keeps {γ : Type} (q : State → γ) (hsad : ∀ t i b f, q (t.modSad i fun x => x.modRelay i b f) = q t) (hspur : ∀ t n f, q (t.modSpur n f) = q t)
    (s : State) (k : Nat) (m : Int) : q (resynced s k m) = q (tracked s k m) := by
  unfold resynced restated
  rw [resyncLender_keeps q hspur, resyncLender_keeps q hspur, resync_keeps q hsad hspur, resync_keeps q hsad hspur]

theorem resynced_raised (s : State) (k : Nat) (m : Int) : (resynced s k m).raised = s.raised :=
  resynced_keeps State.raised (fun _ _ _ _ => rfl) (fun _ _ _ => rfl) s k m

theorem resynced_measured (s : State) (k : Fin 760) (m : Int) : measured ((resynced s k m).sad k) =
    (((s.sad k).trackSkew (skewError s k m)).rbar, ((s.sad k).trackSkew (skewError s k m)).rfrac, m, (s.sad k).lastErr) := by
  rw [resynced_keeps (fun t => measured (t.sad k)) (fun t i b f => modSad_keeps measured t i k fun x => modRelay_keeps measured (fun _ _ _ => rfl) x i b f) (fun _ _ _ => rfl),
    tracked_sad, measured, trackSkew_keeps Saddle.lastErr fun _ _ _ => rfl]

/-! ## Two regions driven by their own Spurs -/

/-- Both regions of a Saddle are driven by their own Spurs, and neither is lent. -/
structure BothOwn (s : State) (k : Nat) : Prop where
  low : (s.spur (sadLow k)).gates.driver = .own
  high : (s.spur (sadHigh k)).gates.driver = .own
  lowKept : s.lentTo (sadLow k) = none
  highKept : s.lentTo (sadHigh k) = none

theorem sadLow_ne_sadHigh (k : Nat) : sadLow k ≠ sadHigh k := by
  unfold sadHigh
  split <;> omega

theorem sadDir_lt (k n : Nat) : sadDir k n < 4 := by
  unfold sadDir
  split <;> split <;> omega

theorem leads_get_mod {d : Nat} (h : d < 4) (l : Leads) (f : Int → Int) : (l.mod d f).get d = f (l.get d) := by
  interval_cases d <;> rfl

/-- A Spur with its estimate in one direction replaced. -/
def estimated (x : Spur) (d : Nat) (v : Int) : Spur := { x with str := { x.str with leads := x.str.leads.mod d fun _ => v } }

theorem BothOwn.of_spurs {s t : State} {k : Nat} (h : BothOwn s k) (hs : t.spurs = s.spurs) (hc : t.cols = s.cols) : BothOwn t k := by
  obtain ⟨hlow, hhigh, hlowKept, hhighKept⟩ := h
  have hlent : ∀ r, t.lentTo r = s.lentTo r := fun r => by simp only [State.lentTo, State.col, hc]
  have hspur := spur_of_spurs hs
  exact ⟨(congrArg (fun x : Spur => x.gates.driver) (hspur _)).trans hlow, (congrArg (fun x : Spur => x.gates.driver) (hspur _)).trans hhigh,
    (hlent _).trans hlowKept, (hlent _).trans hhighKept⟩

theorem BothOwn.estimated {s : State} {k : Nat} (h : BothOwn s k) (n d : Nat) (v : Int) : BothOwn (s.modSpur n fun x => estimated x d v) k :=
  ⟨(modSpur_keeps s (fun x => x.gates.driver) ..).trans h.low, (modSpur_keeps s (fun x => x.gates.driver) ..).trans h.high, h.lowKept, h.highKept⟩

theorem resync_own {s : State} {r : Nat} (h : (s.spur r).gates.driver = .own) (hkept : s.lentTo r = none) (k : Nat) (v8 : Int) :
    (s.resync k r v8).1 = s.modSpur r fun x => estimated x (sadDir k r) (v8 + ((s.sad k).lane (sadHigh k == r)).since8) := by
  simp [State.resync, h, hkept, driverSpur_of_own h, estimated]

theorem resyncLender_own {s : State} {r : Nat} (h : (s.spur r).gates.driver = .own) : s.resyncLender r = s := by
  simp [State.resyncLender, h]

section

variable {s : State} {k : Fin 760} {m : Int}

/-- D of R205 for own Spurs is the lower one's estimate as it stood at cycle 8. -/
theorem skewError_own (h : BothOwn s k) (m : Int) : skewError s k m =
    m - 16 * ((s.spur (sadLow k)).str.leads.get (sadDir k (sadLow k)) - (s.sad k).toLo.since8) / ((s.sad k).factor false : Int) - (s.sad k).rbar := by
  simp [skewError, State.skewDebt, h.low, h.lowKept, driverSpur_of_own h.low]

theorem resync_low_own (h : BothOwn s k) (a : Int) : (s.resync k (sadLow k) a).1 =
    s.modSpur (sadLow k) fun x => estimated x (sadDir k (sadLow k)) (a + (s.sad k).toLo.since8) := by
  rw [resync_own h.low h.lowKept, beq_false_of_ne (sadLow_ne_sadHigh k).symm]
  rfl

theorem resync_high_own (h : BothOwn s k) (b : Int) : (s.resync k (sadHigh k) b).1 =
    s.modSpur (sadHigh k) fun x => estimated x (sadDir k (sadHigh k)) (b + (s.sad k).toHi.since8) := by
  rw [resync_own h.high h.highKept, beq_self_eq_true]
  rfl

/-- With own Spurs on both sides each estimate is the value for cycle 8 and what came after it. -/
theorem restated_leads (h : BothOwn s k) (a b : Int) :
    ((restated s k a b).spur (sadLow k)).str.leads.get (sadDir k (sadLow k)) = a + (s.sad k).toLo.since8 ∧
      ((restated s k a b).spur (sadHigh k)).str.leads.get (sadDir k (sadHigh k)) = b + (s.sad k).toHi.since8 := by
  have hne := sadLow_ne_sadHigh k
  have hlow : sadLow k < 425 := (sadLow_lt k).trans (by decide)
  have hhigh : sadHigh k < 425 := (sadHigh_lt k).trans (by decide)
  have hmid := h.estimated (sadLow k) (sadDir k (sadLow k)) (a + (s.sad k).toLo.since8)
  have hend := hmid.estimated (sadHigh k) (sadDir k (sadHigh k)) (b + (s.sad k).toHi.since8)
  unfold restated
  rw [resync_low_own h, resync_high_own hmid, modSpur_at_sad, resyncLender_own hend.low, resyncLender_own hend.high, spur_modSpur_of_ne _ hne.symm,
    spur_modSpur_of_lt _ hhigh, spur_modSpur_of_lt _ hlow]
  exact ⟨leads_get_mod (sadDir_lt ..) .., leads_get_mod (sadDir_lt ..) ..⟩

/-- The estimates are the measurement less the residual skew, with the sign of their side, rounded to whole phases (R147). -/
theorem resynced_leads (h : BothOwn s k) {r : Int} (hr : r = ((s.sad k).trackSkew (skewError s k m)).rbar) :
    ((resynced s k m).spur (sadLow k)).str.leads.get (sadDir k (sadLow k)) = roundDiv ((m - r) * (s.sad k).factor false) 16 + (s.sad k).toLo.since8 ∧
      ((resynced s k m).spur (sadHigh k)).str.leads.get (sadDir k (sadHigh k)) = roundDiv (-(m - r) * (s.sad k).factor true) 16 + (s.sad k).toHi.since8 := by
  have ht : BothOwn (tracked s k m) k := h.of_spurs rfl rfl
  have hlo : ((tracked s k m).sad k).toLo = (s.sad k).toLo := by rw [tracked_sad]; exact trackSkew_keeps Saddle.toLo (fun _ _ _ => rfl) ..
  have hhi : ((tracked s k m).sad k).toHi = (s.sad k).toHi := by rw [tracked_sad]; exact trackSkew_keeps Saddle.toHi (fun _ _ _ => rfl) ..
  have hrbar : ((tracked s k m).sad k).rbar = r := by rw [tracked_sad, hr]
  rw [← hrbar, ← hlo, ← hhi]
  exact restated_leads ht ..

end

/-! ## SADDLE_MEASURE -/

/-- A measurement is due and taken: on a usable Saddle with both regions clocked, outside a native window (R204, R207, R211). -/
structure MeasureDue (s : State) (k : Fin 760) (m : Int) (p : Mark × Nat) : Prop where
  lo : -512 ≤ m
  hi : m ≤ 512
  due : s.measureDue k = some p
  usable : (s.sad k).usable = true
  noWindow : s.cal.cur = none
  clockedLow : s.clocked (sadLow k) = true
  clockedHigh : s.clocked (sadHigh k) = true

/-- The measurement noted: its number, and the Saddle's peak and shortest interval. -/
def noted (s : State) (k : Nat) (m : Int) (p : Mark × Nat) (v : Nat) : State :=
  s.modSad k fun x => { x with
    meas := some p, peakNow := max x.peakNow (m - (s.sad k).rbar).natAbs, minNow := if sadSeam k then min x.minNow (min 255 v) else x.minNow }

/-- The window of 6.5 phases checked (R219). -/
def windowChecked (s : State) (k : Nat) (m : Int) (p : Mark × Nat) (v : Nat) : State :=
  (noted s k m p v).when (!sadSeam k && decide (104 < (m - (s.sad k).rbar).natAbs)) fun u => u.sadError k .windowExceeded 2

section

variable {s : State} {k : Fin 760} {m : Int} {p : Mark × Nat}

theorem exec_saddleMeasure (h : MeasureDue s k m p) (v : Nat) : exec (.saddleMeasure k m p.2 v) s =
    .next (if p.2 = 0 then (windowChecked s k m p v).resyncAll k m else windowChecked s k m p v) := by
  obtain ⟨hlo, hhi, hdue, husable, hcal, hlow, hhigh⟩ := h
  have hsat : satInt 512 m = m := by unfold satInt; omega
  change execSaddleMeasure k m p.2 v s = _
  simp [execSaddleMeasure, windowChecked, noted, hdue, husable, hcal, hlow, hhigh, hsat]

theorem exec_saddleMeasure_none {i : Nat} (h : (s.measureDue k).all (fun p => p.2 != i) = true) (m : Int) (v : Nat) : exec (.saddleMeasure k m i v) s = .next s := by
  change execSaddleMeasure k m i v s = _
  unfold execSaddleMeasure
  cases hdue : s.measureDue k with
  | none => rfl
  | some q =>
    have hq : (q.2 != i) = true := by simpa [hdue] using h
    simp [hq]

theorem windowChecked_told (s : State) (k : Fin 760) (m : Int) (p : Mark × Nat) (v : Nat) : Told skewParts k s (windowChecked s k m p v) :=
  told_when (told_modSad (Told.refl s) fun _ => rfl) fun _ ht => told_sadError skewParts_unchecked (fun _ _ => rfl) ht

theorem windowChecked_inside (h : sadSeam k = true ∨ (m - (s.sad k).rbar).natAbs ≤ 104) (v : Nat) : windowChecked s k m p v = noted s k m p v := by
  refine when_false ?_ ..
  rcases h with h | h
  · simp [h]
  · simp [Nat.not_lt.2 h]

theorem windowChecked_exceeded (hseam : sadSeam k = false) (hdev : 104 < (m - (s.sad k).rbar).natAbs)
    (hfirst : (s.sad k).raisedNow.contains .windowExceeded = false) (v : Nat) :
    ((windowChecked s k m p v).sad k).lastErr = some s.mark ∧ Raises s (windowChecked s k m p v) .windowExceeded .degraded 3 k [] := by
  have hout : windowChecked s k m p v = (noted s k m p v).sadError k .windowExceeded 2 := when_true (by simp [hseam, hdev]) ..
  have hraised : ((noted s k m p v).sad k).raisedNow = (s.sad k).raisedNow := modSad_keeps Saddle.raisedNow ..
  rw [hout]
  exact ⟨sadError_lastErr .., sadError_raises (s := noted s k m p v) 2 (by rw [hraised]; exact hfirst)⟩

/-- The resynchronisation leaves the mark of the last error, and takes no event back. -/
theorem resyncAll_lastErr (s : State) (k : Fin 760) (m : Int) :
    ((s.resyncAll k m).sad k).lastErr = (s.sad k).lastErr ∧ ∀ e ∈ s.raised, e ∈ (s.resyncAll k m).raised := by
  have htold := told_resyncAll measured_unchecked s k m
  refine ⟨congrArg (fun x => x.2.2.2) (htold.saddle.trans (resynced_measured s k m)), fun e he => htold.events e ?_⟩
  rwa [resynced_raised]

/-- The tracker reads of a Saddle no more than those parts. -/
theorem trackSkew_of_parts {x y : Saddle} (h : skewParts x = skewParts y) (e : Int) :
    (x.trackSkew e).rbar = (y.trackSkew e).rbar ∧ (x.trackSkew e).rfrac = (y.trackSkew e).rfrac := by
  simp only [skewParts, Prod.mk.injEq] at h
  obtain ⟨hrbar, hrfrac, hhold, -⟩ := h
  unfold Saddle.trackSkew
  rw [hrbar, hrfrac, hhold]
  split
  · exact ⟨hrbar, hrfrac⟩
  · exact ⟨rfl, rfl⟩

/-- With own Spurs on both sides: what the resynchronisation makes of the Saddle and the Spurs as they stood in `s`, where since then the Saddle has only been
checked. -/
theorem resyncAll_own {u : State} (h : BothOwn s k) (ht : Told skewParts k s u) (m : Int) :
    let x := (s.sad k).trackSkew (skewError s k m)
    let t := u.resyncAll k m
    let y := t.sad k
    y.diff = m ∧ y.rbar = x.rbar ∧ y.rfrac = x.rfrac ∧
      (t.spur (sadLow k)).str.leads.get (sadDir k (sadLow k)) = roundDiv ((m - y.rbar) * (s.sad k).factor false) 16 + (s.sad k).toLo.since8 ∧
      (t.spur (sadHigh k)).str.leads.get (sadDir k (sadHigh k)) = roundDiv (-(m - y.rbar) * (s.sad k).factor true) 16 + (s.sad k).toHi.since8 := by
  intro x t y
  have hu : BothOwn u k := h.of_spurs ht.spurs ht.cols
  have hparts := ht.saddle
  simp only [skewParts, Prod.mk.injEq] at hparts
  obtain ⟨hrbar, -, -, htoLo, htoHi, hfactorLow, hfactorHigh⟩ := hparts
  have herror : skewError u k m = skewError s k m := by
    rw [skewError_own hu, skewError_own h, spur_of_spurs ht.spurs, hfactorLow, hrbar, htoLo]
  have htold := told_resyncAll measured_unchecked u k m
  have hy : measured y = _ := htold.saddle.trans (resynced_measured u k m)
  simp only [measured, Prod.mk.injEq] at hy
  obtain ⟨hyr, hyf, hyd, -⟩ := hy
  obtain ⟨hlow, hhigh⟩ := resynced_leads hu hyr
  obtain ⟨hxr, hxf⟩ := trackSkew_of_parts ht.saddle (skewError s k m)
  rw [herror] at hyr hyf
  rw [spur_of_spurs htold.spurs, spur_of_spurs htold.spurs, ← hfactorLow, ← hfactorHigh, ← htoLo, ← htoHi]
  exact ⟨hyd, hyr.trans hxr, hyf.trans hxf, hlow, hhigh⟩

/-! ## SADDLE_DISABLE -/

theorem exec_saddleDisable (hans : s.answers (sadAddr k 0) = true) (hopen : s.locked = false) : exec (.saddleDisable k true) s =
    .next (s.modSad k fun x => { x with disable := true, disableNext := true, enableNext := false }) :=
  congrArg Host.Outcome.next (take_rwl_of_open hans hopen ..)

theorem winOf_of_sad {a : Nat} (hlo : 0x80000 ≤ a) (hhi : a < 0x97C00) : winOf a = .sad ((a - 0x80000) / 0x80) ((a - 0x80000) % 0x80) := by
  unfold winOf
  grind

theorem winOf_sadAddr (k : Fin 760) : winOf (sadAddr k 0) = .sad k 0 := by
  have hk := k.isLt
  have hlo : 0x80000 ≤ sadAddr k 0 := Nat.le_add_right_of_le (Nat.le_add_right ..)
  have hhi : sadAddr k 0 < 0x97C00 := by simp only [sadAddr]; omega
  have hdiv : (sadAddr k 0 - 0x80000) / 0x80 = k := by simp only [sadAddr]; omega
  have hmod : (sadAddr k 0 - 0x80000) % 0x80 = 0 := by simp only [sadAddr]; omega
  rw [winOf_of_sad hlo hhi, hdiv, hmod]

theorem exec_saddleDisable_locked (hans : s.answers (sadAddr k 0) = true) (hlocked : s.locked = true) : exec (.saddleDisable k true) s =
    .next (s.raise .cfgLocked 3 k (le 4 (sadAddr k 0) ++ le 4 1)) := by
  change execSaddleDisable k true s = _
  simp [execSaddleDisable, State.take, hans, hlocked, State.cfgEvent, State.ownerOf, winOf_sadAddr]

end

/-- Settles O24: a measurement is noted and checked against the window; the one of cycle 8 resynchronises, `resyncAll_own` for own Spurs. -/
theorem saddleMeasuresTracksAndResynchronises : Obligations.SaddleMeasuresTracksAndResynchronises := by
  refine ⟨fun s k m v p hlo hhi hdue hlater husable hcal hlow hhigh hin => ?_,
    fun s k m v p hlo hhi hdue husable hcal hlow hhigh hseam hdev hfirst => ?_,
    fun s k m v p hlo hhi hdue husable hcal hlow hhigh hownLow hownHigh hkeptLow hkeptHigh => ?_,
    fun s k m i v h => exec_saddleMeasure_none h m v, fun s k => exec_saddleDisable, fun s k => exec_saddleDisable_locked⟩
  · rw [exec_saddleMeasure ⟨hlo, hhi, hdue, husable, hcal, hlow, hhigh⟩, if_neg hlater, windowChecked_inside hin]
    rfl
  · refine ⟨_, exec_saddleMeasure ⟨hlo, hhi, hdue, husable, hcal, hlow, hhigh⟩ v, ?_⟩
    obtain ⟨hlast, htold⟩ := windowChecked_exceeded (p := p) hseam hdev hfirst v
    split
    · obtain ⟨hkept, hevents⟩ := resyncAll_lastErr (windowChecked s k m p v) k m
      exact ⟨hkept.trans hlast, hevents _ htold⟩
    · exact ⟨hlast, htold⟩
  · have hown : BothOwn s k := ⟨hownLow, hownHigh, hkeptLow, hkeptHigh⟩
    obtain ⟨hdiff, hrbar, hrfrac, hleadLow, hleadHigh⟩ := resyncAll_own hown (windowChecked_told s k m (p, 0) v) m
    rw [skewError_own hown] at hrbar hrfrac
    refine ⟨_, exec_saddleMeasure (p := (p, 0)) ⟨hlo, hhi, hdue, husable, hcal, hlow, hhigh⟩ v, hdiff,
      fun hfree hge hle => ?_, fun hstay => ?_, hleadLow, hleadHigh⟩
    · exact (congrArg₂ (16 * · + ·) hrbar hrfrac).trans (trackSkew_moves hfree hge hle)
    · exact hrbar.trans (congrArg Saddle.rbar (trackSkew_stays hstay))

end Sys2Proof.Proofs
end

section
/-! A borrow: its wait for a quiet mark, its connection and its end (O48). -/

set_option Elab.async false

namespace Sys2Proof.Proofs

open Sys2Proof.Machine Sys2Proof.Safety Sys2Proof.Laws

/-! ## The quiet mark -/

/-- The switch mark of a borrow fixed at the lender's present tally mark (R216, step 2). -/
def switchFixed (s : State) (f : Nat) (b : Borrow) : State :=
  s.modCol f fun c => { c with borrow := some { b with ready := true, quietAt := (s.spur (s.driverSpur b.lender)).gen.tallyMark } }

section

variable {s : State} {f : Fin 25} {b : Borrow}

theorem exec_borrowQuietMark (hborrow : (s.col f).borrow = some b) (hwaits : b.connected = false) (hready : b.ready = false)
    (hat : s.atCycle0 (s.driverSpur b.lender) = true) : exec (.borrowQuietMark f) s = .next (if s.quietMark b.region then switchFixed s f b
      else if 64 ≤ s.since b.since then (switchFixed s f b).raise .borrowForced 3 (sadBetween b.region b.lender) (le 2 b.lender) else s) := by
  change execBorrowQuietMark f s = _
  simp [execBorrowQuietMark, switchFixed, hborrow, hwaits, hready, hat]

end

/-! ## The neighbours' caps -/

/-- A Spur with the cap of 2 phases, its estimate in one direction at 0. -/
def cappedToward (x : Spur) (d : Nat) : Spur :=
  { x with str := { x.str with cap2 := true, cap2End := false, leads := x.str.leads.mod d fun _ => 0 } }

/-- The driver of a borrowed region's neighbour gets the cap of 2 phases (R153, R216). -/
def capNeighbour (b : Nat) (u : State) (j : Nat) : State :=
  match u.clockedBy (sadOther j b) with
  | none => u
  | some n => u.modSpur n fun x => cappedToward x (sadDir j (sadOther j b))

/-- A Spur has the cap of 2 phases, with an estimate of 0 in direction `d`. -/
def CappedAt (d : Nat) (x : Spur) : Prop := x.str.cap2 = true ∧ x.str.leads.get d = 0

theorem leads_get_mod_zero {d : Nat} {l : Leads} (h : l.get d = 0) (i : Nat) : (l.mod i fun _ => 0).get d = 0 := by
  unfold Leads.get at *
  split at h <;> simp [Leads.mod, Leads.map, h]

theorem cappedAt_cappedToward {d : Nat} {x : Spur} (h : CappedAt d x) (i : Nat) : CappedAt d (cappedToward x i) := ⟨rfl, leads_get_mod_zero h.2 i⟩

/-- An update in a list establishes what the updates after it keep, given what those before it keep. -/
theorem each_establishes {α : Type} {P Q : State → Prop} {f : State → α → State} (hQ : ∀ t a, Q t → Q (f t a)) (hP : ∀ t a, P t → P (f t a))
    {l : List α} {a : α} (ha : a ∈ l) (hfa : ∀ t, Q t → P (f t a)) {s : State} (hs : Q s) : P (s.each l f) := by
  induction l generalizing s with
  | nil => cases ha
  | cons x l ih =>
    rw [each_cons]
    rcases List.mem_cons.1 ha with rfl | hl
    · exact each_preserves P hP (hfa s hs) l
    · exact ih hl (hQ s x hs)

section

variable (b : Nat)

theorem capNeighbour_keeps {γ : Type} (q : State → γ) (hq : ∀ t n d, q (t.modSpur n fun x => cappedToward x d) = q t) (t : State) (j : Nat) :
    q (capNeighbour b t j) = q t := by
  unfold capNeighbour
  split
  · rfl
  · exact hq ..

theorem capNeighbour_gates (n : Nat) (t : State) (j : Nat) : ((capNeighbour b t j).spur n).gates = (t.spur n).gates :=
  capNeighbour_keeps b (fun u => (u.spur n).gates) (fun u i _ => modSpur_keeps u Spur.gates i n) t j

theorem capNeighbour_cappedAt (n d : Nat) (t : State) (j : Nat) (h : CappedAt d (t.spur n)) : CappedAt d ((capNeighbour b t j).spur n) := by
  unfold capNeighbour
  split
  · exact h
  · rw [spur_modSpur]
    split
    · exact cappedAt_cappedToward h _
    · exact h

theorem capNeighbour_own {l j : Nat} {t : State} (hother : sadOther j b = l) (hl : l < 425) (hown : (t.spur l).gates.driver = .own) :
    CappedAt (sadDir j l) ((capNeighbour b t j).spur l) := by
  have hclock : t.clockedBy (sadOther j b) = some l := by rw [hother, State.clockedBy, hown]
  rw [capNeighbour, hclock, hother]
  dsimp only
  rw [spur_modSpur_of_lt _ hl]
  exact ⟨rfl, leads_get_mod (sadDir_lt ..) ..⟩

end

/-! ## The path connected -/

/-- The borrow `b` over Saddle `k` is connected with SLIP `v` (R216, steps 3 and 4). -/
structure Borrowed (b : Borrow) (k : Fin 760) (v : Int) (t : State) : Prop where
  driver : (t.spur b.region).gates.driver = .borrow b.lender
  comp : (t.spur b.region).gates.comp = true
  fence : (t.spur b.region).gates.faultFence = true
  active : (t.sad k).active = true
  lends : (t.sad k).borrow = if sadLow k = b.lender then 1 else 2
  slip : (t.sad k).slip = v
  capped : CappedAt (sadDir k b.lender) (t.spur b.lender)

theorem sadOther_ne (k n : Nat) : sadOther k n ≠ n := by
  unfold sadOther
  split
  · next h => exact fun hhigh => sadLow_ne_sadHigh k (h.trans hhigh.symm)
  · next h => exact h

/-- What changing one Saddle keeps, changing those of a region keeps. -/
theorem modSadsOf_keeps {γ : Type} (q : State → γ) {g : Saddle → Saddle} (s : State) (r : Nat) (hq : ∀ t j, q (t.modSad j g) = q t := by exact fun _ _ => rfl) :
    q (s.modSadsOf r g) = q s := each_keeps q hq s _

section

variable {s : State} {b : Borrow} {k : Fin 760} {v : Int}

theorem connect_rdg (s : State) (b : Borrow) (v : Int) : (s.connect b v).rdg = s.rdg := by
  unfold State.connect
  extract_lets f k t₀ t₁ t₂ t₃ t₄
  have h₀ : t₀.rdg = s.rdg := by
    unfold t₀
    split <;> rfl
  have h₂ : t₂.rdg = t₁.rdg := modSadsOf_keeps State.rdg ..
  have h₄ : t₄.rdg = t₃.rdg := each_keeps State.rdg (capNeighbour_keeps _ State.rdg fun _ _ _ => rfl) ..
  exact h₄.trans (h₂.trans h₀)

theorem connect_borrowed (hregion : b.region < 400) (hbetween : sadBetween b.region b.lender = k) (hother : sadOther k b.region = b.lender)
    (hk : k.val ∈ sadsOf b.region) (hlender : b.lender < 400) (hown : (s.spur b.lender).gates.driver = .own) : Borrowed b k v (s.connect b v) := by
  have hne : b.region ≠ b.lender := hother ▸ (sadOther_ne k b.region).symm
  unfold State.connect
  rw [hbetween]
  extract_lets f k' t₀ t₁ t₂ t₃ t₄
  have h₀ : t₀.spurs = s.spurs := by
    unfold t₀
    split <;> rfl
  have h₁ : (t₁.spur b.region).gates.driver = .borrow b.lender ∧ (t₁.spur b.region).gates.comp = true ∧ (t₁.spur b.region).gates.faultFence = true := by
    rw [show t₁.spur b.region = _ from spur_modSpur_of_lt t₀ (by omega) _]
    exact ⟨rfl, rfl, rfl⟩
  have hlender₁ : (t₁.spur b.lender).gates.driver = .own := by
    rw [show t₁.spur b.lender = _ from spur_modSpur_of_ne t₀ hne _, spur_of_spurs h₀]
    exact hown
  have h₃ : t₃.spurs = t₁.spurs := modSadsOf_keeps State.spurs ..
  have hsad : t₃.sad k = _ := sad_modSad_self ..
  have hgates : (t₄.spur b.region).gates = (t₁.spur b.region).gates :=
    (each_keeps (fun u => (u.spur b.region).gates) (capNeighbour_gates _ _) ..).trans (congrArg Spur.gates (spur_of_spurs h₃ _))
  have hsads : t₄.sad k = t₃.sad k := each_keeps (fun u => u.sad k) (capNeighbour_keeps _ (fun u => u.sad k) fun _ _ _ => rfl) ..
  have hlender₃ : (t₃.spur b.lender).gates.driver = .own := (congrArg (fun x : Spur => x.gates.driver) (spur_of_spurs h₃ _)).trans hlender₁
  have hcapped : CappedAt (sadDir k b.lender) (t₄.spur b.lender) :=
    each_establishes (Q := fun u => (u.spur b.lender).gates.driver = .own)
      (fun u j hu => (congrArg Gates.driver (capNeighbour_gates b.region b.lender u j)).trans hu)
      (capNeighbour_cappedAt b.region b.lender _) hk (fun u hu => capNeighbour_own b.region hother (by omega) hu) hlender₃
  obtain ⟨hdriver, hcomp, hfence⟩ := h₁
  have hsad₄ := hsads.trans hsad
  exact ⟨(congrArg Gates.driver hgates).trans hdriver, (congrArg Gates.comp hgates).trans hcomp, (congrArg Gates.faultFence hgates).trans hfence,
    congrArg Saddle.active hsad₄, congrArg Saddle.borrow hsad₄, congrArg Saddle.slip hsad₄, hcapped⟩

theorem connect_col (hregion : b.region < 400) : ((s.connect b v).col (fieldOf b.region)).borrow = some { b with ready := true, connected := true } :=
  congrArg Col.borrow (col_modCol_of_lt _ (fieldOf_lt (by omega)) _)

theorem exec_borrowStart {f : Fin 25} {r : Fin 400} (hborrow : (s.col f).borrow = some b) (hwaits : b.connected = false) (hready : b.ready = true)
    (hcal : s.cal.cur = none) (hregion : b.region = r) (hown : (s.spur b.lender).gates.driver = .own) (hat : s.atCycle0 b.lender = true)
    (hlater : Mark.ahead (s.spur b.lender).gen.tallyMark b.quietAt = true) :
    let v := slipOf (s.spur ((s.clockedBy b.region).getD b.region)).gen (s.spur b.lender).gen
    exec (.borrowStart f r) s = .next ((((s.connect b v).raise .borrowStart 3 (sadBetween b.region b.lender) (le 2 b.lender ++ leInt 1 v)).closeIncident 3
      b.region).closeIncident 3 (400 + f)) := by
  change execBorrowStart f r s = _
  simp [execBorrowStart, hborrow, hwaits, hready, hcal, hregion, driverSpur_of_own hown, hat, hlater]

end

/-! ## The region taken back -/

section

variable {s : State} {r : Fin 400}

/-- The region's own Spur drives it again, with the debt of the Spur that clocked it, and its fault fence is lifted (R218, R453). -/
theorem unborrow_spur (s : State) (r : Fin 400) : ((s.unborrow r).spur r).gates.driver = .own ∧ ((s.unborrow r).spur r).gates.faultFence = false ∧
    ((s.unborrow r).spur r).str.debt = (s.spur ((s.clockedBy r).getD r)).str.debt := by
  unfold State.unborrow
  extract_lets o t rel t₁ t₂
  have h₁ : t₁.spur r = _ := spur_modSpur_of_lt t (region_lt r) _
  have h₂ : t₂.spur r = _ := spur_modSpur_of_lt t₁ (region_lt r) _
  have hsads : (t₂.modSadsOf r fun x => { x with borrow := 0, active := false }).spur r = t₂.spur r := modSadsOf_keeps (fun u => u.spur r) ..
  rw [modCol_at_spur, hsads, h₂, h₁]
  exact ⟨rfl, rfl, rfl⟩

theorem unborrow_sad {k : Nat} (h : k ∈ sadsOf r) : ((s.unborrow r).sad k).active = false := by
  unfold State.unborrow
  extract_lets o t rel t₁ t₂
  have hsad : (t₂.modSadsOf r fun x => { x with borrow := 0, active := false }).sad k = _ :=
    sad_modSadsOf (g := fun x => { x with borrow := 0, active := false }) (fun _ => rfl) t₂ _ (lt_of_mem_sadsOf r.isLt h)
  rw [modCol_at_sad, hsad, if_pos h]

theorem unborrow_col (s : State) (r : Fin 400) : ((s.unborrow r).col (fieldOf r)).borrow = none :=
  congrArg Col.borrow (col_modCol_of_lt _ (fieldOf_lt (by omega)) _)

theorem exec_borrowRelease {f : Fin 25} {b : Borrow} (hborrow : (s.col f).borrow = some b) (hregion : b.region = r) (hconnected : b.connected = true)
    (haligned : (s.col f).spare.aligned = true) (htarget : (s.col f).spare.target = r) (hreturn : (s.col f).spare.returning = true)
    (htest : s.underTest r = false) (hat : s.atCycle0 r = true) : exec (.borrowRelease f) s = .next (s.unborrow r) := by
  change execBorrowRelease f s = _
  simp [execBorrowRelease, hborrow, hregion, hconnected, haligned, htarget, hreturn, htest, hat]

end

/-- Settles O48: the wait ends in `switchFixed`, the connection in `Borrowed`, and the return is `State.unborrow`. -/
theorem borrowWaitsConnectsAndEnds : Obligations.BorrowWaitsConnectsAndEnds := by
  refine ⟨fun s f b hborrow hwaits hready hat => ?_, fun s f b r k hborrow hwaits hready hcal hregion hfield hbetween hother hk hlender hown hat hlater => ?_,
    fun s f b r hborrow hregion hfield hconnected haligned htarget hreturn htest hat => ?_⟩
  · have hexec := exec_borrowQuietMark hborrow hwaits hready hat
    refine ⟨fun hquiet => ?_, fun hloud hearly => ?_, fun hloud hlate => ?_⟩
    · rw [hexec, if_pos hquiet]
      rfl
    · rw [hexec, if_neg (by simp [hloud]), if_neg (Nat.not_le.2 hearly)]
    · rw [hexec, if_neg (by simp [hloud]), if_pos hlate]
      rfl
  · have hlt : b.region < 400 := hregion ▸ r.isLt
    intro v
    refine ⟨_, exec_borrowStart hborrow hwaits hready hcal hregion hown hat hlater, ?_⟩
    simp only [closeIncident_at_spur, closeIncident_at_col, closeIncident_at_sad, raise_at_spur, raise_at_col, raise_at_sad, ← hfield, connect_col hlt,
      Raises, closeIncident_raised, hbetween]
    obtain ⟨hdriver, hcomp, hfence, hactive, hlends, hslip, hcap, hlead⟩ := connect_borrowed (v := v) hlt hbetween hother hk hlender hown
    exact ⟨hdriver, hcomp, hfence, trivial, hactive, hlends, hslip, hcap, hlead,
      raises_of_events (congrArg stamp (connect_rdg s b v)) fun _ he => he⟩
  · obtain ⟨hdriver, hfence, hdebt⟩ := unborrow_spur s r
    refine ⟨_, exec_borrowRelease hborrow hregion hconnected haligned htarget hreturn htest hat, hdriver, hfence, fun n hn => ?_,
      hfield ▸ unborrow_col s r, fun k => unborrow_sad⟩
    rw [hdebt, hn]
    rfl

end Sys2Proof.Proofs
end

section
/-! The staging of a formed set and the last re-evaluation of a staged one (O20). -/

set_option Elab.async false

namespace Sys2Proof.Proofs

open Sys2Proof.Machine Sys2Proof.Safety Sys2Proof.Laws

/-! ## Sets of the plan -/

theorem mem_sets_of_find {p : Plan} {q : Seq} {c : CommitSet} (h : p.find q = some c) : c ∈ p.sets := List.mem_of_find?_eq_some h

theorem mem_sets_modSet {p : Plan} {c : CommitSet} {q : Seq} (h : c ∈ p.sets) (hq : c.seq = q) (g : CommitSet → CommitSet) : g c ∈ (p.modSet q g).sets :=
  List.mem_map.2 ⟨c, h, if_pos hq⟩

/-- Every set of `l` stands in `l'` too, under its number, with its target, and staged there where it was staged. -/
def SetsKept (l l' : List CommitSet) : Prop := ∀ x ∈ l, ∃ y ∈ l', y.seq = x.seq ∧ y.staged = x.staged ∧ y.target = x.target

theorem SetsKept.refl (l : List CommitSet) : SetsKept l l := fun x hx => ⟨x, hx, rfl, rfl, rfl⟩

theorem setsKept_modSet (p : Plan) (q : Seq) {g : CommitSet → CommitSet}
    (hg : ∀ x, (g x).seq = x.seq ∧ (g x).staged = x.staged ∧ (g x).target = x.target) : SetsKept p.sets (p.modSet q g).sets := by
  intro x hx
  refine ⟨_, List.mem_map_of_mem hx, ?_⟩
  split
  · exact hg x
  · exact ⟨rfl, rfl, rfl⟩

/-! ## A set staged -/

/-- The set `c` is staged in `t` for its target: its descriptors' disposition says so, and a stage command for it has left for each of the domains `ds`. -/
structure StagedIn (c : CommitSet) (ds : List Nat) (t : State) : Prop where
  set : ∃ x ∈ t.plan.sets, x.seq = c.seq ∧ x.staged = true ∧ x.target = c.target
  entries : ∀ e ∈ t.plan.buf, e.idx ∈ c.members → e.stage = .staged
  sent : ∀ d ∈ ds, ∃ k, Message.lane (.stage d k) ∈ t.out ∧ k.seq = c.seq ∧ k.target = c.target

section

variable {s t : State} {c : CommitSet} {ds : List Nat}

theorem StagedIn.mono (h : StagedIn c ds s) (hsets : SetsKept s.plan.sets t.plan.sets) (hbuf : t.plan.buf = s.plan.buf)
    (hout : ∀ m ∈ s.out, m ∈ t.out) : StagedIn c ds t where
  set := by
    obtain ⟨x, hx, hseq, hstaged, htarget⟩ := h.set
    obtain ⟨y, hy, hyseq, hystaged, hytarget⟩ := hsets x hx
    exact ⟨y, hy, hyseq.trans hseq, hystaged.trans hstaged, hytarget.trans htarget⟩
  entries := hbuf ▸ h.entries
  sent d hd := by
    obtain ⟨k, hk, hcmd⟩ := h.sent d hd
    exact ⟨k, hout _ hk, hcmd⟩

theorem mem_out_sendLane {m : Message} (h : m ∈ s.out) (k : LaneCmd) : m ∈ (s.sendLane k).out := by
  unfold State.sendLane
  split
  · exact h
  · exact List.mem_append_left _ h

theorem lane_mem_out_sendLane (h : s.role.silent = false) (k : LaneCmd) : Message.lane k ∈ (s.sendLane k).out := by
  rw [State.sendLane, if_neg (by simp [h])]
  exact List.mem_append_right _ (List.mem_singleton_self _)

theorem mem_out_sendStage {m : Message} (h : m ∈ s.out) (c : CommitSet) : m ∈ (s.sendStage c).out :=
  each_preserves (fun t => m ∈ t.out) (fun _ _ ht => mem_out_sendLane ht _) h _

theorem sendStage_plan (s : State) (c : CommitSet) : (s.sendStage c).plan = s.plan := each_keeps State.plan (fun _ _ => sendLane_plan ..) s _

/-- A set's stage commands leave, one for each domain in use (R60, R115). -/
theorem sendStage_sends (h : s.role.silent = false) (c : CommitSet) {d : Nat} (hd : d ∈ c.result.used) :
    ∃ k, Message.lane (.stage d k) ∈ (s.sendStage c).out ∧ k.seq = c.seq ∧ k.target = c.target :=
  each_establishes (P := fun t => ∃ k, Message.lane (.stage d k) ∈ t.out ∧ k.seq = c.seq ∧ k.target = c.target) (Q := fun t => t.role.silent = false)
    (f := fun t d => t.sendLane (.stage d (s.stageCmd c d)))
    (fun _ _ ht => by rwa [sendLane_role]) (fun _ _ ⟨k, hk, hcmd⟩ => ⟨k, mem_out_sendLane hk _, hcmd⟩) hd
    (fun _ ht => ⟨_, lane_mem_out_sendLane ht _, rfl, rfl⟩) h

/-- The set as `State.putStage` leaves it: its contents put in, and staged. -/
def stagedForm (s : State) (c : CommitSet) (r : Contents) (volt : List Nat) : CommitSet :=
  { s.fill c r volt with staged := true, restage := false }

theorem putStage_of_host (hhost : c.kind = .host) (s : State) (r : Contents) (volt : List Nat) : s.putStage c r volt =
    ((s.modPlan fun p => (p.modSet c.seq fun _ => stagedForm s c r volt).setStage c.members .staged).sendStage (stagedForm s c r volt)).requests c.staged := by
  have hdrop : ∀ t : State, t.tellDrop (stagedForm s c r volt) = t := fun t => if_pos (by
    have hkind : (stagedForm s c r volt).kind = .host := hhost
    simp [hkind])
  have hbasic : (c.kind == .basic) = false := by simp [hhost]
  unfold State.putStage
  extract_lets src x told
  have hwhen : ∀ u : State, (u.when (!told) fun t => t.tellDrop x) = u := fun u => when_keeps id hdrop u (!told)
  rw [hbasic, hwhen]
  rfl

theorem stagedIn_putStage (hsilent : s.role.silent = false) (hhost : c.kind = .host) (hmem : c ∈ s.plan.sets) (r : Contents) (volt : List Nat) :
    StagedIn c r.fb.used (s.putStage c r volt) := by
  rw [putStage_of_host hhost]
  refine ⟨?_, ?_, fun d hd => ?_⟩
  · rw [requests_plan, sendStage_plan]
    exact ⟨_, mem_sets_modSet hmem rfl fun _ => stagedForm s c r volt, rfl, rfl, rfl⟩
  · rw [requests_plan, sendStage_plan]
    intro e he hin
    obtain ⟨e₀, -, rfl⟩ := List.mem_map.1 he
    by_cases h : c.members.contains e₀.idx = true
    · rw [if_pos h]
    · rw [if_neg h] at hin
      exact absurd (List.contains_iff_mem.2 hin) h
  · rw [requests_out]
    exact sendStage_sends (s := s.modPlan fun p => (p.modSet c.seq fun _ => stagedForm s c r volt).setStage c.members .staged) (c := stagedForm s c r volt)
      hsilent hd

theorem stagedIn_raiseAfter (h : StagedIn c ds s) (x : CommitSet) (r : Contents) : StagedIn c ds (s.raiseAfter x r) := by
  unfold State.raiseAfter
  split
  · refine h.mono (fun y hy => ?_) rfl fun _ => id
    by_cases hseq : y.seq = x.seq
    · exact ⟨{ y with raiseFormed := true }, List.mem_flatMap.2 ⟨y, hy, by simp [hseq]⟩, rfl, rfl, rfl⟩
    · exact ⟨y, List.mem_flatMap.2 ⟨y, hy, by simp [hseq]⟩, rfl, rfl, rfl⟩
  · exact h

theorem stagedIn_resend (h : StagedIn c ds s) : StagedIn c ds s.resend := by
  refine each_preserves (StagedIn c ds) (fun t x ht => ?_) h _
  have hsent : StagedIn c ds (t.sendStage x) := ht.mono (sendStage_plan t x ▸ SetsKept.refl _) (by rw [sendStage_plan]) fun _ hm => mem_out_sendStage hm x
  exact hsent.mono (setsKept_modSet _ _ fun _ => ⟨rfl, rfl, rfl⟩) rfl fun _ => id

end

/-! ## STAGE_SET -/

theorem empty_of_members {c : CommitSet} (h : c.members ≠ []) : c.empty = false := by
  simp [CommitSet.empty, h]

section

variable {s : State} {c : CommitSet}

/-- A formed host set that keeps its descriptors and its target and needs no series is staged as it stands (R177, R316). -/
theorem stageFormed_as_formed (hfind : s.plan.find c.seq = some c) (hmembers : c.members ≠ [])
    (hgood : (s.contents c [] none).bad = []) (hfloor : notAfter (s.floorFor c) c.target = true) (hwindow : s.windowOver c.target = none)
    (hseries : needsSeries (s.viewFor c.seq c.target) (s.contents c [] none) = false) :
    s.stageFormed c.seq = ((s.putStage c (s.contents c [] none) (s.voltsFor c none)).raiseAfter c (s.contents c [] none)).resend := by
  simp [State.stageFormed, State.screen, hfind, hgood, empty_of_members hmembers, hfloor, hwindow, hseries]

theorem exec_stageSet (hmark : s.atMark = true) (hsilent : s.role.silent = false) (hresume : s.role.resumeDue = false) (hstage : s.faults.noStage = false)
    (hdrop : s.role.baseDue = false) (hrestage : (s.plan.sets.find? fun x => x.restage && x.staged && !x.armed && notAfter x.ready s.mark) = none)
    (hformed : (s.plan.sets.find? fun x => !x.staged && !x.armed && !x.applied && !x.isNull) = some c) (hmay : s.mayStage = true)
    (hready : notAfter c.ready s.mark = true) (hnear : Mark.dist c.target s.mark ≤ (s.word 0x600).bits 23 16) :
    exec .stageSet s = .next (s.stageFormed c.seq) := by
  change execStageSet s = _
  simp [execStageSet, State.stageNext, hmark, hsilent, hresume, hstage, hdrop, hrestage, hformed, hmay, hready, hnear]

/-! ## LAST_REEVALUATION -/

theorem setAhead_eq_some {k : Nat} (h : s.setAhead k = some c) : s.role.silent = false ∧ c.staged = true ∧ c.armed = false := by
  unfold State.setAhead at h
  split at h
  · cases h
  · next hactive =>
    have hset := List.find?_some h
    simp only [Bool.and_eq_true, Bool.not_eq_true'] at hset
    simp only [Bool.or_eq_true, not_or, Bool.not_eq_true] at hactive
    obtain ⟨⟨⟨hstaged, harmed⟩, -⟩, -⟩ := hset
    obtain ⟨hsilent, -⟩ := hactive
    exact ⟨hsilent, hstaged, harmed⟩

/-- A staged host set of no group that changes nothing in force is cancelled at its last re-evaluation (R179). -/
theorem renew_of_null (hfind : s.plan.find c.seq = some c) (hhost : c.kind = .host) (hrestage : c.restage = false) (hmembers : c.members ≠ [])
    (hslots : c.slots = []) (hgood : (s.contents c [] (some c.result.base)).bad = [])
    (hnull : s.nullSet (s.viewFor c.seq c.target) (s.fencesFor c.seq c.target) (s.contents c [] (some c.result.base)) = true) :
    s.renew c.seq true = s.nullify c (s.contents c [] (some c.result.base)) := by
  have hhead : c.headSeq = c.seq := by simp [CommitSet.headSeq, hhost]
  simp [State.renew, State.screen, hfind, hhead, hrestage, hslots, hgood, hnull, empty_of_members hmembers]

/-- A staged set is taken out of the Spurs: its cancel command leaves, and it stays in the plan (R115). -/
theorem unstage_cancels (hsilent : s.role.silent = false) (hmem : c ∈ s.plan.sets) (hstaged : c.staged = true) (harmed : c.armed = false) :
    Message.lane (.cancel c.seq) ∈ (s.unstage c).out ∧ ∃ x ∈ (s.unstage c).plan.sets, x.seq = c.seq := by
  rw [State.unstage, if_pos (by simp [hstaged, harmed]), requests_out, requests_plan, sendLane_plan]
  exact ⟨lane_mem_out_sendLane (by exact hsilent) _, _, mem_sets_modSet hmem rfl _, rfl⟩

theorem nullify_cancels (hsilent : s.role.silent = false) (hmem : c ∈ s.plan.sets) (hstaged : c.staged = true) (harmed : c.armed = false)
    (hmembers : c.members ≠ []) (r : Contents) :
    Message.lane (.cancel c.seq) ∈ (s.nullify c r).out ∧ ∃ x ∈ (s.nullify c r).plan.sets, x.seq = c.seq ∧ x.isNull = true ∧ x.staged = false := by
  obtain ⟨hcancel, x, hx, hseq⟩ := unstage_cancels hsilent hmem hstaged harmed
  rw [State.nullify, if_neg (by simp [hmembers])]
  exact ⟨hcancel, _, mem_sets_modSet hx hseq _, hseq, rfl, rfl⟩

end

/-- Settles O20: what the staging of the set leaves in force, its companions' resending keeps; the null set is cancelled by `State.nullify`. -/
theorem formedSetIsStagedAndReevaluated : Obligations.FormedSetIsStagedAndReevaluated := by
  refine ⟨fun s c hmark hsilent hresume hstage hdrop hrestage hformed hfind hhost hmembers hmay hready hnear hgood hfloor hwindow hseries => ?_,
    fun s c hahead hfind hhost hrestage hmembers hslots hgood hnull => ?_⟩
  · have hexec := exec_stageSet hmark hsilent hresume hstage hdrop hrestage hformed hmay hready hnear
    rw [stageFormed_as_formed hfind hmembers hgood hfloor hwindow hseries] at hexec
    obtain ⟨hset, hentries, hsent⟩ :=
      stagedIn_resend (stagedIn_raiseAfter (stagedIn_putStage hsilent hhost (mem_sets_of_find hfind) (s.contents c [] none) (s.voltsFor c none)) c _)
    exact ⟨_, hexec, hset, hentries, hsent⟩
  · obtain ⟨hsilent, hstaged, harmed⟩ := setAhead_eq_some hahead
    have hexec : exec .lastReevaluation s = .next (s.nullify c (s.contents c [] (some c.result.base))) := by
      change execLastReevaluation s = _
      rw [execLastReevaluation, hahead, ← renew_of_null hfind hhost hrestage hmembers hslots hgood hnull]
    exact ⟨_, hexec, nullify_cancels hsilent (mem_sets_of_find hfind) hstaged harmed hmembers _⟩

end Sys2Proof.Proofs
end

section
/-! The descriptors that join no commit set: how processing hands them on, and what each type then does (O35). -/

set_option Elab.async false

namespace Sys2Proof.Proofs

open Sys2Proof.Machine Sys2Proof.Safety Sys2Proof.Laws

/-! ## Groups, entries and completions -/

theorem group_modGroup_self {p : Plan} {k : Nat} (hk : k < p.groups.length) (f : Group → Group) : (p.modGroup k f).group k = f (p.group k) := by
  have hk' : k < (p.modGroup k f).groups.length := (length_modGroup p k f).symm ▸ hk
  rw [Plan.group, Plan.group, List.getD_eq_getElem _ _ hk, List.getD_eq_getElem _ _ hk']
  exact (mapFrom_getElem _ _ _ _ hk').trans (if_pos (Nat.zero_add k))

theorem group_modGroup_ne {p : Plan} {j k : Nat} (h : k ≠ j) (f : Group → Group) : (p.modGroup j f).group k = p.group k := by
  by_cases hk : k < p.groups.length
  · have hk' : k < (p.modGroup j f).groups.length := (length_modGroup p j f).symm ▸ hk
    rw [Plan.group, Plan.group, List.getD_eq_getElem _ _ hk, List.getD_eq_getElem _ _ hk']
    exact (mapFrom_getElem _ _ _ _ hk').trans (if_neg (by omega))
  · have hk' : (p.modGroup j f).groups.length ≤ k := (length_modGroup p j f).symm ▸ Nat.not_lt.1 hk
    rw [Plan.group, Plan.group, List.getD_eq_default _ _ hk', List.getD_eq_default _ _ (Nat.not_lt.1 hk)]

theorem finish_completes (t : State) (e : FbEntry) (st : Status) (m : Mark) (detail domain : Nat) (merged : Bool) :
    Completes (t.finish e st m detail domain merged) e st m detail :=
  ⟨_, List.mem_append_right _ (List.mem_singleton_self _), rfl, rfl, rfl, rfl, rfl, rfl⟩

/-- A completion for a descriptor is one for any buffer entry that holds the same bytes under the same ring index. -/
theorem completes_of_same {t : State} {d e : FbEntry} {st : Status} {m : Mark} {detail : Nat} (h : Completes t d st m detail) (hidx : d.idx = e.idx)
    (hbytes : d.bytes = e.bytes) : Completes t e st m detail := by
  obtain ⟨q, hq, hseq, hty, hst, hm, hdetail, hring⟩ := h
  refine ⟨q, hq, hseq.trans ?_, hty.trans ?_, hst, hm, hdetail, hring.trans hidx⟩
  · rw [FbEntry.seq, FbEntry.seq, hbytes]
  · rw [FbEntry.ty, FbEntry.ty, FbEntry.byte, FbEntry.byte, hbytes]

/-- Nothing but the plan and the completions has changed from `s` to `t`. -/
def PlanMoved (s t : State) : Prop := ∃ p q, t = { s with plan := p, hri := { s.hri with cmplQ := q } }

theorem PlanMoved.frame {s t : State} (h : PlanMoved s t) : t = { s with plan := t.plan, hri := { s.hri with cmplQ := t.hri.cmplQ } } := by
  obtain ⟨p, q, rfl⟩ := h
  rfl

theorem PlanMoved.mark {s t : State} (h : PlanMoved s t) : t.mark = s.mark := by
  obtain ⟨p, q, rfl⟩ := h
  rfl

theorem PlanMoved.modPlan {s t : State} (h : PlanMoved s t) (g : Plan → Plan) : PlanMoved s (t.modPlan g) := by
  obtain ⟨p, q, rfl⟩ := h
  exact ⟨g p, q, rfl⟩

/-- The descriptor has been examined (R285, R306). -/
def examinedIn (s : State) (e : FbEntry) : State := s.modPlan fun p => p.examined e

theorem planMoved_examinedIn (s : State) (e : FbEntry) : PlanMoved s (examinedIn s e) := ⟨s.plan.examined e, s.hri.cmplQ, rfl⟩

/-! ## What closing markers and groups keeps -/

/-- A property that completions and the freeing of a group that has resolved leave as it is. -/
structure KeptByGroups (P : State → Prop) : Prop where
  finish : ∀ (t : State) (e : FbEntry) (st : Status) (m : Mark) (detail : Nat), P t → P (t.finish e st m detail 0 false)
  freed : ∀ (t : State) (k : Nat) (m : Mark), (t.plan.group k).st.resolved = true → P t → P (t.modPlan fun p => p.freeGroup k m)

/-- Such a property that does not speak of the list of markers. -/
structure KeptByClosing (P : State → Prop) : Prop extends KeptByGroups P where
  markers : ∀ (t : State) (l : List Nat), P t → P (t.modPlan fun p => { p with markers := l })

/-- One marker of a run that closes markers in mark `m` (R290). -/
def markerStep (m : Mark) (t : State) (i : Nat) : State :=
  if (t.plan.buf.takeWhile fun e => e.idx != i).any (fun e => e.set.isSome) then t
  else match t.plan.entry i with
    | none => t.modPlan fun p => { p with markers := p.markers.filter (· != i) }
    | some e => (t.finish e .applied m (e.byte 16) 0 false).modPlan fun p => { p with markers := p.markers.filter (· != i) }

theorem closeMarkers_eq (s : State) : s.closeMarkers = s.each s.plan.markers (markerStep s.mark) := rfl

section

variable {P : State → Prop} {s : State}

theorem KeptByClosing.oneMarker (h : KeptByClosing P) (m : Mark) (t : State) (i : Nat) (ht : P t) : P (markerStep m t i) := by
  unfold markerStep
  split
  · exact ht
  · split
    · exact h.markers _ _ ht
    · exact h.markers _ _ (h.finish _ _ _ _ _ ht)

theorem KeptByClosing.closeMarkers (h : KeptByClosing P) (hs : P s) : P s.closeMarkers := each_preserves P (h.oneMarker s.mark) hs _

theorem KeptByGroups.closeGroups (h : KeptByGroups P) (hs : P s) : P s.closeGroups := by
  refine each_preserves P (fun t k ht => ?_) hs _
  extract_lets g
  split
  · exact ht
  · next hopen =>
    have hresolved : (t.plan.group k).st.resolved = true := by
      simp only [Bool.or_eq_true, not_or, Bool.not_eq_true, Bool.not_eq_false'] at hopen
      obtain ⟨⟨hresolved, -⟩, -⟩ := hopen
      exact hresolved
    split
    · exact ht
    · cases t.plan.entry _ with
      | none => exact h.freed _ _ _ hresolved ht
      | some e => exact h.freed _ _ _ hresolved (h.finish _ _ _ _ _ ht)

theorem KeptByClosing.closeOut (h : KeptByClosing P) (hs : P s) : P s.closeOut := h.closeMarkers (h.toKeptByGroups.closeGroups hs)

end

theorem keptByClosing_planMoved (s : State) : KeptByClosing (PlanMoved s) where
  finish := by
    rintro _ e st m detail ⟨p, q, rfl⟩
    exact ⟨_, _, rfl⟩
  markers := fun _ _ h => h.modPlan _
  freed := fun _ _ _ _ h => h.modPlan _

theorem keptByClosing_completes (e : FbEntry) (st : Status) (m : Mark) (detail : Nat) : KeptByClosing fun t => Completes t e st m detail where
  finish := fun _ _ _ _ _ ⟨q, hq, hfields⟩ => ⟨q, List.mem_append_left _ hq, hfields⟩
  markers := fun _ _ h => h
  freed := fun _ _ _ _ h => h

theorem keptByGroups_markers (l : List Nat) : KeptByGroups fun t => t.plan.markers = l := ⟨fun _ _ _ _ _ h => h, fun _ _ _ _ h => h⟩

/-- A group that has not resolved keeps its slot. -/
theorem keptByClosing_group {g : Group} (hg : g.st.resolved = false) (k : Nat) : KeptByClosing fun t => t.plan.group k = g where
  finish := fun _ _ _ _ _ h => h
  markers := fun _ _ h => h
  freed := fun t j m hj h => by
    have hne : k ≠ j := fun heq => by simp [← heq, h, hg] at hj
    exact (group_modGroup_ne hne _).trans h

/-! ## A marker with no set before it -/

/-- The buffer holds the descriptor's bytes at its ring index, and no earlier descriptor is in a commit set (R290). -/
def Unblocked (e : FbEntry) (t : State) : Prop :=
  (∃ d, t.plan.entry e.idx = some d ∧ d.bytes = e.bytes) ∧ ((t.plan.buf.takeWhile fun x => x.idx != e.idx).any fun x => x.set.isSome) = false

/-- A change of entries that keeps ring indices and bytes and puts none into a set leaves the marker unblocked. -/
theorem unblocked_map {e : FbEntry} {t u : State} {g : FbEntry → FbEntry} (h : Unblocked e t) (hbuf : u.plan.buf = t.plan.buf.map g)
    (hidx : ∀ x, (g x).idx = x.idx) (hbytes : ∀ x, (g x).bytes = x.bytes) (hset : ∀ x, x.set = none → (g x).set = none) : Unblocked e u := by
  obtain ⟨⟨d, hd, hdbytes⟩, hfree⟩ := h
  have hfind : u.plan.entry e.idx = (t.plan.entry e.idx).map g := by
    simp [Plan.entry, hbuf, List.find?_map, hidx]
  have htake : (u.plan.buf.takeWhile fun x => x.idx != e.idx) = (t.plan.buf.takeWhile fun x => x.idx != e.idx).map g := by
    simp [hbuf, List.takeWhile_map, Function.comp_def, hidx]
  refine ⟨⟨g d, by rw [hfind, hd]; rfl, (hbytes d).trans hdbytes⟩, ?_⟩
  rw [htake, List.any_map]
  rw [List.any_eq_false] at hfree ⊢
  intro x hx
  have hnone : x.set = none := by simpa using hfree x hx
  simp [hset x hnone]

theorem unblocked_modEntry {e : FbEntry} {t : State} (h : Unblocked e t) (i : Nat) {f : FbEntry → FbEntry} (hidx : ∀ x, (f x).idx = x.idx)
    (hbytes : ∀ x, (f x).bytes = x.bytes) (hset : ∀ x, x.set = none → (f x).set = none) : Unblocked e (t.modPlan fun p => p.modEntry i f) := by
  refine unblocked_map h rfl (fun x => ?_) (fun x => ?_) fun x hx => ?_
  · split
    · exact hidx x
    · rfl
  · split
    · exact hbytes x
    · rfl
  · split
    · exact hset x hx
    · exact hx

theorem keptByClosing_unblocked (e : FbEntry) : KeptByClosing (Unblocked e) where
  finish := fun _ d _ _ _ h => unblocked_modEntry h d.idx (fun _ => rfl) (fun _ => rfl) fun _ _ => rfl
  markers := fun _ _ h => h
  freed := fun _ _ _ _ h => h

theorem markerStep_completes {e : FbEntry} {t : State} (h : Unblocked e t) (m : Mark) : Completes (markerStep m t e.idx) e .applied m (e.byte 16) := by
  obtain ⟨⟨d, hd, hbytes⟩, hfree⟩ := h
  have hidx : d.idx = e.idx := by simpa using List.find?_some hd
  have hbyte : d.byte 16 = e.byte 16 := by rw [FbEntry.byte, FbEntry.byte, hbytes]
  rw [markerStep, if_neg (by simp [hfree]), hd, ← hbyte]
  exact completes_of_same (finish_completes t d .applied m (d.byte 16) 0 false) hidx hbytes

theorem closeMarkers_completes {e : FbEntry} {t : State} (h : Unblocked e t) (hmem : e.idx ∈ t.plan.markers) :
    Completes t.closeMarkers e .applied t.mark (e.byte 16) := by
  rw [closeMarkers_eq]
  exact each_establishes ((keptByClosing_unblocked e).oneMarker t.mark) ((keptByClosing_completes e .applied t.mark (e.byte 16)).oneMarker t.mark) hmem
    (fun _ ht => markerStep_completes ht t.mark) h

/-! ## Processing -/

section

variable {s : State} {c : Instr} {e : FbEntry} {ty : Nat → Bool} {h : State → FbEntry → Option Nat → State}

/-- A due descriptor that passes its checks is examined and accepted (R287, R315). -/
theorem exec_accepted (hexec : exec c s = .next (s.process ty h)) (hty : ty e.ty = takesType c e.ty) (hdue : Due s c e) (hcheck : s.check e = none) :
    exec c s = .next ((examinedIn s e).accept e h) := by
  obtain ⟨hhead, htakes, hproc, hroom⟩ := hdue
  simp [hexec, State.process, examinedIn, hhead, hty, htakes, hproc, hroom, hcheck]

/-- In no group it is handed to its type's part (R327). -/
theorem exec_ungrouped (hexec : exec c s = .next (s.process ty h)) (hty : ty e.ty = takesType c e.ty) (hdue : Due s c e) (hcheck : s.check e = none)
    (hgroup : s.plan.openGroup e.idx = none) : exec c s = .next (h (examinedIn s e) e none) := by
  have hnone : (examinedIn s e).plan.openGroup e.idx = none := hgroup
  rw [exec_accepted hexec hty hdue hcheck, State.accept, hnone]

/-- A COND_END is no member of its group (R320). -/
theorem accept_condEnd (hty : e.ty = 6) : s.accept e h = h s e none := by
  unfold State.accept
  split
  · rfl
  · rw [if_pos (by simp [hty])]

/-- A COND_BEGIN that passes its checks is one of version 2 and stands in no group (R291, R320). -/
theorem openGroup_of_condBegin (hty : e.ty = 5) (hcheck : s.check e = none) : s.v1 = false ∧ s.plan.openGroup e.idx = none := by
  unfold State.check at hcheck
  rw [if_neg (by omega)] at hcheck
  by_cases hv1 : s.v1 = true
  · simp [hv1, hty] at hcheck
  rw [if_neg (by simp [hv1])] at hcheck
  refine ⟨Bool.eq_false_iff.2 hv1, ?_⟩
  by_contra hopen
  have hbad : s.groupBad e = [2] := by simp [State.groupBad, hv1, hty, Option.isSome_iff_ne_none.2 hopen]
  have hfails : ∃ k ks, e.flagsBad s.v1 ++ s.groupBad e ++ e.bodyBad s.v1 = k :: ks := List.exists_cons_of_ne_nil (by simp [hbad])
  obtain ⟨k, ks, hcons⟩ := hfails
  rw [hcons] at hcheck
  split at hcheck <;> cases hcheck

/-! ## Descriptors that wait for their mark -/

/-- An action takes its own target where it lies `lead` marks ahead, and else the earliest one, late (R286, R290). -/
theorem actAt_cases (hasap : e.flag 1 = false) (lead : Nat) :
    (Mark.ahead e.target s.mark = true → lead ≤ Mark.dist e.target s.mark → (s.actAt e lead).1 = e.target ∧ (s.actAt e lead).2 = false) ∧
    (Mark.ahead e.target s.mark = false ∨ Mark.dist e.target s.mark < lead →
      (s.actAt e lead).1 = s.mark + BitVec.ofNat 40 lead ∧ (s.actAt e lead).2 = true) := by
  constructor
  · intro hahead hlead
    simp [State.actAt, hasap, hahead, hlead]
  · rintro (hpast | hnear)
    · simp [State.actAt, hasap, hpast]
    · simp [State.actAt, hasap, Nat.not_le.2 hnear]

theorem one_le_dist_of_ahead {t m : Mark} (h : Mark.ahead t m = true) : 1 ≤ Mark.dist t m := by
  simp only [Mark.ahead, Bool.and_eq_true, decide_eq_true_eq] at h
  exact h.1

/-- The action of a descriptor that waits for its target (R312). -/
theorem act_actions (s : State) (e : FbEntry) (lead : Nat) (slot : Option Nat) :
    { idx := e.idx, target := (s.actAt e lead).1, late := (s.actAt e lead).2, slot := slot } ∈ (s.act e lead slot).plan.actions :=
  List.mem_append_right _ (List.mem_singleton_self _)

theorem schedule_plan (s : State) (w : Mark) (us ms : Nat) (once : Bool) : (s.schedule w us ms once).plan = s.plan := by
  unfold State.schedule
  split
  · split <;> rfl
  · extract_lets c t
    split
    · rfl
    · split <;> rfl

theorem schedule_cal (s : State) (w : Mark) (us ms : Nat) :
    (s.schedule w us ms false).cal.length = us ∧ (s.schedule w us ms false).cal.interval = ms := by
  unfold State.schedule
  rw [if_neg (by simp)]
  extract_lets c t
  split
  · exact ⟨rfl, rfl⟩
  · split <;> exact ⟨rfl, rfl⟩

/-! ## The commands -/

theorem exec_nop (hdue : Due s .nop e) (hcheck : s.check e = none) (hgroup : s.plan.openGroup e.idx = none) :
    exec .nop s = .next ((examinedIn s e).finish e .applied s.mark 0 0 false).closeOut :=
  (exec_ungrouped rfl rfl hdue hcheck hgroup :)

/-- A MARKER has been examined and waits (R290). -/
def markerWaits (s : State) (e : FbEntry) : State :=
  (examinedIn s e).modPlan fun p => { (p.modEntry e.idx fun x => { x with stage := .waiting }) with markers := p.markers ++ [e.idx] }

theorem exec_marker (hdue : Due s .marker e) (hcheck : s.check e = none) (hgroup : s.plan.openGroup e.idx = none) :
    exec .marker s = .next (markerWaits s e).closeOut :=
  (exec_ungrouped rfl rfl hdue hcheck hgroup :)

theorem planMoved_markerWaits (s : State) (e : FbEntry) : PlanMoved s (markerWaits s e) := (planMoved_examinedIn s e).modPlan _

/-- A marker with no earlier descriptor in a set completes at once (R290). -/
theorem markerWaits_completes (hentry : s.plan.entry e.idx = some e) (hfree : ((s.plan.buf.takeWhile fun x => x.idx != e.idx).all fun x => x.set.isNone) = true) :
    Completes (markerWaits s e).closeOut e .applied s.mark (e.byte 16) := by
  have hstart : Unblocked e (examinedIn s e) := by
    refine ⟨⟨e, hentry, rfl⟩, List.any_eq_false.2 fun x hx => ?_⟩
    have hnone := List.all_eq_true.1 hfree x hx
    simpa using hnone
  have hwaits : Unblocked e (markerWaits s e) := unblocked_modEntry hstart e.idx (fun _ => rfl) (fun _ => rfl) fun _ hset => hset
  have hmarkers : (markerWaits s e).closeGroups.plan.markers = s.plan.markers ++ [e.idx] := (keptByGroups_markers _).closeGroups rfl
  have hmark : (markerWaits s e).closeGroups.mark = s.mark :=
    ((keptByClosing_planMoved s).toKeptByGroups.closeGroups (planMoved_markerWaits s e)).mark
  exact hmark ▸ closeMarkers_completes ((keptByClosing_unblocked e).toKeptByGroups.closeGroups hwaits) (by simp [hmarkers])

/-- A COND_BEGIN's group (R321). -/
def openedGroup (e : FbEntry) (m : Mark) : Group :=
  { Group.free with
    st := .opened, num := e.group, obj := e.num 16 2, cond := e.num 18 1, value := BitVec.ofNat 32 (e.num 20 4)
    sense := e.byte 19 == 1, since := m, beginIdx := e.idx }

/-- A COND_BEGIN has been examined, and its group is open in slot `k` (R320). -/
def groupOpened (s : State) (e : FbEntry) (k : Nat) : State :=
  (examinedIn s e).modPlan fun p => (p.modEntry e.idx fun x => { x with stage := .waiting }).modGroup k fun _ => openedGroup e s.mark

theorem groupOpened_group {k : Nat} (hk : k < s.plan.groups.length) : (groupOpened s e k).plan.group k = openedGroup e s.mark :=
  group_modGroup_self (p := (s.plan.examined e).modEntry e.idx fun x => { x with stage := .waiting }) hk fun _ => openedGroup e s.mark

theorem exec_condBegin (hdue : Due s .condBegin e) (hcheck : s.check e = none) : ∃ k < 4, (s.plan.group k).st = .free ∧
    exec .condBegin s = .next (groupOpened s e k) := by
  have ⟨_, htakes, _, hroom⟩ := hdue
  have hty : e.ty = 5 := by simpa [takesType] using htakes
  obtain ⟨hv1, hgroup⟩ := openGroup_of_condBegin hty hcheck
  have hany : ((List.range 4).any fun k => (s.plan.group k).st == .free) = true := by simpa [State.roomFor, hty, hv1] using hroom
  obtain ⟨k, hk⟩ : ∃ k, (List.range 4).find? (fun k => (s.plan.group k).st == .free) = some k :=
    Option.isSome_iff_exists.1 (List.find?_isSome.2 (List.any_eq_true.1 hany))
  have hfree : (s.plan.group k).st = .free := by simpa using List.find?_some hk
  refine ⟨k, List.mem_range.1 (List.mem_of_find?_eq_some hk), hfree, ?_⟩
  have hslot : (List.range 4).find? (fun k => ((examinedIn s e).plan.group k).st == .free) = some k := hk
  rw [exec_ungrouped rfl rfl hdue hcheck hgroup, hslot]
  rfl

/-- A COND_END has been examined and its group is closed (R320). -/
def groupClosed (s : State) (e : FbEntry) (k : Nat) : State :=
  (examinedIn s e).modPlan fun p =>
    (p.modEntry e.idx fun x => { x with stage := .waiting }).modGroup k fun g => { g with endIdx := some e.idx, st := if g.st = .opened then .closed else g.st }

theorem exec_condEnd {k : Nat} (hdue : Due s .condEnd e) (hcheck : s.check e = none) (hgroup : s.plan.openGroup e.idx = some k) :
    exec .condEnd s = .next (groupClosed s e k).closeOut := by
  have ⟨_, htakes, _, _⟩ := hdue
  have hty : e.ty = 6 := by simpa [takesType] using htakes
  have hopen : (examinedIn s e).plan.openGroup e.idx = some k := hgroup
  rw [exec_accepted rfl rfl hdue hcheck, accept_condEnd hty, hopen]
  rfl

theorem planMoved_groupClosed (s : State) (e : FbEntry) (k : Nat) : PlanMoved s (groupClosed s e k) := (planMoved_examinedIn s e).modPlan _

theorem lt_of_group_not_free {p : Plan} {k : Nat} (h : (p.group k).st ≠ .free) : k < p.groups.length := by
  by_contra hk
  rw [Plan.group, List.getD_eq_default _ _ (Nat.not_lt.1 hk)] at h
  exact h rfl

theorem groupClosed_group {k : Nat} (hopened : (s.plan.group k).st = .opened) :
    (groupClosed s e k).closeOut.plan.group k = { s.plan.group k with endIdx := some e.idx, st := .closed } := by
  refine (keptByClosing_group rfl k).closeOut ?_
  have hlt : k < s.plan.groups.length := lt_of_group_not_free (by simp [hopened])
  have hself := group_modGroup_self (p := (s.plan.examined e).modEntry e.idx fun x => { x with stage := .waiting }) hlt fun g =>
    { g with endIdx := some e.idx, st := if g.st = .opened then .closed else g.st }
  refine hself.trans ?_
  change ({ s.plan.group k with endIdx := some e.idx, st := if (s.plan.group k).st = .opened then .closed else (s.plan.group k).st } : Group) = _
  rw [if_pos hopened]

theorem exec_budget_measure (hc : c = .budget ∨ c = .measure) (hdue : Due s c e) (hcheck : s.check e = none) (hgroup : s.plan.openGroup e.idx = none) :
    exec c s = .next ((examinedIn s e).act e 1 none) := by
  rcases hc with rfl | rfl
  · exact (exec_ungrouped rfl rfl hdue hcheck hgroup :)
  · exact (exec_ungrouped rfl rfl hdue hcheck hgroup :)

/-- A CAL_WINDOW has been examined and waits; under version 2 the schedule of native windows changes (R341, R365). -/
def calWindowTaken (s : State) (e : FbEntry) : State :=
  let u := (examinedIn s e).act e 16 none
  if s.v1 then u else u.schedule (s.actAt e 16).1 (e.num 16 2) (e.num 18 4) (e.byte 22 == 1)

theorem exec_calWindow (hdue : Due s .calWindow e) (hcheck : s.check e = none) (hgroup : s.plan.openGroup e.idx = none) :
    exec .calWindow s = .next (calWindowTaken s e) :=
  (exec_ungrouped rfl rfl hdue hcheck hgroup :)

theorem calWindowTaken_plan (s : State) (e : FbEntry) : (calWindowTaken s e).plan = ((examinedIn s e).act e 16 none).plan := by
  unfold calWindowTaken
  extract_lets u
  split
  · rfl
  · exact schedule_plan ..

theorem calWindowTaken_cal (hv2 : s.hri.agreed = 2) (honce : e.byte 22 = 0) :
    (calWindowTaken s e).cal.length = e.num 16 2 ∧ (calWindowTaken s e).cal.interval = e.num 18 4 := by
  rw [calWindowTaken, if_neg (by simp [State.v1, hv2]), honce]
  exact schedule_cal ..

end

/-- Settles O35: `exec_ungrouped` hands each descriptor to its type's part, and what closing markers and groups keeps holds after it. -/
theorem otherDescriptorsWaitForTheirActionOrComplete : Obligations.OtherDescriptorsWaitForTheirActionOrComplete := by
  refine ⟨fun s e hdue hcheck hgroup => ?_, fun s e hdue hcheck hgroup hentry hfree => ?_, fun s e hdue hcheck hgroup => ?_,
    fun s e hlen hdue hcheck => ?_, fun s e k hdue hcheck hgroup hopened => ?_, fun s c e hc hdue hcheck hgroup hasap => ?_,
    fun s e hdue hcheck hgroup hasap => ?_⟩
  · exact ⟨_, exec_nop hdue hcheck hgroup, (keptByClosing_completes ..).closeOut (finish_completes ..),
      ((keptByClosing_planMoved s).closeOut ((keptByClosing_planMoved s).finish _ e .applied s.mark 0 (planMoved_examinedIn s e))).frame⟩
  · exact ⟨_, exec_marker hdue hcheck hgroup, markerWaits_completes hentry hfree, ((keptByClosing_planMoved s).closeOut (planMoved_markerWaits s e)).frame⟩
  · have hexec := exec_ungrouped (c := .waitSync) rfl rfl hdue hcheck hgroup
    exact ⟨_, hexec, rfl, rfl⟩
  · obtain ⟨k, hk, hfree, hexec⟩ := exec_condBegin hdue hcheck
    refine ⟨_, hexec, rfl, k, hk, hfree, ?_⟩
    rw [groupOpened_group (hlen ▸ hk)]
    exact ⟨rfl, rfl, rfl, rfl, rfl, rfl⟩
  · refine ⟨_, exec_condEnd hdue hcheck hgroup, ?_, ?_, ((keptByClosing_planMoved s).closeOut (planMoved_groupClosed s e k)).frame⟩
    · rw [groupClosed_group hopened]
    · rw [groupClosed_group hopened]
  · obtain ⟨hown, hlate⟩ := actAt_cases (s := examinedIn s e) hasap 1
    exact ⟨_, exec_budget_measure hc hdue hcheck hgroup, rfl, _, act_actions .., rfl, fun hahead => hown hahead (one_le_dist_of_ahead hahead),
      fun hpast => hlate (Or.inl hpast)⟩
  · obtain ⟨hown, hlate⟩ := actAt_cases (s := examinedIn s e) hasap 16
    refine ⟨_, exec_calWindow hdue hcheck hgroup, ?_, calWindowTaken_cal⟩
    rw [calWindowTaken_plan]
    exact ⟨_, act_actions .., rfl, hown, hlate⟩

end Sys2Proof.Proofs
end

section
/-! A bulk word across a Saddle: presented, presented invalid, or dropped (O23). -/

set_option Elab.async false

namespace Sys2Proof.Proofs

open Sys2Proof.Machine Sys2Proof.Safety Sys2Proof.Laws

/-! ## Other Saddles -/

section

variable {s : State} {k j : Nat}

theorem sad_modSad_ne (h : j ≠ k) (f : Saddle → Saddle) : (s.modSad k f).sad j = s.sad j :=
  bget_bmod_ne _ _ _ h.symm

theorem sadEvent_sad_ne (h : j ≠ k) (ev : Ev) (detail : List Byte) : (s.sadEvent k ev detail).sad j = s.sad j := by
  unfold State.sadEvent
  split
  · rfl
  · rw [raise_at_sad, sad_modSad_ne h]

theorem sadFail_sad_ne (h : j ≠ k) : (s.sadFail k).sad j = s.sad j := by
  unfold State.sadFail
  split
  · rfl
  · rw [incident_at_sad, State.sadFlag, setBit_at_sad, sadEvent_sad_ne h, sad_modSad_ne h]

theorem sadError_sad_ne (h : j ≠ k) (ev : Ev) (flag : Nat) : (s.sadError k ev flag).sad j = s.sad j := by
  unfold State.sadError
  extract_lets m again t
  have ht : t.sad j = s.sad j := by rw [sad_modSad_ne h, State.sadFlag, setBit_at_sad, sadEvent_sad_ne h]
  split
  · exact (sadFail_sad_ne h).trans ht
  · exact ht

end

/-! ## The two sides in one mode -/

section

variable {x : Saddle} {h : Bool}

theorem ratioOf_of_oneMode (hmode : x.modeOf true = x.modeOf false) (h : Bool) : x.ratioOf h = x.ratio := by
  cases h
  · rfl
  · exact congrArg Prod.fst hmode

theorem fastOf_iff : x.fastOf h = true ↔ x.ratioOf h ≠ 1 ∧ (if h then x.fastHighHi else !x.fastHigh) = true := by
  rw [Saddle.fastOf, Bool.and_eq_true, bne_iff_ne]

theorem slow_of_ratioOf_one (hone : x.ratioOf h = 1) : x.fastOf h = false :=
  Bool.eq_false_iff.2 fun hfast => (fastOf_iff.1 hfast).1 hone

/-- Of two sides in one mode at most one is the faster one. -/
theorem slow_of_fast (hmode : x.modeOf true = x.modeOf false) (hfast : x.fastOf h = true) : x.fastOf (!h) = false := by
  have hside : x.fastHighHi = x.fastHigh := congrArg Prod.snd hmode
  obtain ⟨-, hdir⟩ := fastOf_iff.1 hfast
  refine Bool.eq_false_iff.2 fun hother => ?_
  obtain ⟨-, hdir'⟩ := fastOf_iff.1 hother
  cases h
  · have hhigh : x.fastHighHi = true := hdir'
    simp [← hside, hhigh] at hdir
  · have hhigh : x.fastHighHi = true := hdir
    simp [← hside, hhigh] at hdir'

theorem slowCyc_of_slow (hslow : x.fastOf h = false) (c : Nat) : x.slowCyc h c = c := by
  simp [Saddle.slowCyc, hslow]

end

/-! ## A word in a lane -/

/-- The word written with its tag into an entry of a lane (R201, R208). -/
def wordStored (s : State) (k : Nat) (h : Bool) (i tag : Nat) (w : Word) : State :=
  s.modSad k fun x => x.modLane h fun l => { l with entries := setNth l.entries i (tag, w) }

/-- What a lane presents to the receiving router: a word, or nothing valid. -/
def wordPresented (s : State) (k : Nat) (h : Bool) (o : Option Word) : State :=
  s.modSad k fun x => x.modLane h fun l => { l with out := o }

section

variable {s : State} {k : Fin 760} {h : Bool} {w : Word}

theorem wordPresented_out (s : State) (k : Fin 760) (h : Bool) (o : Option Word) : (((wordPresented s k h o).sad k).lane h).out = o := by
  rw [wordPresented, sad_modSad_self, lane_modLane]

theorem wordPresented_sad_ne {j : Fin 760} (hj : j ≠ k) (o : Option Word) : (wordPresented s k h o).sad j = s.sad j :=
  sad_modSad_ne (Fin.val_ne_of_ne hj) _

theorem wordStored_sad_ne {j : Fin 760} (hj : j ≠ k) (i tag : Nat) : (wordStored s k h i tag w).sad j = s.sad j :=
  sad_modSad_ne (Fin.val_ne_of_ne hj) _

theorem modLane_keeps {β : Type} (p : Saddle → β) (hp : ∀ x lo hi, p { x with toLo := lo, toHi := hi } = p x) (x : Saddle) (h : Bool) (f : Lane → Lane) :
    p (x.modLane h f) = p x := by
  cases h
  · exact hp x _ x.toHi
  · exact hp x x.toLo _

theorem wordStored_keeps {β : Type} (p : Saddle → β) (hp : ∀ x lo hi, p { x with toLo := lo, toHi := hi } = p x) (i tag : Nat) :
    p ((wordStored s k h i tag w).sad k) = p (s.sad k) :=
  modSad_keeps p s k k fun x => modLane_keeps p hp x h _

/-- An entry of a lane is read as it was written. -/
theorem wordStored_entry {i : Nat} (hi : i < ((s.sad k).lane h).entries.length) (tag : Nat) :
    (((wordStored s k h i tag w).sad k).lane h).entries.getD i (0, 0) = (tag, w) := by
  rw [wordStored, sad_modSad_self, lane_modLane]
  simp [setNth, hi]

end

/-! ## Invalid and dropped words -/

/-- What an undelivered word moves of a Saddle: what the lane presents, and the counts TAG_ERR and DROPPED. -/
def laneCounts (h : Bool) (x : Saddle) : Option Word × BitVec 16 × BitVec 16 := ((x.lane h).out, x.tagErr, x.dropped)

theorem laneCounts_unchecked (h : Bool) : Unchecked (laneCounts h) := fun _ _ _ _ _ _ _ _ _ => rfl

/-- The lane presents nothing valid, and TAG_ERR counts the word: a tag failure before its event. -/
def wordInvalid (s : State) (k : Nat) (h : Bool) : State :=
  s.modSad k fun x => { x.modLane h (fun l => { l with out := none }) with tagErr := x.tagErr + 1 }

/-- The lane presents nothing valid, and DROPPED counts the word: a ratio drop before its event. -/
def wordDropped (s : State) (k : Nat) (h : Bool) : State :=
  s.modSad k fun x => { x.modLane h (fun l => { l with out := none }) with dropped := x.dropped + 1 }

section

variable {s : State} {k : Fin 760} {h : Bool}

theorem tagFail_eq (ev : Ev) (flag : Nat) : s.tagFail k h ev flag = (wordInvalid s k h).sadError k ev flag := rfl

theorem ratioDrop_eq : s.ratioDrop k h = ((wordDropped s k h).sadEvent k .ratioDrop []).sadFlag k 4 := rfl

theorem wordInvalid_counts : laneCounts h ((wordInvalid s k h).sad k) = (none, (s.sad k).tagErr + 1, (s.sad k).dropped) := by
  rw [wordInvalid, sad_modSad_self]
  cases h <;> rfl

theorem wordInvalid_raisedNow : ((wordInvalid s k h).sad k).raisedNow = (s.sad k).raisedNow :=
  modSad_keeps Saddle.raisedNow s k k fun x => modLane_keeps Saddle.raisedNow (fun _ _ _ => rfl) x h _

theorem tagFail_counts (ev : Ev) (flag : Nat) :
    (((s.tagFail k h ev flag).sad k).lane h).out = none ∧ ((s.tagFail k h ev flag).sad k).tagErr = (s.sad k).tagErr + 1 ∧
      ((s.tagFail k h ev flag).sad k).lastErr = some s.mark := by
  have htold : Told (laneCounts h) k (wordInvalid s k h) ((wordInvalid s k h).sadError k ev flag) :=
    told_sadError (laneCounts_unchecked h) (fun _ _ => rfl) (Told.refl _)
  obtain ⟨hout, htag, -⟩ := by simpa only [laneCounts, Prod.mk.injEq] using htold.saddle.trans wordInvalid_counts
  rw [tagFail_eq]
  exact ⟨hout, htag, sadError_lastErr ..⟩

theorem tagFail_raises {ev : Ev} (hfirst : (s.sad k).raisedNow.contains ev = false) (flag : Nat) :
    Raises s (s.tagFail k h ev flag) ev ev.sev 3 k [] :=
  tagFail_eq (s := s) ev flag ▸ sadError_raises (s := wordInvalid s k h) flag (by rw [wordInvalid_raisedNow, hfirst])

theorem tagFail_sad_ne {j : Fin 760} (hj : j ≠ k) (ev : Ev) (flag : Nat) : (s.tagFail k h ev flag).sad j = s.sad j :=
  (sadError_sad_ne (Fin.val_ne_of_ne hj) ..).trans (sad_modSad_ne (Fin.val_ne_of_ne hj) _)

theorem wordDropped_counts : laneCounts h ((wordDropped s k h).sad k) = (none, (s.sad k).tagErr, (s.sad k).dropped + 1) := by
  rw [wordDropped, sad_modSad_self]
  cases h <;> rfl

theorem wordDropped_raisedNow : ((wordDropped s k h).sad k).raisedNow = (s.sad k).raisedNow :=
  modSad_keeps Saddle.raisedNow s k k fun x => modLane_keeps Saddle.raisedNow (fun _ _ _ => rfl) x h _

theorem ratioDrop_counts : (((s.ratioDrop k h).sad k).lane h).out = none ∧ ((s.ratioDrop k h).sad k).dropped = (s.sad k).dropped + 1 := by
  have htold : Told (laneCounts h) k (wordDropped s k h) (((wordDropped s k h).sadEvent k .ratioDrop []).sadFlag k 4) :=
    told_setBit (told_sadEvent (laneCounts_unchecked h) (Told.refl _))
  obtain ⟨hout, -, hdropped⟩ := by simpa only [laneCounts, Prod.mk.injEq] using htold.saddle.trans wordDropped_counts
  rw [ratioDrop_eq]
  exact ⟨hout, hdropped⟩

theorem ratioDrop_raises (hfirst : (s.sad k).raisedNow.contains .ratioDrop = false) : Raises s (s.ratioDrop k h) .ratioDrop .degraded 3 k [] :=
  sadEvent_raises (s := wordDropped s k h) (by rw [wordDropped_raisedNow, hfirst]) []

end

/-! ## Capture -/

section

variable {s : State} {k : Fin 760} {h : Bool} {c rc : Nat}

/-- The sampling point of a direction of an inner Saddle, in 1/16 phase after the sender's edge (R201). -/
def samplingPoint (s : State) (k : Nat) (h : Bool) : Int := 4 * ((if h then (s.sad k).capHi else (s.sad k).capLo : Nat) : Int) + s.edgeDiff k h

theorem captureInner_inside (htag : c % 2 = (rc + 1) % 2) (hlo : 24 ≤ samplingPoint s k h) (hhi : samplingPoint s k h ≤ 232) (w : Word) :
    s.captureInner k h c rc w = wordPresented (wordStored s k h 0 (c % 2) w) k h (some w) :=
  if_pos ⟨htag, hlo, hhi⟩

theorem captureInner_outside (hout : c % 2 ≠ (rc + 1) % 2 ∨ samplingPoint s k h < 24 ∨ 232 < samplingPoint s k h) (w : Word) :
    s.captureInner k h c rc w = (wordStored s k h 0 (c % 2) w).tagFail k h .windowExceeded 2 := by
  refine if_neg fun ⟨htag, hlo, hhi⟩ => ?_
  rcases hout with hne | hbelow | habove
  · exact hne htag
  · exact absurd hlo (Int.not_le.2 hbelow)
  · exact absurd hhi (Int.not_le.2 habove)

/-- The receiver two cycles on reads the entry that the sender wrote, under the tag it expects (R208). -/
theorem captureSeam_onTime (hlen : ((s.sad k).lane h).entries.length = 2) (htag : rc % 4 = (c + 2) % 4) (hlo : -240 ≤ s.edgeDiff k h)
    (hhi : s.edgeDiff k h ≤ 240) (w : Word) :
    s.captureSeam k h c rc w = wordPresented (wordStored s k h (c % 2) (c % 4) w) k h (some w) := by
  have hread : rc % 2 = c % 2 := by omega
  have hentry := wordStored_entry (i := c % 2) (w := w) (by rw [hlen]; exact Nat.mod_lt c two_pos) (c % 4)
  unfold State.captureSeam
  extract_lets d t e
  have he : e = (c % 4, w) := by
    unfold e
    rw [hread]
    exact hentry
  rw [he, if_pos ⟨by omega, hlo, hhi⟩]
  rfl

end

/-! ## BULK_WORD -/

section

variable {s : State} {k : Fin 760} {h : Bool} {c : Nat}

/-- The position of the Spur that clocks the side from which a direction sends. -/
def senderGen (s : State) (k : Nat) (h : Bool) : Gen := (s.spur ((s.clockedBy (if h then sadLow k else sadHigh k)).getD 0)).gen

theorem exec_bulkWord_uncarried (hcarries : s.carries k = false) (c rc : Nat) (w : Word) : exec (.bulkWord k h c rc w) s = .next (wordPresented s k h none) := by
  change execBulkWord k h c rc w s = _
  simp [execBulkWord, hcarries, wordPresented]

theorem exec_bulkWord_inner (hcarries : s.carries k = true) (hinner : sadSeam k = false) (c rc : Nat) (w : Word) :
    exec (.bulkWord k h c rc w) s = .next (s.captureInner k h c rc w) := by
  change execBulkWord k h c rc w s = _
  simp [execBulkWord, hcarries, hinner]

theorem exec_bulkWord_mixed (hcarries : s.carries k = true) (hseam : sadSeam k = true) (hmode : (s.sad k).modeOf true ≠ (s.sad k).modeOf false) (c rc : Nat)
    (w : Word) : exec (.bulkWord k h c rc w) s = .next (s.ratioDrop k h) := by
  change execBulkWord k h c rc w s = _
  simp [execBulkWord, hcarries, hseam, hmode]

/-- Off a coincident edge of the faster sender the word is dropped, whether or not a change is at hand (R213, R214). -/
theorem exec_bulkWord_offCoincident (hcarries : s.carries k = true) (hseam : sadSeam k = true) (hmode : (s.sad k).modeOf true = (s.sad k).modeOf false)
    (hfast : (s.sad k).fastOf (!h) = true) (hoff : c % (s.sad k).ratio ≠ 0) (rc : Nat) (w : Word) :
    exec (.bulkWord k h c rc w) s = .next (s.ratioDrop k h) := by
  have hratio : (s.sad k).ratio ≠ 1 := ratioOf_of_oneMode hmode (!h) ▸ (fastOf_iff.1 hfast).1
  have hslow : (s.sad k).fastOf h = false := by simpa using slow_of_fast hmode hfast
  have hcapture : s.captureRatio k h c rc w = s.ratioDrop k h := by simp [State.captureRatio, hslow, ratioOf_of_oneMode hmode, hoff]
  change execBulkWord k h c rc w s = _
  unfold execBulkWord
  simp [hcarries, hseam, hratio, hcapture]

/-- A seam that carries its lanes, its two sides in one mode with no change at hand for a word launched at cycle `c` of a sender that is not the faster side. -/
structure SeamSteady (s : State) (k : Fin 760) (h : Bool) (c : Nat) : Prop where
  carries : s.carries k = true
  seam : sadSeam k = true
  oneMode : (s.sad k).modeOf true = (s.sad k).modeOf false
  slowSender : (s.sad k).fastOf (!h) = false
  steadyHigh : s.modeEdge k true (senderGen s k h) c c = false
  steadyLow : s.modeEdge k false (senderGen s k h) c c = false

theorem exec_bulkWord_seam (hs : SeamSteady s k h c) (rc : Nat) (w : Word) : exec (.bulkWord k h c rc w) s =
    .next (if (s.sad k).ratio = 1 then s.captureSeam k h c rc w else s.captureRatio k h c rc w) := by
  obtain ⟨hcarries, hseam, hmode, hslow, hhigh, hlow⟩ := hs
  change execBulkWord k h c rc w s = _
  unfold execBulkWord
  extract_lets x sender j
  have hj : j = c := slowCyc_of_slow hslow c
  have hquiet : (x.modeOf true != x.modeOf false || s.modeEdge k true sender c j || s.modeEdge k false sender c j) = false := by
    rw [hj, Bool.or_eq_false_iff, Bool.or_eq_false_iff]
    exact ⟨⟨bne_eq_false_iff_eq.2 hmode, hhigh⟩, hlow⟩
  rw [hquiet]
  simp only [hcarries, hseam, Bool.not_true, Bool.false_eq_true, Bool.true_eq_false, if_false]
  rfl

theorem exec_bulkWord_seam_one (hs : SeamSteady s k h c) (hone : (s.sad k).ratio = 1) (rc : Nat) (w : Word) :
    exec (.bulkWord k h c rc w) s = .next (s.captureSeam k h c rc w) :=
  (exec_bulkWord_seam hs rc w).trans (congrArg _ (if_pos hone))

/-- Toward the faster side the elastic stage counts by the slower side's cycles (R212). -/
theorem exec_bulkWord_seam_toFast (hs : SeamSteady s k h c) (hfast : (s.sad k).fastOf h = true) {rc : Nat} (hcoincident : rc % (s.sad k).ratio = 0) (w : Word) :
    exec (.bulkWord k h c rc w) s = .next (s.captureSeam k h c (rc / (s.sad k).ratio) w) := by
  have hq := ratioOf_of_oneMode hs.oneMode h
  have hratio : (s.sad k).ratio ≠ 1 := hq ▸ (fastOf_iff.1 hfast).1
  rw [exec_bulkWord_seam hs, if_neg hratio]
  simp [State.captureRatio, hfast, hq, hcoincident]

end

/-- Settles O23: each form of the word ends in a presented word, in `State.tagFail` or in `State.ratioDrop`. -/
theorem bulkWordsAreCapturedByTheirTags : Obligations.BulkWordsAreCapturedByTheirTags := by
  refine ⟨fun s k h c rc w hcarries hinner htag hlo hhi => ?_, fun s k h c rc w hcarries hinner hout => ?_,
    fun s k h c rc w hcarries hseam hone hmode hhigh hlow hlen htag hmin hmax => ?_,
    fun s k h c rc w hcarries hseam hfast hmode hhigh hlow hlen hcoincident htag hmin hmax => ?_,
    fun s k h c rc w hcarries hseam hdrop => ?_, fun s k h c rc w hcarries => ?_⟩
  · refine ⟨_, exec_bulkWord_inner hcarries hinner c rc w, ?_⟩
    rw [captureInner_inside htag hlo hhi]
    exact ⟨wordPresented_out .., rfl, fun j hj => (wordPresented_sad_ne hj _).trans (wordStored_sad_ne hj ..)⟩
  · refine ⟨_, exec_bulkWord_inner hcarries hinner c rc w, ?_⟩
    rw [captureInner_outside hout]
    obtain ⟨hnone, htagErr, hlast⟩ := tagFail_counts (s := wordStored s k h 0 (c % 2) w) (k := k) (h := h) .windowExceeded 2
    rw [wordStored_keeps Saddle.tagErr fun _ _ _ => rfl] at htagErr
    refine ⟨hnone, htagErr, hlast, fun hfirst => ?_, fun j hj => (tagFail_sad_ne hj ..).trans (wordStored_sad_ne hj ..)⟩
    refine tagFail_raises (s := wordStored s k h 0 (c % 2) w) ?_ 2
    rwa [wordStored_keeps Saddle.raisedNow fun _ _ _ => rfl]
  · have hslow : (s.sad k).fastOf (!h) = false := slow_of_ratioOf_one ((ratioOf_of_oneMode hmode _).trans hone)
    refine ⟨_, exec_bulkWord_seam_one ⟨hcarries, hseam, hmode, hslow, hhigh, hlow⟩ hone rc w, ?_⟩
    rw [captureSeam_onTime hlen htag hmin hmax]
    exact ⟨wordPresented_out .., rfl, fun j hj => (wordPresented_sad_ne hj _).trans (wordStored_sad_ne hj ..)⟩
  · refine ⟨_, exec_bulkWord_seam_toFast ⟨hcarries, hseam, hmode, slow_of_fast hmode hfast, hhigh, hlow⟩ hfast hcoincident w, ?_⟩
    rw [captureSeam_onTime hlen htag hmin hmax]
    exact ⟨wordPresented_out .., rfl⟩
  · have hexec : exec (.bulkWord k h c rc w) s = .next (s.ratioDrop k h) := by
      by_cases hmode : (s.sad k).modeOf true = (s.sad k).modeOf false
      · obtain ⟨hfast, hoff⟩ := hdrop.resolve_left fun hne => hne hmode
        exact exec_bulkWord_offCoincident hcarries hseam hmode hfast hoff rc w
      · exact exec_bulkWord_mixed hcarries hseam hmode c rc w
    obtain ⟨hnone, hdropped⟩ := ratioDrop_counts (s := s) (k := k) (h := h)
    exact ⟨_, hexec, hnone, hdropped, ratioDrop_raises⟩
  · exact ⟨_, exec_bulkWord_uncarried hcarries c rc w, wordPresented_out .., rfl, fun j hj => wordPresented_sad_ne hj _⟩

end Sys2Proof.Proofs
end

section
/-! INTENT: the hold class, its timer and the pre-stretch window of an announcement (O25). -/

set_option Elab.async false

namespace Sys2Proof.Proofs

open Sys2Proof.Machine Sys2Proof.Safety Sys2Proof.Laws

/-! ## The workload state after an announcement (R239 to R241) -/

/-- The hold class that an announcement meets: none once the hold timer has run out (R239). -/
def holdClass (x : Wl) : Nat := if x.holdLeft = 0 then 0 else x.hold

/-- The edges of a new window, and those that an older one keeps before it, edge by edge (R240). -/
theorem preMask_opened {c : Fin 4} (hc : c.val ≠ 0) (m : BitVec 16) {j : Nat} (hj : j < 16) :
    ((m &&& 0x001F#16) ||| preBits c).getLsbD j = if j < 5 then m.getLsbD j else decide (j < 2 * c.val + 8) := by
  have hold : ∀ j < 16, (0x001F#16).getLsbD j = decide (j < 5) := by decide
  have hnew : ∀ c : Fin 4, c.val ≠ 0 → ∀ j < 16, (preBits c).getLsbD j = (decide (5 ≤ j) && decide (j < 2 * c.val + 8)) := by decide
  rw [BitVec.getLsbD_or, BitVec.getLsbD_and, hold j hj, hnew c hc j hj]
  by_cases h : j < 5
  · simp [h, show ¬ 5 ≤ j by omega]
  · simp [h, show 5 ≤ j by omega]

section

variable {x : Wl} {c : Nat} (en : Bool) (hold : Nat)

theorem announce_opens (h : holdClass x < c) :
    (x.announce true hold c).windows = x.windows + 1 ∧ (x.announce true hold c).ignored = x.ignored ∧ (x.announce true hold c).preLeft = preEdges c ∧
      (x.announce true hold c).preMask = (x.preMask &&& 0x001F#16) ||| preBits c := by
  have hle : ¬ c ≤ holdClass x := by omega
  unfold holdClass at h hle
  simp [Wl.announce, h, hle]

theorem announce_ignored (h : c ≤ holdClass x) :
    (x.announce en hold c).windows = x.windows ∧ (x.announce en hold c).ignored = x.ignored + 1 ∧ (x.announce en hold c).preMask = x.preMask ∧
      (x.announce en hold c).preLeft = x.preLeft := by
  have hlt : ¬ holdClass x < c := by omega
  unfold holdClass at h hlt
  simp [Wl.announce, h, hlt]

theorem announce_disabled (h : holdClass x < c) :
    (x.announce false hold c).windows = x.windows ∧ (x.announce false hold c).ignored = x.ignored ∧ (x.announce false hold c).preMask = x.preMask ∧
      (x.announce false hold c).preLeft = x.preLeft := by
  have hle : ¬ c ≤ holdClass x := by omega
  unfold holdClass at hle
  simp [Wl.announce, hle]

end

/-! ## INTENT_ANNOUNCE and HOLD_EXPIRY -/

section

variable {s : State} {r : Fin 400} {c : Fin 4}

theorem exec_intentAnnounce_unheard (h : c.val = 0 ∨ s.listens r = false ∨ (s.spur (s.driverSpur r)).wl.heard = true) :
    exec (.intentAnnounce r c) s = .next s :=
  congrArg Host.Outcome.next (if_pos (by rcases h with h | h | h <;> simp [h]))

/-- INTENT_ANNOUNCE that is heard changes only Spurs, and of the workload states only that of the driving Spur. -/
theorem intentAnnounce_heard (hc : c.val ≠ 0) (hlisten : s.listens r = true) (hfirst : (s.spur (s.driverSpur r)).wl.heard = false) :
    Runs (.intentAnnounce r c) s fun t => t = { s with spurs := t.spurs } ∧
      (t.spur (s.driverSpur r)).wl = (s.spur (s.driverSpur r)).wl.announce ((s.word (sprAddr (s.driverSpur r) 0x80)).bit 12)
        ((s.word (sprAddr (s.driverSpur r) 0x80)).bits 9 0) c := by
  refine ⟨_, congrArg Host.Outcome.next (if_neg (by simp [hc, hlisten, hfirst])), rfl, ?_⟩
  exact (modSpur_keeps _ Spur.wl r _).trans (congrArg Spur.wl (spur_modSpur_of_lt s (driverSpur_lt r) _))

theorem exec_holdExpiry {n : Fin 425} (h : (s.spur n).wl.holdLeft = 0) :
    exec (.holdExpiry n) s = .next (s.modSpur n fun x => { x with wl := { x.wl with hold := 0 } }) :=
  congrArg Host.Outcome.next (if_pos h)

end

/-- Settles O25: what is heard is `Wl.announce`, split by the class against the hold class and by SPR_INTCFG.EN. -/
theorem intentOpensAPreStretchWindowAboveTheHoldClass : Obligations.IntentOpensAPreStretchWindowAboveTheHoldClass := by
  refine ⟨fun s r c hc hlisten hfirst => ?_, fun s r c h => exec_intentAnnounce_unheard h, fun s n h => exec_holdExpiry h⟩
  obtain ⟨t, hexec, hframe, hwl⟩ := intentAnnounce_heard hc hlisten hfirst
  refine ⟨t, hexec, hframe, ?_⟩
  rw [hwl]
  refine ⟨rfl, rfl, rfl, fun habove hen => ?_, fun hle => announce_ignored _ _ hle, fun habove hen => ?_⟩
  · rw [hen]
    obtain ⟨hwindows, hignored, hleft, hmask⟩ := announce_opens ((s.word (sprAddr (s.driverSpur r) 0x80)).bits 9 0) habove
    refine ⟨hwindows, hignored, hleft.trans (if_neg hc), fun j hj => ?_⟩
    rw [hmask]
    exact preMask_opened hc _ hj
  · rw [hen]
    exact announce_disabled _ habove

end Sys2Proof.Proofs
end

section
/-! Checksum frames: the window, the counts at the parity bit, the limit at RATE and its end, and the examination of the counts (O26). -/

set_option Elab.async false

namespace Sys2Proof.Proofs

open Sys2Proof.Machine Sys2Proof.Safety Sys2Proof.Laws

/-! ## A word beside one that the block writes -/

theorem find_erase_ne {a b : Nat} (h : a ≠ b) (r : RegFile) : (r.erase a).find b = r.find b := by
  induction r with
  | nil => rfl
  | cons p r ih =>
    obtain ⟨k, v⟩ := p
    unfold RegFile.erase
    split
    · next hk => exact (if_neg (by omega)).symm
    · simp only [RegFile.find, ih]

theorem find_set_ne {a b : Nat} (h : a ≠ b) (r : RegFile) (d w : Word) : (r.set a d w).find b = r.find b := by
  unfold RegFile.set
  split
  · exact find_erase_ne h r
  · exact (find_insert ..).trans (if_neg h)

theorem word_setWord_ne {a b : Nat} (h : a ≠ b) (s : State) (w : Word) : (s.setWord a w).word b = s.word b :=
  congrArg (·.getD (resetWord b)) (find_set_ne h ..)

theorem word_strFlag_ne (s : State) {n i o : Nat} (h : o ≠ 0x78) : (s.strFlag n i).word (sprAddr n o) = s.word (sprAddr n o) :=
  word_setWord_ne (by unfold sprAddr; omega) s _

/-! ## The edge that samples a bit of the line -/

/-- What the end of a frame takes from the state beside the Spur: SPR_CHKCFG, the time and the domains. -/
def frameInputs (n : Nat) (s : State) : Word × Ridgeline × Fabric := (s.word (sprAddr n 0xA0), s.rdg, s.fab)

section

variable {β : Type} (p : State → β) (h : ∀ t k f, p (State.modSad t k f) = p t)

include h

theorem wires_keeps (s : State) (n r : Nat) (change : Int) : p (s.wires n r change) = p s := by
  have hhear : ∀ (t : State) (g : Gen) v, p (t.hearAt g change v) = p t := fun t g v => by
    refine each_keeps p (fun u k => ?_) _ _
    exact h ..
  have hsay : ∀ (t : State) code v, p (t.sayAt n code v) = p t := fun t code v => by
    refine each_keeps p (fun u k => ?_) _ _
    split
    · rfl
    · split
      · exact h ..
      · exact h ..
  exact (each_keeps p (fun t v => hsay t _ v) _ _).trans (each_keeps p (fun t v => hhear t _ v) _ _)

theorem relayOwn_keeps (s : State) (r : Nat) (change : Int) : p (s.relayOwn r change) = p s := by
  unfold State.relayOwn
  split
  · rfl
  · refine each_keeps p (fun t k => ?_) _ _
    exact h ..

end

theorem endPerturb_raised (s : State) : s.endPerturb.raised = s.raised := by
  unfold State.endPerturb
  extract_lets inj fd t
  have ht : t.raised = s.raised := by
    refine when_keeps State.raised (fun u => ?_) ..
    exact setField_raised ..
  refine (when_keeps State.raised (fun u => ?_) ..).trans ht
  exact setField_raised ..

theorem frameInputs_strFlag (s : State) (n i : Nat) : frameInputs n (s.strFlag n i) = frameInputs n s := by
  simp only [frameInputs, word_strFlag_ne s (show 0xA0 ≠ 0x78 by decide)]
  rfl

/-- An edge ends with the sampling of the line, once the decision has been taken (R137, R247). -/
theorem edgeRun_samples {s : State} {n : Fin 425} {r : Nat} (hlent : s.lentTo r = none) (slacks : List Int) :
    ∃ u b, s.edgeRun n r slacks = (u.sampleFrame n).when b State.endPerturb ∧
      u.spur n = (s.spur n).afterEdge (decision s n r) (s.droopLevel n) slacks (lowSlack slacks (s.monitors n)) ∧ frameInputs n u = frameInputs n s := by
  unfold State.edgeRun
  simp only [relayStep_of_not_lent hlent n]
  refine ⟨_, _, rfl, ?_, ?_⟩
  · exact (spur_when ..).trans ((spur_when ..).trans ((spur_when ..).trans ((spur_when ..).trans
      ((spur_of_spurs ((wires_spurs ..).trans (relayOwn_spurs ..)) n).trans (spur_modSpur_self ..)))))
  · have hraise : ∀ u : State, frameInputs n (u.raise .debtSaturated 2 n []) = frameInputs n u := fun _ => rfl
    have hlimit : ∀ (u : State) sev g, frameInputs n (((u.strFlag n 0).raiseAs .debtLimit sev 2 n []).modCol (fieldOf n) g) = frameInputs n u := by
      intro u sev g
      rw [← frameInputs_strFlag u n 0]
      rfl
    refine (when_keeps (frameInputs n) (fun u => hlimit u _ _) ..).trans ((when_keeps (frameInputs n) hraise ..).trans
      ((when_keeps (frameInputs n) (fun u => frameInputs_strFlag u n 1) ..).trans ((when_keeps (frameInputs n) (fun u => frameInputs_strFlag u n 4) ..).trans
        ((wires_keeps (frameInputs n) (fun _ _ _ => rfl) ..).trans (relayOwn_keeps (frameInputs n) (fun _ _ _ => rfl) ..)))))

/-! ## The counts (R247, R249, R251) -/

theorem nth_bump {l : List Nat} {a : Nat} (h : a < l.length) (i bound : Nat) :
    nth (bump l i bound) a = if a = i then min bound (nth l a + 1) else nth l a := by
  have hlen : a < (bump l i bound).length := by simpa [bump, mapFrom_length] using h
  have hat : (bump l i bound)[a] = if a = i then min bound (l[a] + 1) else l[a] :=
    (mapFrom_getElem _ l 0 a hlen).trans (by rw [Nat.zero_add])
  simpa [nth, hlen, h] using hat

section

variable {bits : BitVec 5} (x : Wl)

theorem mismatch_arrays_of_good (h : parityOk bits = true) : (x.mismatch bits).arrays = bump x.arrays (bits.toNat % 8) 15 := if_pos h

theorem mismatch_arrays_of_bad (h : parityOk bits = false) : (x.mismatch bits).arrays = x.arrays := if_neg (by simp [h])

end

/-! ## The examination of the counts (R251) -/

section

variable {s : State} {n : Fin 425}

theorem examine_spur : (s.examine n).spur n = { s.spur n with wl := { (s.spur n).wl with
    arrays := List.replicate 8 0, rows := List.replicate 8 0, cols := List.replicate 8 0, winBad := false } } := by
  unfold State.examine
  extract_lets x t
  have ht : t.spur n = s.spur n := by
    unfold t
    split <;> rfl
  rw [spur_modSpur_self, ht]

theorem mem_raised_examine {e : EventRec} (h : e ∈ s.raised) : e ∈ (s.examine n).raised := by
  unfold State.examine
  extract_lets x t
  rw [modSpur_raised]
  unfold t
  split
  · exact List.mem_append_left _ h
  · exact h

/-- The array that the examination names is told of, with its counts. -/
theorem examine_raises {a : Nat} (h : (s.spur n).wl.candidate ((s.word (sprAddr n 0xA0)).bits 11 8) = some a) :
    Raises s (s.examine n) .spareCandidate .info 2 n (le 1 a ++ le 1 (nth (s.spur n).wl.rows a) ++ le 1 (nth (s.spur n).wl.cols a)) := by
  simp only [State.examine, h]
  exact List.mem_append_right _ (List.mem_singleton_self _)

/-! ## The limit at RATE (R250) -/

/-- Where SRC_CHK is clear, the step in force is what the limit starts from. -/
theorem chkRate_spur {d : Dom} (hd : s.fab.dom (s.domOfSpur n) = d) (hclear : (s.spur n).lim.chk = none) :
    ((s.chkRate n).spur n).lim.chk = some (d.fcode (d.lower d.step)) ∧ ((s.chkRate n).spur n).wl.winCount = 0 := by
  subst hd
  unfold State.chkRate
  extract_lets x l v t t'
  have hstep : v.1 = x.lower x.step := by simp [v, l, hclear, Dom.nextLimit]
  rw [baseMoved_at_spur, examine_spur, show t'.spur n = _ from spur_modSpur_self .., ← hstep]
  exact ⟨rfl, rfl⟩

theorem chkRate_raises {d : Dom} (hd : s.fab.dom (s.domOfSpur n) = d) (hclear : (s.spur n).lim.chk = none) :
    Raises s (s.chkRate n) .chkRate (if d.step ≤ d.safe then .degraded else .corrected) 2 n [] := by
  subst hd
  unfold State.chkRate
  extract_lets x l v t t'
  have hsafe : v.2 = decide (x.step ≤ x.safe) := by simp [v, l, hclear, Dom.nextLimit]
  refine mem_raised_examine (s := t') (List.mem_append_right _ ?_)
  simp [hsafe, x]

end

/-! ## The end of a frame (R247 to R250) -/

/-- A frame that has ended, before the check against RATE: it has been counted, and one with bad parity, the first of its mark, told of. -/
def frameCounted (s : State) (n : Nat) (bits : BitVec 5) : State :=
  (s.modSpur n fun x => { x with wl := x.wl.mismatch bits }).when (!parityOk bits && !(s.spur n).wl.markBad) fun u =>
    (u.raise .chkFrameBad 2 n []).wlFlag n 4

section

variable {s : State} {n : Fin 425} {bits : BitVec 5}

theorem frameCounted_spur : (frameCounted s n bits).spur n = { s.spur n with wl := (s.spur n).wl.mismatch bits } :=
  (spur_when ..).trans (spur_modSpur_self ..)

theorem frameCounted_inputs : (frameCounted s n bits).rdg = s.rdg ∧ (frameCounted s n bits).fab = s.fab := by
  unfold frameCounted State.when
  split <;> exact ⟨rfl, rfl⟩

theorem frameCounted_raises (hbad : parityOk bits = false) (hfirst : (s.spur n).wl.markBad = false) :
    Raises s (frameCounted s n bits) .chkFrameBad .degraded 2 n [] := by
  rw [frameCounted, when_true (by simp [hbad, hfirst])]
  exact List.mem_append_right _ (List.mem_singleton_self _)

theorem endFrame_eq : s.endFrame n bits =
    (frameCounted s n bits).when (decide ((s.word (sprAddr n 0xA0)).bits 19 16 ≤ (s.spur n).wl.winCount + 1)) fun u => u.chkRate n := by
  have hcount : ((frameCounted s n bits).spur n).wl.winCount = (s.spur n).wl.winCount + 1 := by rw [frameCounted_spur]; rfl
  rw [← hcount]
  rfl

theorem endFrame_below (h : (s.spur n).wl.winCount + 1 < (s.word (sprAddr n 0xA0)).bits 19 16) : s.endFrame n bits = frameCounted s n bits :=
  endFrame_eq.trans (when_false (decide_eq_false (Nat.not_le.2 h)) ..)

/-- At the frame that brings the count to RATE, with SRC_CHK clear (R250). -/
theorem endFrame_atRate {d : Dom} (hd : s.fab.dom (s.domOfSpur n) = d) (h : (s.word (sprAddr n 0xA0)).bits 19 16 ≤ (s.spur n).wl.winCount + 1)
    (hclear : (s.spur n).lim.chk = none) : ((s.endFrame n bits).spur n).lim.chk = some (d.fcode (d.lower d.step)) ∧
      ((s.endFrame n bits).spur n).wl.winCount = 0 ∧
      Raises s (s.endFrame n bits) .chkRate (if d.step ≤ d.safe then .degraded else .corrected) 2 n [] := by
  obtain ⟨hrdg, hfab⟩ := frameCounted_inputs (s := s) (n := n) (bits := bits)
  have hdom : (frameCounted s n bits).fab.dom ((frameCounted s n bits).domOfSpur n) = d := by
    rw [State.domOfSpur, hfab]
    exact hd
  have hcounted : ((frameCounted s n bits).spur n).lim.chk = none := by
    rw [frameCounted_spur]
    exact hclear
  obtain ⟨hlimit, hcount⟩ := chkRate_spur hdom hcounted
  rw [endFrame_eq, when_true (decide_eq_true h)]
  exact ⟨hlimit, hcount, raises_of_stamp (congrArg stamp hrdg) (chkRate_raises hdom hcounted)⟩

theorem sampleFrame_last (h : (s.spur n).wl.frame = some (bits, 1)) : s.sampleFrame n = s.endFrame n bits := by
  rw [State.sampleFrame, h]
  rfl

end

/-! ## The commands -/

theorem exec_checksumFrame {s : State} {r : Fin 400} (hlisten : s.listens r = true) (hnone : (s.spur (s.driverSpur r)).wl.frame = none) (a : Fin 8) (col p : Bool) :
    exec (.checksumFrame r a col p) s = .next (s.modSpur (s.driverSpur r) fun x => { x with wl := { x.wl with
      chkLeft := 64, frame := some (BitVec.ofNat 5 (a + 8 * col.toNat + 16 * p.toNat), 5) } }) := by
  have hbits : frameBits a col p = BitVec.ofNat 5 (a + 8 * col.toNat + 16 * p.toNat) := by rw [frameBits, Nat.mod_eq_of_lt a.isLt]
  rw [← hbits]
  exact congrArg Host.Outcome.next (if_neg (by simp [hlisten, hnone]))

/-- SPUR_EDGE at a frame's parity bit: with `u` the state after the edge's decision, the frame ends in `u`. -/
theorem spurEdge_endsFrame {s : State} {n : Fin 425} {b : BitVec 5} (hready : s.edgeReady n = true) (hreg : s.regionOf n = some n.val)
    (hlent : s.lentTo n = none) (hv1 : (s.spur n).gates.v1 = false) (hfrozen : (s.spur n).str.frozen = false)
    (hframe : (s.spur n).wl.frame = some (b, 1)) (slacks : List Int) : ∃ t u, exec (.spurEdge n slacks) s = .next t ∧
      t.spur n = (u.endFrame n b).spur n ∧ t.raised = (u.endFrame n b).raised ∧ frameInputs n u = frameInputs n s ∧
      u.spur n = (s.spur n).afterEdge (decision s n n) (s.droopLevel n) slacks (lowSlack slacks (s.monitors n)) := by
  obtain ⟨u, p, hrun, hspur, hinputs⟩ := edgeRun_samples (n := n) hlent slacks
  have hlast : (u.spur n).wl.frame = some (b, 1) := by
    rw [hspur]
    exact hframe
  rw [sampleFrame_last hlast] at hrun
  refine ⟨_, u, exec_spurEdge_run hready hreg hfrozen hv1, ?_, ?_, hinputs, hspur⟩
  · rw [hrun]
    exact spur_when _ _ _ _ fun v => spur_of_spurs (endPerturb_spurs v) n
  · rw [hrun]
    exact when_keeps State.raised endPerturb_raised ..

theorem chkHoldExpiry_clears {s : State} {n : Fin 425} {v : Nat} (hmark : s.atMark = true) (hsilent : s.role.silent = false)
    (hset : (s.spur n).lim.chk = some v) (hlong : 2 ^ ((s.word (sprAddr n 0xA0)).bits 3 0 + 10) ≤ s.since (s.spur n).wl.lastRate) :
    exec (.chkHoldExpiry n) s = .next (s.modSpur n fun x => { x with lim := { x.lim with chk := none } }).baseMoved :=
  congrArg Host.Outcome.next (if_pos (by simp [hmark, hsilent, hset, hlong]))

theorem rateWindowEnd_examines {s : State} {n : Fin 425} (hcyc : s.atCycle0 n = true) (hnew : (s.spur n).wl.winAt ≠ (s.spur n).gen.tallyMark)
    (hends : (s.spur n).gen.tallyMark.toNat % rateMarks (s.word (sprAddr n 0xA0)) = 0) :
    exec (.rateWindowEnd n) s =
      .next ((s.examine n).modSpur n fun x => { x with wl := { x.wl with winCount := 0, winAt := (s.spur n).gen.tallyMark } }) :=
  congrArg Host.Outcome.next (if_pos (by simp [hcyc, hnew, hends]))

/-- Settles O26: at the parity bit the edge ends in `State.endFrame`, which is `frameCounted` below RATE and `State.chkRate` after it at RATE. -/
theorem checksumFramesStretchCountAndLimit : Obligations.ChecksumFramesStretchCountAndLimit := by
  refine ⟨fun s r a col p hlisten hnone => exec_checksumFrame hlisten hnone a col p,
    fun s n slacks b hready hn hreg hlent hv1 hfrozen hframe hbelow => ?_, fun s n slacks b hready hn hreg hlent hv1 hfrozen hframe hclear hat => ?_,
    fun s n v hmark hsilent hset hlong => ⟨_, chkHoldExpiry_clears hmark hsilent hset hlong, ?_, fun m hm => ?_⟩,
    fun s n a hcyc hnew hends hnames => ⟨_, rateWindowEnd_examines hcyc hnew hends, examine_raises hnames, ?_⟩⟩
  · obtain ⟨t, u, hexec, hspur, hraised, hinputs, hu⟩ := spurEdge_endsFrame hready hreg hlent hv1 hfrozen hframe slacks
    simp only [frameInputs, Prod.mk.injEq] at hinputs
    obtain ⟨hword, hrdg, -⟩ := hinputs
    rw [endFrame_below (by rw [hword, hu]; exact hbelow)] at hspur hraised
    refine ⟨t, hexec, ?_⟩
    dsimp only
    rw [hspur, frameCounted_spur, hu]
    refine ⟨rfl, rfl, rfl, rfl, rfl, fun hgood i hi => ?_, fun hbad => ⟨mismatch_arrays_of_bad _ hbad, fun hfirst => ?_⟩⟩
    · rw [mismatch_arrays_of_good _ hgood]
      exact nth_bump hi ..
    · refine raises_of_stamp (congrArg stamp hrdg) ?_
      rw [Raises, hraised]
      exact frameCounted_raises hbad (by rw [hu]; exact hfirst)
  · obtain ⟨t, u, hexec, hspur, hraised, hinputs, hu⟩ := spurEdge_endsFrame hready hreg hlent hv1 hfrozen hframe slacks
    simp only [frameInputs, Prod.mk.injEq] at hinputs
    obtain ⟨hword, hrdg, hfab⟩ := hinputs
    have hdom : u.fab.dom (u.domOfSpur n) = s.fab.dom (s.domOfSpur n) := by rw [State.domOfSpur, hfab, State.domOfSpur]
    obtain ⟨hlimit, hcount, htold⟩ := endFrame_atRate (bits := b) hdom (by rw [hword, hu]; exact hat) (by rw [hu]; exact hclear)
    refine ⟨t, hexec, ?_⟩
    dsimp only
    rw [hspur]
    refine ⟨hlimit, hcount, raises_of_stamp (congrArg stamp hrdg) ?_⟩
    rwa [Raises, hraised]
  · rw [baseMoved_at_spur, spur_modSpur_self]
  · exact spur_modSpur_of_ne s (fun h => hm (Fin.ext h.symm)) _
  · rw [spur_modSpur_self, examine_spur]
    exact ⟨rfl, rfl⟩

end Sys2Proof.Proofs
end

section
/-! A native window: its command, its first mark, the restore of the loops, its end, and the tally marks that carry a Spur into and out of it (O38). -/

set_option Elab.async false

namespace Sys2Proof.Proofs

open Sys2Proof.Machine Sys2Proof.Safety Sys2Proof.Laws

/-! ## WINDOW_COMMAND (R343) -/

/-- A choice made along a list is one of its elements, or what it began with. -/
theorem mem_of_foldl_choice {α : Type} {f : Option α → α → Option α} (hf : ∀ b a x, f b a = some x → b = some x ∨ a = x) {l : List α} {b : Option α} {x : α}
    (h : l.foldl f b = some x) : b = some x ∨ x ∈ l := by
  induction l generalizing b with
  | nil => exact .inl h
  | cons a l ih =>
    rcases ih h with h | h
    · exact (hf b a x h).imp id fun ha => List.mem_cons.2 (.inl ha.symm)
    · exact .inr (List.mem_cons_of_mem _ h)

theorem windowDue_mem {s : State} {w : Window} (h : s.windowDue = some w) : w ∈ s.cal.next.toList ++ s.cal.extras := by
  have hchoice : ∀ (p : Bool) (a b x : Window), (if p then some b else some a) = some x → some b = some x ∨ a = x := by
    intro p a b x hx
    split at hx
    · exact .inl hx
    · exact .inr (Option.some.inj hx)
  have hmem : none = some w ∨ w ∈ s.cal.unfixed.filter fun w => notAfter w.w (s.mark + 16) := by
    refine mem_of_foldl_choice (fun b a x hx => ?_) h
    split at hx
    · exact .inr (Option.some.inj hx)
    · exact hchoice _ a _ x hx
  exact (List.mem_filter.1 (List.mem_filter.1 (hmem.resolve_left nofun)).1).1

theorem mem_replaceFirst {α : Type} {p : α → Bool} {l : List α} {a : α} (ha : a ∈ l) (hp : p a = true) (v : α) : v ∈ replaceFirst p v l := by
  induction l with
  | nil => cases ha
  | cons b l ih =>
    unfold replaceFirst
    split
    · exact List.mem_cons_self
    · next hb =>
      rcases List.mem_cons.1 ha with rfl | hl
      · exact absurd hp hb
      · exact List.mem_cons_of_mem _ (ih hl)

/-- A window of the schedule that is replaced leaves the new one in its place. -/
theorem mem_replace {c : CalEng} {w : Window} (h : w ∈ c.next.toList ++ c.extras) (x : Window) :
    x ∈ (c.replace w x).next.toList ++ (c.replace w x).extras := by
  by_cases hnext : c.next = some w
  · exact List.mem_append_left _ (by simp [CalEng.replace, hnext])
  · have hextra : w ∈ c.extras := (List.mem_append.1 h).resolve_left fun hin => hnext (Option.mem_toList.1 hin)
    have hany : c.next.any (· == w) = false := by
      cases hc : c.next with
      | none => rfl
      | some y =>
        have hy : y ≠ w := fun hyw => hnext (hc.trans (congrArg some hyw))
        simp [hy]
    exact List.mem_append_right _ (mem_replaceFirst hextra (by simp [hany]) x)

/-- The window command has left, and the calibration engine holds `c`. -/
def Commanded (m : Message) (c : CalEng) (s : State) : Prop := m ∈ s.out ∧ s.cal = c

section

variable {s : State} {m : Message} {c : CalEng}

theorem Commanded.resend (h : Commanded m c s) : Commanded m c s.resend := by
  unfold State.resend
  refine each_preserves (Commanded m c) (fun t x ht => ?_) h _
  have hsent : (t.sendStage x).cal = t.cal := each_keeps State.cal (fun _ _ => sendLane_cal ..) t _
  exact ⟨mem_out_sendStage ht.1 x, hsent.trans ht.2⟩

end

/-- WINDOW_COMMAND at the mark 16 before a window that is free to begin there. -/
theorem windowCommand_fixes {s : State} {w : Window} (hdue : s.windowDue = some w) (hmark : s.atMark = true) (hnative : s.nativeOk = true)
    (hsilent : s.role.silent = false) (hpst : s.boot.pst = .v0) (hroot : s.rdg.root ≠ .holdover) (hfrom : s.rdg.calFrom = none)
    (hfloor : s.cal.floor { w with w := s.mark + 16, fixed := true } = s.mark + 16) :
    Runs .windowCommand s (Commanded (.lane (.window (s.mark + 16) w.n)) (s.cal.replace w { w with w := s.mark + 16, fixed := true })) := by
  refine ⟨_, rfl, ?_⟩
  simp only [hdue, hfrom, hfloor]
  rw [if_neg (by simp [hmark, hnative, hsilent, hpst, hroot]), if_neg (not_not.2 rfl)]
  refine Commanded.resend (each_preserves (Commanded _ _) (fun u x hu => ?_) ?_ _)
  · split
    · exact hu
    · exact hu
  · refine ⟨lane_mem_out_sendLane ?_ _, sendLane_cal ..⟩
    exact hsilent

/-! ## The marks of the window -/

theorem calWindowOpen_runs {s : State} {w : Window} (hmark : s.atMark = true)
    (hfind : (s.cal.next.toList ++ s.cal.extras).find? (fun w => w.fixed && w.w == s.mark) = some w) : Runs .calWindowOpen s fun t =>
      t.cal.cur = some w ∧ ∀ n : Fin 425, s.atWindow n s.mark = true → t.spur n = (s.spur n).openWindow := by
  have hdue : (s.cal.next.toList ++ s.cal.extras).find? (fun w => s.atMark && w.fixed && w.w == s.mark) = some w := by simpa [hmark] using hfind
  have hw : w.fixed = true ∧ w.w = s.mark := by simpa using List.find?_some hfind
  refine ⟨_, rfl, ?_⟩
  split
  · next hnone => exact absurd (hnone.symm.trans hdue) nofun
  · next v hsome =>
    obtain rfl : v = w := Option.some.inj (hsome.symm.trans hdue)
    refine ⟨rfl, fun n hat => ?_⟩
    exact (spur_mapSpurs s n.isLt _).trans (if_pos (by rwa [hw.2]))

theorem calLoopRestore_runs {s : State} (hleft : s.calLeft 13 = true) (hphase : s.cal.phase = 0) : Runs .calLoopRestore s fun t =>
    ∀ n : Fin 425, (s.spur n).gates.failed = false → s.underTest n = false → (s.spur n).gen.runs = true →
      (t.spur n).gen = { (s.spur n).gen.drive ((s.spur n).cal.heldCode.getD (s.spur n).gen.dcoCode) with
        loop := .acquire, acqMark := s.mark, lockRun := 0, lossRun := 0 } := by
  refine ⟨_, congrArg Host.Outcome.next (if_neg (by simp [hleft, hphase])), fun n hfailed htest hruns => ?_⟩
  have htaken : ((s.spur n).gates.failed || s.underTest n || (s.spur n).gen.loop == .failed || (s.spur n).gen.loop == .frozen) = false := by
    rcases runs_iff.1 hruns with h | h <;> simp [hfailed, htest, h]
  refine (congrArg Spur.gen (spur_mapSpurs _ n.isLt _)).trans (congrArg Spur.gen (if_neg ?_))
  exact fun htrue => Bool.false_ne_true (htaken.symm.trans htrue)

theorem calWindowClose_runs {s : State} {w : Window} (hcur : s.cal.cur = some w) (hmark : s.atMark = true) (hend : s.mark = w.w + BitVec.ofNat 40 w.n) :
    Runs .calWindowClose s fun t => t.cal.cur = none ∧ t.cal.windows = s.cal.windows + 1 ∧
      ∀ n : Fin 425, s.atWindow n s.mark = true → (s.spur n).str.frozen = true → t.spur n = (s.spur n).closeWindow (s.drivesCompute n) := by
  refine ⟨_, rfl, ?_⟩
  split
  · next hnone => exact absurd (hnone.symm.trans hcur) nofun
  · next v hsome =>
    obtain rfl : v = w := Option.some.inj (hsome.symm.trans hcur)
    rw [if_neg (by simp [hmark, hend])]
    refine ⟨rfl, rfl, fun n hat hfrozen => ?_⟩
    exact (spur_mapSpurs s n.isLt _).trans (if_pos (by rw [hfrozen, ← hend, hat]; rfl))

/-! ## The tally mark that carries a Spur into the window or out of it -/

/-- What the work of a tally mark keeps of a Spur until `State.windowMark`: its debt, whether that is frozen, and a split arm that waits. -/
def heldSoFar (x : Spur) : Bool × Nat × Option Mark := (x.str.frozen, x.str.debt, x.gates.splitAt)

/-- What `State.windowMark` meets: the schedule of the windows and Spur `n`. -/
def windowInputs (n : Nat) (s : State) : CalEng × Bool × Nat × Option Mark := (s.cal, heldSoFar (s.spur n))

/-- What a tally mark keeps of a Spur after `State.windowMark`. -/
def windowOutcome (x : Spur) : Bool × Bool × Nat := (x.gates.leaf, x.str.frozen, x.str.debt)

section

variable (s : State) (n k : Nat) (m : Mark)

theorem modSpur_windowInputs {f : Spur → Spur} (h : ∀ x, heldSoFar (f x) = heldSoFar x := by exact fun _ => rfl) :
    windowInputs n (s.modSpur k f) = windowInputs n s :=
  congrArg (Prod.mk s.cal) (modSpur_keeps s heldSoFar k n h)

theorem gateMark_windowInputs : windowInputs n (s.gateMark k m) = windowInputs n s := by
  unfold State.gateMark
  split
  · split
    · exact modSpur_windowInputs s n k
    · exact modSpur_windowInputs s n k
  · rfl

theorem fenceMark_windowInputs : windowInputs n (s.fenceMark k) = windowInputs n s := by
  unfold State.fenceMark
  split
  · exact modSpur_windowInputs s n k
  · rfl

theorem endCaps_windowInputs : windowInputs n (s.endCaps k) = windowInputs n s := by
  refine each_keeps (windowInputs n) (fun t j => ?_) _ _
  exact modSpur_windowInputs t n j

theorem cutRegion_windowInputs : windowInputs n (s.cutRegion k) = windowInputs n s := by
  unfold State.cutRegion
  extract_lets f t t' t''
  have ht : windowInputs n t = windowInputs n s := by
    unfold t
    split
    · rfl
    · split
      · exact endCaps_windowInputs s n k
      · rfl
  have ht' : windowInputs n t' = windowInputs n t := modSpur_windowInputs t n k
  have ht'' : windowInputs n t'' = windowInputs n t' := by
    refine each_keeps (windowInputs n) (fun u j => ?_) t' (sadsOf k)
    rfl
  split
  · exact ht''.trans (ht'.trans ht)
  · exact ht''.trans (ht'.trans ht)

theorem gradeMark_keeps {β : Type} (p : Spur → β) (h : ∀ x g q, p { x with gates := { x.gates with grade := g, gradeNext := q } } = p x) :
    p ((s.gradeMark n m).spur k) = p (s.spur k) := by
  unfold State.gradeMark
  extract_lets due
  split
  · rfl
  · exact modSpur_keeps s p n k fun x => h x ..

theorem bandMark_keeps {β : Type} (p : Spur → β) (h : ∀ x b, p { x with gates := { x.gates with band := b } } = p x) :
    p ((s.bandMark n).spur k) = p (s.spur k) := by
  unfold State.bandMark
  split
  · exact modSpur_keeps s p n k fun x => h x _
  · exact modSpur_keeps s p n k fun x => h x _

end

theorem splitMark_of_none {s : State} {n : Nat} (h : (s.spur n).gates.splitAt = none) (m : Mark) : s.splitMark n m = s := if_pos (by simp [h])

/-- TALLY_MARK, where no split arm waits: `u` is the state that meets `State.windowMark`, and the rest of the mark keeps what that has made of the Spur. -/
theorem tallyMark_reaches_windowMark {s : State} {n : Fin 425} (hready : s.markReady n = true) (hsplit : (s.spur n).gates.splitAt = none) :
    Runs (.tallyMark n) s fun t => ∃ u, windowInputs n u = windowInputs n s ∧
      windowOutcome (t.spur n) = windowOutcome ((u.windowMark n ((s.spur n).gen.tallyMark + 1)).spur n) := by
  refine ⟨_, congrArg Host.Outcome.next (if_neg (by simp [hready])), ?_⟩
  extract_lets x m late t₀ t₁ t₂ t₃ t₄ t₅
  have h₀ : windowInputs n t₀ = windowInputs n s := (fenceMark_windowInputs _ n n).trans (gateMark_windowInputs s n n m)
  have h₁ : windowInputs n t₁ = windowInputs n t₀ := modSpur_windowInputs t₀ n n
  have h₂ : windowInputs n t₂ = windowInputs n t₁ := by
    refine each_keeps (windowInputs n) (fun u _ => ?_) t₁ (List.range late)
    rfl
  have h₃ : windowInputs n t₃ = windowInputs n t₂ := by
    refine when_keeps (windowInputs n) (fun u => ?_) t₂ _
    rfl
  have h₄ : windowInputs n t₄ = windowInputs n t₃ := by
    refine when_keeps (windowInputs n) (fun u => ?_) t₃ _
    exact modSpur_windowInputs u n n
  have hcut : windowInputs n (t₄.each (s.darkMark n) State.cutRegion) = windowInputs n s :=
    (each_keeps (windowInputs n) (fun u r => cutRegion_windowInputs u n r) ..).trans (h₄.trans (h₃.trans (h₂.trans (h₁.trans h₀))))
  have hnone : ((t₄.each (s.darkMark n) State.cutRegion).spur n).gates.splitAt = none :=
    (congrArg (fun v => v.2.2.2) hcut).trans hsplit
  refine ⟨_, hcut, ?_⟩
  rw [← splitMark_of_none hnone m]
  change _ = windowOutcome (t₅.spur n)
  split
  · exact congrArg windowOutcome (spur_when _ _ _ _ fun u => spur_of_spurs (sadMark_spurs u n) n)
  · next r _ =>
    extract_lets t₆ t₇ t₈
    have h₆ : windowOutcome (t₆.spur n) = windowOutcome (t₅.spur n) := modSpur_keeps t₅ windowOutcome r n
    have h₇ : windowOutcome (t₇.spur n) = windowOutcome (t₆.spur n) :=
      (bandMark_keeps _ r n windowOutcome fun _ _ => rfl).trans (gradeMark_keeps t₆ r n m windowOutcome fun _ _ _ => rfl)
    have h₈ : windowOutcome (t₈.spur n) = windowOutcome (t₅.spur n) := (congrArg windowOutcome (spur_of_spurs (sadMark_spurs t₇ r) n)).trans (h₇.trans h₆)
    split
    · exact h₈
    · next b _ =>
      exact (congrArg windowOutcome (spur_of_spurs (sadMark_spurs _ b) n)).trans ((bandMark_keeps t₈ b n windowOutcome fun _ _ => rfl).trans h₈)

section

variable {s : State} {n : Fin 425} {m : Mark}

theorem windowMark_opens {w : Window} (hcur : s.cal.cur = some w) (hw : w.w = m) : (s.windowMark n m).spur n = (s.spur n).openWindow := by
  rw [State.windowMark, if_pos (by simp [hcur, hw]), spur_modSpur_self]

theorem windowMark_closes (hcur : s.cal.cur = none) (hend : s.cal.prevEnd = some m) (hfrozen : (s.spur n).str.frozen = true) :
    (s.windowMark n m).spur n = (s.spur n).closeWindow (s.drivesCompute n) := by
  rw [State.windowMark, if_neg (by simp [hcur]), if_pos (by simp [hcur, hend, hfrozen]), spur_modSpur_self]

end

/-- The stretch window of a region's Spur at the end of a native window: its first 9 edges (R346). -/
theorem preMask_closed (m : BitVec 16) {j : Nat} (hj : j < 9) : (m ||| 0x1FF#16).getLsbD j = true := by
  have hnine : ∀ j < 9, (0x1FF#16).getLsbD j = true := by decide
  rw [BitVec.getLsbD_or, hnine j hj, Bool.or_true]

/-- Settles O38: each Spur goes through `Spur.openWindow` and `Spur.closeWindow`, at the window's command or at its own tally mark. -/
theorem nativeWindowIsFixedOpenedAndClosed : Obligations.NativeWindowIsFixedOpenedAndClosed := by
  refine ⟨fun s w hdue hmark hnative hsilent hpst hroot hfrom hfloor => ?_, fun s w hmark hfind => ?_, fun s n w hready hsplit hcur hw => ?_,
    fun s n hready hsplit hcur hend hfrozen => ?_, fun s hleft hphase => ?_, fun s w hcur hmark hend => ?_⟩
  · obtain ⟨t, hexec, hout, hcal⟩ := windowCommand_fixes hdue hmark hnative hsilent hpst hroot hfrom hfloor
    refine ⟨t, hexec, hout, { w with w := s.mark + 16, fixed := true }, ?_, rfl, rfl, rfl⟩
    rw [hcal]
    exact mem_replace (windowDue_mem hdue) _
  · obtain ⟨t, hexec, hcur, hspur⟩ := calWindowOpen_runs hmark hfind
    refine ⟨t, hexec, hcur, fun n hat => ?_⟩
    rw [hspur n hat]
    exact ⟨rfl, rfl, rfl, rfl, rfl, rfl, rfl⟩
  · obtain ⟨t, hexec, u, hinputs, houtcome⟩ := tallyMark_reaches_windowMark hready hsplit
    simp only [windowInputs, heldSoFar, Prod.mk.injEq] at hinputs
    obtain ⟨hcal, -, hdebt, -⟩ := hinputs
    rw [windowMark_opens (by rw [hcal, hcur]) hw] at houtcome
    simp only [windowOutcome, Prod.mk.injEq] at houtcome
    obtain ⟨hleaf, hfrozen, hkept⟩ := houtcome
    exact ⟨t, hexec, hleaf, hfrozen, hkept.trans hdebt⟩
  · obtain ⟨t, hexec, u, hinputs, houtcome⟩ := tallyMark_reaches_windowMark hready hsplit
    simp only [windowInputs, heldSoFar, Prod.mk.injEq] at hinputs
    obtain ⟨hcal, hstill, -, -⟩ := hinputs
    rw [windowMark_closes (by rw [hcal, hcur]) (by rw [hcal, hend]) (hstill.trans hfrozen)] at houtcome
    simp only [windowOutcome, Prod.mk.injEq] at houtcome
    obtain ⟨hleaf, hthawed, -⟩ := houtcome
    exact ⟨t, hexec, hleaf, hthawed⟩
  · obtain ⟨t, hexec, hgen⟩ := calLoopRestore_runs hleft hphase
    refine ⟨t, hexec, fun n hfailed htest hloop => ?_⟩
    rw [hgen n hfailed htest (runs_iff.2 hloop)]
    exact ⟨rfl, rfl⟩
  · obtain ⟨t, hexec, hcur, hcount, hspur⟩ := calWindowClose_runs hcur hmark hend
    refine ⟨t, hexec, hcur, hcount, fun n hat hfrozen => ?_⟩
    rw [hspur n hat hfrozen]
    refine ⟨rfl, rfl, rfl, fun r hr hcompute => ?_⟩
    have hdrives : s.drivesCompute n = true := by simp [State.drivesCompute, hr, hcompute]
    rw [hdrives]
    exact ⟨rfl, fun j hj => preMask_closed _ hj⟩

end Sys2Proof.Proofs
end

section
/-! The rings in host memory: the words of the control block, the fetch of a descriptor, the rings enabled, disabled and stopped (O28, O29, O31). -/

set_option Elab.async false

namespace Sys2Proof.Proofs

open Sys2Proof.Machine Sys2Proof.Safety Sys2Proof.Laws

/-! ## The control block (R271 to R274) -/

/-- A read of the control block that begins changes no more than what is noted of the read, and the messages sent. -/
theorem startRead_keeps {β : Type} (p : State → β) (s : State)
    (h : ∀ u r a o, p { u with hri := { u.hri with reading := r, readAgain := a }, out := o } = p u := by exact fun _ _ _ _ => rfl) :
    p s.startRead = p s := by
  unfold State.startRead
  split
  · rfl
  · split
    · exact h s s.hri.reading true s.out
    · exact h s true s.hri.readAgain _

/-- A host word after a read (R274): the new value where it is in range, else the previous one. -/
def hostWord (new prev limit : Word) : Word := if wordOk new prev limit then new else prev

/-- The event of a host word out of range (R301). -/
def doorbellEvent (s : State) (new prev : Word) (which : Nat) : EventRec :=
  s.event .doorbellBad .degraded 10 3 (le 4 new.toNat ++ le 4 prev.toNat ++ le 1 which)

/-- The events of the three host words of a read (R274). -/
def doorbellEvents (s : State) (p c e : Word) : List EventRec :=
  (if wordOk p s.hri.planProd (s.hri.planCons + BitVec.ofNat 32 s.planN) then [] else [doorbellEvent s p s.hri.planProd 0]) ++
  (if wordOk c s.hri.cmplCons s.hri.cmplProd then [] else [doorbellEvent s c s.hri.cmplCons 1]) ++
  (if wordOk e s.hri.evtCons s.hri.evtProd then [] else [doorbellEvent s e s.hri.evtCons 2])

/-- The host words of a read taken, each on its own (R274). -/
def wordsTaken (s : State) (p c e : Word) : State :=
  { s with hri := { s.hri with
    planProd := hostWord p s.hri.planProd (s.hri.planCons + BitVec.ofNat 32 s.planN), cmplCons := hostWord c s.hri.cmplCons s.hri.cmplProd
    evtCons := hostWord e s.hri.evtCons s.hri.evtProd, reading := false, readAgain := false } }

/-- The host words of a read taken, and DOORBELL_BAD raised for each out of range (R274). -/
def wordsJudged (s : State) (p c e : Word) : State :=
  (((wordsTaken s p c e).when (!wordOk p s.hri.planProd (s.hri.planCons + BitVec.ofNat 32 s.planN)) fun u => u.doorbellBad p s.hri.planProd 0).when
    (!wordOk c s.hri.cmplCons s.hri.cmplProd) fun u => u.doorbellBad c s.hri.cmplCons 1).when
    (!wordOk e s.hri.evtCons s.hri.evtProd) fun u => u.doorbellBad e s.hri.evtCons 2

theorem exec_controlBlockRead {s : State} (hreading : s.hri.reading = true) (p c e : Word) : exec (.controlBlockRead p c e) s =
    .next (if s.hri.readAgain then (wordsJudged s p c e).startRead else wordsJudged s p c e) :=
  congrArg Host.Outcome.next (if_neg (by simp [hreading]))

section

variable (t : State) (ok : Bool) (new prev : Word) (which : Nat)

theorem when_doorbellBad_rdg : (t.when (!ok) fun u => u.doorbellBad new prev which).rdg = t.rdg :=
  when_keeps State.rdg (f := fun u => u.doorbellBad new prev which) (fun _ => rfl) t _

theorem when_doorbellBad_hri : (t.when (!ok) fun u => u.doorbellBad new prev which).hri = t.hri :=
  when_keeps State.hri (f := fun u => u.doorbellBad new prev which) (fun _ => rfl) t _

theorem when_doorbellBad_raised {s : State} (h : t.rdg = s.rdg) :
    (t.when (!ok) fun u => u.doorbellBad new prev which).raised = t.raised ++ if ok then [] else [doorbellEvent s new prev which] := by
  cases ok with
  | true => exact (List.append_nil _).symm
  | false => exact congrArg (fun ev => t.raised ++ [ev]) (event_congr h ..)

end

theorem wordsJudged_raised (s : State) (p c e : Word) : (wordsJudged s p c e).raised = s.raised ++ doorbellEvents s p c e := by
  have hrdg : (wordsTaken s p c e).rdg = s.rdg := rfl
  rw [wordsJudged, when_doorbellBad_raised (s := s), when_doorbellBad_raised (s := s), when_doorbellBad_raised (s := s), doorbellEvents,
    ← List.append_assoc, ← List.append_assoc]
  · rfl
  · exact hrdg
  · rw [when_doorbellBad_rdg, hrdg]
  · rw [when_doorbellBad_rdg, when_doorbellBad_rdg, hrdg]

theorem wordsJudged_hri (s : State) (p c e : Word) : (wordsJudged s p c e).hri = (wordsTaken s p c e).hri := by
  rw [wordsJudged, when_doorbellBad_hri, when_doorbellBad_hri, when_doorbellBad_hri]

theorem wordOk_iff (new prev limit : Word) : wordOk new prev limit = true ↔ (new - prev).toNat ≤ (limit - prev).toNat := decide_eq_true_iff

/-- The word, and its event, as the range check of R274 decides. -/
theorem hostWord_cases {s t : State} {new prev limit word : Word} {which : Nat} (hword : word = hostWord new prev limit)
    (hevent : wordOk new prev limit = false → doorbellEvent s new prev which ∈ t.raised) :
    ((new - prev).toNat ≤ (limit - prev).toNat → word = new) ∧
    (¬ (new - prev).toNat ≤ (limit - prev).toNat →
      word = prev ∧ Raises s t .doorbellBad .degraded 10 3 (le 4 new.toNat ++ le 4 prev.toNat ++ le 1 which)) := by
  constructor
  · intro hin
    rw [hword, hostWord, if_pos ((wordOk_iff ..).2 hin)]
  · intro hout
    have hbad : wordOk new prev limit = false := Bool.eq_false_iff.2 (mt (wordOk_iff ..).1 hout)
    exact ⟨by rw [hword, hostWord, hbad]; rfl, hevent hbad⟩

/-- What a control block read leaves of the three host words and of the events (R274). -/
theorem controlBlockRead_runs {s : State} (hreading : s.hri.reading = true) (p c e : Word) : Runs (.controlBlockRead p c e) s fun t =>
    t.raised = s.raised ++ doorbellEvents s p c e ∧ t.hri.planProd = hostWord p s.hri.planProd (s.hri.planCons + BitVec.ofNat 32 s.planN) ∧
      t.hri.cmplCons = hostWord c s.hri.cmplCons s.hri.cmplProd ∧ t.hri.evtCons = hostWord e s.hri.evtCons s.hri.evtProd := by
  refine ⟨_, exec_controlBlockRead hreading p c e, ?_⟩
  have hraised := wordsJudged_raised s p c e
  have hhri := wordsJudged_hri s p c e
  split
  · refine ⟨(startRead_keeps State.raised _).trans hraised, (startRead_keeps (fun u => u.hri.planProd) _).trans ?_,
      (startRead_keeps (fun u => u.hri.cmplCons) _).trans ?_, (startRead_keeps (fun u => u.hri.evtCons) _).trans ?_⟩ <;> rw [hhri] <;> rfl
  · refine ⟨hraised, ?_, ?_, ?_⟩ <;> rw [hhri] <;> rfl

/-- Settles O28: each word is a `hostWord`, and `doorbellEvents` holds the event of each one out of range. -/
theorem controlBlockWordsAreChecked : Obligations.ControlBlockWordsAreChecked := by
  intro s p c e hreading
  obtain ⟨t, hexec, hraised, hprod, hcmpl, hevt⟩ := controlBlockRead_runs hreading p c e
  obtain ⟨hprodIn, hprodOut⟩ := hostWord_cases (s := s) (t := t) (which := 0) hprod fun hbad => by simp [hraised, doorbellEvents, hbad]
  obtain ⟨hcmplIn, hcmplOut⟩ := hostWord_cases (s := s) (t := t) (which := 1) hcmpl fun hbad => by simp [hraised, doorbellEvents, hbad]
  obtain ⟨hevtIn, hevtOut⟩ := hostWord_cases (s := s) (t := t) (which := 2) hevt fun hbad => by simp [hraised, doorbellEvents, hbad]
  refine ⟨t, hexec, hprodIn, hprodOut, hcmplIn, hcmplOut, hevtIn, hevtOut, fun hp hc he => ?_⟩
  simp [hraised, doorbellEvents, (wordOk_iff ..).2 hp, (wordOk_iff ..).2 hc, (wordOk_iff ..).2 he]

/-! ## Nudge, poll and fetch (R273, R275, R314) -/

section

variable {s : State}

theorem startRead_of_idle (hon : s.ringsOn = true) (hgoes : s.hri.stopped = false) (hidle : s.hri.reading = false) :
    s.startRead = ({ s with hri := { s.hri with reading := true } } : State).send (.hostRead (s.hriAddr 0x20) 12) := by
  simp [State.startRead, hon, hgoes, hidle]

theorem startRead_of_reading (hon : s.ringsOn = true) (hgoes : s.hri.stopped = false) (hreading : s.hri.reading = true) :
    s.startRead = { s with hri := { s.hri with readAgain := true } } := by
  simp [State.startRead, hon, hgoes, hreading]

theorem exec_nudge (hans : s.answers 0xD000C = true) : exec .nudge s = .next s.startRead := congrArg Host.Outcome.next (take_rw hans ..)

theorem exec_poll (hidle : s.hri.reading = false) : exec .poll s = .next s.startRead := congrArg Host.Outcome.next (if_neg (by simp [hidle]))

end

/-- Settles O29: a nudge and the poll period come down to `State.startRead`, and a fetch takes the bytes of the size agreed as they are. -/
theorem nudgePollAndFetch : Obligations.NudgePollAndFetch := by
  refine ⟨fun s c hc hon hgoes hidle => ?_, fun s hans hon hgoes hreading => ?_, fun s bytes hcan hlen => ?_, fun s bytes hno => ?_⟩
  · rw [← startRead_of_idle hon hgoes hidle]
    rcases hc with ⟨rfl, hans⟩ | rfl
    · exact exec_nudge hans
    · exact exec_poll hidle
  · rw [exec_nudge hans, startRead_of_reading hon hgoes hreading]
  · refine ⟨_, congrArg Host.Outcome.next (if_neg (by simp [hcan])), ?_, rfl, List.append_assoc ..⟩
    have hbytes : (bytes ++ List.replicate s.descSize 0).take s.descSize = bytes := List.take_left' hlen
    exact congrArg (fun bs => s.plan.buf ++ [{ idx := s.hri.planCons.toNat, bytes := bs, stage := .fetched, set := none, late := false, slot := none }]) hbytes
  · exact congrArg Host.Outcome.next (if_pos (by simp [hno]))

/-! ## What the rings' enabling and disabling leave (R281, R282, R306) -/

/-- The schedule of native windows stands in the calibration engine alone. -/
theorem stopWindows_keeps {β : Type} (p : State → β) (s : State) (h : ∀ u c, p { u with cal := c } = p u := by exact fun _ _ => rfl) :
    p s.stopWindows = p s := by
  unfold State.stopWindows
  split
  · rfl
  · exact h ..

theorem startWindows_keeps {β : Type} (p : State → β) (s : State) (h : ∀ u c, p { u with cal := c } = p u := by exact fun _ _ => rfl) :
    p s.startWindows = p s := by
  unfold State.startWindows
  split
  · exact h ..
  · rfl

/-- Disarming the descriptors' measurements changes the channels alone. -/
theorem dropMeasures_keeps {β : Type} (p : State → β) (s : State) (h : ∀ u l, p { u with lko := l } = p u := by exact fun _ _ => rfl) :
    p s.dropMeasures = p s := by
  refine each_keeps p (fun t c => ?_) s _
  split
  · unfold State.freeChan
    extract_lets x u
    split
    · exact (h u _).trans (h t _)
    · exact h t _
  · rfl

section

variable {β : Type} (p : State → β) (s : State)

/-- Cancelling the plan changes no more than messages, channels, completions, the plan, the voltage requests and Summit's role. -/
theorem cancelPlan_keeps (hout : ∀ u o, p { u with out := o } = p u := by exact fun _ _ => rfl)
    (hlko : ∀ u l, p { u with lko := l } = p u := by exact fun _ _ => rfl)
    (hcmpl : ∀ u q, p { u with hri := { u.hri with cmplQ := q } } = p u := by exact fun _ _ => rfl)
    (hplan : ∀ u l, p { u with plan := l } = p u := by exact fun _ _ => rfl)
    (hcols : ∀ u c, p { u with cols := c } = p u := by exact fun _ _ => rfl)
    (hrole : ∀ u r, p { u with role := r } = p u := by exact fun _ _ => rfl) : p s.cancelPlan = p s := by
  have hlane : p (s.sendLane .discard) = p s := by
    unfold State.sendLane
    split
    · rfl
    · exact hout s _
  have hfinish : ∀ (t : State) (e : FbEntry) (st : Status) (m : Mark) (k d : Nat) (b : Bool), p (t.finish e st m k d b) = p t :=
    fun t _ _ _ _ _ _ => (hplan (t.complete _) _).trans (hcmpl t _)
  have hend : ∀ (t : State) (g : Plan → Plan), p ((t.modPlan g).requests true).baseMoved = p t :=
    fun t g => (hrole _ _).trans ((hcols (t.modPlan g) _).trans (hplan t _))
  rw [State.cancelPlan, hend, each_keeps p fun _ _ => hfinish .., dropMeasures_keeps p _ hlko, hlane]

end

/-- Every set that a cancelled plan still holds is armed or applied (R282). -/
theorem final_of_mem_cancelPlan {s : State} {c : CommitSet} (h : c ∈ s.cancelPlan.plan.sets) : c.armed = true ∨ c.applied = true := by
  simp only [State.cancelPlan, baseMoved_plan, requests_plan, State.modPlan, List.mem_filter] at h
  obtain ⟨-, hfinal⟩ := h
  simpa [CommitSet.final] using hfinal

/-! ## Bits of a register written by the block -/

theorem word_setField {s : State} (h : WordsOk s) (a b hi lo v : Nat) :
    (s.setField a hi lo v).word b = if a = b then (s.word a).put hi lo v else s.word b := word_setWord h ..

theorem wordsOk_setField {s : State} (h : WordsOk s) (a hi lo v : Nat) : WordsOk (s.setField a hi lo v) := setWord_wordsOk h ..

theorem bit_put_zero (w : Word) (i : Nat) : (w.put i i 0).bit i = false := by
  have hbits : Word.bits 0#32 i i = 0 := by simp [Word.bits]
  rw [← hbits, bit_put, if_pos ⟨le_rfl, le_rfl⟩]
  simp [Word.bit]

theorem bit_zero_put_one (w : Word) : (w.put 0 0 1).bit 0 = true := bit_put w 1#32 0 0 0

/-! ## The rings enabled (R281, R285, R292, R305) -/

section

variable {s : State}

/-- The rings as their enabling sets them up, before the control block is read and the schedule of native windows follows. -/
def ringsFresh (s : State) : State :=
  let t := (s.setField 0xD0000 0 0 1).setField 0x300 31 31 0
  { t with
    gov := { t.gov with capDue := false }
    hri := { t.hri with
      stopped := t.faults.forceSafe, idle := false, disabling := false, agreed := s.agreedNow, planProd := 0, planCons := 0, cmplProd := 0, cmplCons := 0
      evtProd := 0, evtCons := 0, evtLost := 0, lostFlag := false, reading := false, readAgain := false, cmplQ := [], fullOpen := false, held := 0 }
    plan := { t.plan with
      buf := [], actions := [], groups := List.replicate 4 Group.free, wait := none, resumeAt := none, markers := [], readSent := []
      nextSeq := (s.word 0xD0018).bits 30 0, lastFetch := s.mark } }

theorem enableRings_keeps {β : Type} (p : State → β) (s : State)
    (hread : ∀ u r a o, p { u with hri := { u.hri with reading := r, readAgain := a }, out := o } = p u := by exact fun _ _ _ _ => rfl)
    (hcal : ∀ u c, p { u with cal := c } = p u := by exact fun _ _ => rfl) : p s.enableRings = p (ringsFresh s) := by
  have hwindows : ∀ t : State, p (t.when t.cal.next.isNone State.startWindows).stopWindows = p t := fun t =>
    (stopWindows_keeps p _ hcal).trans (when_keeps p (fun u => startWindows_keeps p u hcal) t _)
  exact (hwindows (ringsFresh s).startRead).trans (startRead_keeps p _ hread)

theorem word_ringsFresh (h : WordsOk s) (b : Nat) : (ringsFresh s).word b =
    if 0x300 = b then (s.word 0x300).put 31 31 0 else if 0xD0000 = b then (s.word 0xD0000).put 0 0 1 else s.word b := by
  have hwords : (ringsFresh s).word b = ((s.setField 0xD0000 0 0 1).setField 0x300 31 31 0).word b := rfl
  rw [hwords, word_setField (wordsOk_setField h ..), word_setField h, word_setField h, if_neg (by decide : ¬ 0xD0000 = 0x300)]

theorem exec_ringEnable (hans : s.answers 0xD0000 = true) (hoff : s.ringsOn = false) : exec .ringEnable s = .next
    (if !s.hri.idle then s.cfgEvent .cfgBusy 0xD0000 1
      else if [0x20, 0x28, 0x30, 0x38].any fun o => s.hriAddr o == 0 then s.cfgEvent .cfgRange 0xD0000 1 else s.enableRings) := by
  change execRingEnable s = _
  rw [execRingEnable, take_rw hans, if_neg (by simp [hoff])]

/-! ## The rings disabled and stopped (R282, R306) -/

/-- ENABLE cleared and the disable begun. -/
def disableBegun (s : State) : State := { s.setField 0xD0000 0 0 0 with hri := { s.hri with disabling := true } }

theorem exec_ringDisable (hans : s.answers 0xD0000 = true) (hon : s.ringsOn = true) :
    exec .ringDisable s = .next (disableBegun s).cancelPlan.stopWindows := by
  change execRingDisable s = _
  rw [execRingDisable, take_rw hans, if_neg (by simp [hon])]
  rfl

/-- HOST_READ_ERR raised, and its incident opened and closed. -/
def readErrTold (s : State) (a : BitVec 64) (e : Bool) : State :=
  ((s.raise .hostReadErr 10 (s.readIdx a.toNat) (le 8 a.toNat ++ le 1 (if e then 1 else 0))).incident
    { cls := 6, sev := .degraded, ev := .hostReadErr, unit := s.readIdx a.toNat }).closeIncident 6 (s.readIdx a.toNat)

theorem readErrTold_raises (a : BitVec 64) (e : Bool) :
    Raises s (readErrTold s a e) .hostReadErr .degraded 10 (s.readIdx a.toNat) (le 8 a.toNat ++ le 1 (if e then 1 else 0)) := by
  rw [Raises, readErrTold, closeIncident_raised, incident_raised]
  exact List.mem_append_right _ (List.mem_singleton_self _)

/-- The rings stopped after it. -/
def ringsStopped (s : State) (a : BitVec 64) (e : Bool) : State :=
  let t := readErrTold s a e
  { t with hri := { t.hri with stopped := true, reading := false, readAgain := false, bdt := if s.readIdx a.toNat = 4 then 3 else t.hri.bdt } }

theorem exec_hostReadErr (s : State) (a : BitVec 64) (e : Bool) : exec (.hostReadErr a e) s = .next (ringsStopped s a e).cancelPlan := rfl

end

/-- Settles O31: what `State.enableRings`, `State.cancelPlan` and the schedule of windows do beside leaves the rings as `ringsFresh`, `disableBegun` and `ringsStopped` set them. -/
theorem ringsAreEnabledAndDisabled : Obligations.RingsAreEnabledAndDisabled := by
  refine ⟨fun s hok hans hoff hidle hblk hplan hcmpl hevt => ?_, fun s hans hoff hbusy => ?_, fun s hok hans hon => ?_, fun s hdis hsets hq => ?_, fun s a e => ?_⟩
  · have hexec := exec_ringEnable hans hoff
    rw [if_neg (by simp [hidle]), if_neg (by simp [hblk, hplan, hcmpl, hevt])] at hexec
    refine ⟨_, hexec, ?_, ?_, enableRings_keeps (fun u => u.hri.planProd) s, enableRings_keeps (fun u => u.hri.planCons) s,
      enableRings_keeps (fun u => u.hri.cmplProd) s, enableRings_keeps (fun u => u.hri.cmplCons) s, enableRings_keeps (fun u => u.hri.evtProd) s,
      enableRings_keeps (fun u => u.hri.evtCons) s, enableRings_keeps (fun u => u.plan.nextSeq) s, enableRings_keeps (fun u => u.hri.agreed) s⟩
    · rw [enableRings_keeps State.ringsOn, State.ringsOn, word_ringsFresh hok]
      exact bit_zero_put_one _
    · rw [enableRings_keeps State.basicBit, State.basicBit, word_ringsFresh hok]
      exact bit_put_zero _ 31
  · rw [exec_ringEnable hans hoff, if_pos (by simp [hbusy])]
    rfl
  · refine ⟨_, exec_ringDisable hans hon, ?_, ?_, ?_⟩
    · rw [stopWindows_keeps State.ringsOn, cancelPlan_keeps State.ringsOn]
      have hword : (disableBegun s).word 0xD0000 = (s.setField 0xD0000 0 0 0).word 0xD0000 := rfl
      rw [State.ringsOn, hword, word_setField hok]
      exact bit_put_zero _ 0
    · rw [stopWindows_keeps fun u => u.hri.disabling]
      exact cancelPlan_keeps (fun u => u.hri.disabling) _
    · rw [stopWindows_keeps fun u => u.plan.sets]
      exact fun c hc => final_of_mem_cancelPlan hc
  · exact ⟨_, congrArg Host.Outcome.next (if_neg (by simp [hdis, hsets, hq])), rfl, rfl, rfl⟩
  · refine ⟨_, exec_hostReadErr s a e, cancelPlan_keeps (fun u => u.hri.stopped) _, cancelPlan_keeps (fun u => u.hri.reading) _, fun htable => ?_, ?_⟩
    · exact (cancelPlan_keeps (fun u => u.hri.bdt) _).trans (if_pos htable)
    · rw [Raises, cancelPlan_keeps State.raised]
      exact readErrTold_raises a e

end Sys2Proof.Proofs
end

section
/-! A descriptor that fails a check: how processing refuses it, and when it touches nothing (O33). -/

set_option Elab.async false

namespace Sys2Proof.Proofs

open Sys2Proof.Machine Sys2Proof.Safety Sys2Proof.Laws

section

variable {s : State} {c : Instr} {e : FbEntry} {st : Status} {k : Nat}

/-- Each of the fifteen commands that take descriptors is processing of the types that it takes (R288, R315). -/
theorem exec_eq_process {ty : Nat} (h : takesType c ty = true) : ∃ part, ∀ s, exec c s = .next (s.process (takesType c) part) := by
  unfold takesType at h
  split at h
  case h_16 => cases h
  all_goals exact ⟨_, fun _ => rfl⟩

theorem process_of_check_some (hdue : Due s c e) (hcheck : s.check e = some (st, k)) (part : State → FbEntry → Option Nat → State) :
    s.process (takesType c) part = (examinedIn s e).refuse e st k := by
  obtain ⟨hhead, htakes, hproc, hroom⟩ := hdue
  simp [State.process, examinedIn, hhead, htakes, hproc, hroom, hcheck]

theorem process_of_not_due (h : ∀ e, s.plan.head = some e → takesType c e.ty = false ∨ s.processing = false ∨ s.roomFor e = false)
    (part : State → FbEntry → Option Nat → State) : s.process (takesType c) part = s := by
  unfold State.process
  split
  · rfl
  · next e hhead => exact if_pos (by rcases h e hhead with h | h | h <;> simp [h])

/-! ## The refusal (R285, R287) -/

/-- What the plan expects and holds beside its buffer, its groups and its markers: the next sequence number, the sets and the actions. -/
def expects (t : State) : Nat × List CommitSet × List Action := (t.plan.nextSeq, t.plan.sets, t.plan.actions)

theorem keptByClosing_expects (x : Nat × List CommitSet × List Action) : KeptByClosing fun t => expects t = x where
  finish := fun _ _ _ _ _ h => h
  markers := fun _ _ h => h
  freed := fun _ _ _ _ h => h

/-- A refusal is a completion at the present mark, and what it closes (R287). -/
theorem refuse_eq (t : State) (e : FbEntry) (st : Status) (k : Nat) : ∃ domain, t.refuse e st k = (t.finish e st t.mark k domain false).closeOut := ⟨_, rfl⟩

theorem refuse_completes (t : State) (e : FbEntry) (st : Status) (k : Nat) : Completes (t.refuse e st k) e st t.mark k := by
  obtain ⟨domain, heq⟩ := refuse_eq t e st k
  exact heq ▸ (keptByClosing_completes ..).closeOut (finish_completes ..)

theorem refuse_expects (t : State) (e : FbEntry) (st : Status) (k : Nat) : expects (t.refuse e st k) = expects t := by
  obtain ⟨domain, heq⟩ := refuse_eq t e st k
  exact heq ▸ (keptByClosing_expects _).closeOut rfl

theorem planMoved_refuse {t : State} (h : PlanMoved s t) (e : FbEntry) (st : Status) (k : Nat) : PlanMoved s (t.refuse e st k) := by
  obtain ⟨domain, heq⟩ := refuse_eq t e st k
  obtain ⟨p, q, rfl⟩ := h
  exact heq ▸ (keptByClosing_planMoved s).closeOut ⟨_, _, rfl⟩

/-- A due descriptor that fails a check completes with its status, and nothing else comes of it (R287). -/
theorem check_some_runs (hdue : Due s c e) (hcheck : s.check e = some (st, k)) : Runs c s fun t =>
    Completes t e st s.mark k ∧ t.plan.nextSeq = (e.seq.toNat % 2 ^ 31 + 1) % 2 ^ 31 ∧ t.plan.sets = s.plan.sets ∧ t.plan.actions = s.plan.actions ∧
      t = { s with plan := t.plan, hri := { s.hri with cmplQ := t.hri.cmplQ } } := by
  have ⟨_, htakes, _, _⟩ := hdue
  obtain ⟨part, hexec⟩ := exec_eq_process htakes
  have hplan := refuse_expects (examinedIn s e) e st k
  simp only [expects, Prod.mk.injEq] at hplan
  obtain ⟨hseq, hsets, hactions⟩ := hplan
  exact ⟨_, (hexec s).trans (congrArg _ (process_of_check_some hdue hcheck part)), refuse_completes .., hseq, hsets, hactions,
    (planMoved_refuse (planMoved_examinedIn s e) e st k).frame⟩

/-- A descriptor of an undefined type fails the first check (R288). -/
theorem check_undefined (hdue : Due s .undefinedDescriptor e) : s.check e = some (.descType, 0) := by
  have ⟨_, htakes, _, _⟩ := hdue
  exact if_pos (by simpa [takesType] using htakes)

end

/-- Settles O33: a failing check refuses the descriptor before its type's part is reached. -/
theorem descriptorsAreCheckedBeforeTheyAct : Obligations.DescriptorsAreCheckedBeforeTheyAct := by
  refine ⟨fun s c e st k hdue hcheck => check_some_runs hdue hcheck, fun s e hdue => check_undefined hdue, fun s e hdue => ?_, fun s c ty htakes hidle => ?_⟩
  · obtain ⟨t, hexec, hcompletes, -, -, -, hframe⟩ := check_some_runs hdue (check_undefined hdue)
    exact ⟨t, hexec, hcompletes, hframe⟩
  · obtain ⟨part, hexec⟩ := exec_eq_process htakes
    rw [hexec, process_of_not_due hidle]

end Sys2Proof.Proofs
end

section
/-! The plan idle watchdog, whose set may leave a base request above the one in force (O37). -/

set_option Elab.async false

namespace Sys2Proof.Proofs

open Sys2Proof.Machine Sys2Proof.Safety Sys2Proof.Laws

/-- The base request that PLAN_IDLE asks for (R306): the lowest that the NOMINAL steps of the domains above NOMINAL name, and no more than the one in force. -/
def idleRequest (s : State) : Nat := (s.aboveNominal.map fun d => (s.fab.dom d).baseOf (s.fab.dom d).nominal).foldl min s.fab.baseReq

/-- PLAN_IDLE derives its base request anew, and so leaves the SAFE base where no step lies that low (R175). -/
theorem planIdle_baseReq {s : State} (hen : (s.word 0xD0050).bit 31 = true) (hon : s.ringsOn = true) (habove : s.aboveNominal ≠ [])
    (hlimit : 1024 * (s.word 0xD0050).bits 15 0 ≤ s.since s.plan.lastFetch) :
    Runs .planIdle s fun t => t.fab.baseReq = { s.fab with baseReq := min s.fab.baseReq (idleRequest s) }.baseDown (min s.fab.baseReq (idleRequest s)) := by
  refine ⟨_, congrArg Host.Outcome.next (if_neg ?_), rfl⟩
  simp [hen, hon, habove, hlimit]

/-- A state with a base request, 8, below every step while every domain asks for step 10, above NOMINAL: rings enabled, watchdog enabled with limit 1, and 1,024 marks since the last fetch. -/
def requestBelowSteps : State :=
  { (State.reset.setWord 0xD0000 1).setWord 0xD0050 0x80000001 with
    rdg := { Ridgeline.reset with ridge := Ridge.ofMark 1024 }
    fab := { Fabric.reset with baseReq := 8, doms := List.replicate 8 { Dom.reset with req := 10 } } }

theorem aboveNominal_requestBelowSteps : requestBelowSteps.aboveNominal = [0] := by decide

/-- No base from 8 down has a step, so that the SAFE base of 40 is asked for (R175). -/
theorem baseDown_requestBelowSteps : { requestBelowSteps.fab with baseReq := 8 }.baseDown 8 = 40 := by decide

/-- Refutes O37: nothing in the clause on PLAN_IDLE ties the requests to the base request, and in `requestBelowSteps` PLAN_IDLE raises the base request from 8 to the SAFE base, 40. -/
theorem not_basicControlAndTheWatchdog : ¬ Obligations.BasicControlAndTheWatchdog := by
  rintro ⟨-, -, hidle, -⟩
  have hen : (requestBelowSteps.word 0xD0050).bit 31 = true := by decide
  have hon : requestBelowSteps.ringsOn = true := by decide
  have habove : requestBelowSteps.aboveNominal ≠ [] := by simp [aboveNominal_requestBelowSteps]
  have hlimit : 1024 * (requestBelowSteps.word 0xD0050).bits 15 0 ≤ requestBelowSteps.since requestBelowSteps.plan.lastFetch := by decide
  obtain ⟨t, hexec, hle, -⟩ := hidle requestBelowSteps hen hon habove hlimit
  obtain ⟨u, hexec', hreq⟩ := planIdle_baseReq hen hon habove hlimit
  obtain rfl : t = u := Host.Outcome.next.inj (hexec.symm.trans hexec')
  have hask : min requestBelowSteps.fab.baseReq (idleRequest requestBelowSteps) = 8 := by decide
  rw [hreq, hask, baseDown_requestBelowSteps] at hle
  exact absurd hle (by decide)

end Sys2Proof.Proofs
end

section
/-! Lookout's time of day and its background work: ticks, set, step and slew, snapshots, the pulse per second, the local oscillator's error and the code density (O44). -/

set_option Elab.async false

namespace Sys2Proof.Proofs

open Sys2Proof.Machine Sys2Proof.Safety Sys2Proof.Laws

/-! ## Time of day as a count of 2^-32 ns, and the slew that remains -/

theorem raw_ofRaw {v : Int} (hpos : 0 ≤ v) (hlt : v < 2 ^ 48 * 1000000000 * 2 ^ 32) : (Tod.ofRaw v).raw = v := by
  simp only [Tod.ofRaw, Tod.raw]
  omega

theorem raw_nonneg (t : Tod) : 0 ≤ t.raw := Int.natCast_nonneg _

@[simp] theorem slewRaw_setSlew (l : Lookout) (v : Int) : (l.setSlew v).slewRaw = v := Int.ediv_mul_add_emod v (2 ^ 24)

/-- At the nominal rate a tick adds 10 ns, however the accumulator rounds (R402). -/
theorem tickBase_nominal (up : Bool) : tickBase 0 0 up = 10 * 2 ^ 32 := by cases up <;> rfl

theorem tickSlew_done (sl e : Int) : tickSlew sl e 0 = 0 := by simp [tickSlew]

theorem roundDiv_nonneg {a : Int} (h : 0 ≤ a) (b : Nat) : 0 ≤ roundDiv a b := Int.ediv_nonneg (by omega) (by omega)

/-- A slew upward takes no more than what remains of it (R404). -/
theorem tickSlew_up {sl left : Int} (hsl : 0 ≤ sl) (hleft : 0 < left) (e : Int) : 0 ≤ tickSlew sl e left ∧ tickSlew sl e left ≤ left := by
  have hv : 0 ≤ roundDiv (10 * 2 ^ 32 * sl * 1000) (1000000000 + e).toNat := roundDiv_nonneg (by omega) _
  unfold tickSlew
  extract_lets v
  split
  · exact ⟨le_min hv hleft.le, min_le_right ..⟩
  · rw [if_neg (by omega)]
    exact ⟨le_rfl, hleft.le⟩

/-! ## A tick (R402, R404, R406) -/

section

variable (l : Lookout) (on : Bool) (width : Nat) (crossed : Bool)

/-- The pulse per second moves nothing but the pulse. -/
theorem ppsTick_keeps {β : Type} (p : Lookout → β) (h : ∀ x o n, p { x with ppsOut := o, ppsLeft := n } = p x := by exact fun _ _ _ => rfl) :
    p (l.ppsTick on width crossed) = p l := by
  unfold Lookout.ppsTick
  split
  · exact h ..
  · split
    · exact h ..
    · exact h l l.ppsOut _

theorem ppsTick_rises : l.ppsTick true width true = { l with ppsOut := true, ppsLeft := width * 100000 } := rfl

variable {l on crossed}

theorem ppsTick_low (hlow : l.ppsOut = false) (h : on = false ∨ crossed = false) : (l.ppsTick on width crossed).ppsOut = false := by
  unfold Lookout.ppsTick
  rw [if_neg (by rcases h with h | h <;> simp [h])]
  split
  · rfl
  · exact hlow

end

section

variable (s : State) (up : Bool)

/-- What a tick adds for the slew. -/
def slewStep : Int := tickSlew s.lko.rateS s.lko.rateE s.lko.slewRaw

/-- Time of day after a tick. -/
def todAfter : Tod := Tod.ofRaw (s.lko.tod.raw + tickBase s.lko.rateA s.lko.rateE up + slewStep s)

/-- Lookout after a tick, but for the pulse per second. -/
def ticked : Lookout := { s.lko.setSlew (s.lko.slewRaw - slewStep s) with tod := todAfter s up, v2Ticks := s.lko.v2Ticks + 1 }

/-- Lookout after a tick. -/
def tickedPps : Lookout := (ticked s up).ppsTick ((s.word 0x10050).bit 31) ((s.word 0x10050).bits 23 16) ((todAfter s up).secs != s.lko.tod.secs)

theorem tickedPps_tod : (tickedPps s up).tod = todAfter s up := ppsTick_keeps _ _ _ _ Lookout.tod

theorem tickedPps_slewRaw : (tickedPps s up).slewRaw = s.lko.slewRaw - slewStep s :=
  (ppsTick_keeps _ _ _ _ Lookout.slewRaw).trans (slewRaw_setSlew s.lko _)

variable {s}

theorem exec_todTick (hv2 : s.boot.pst ≠ .v2) (hv3 : s.boot.pst ≠ .v3) (hlost : s.lko.lost = false) :
    exec (.todTick up) s = .next { s with lko := tickedPps s up } := by
  change execTodTick up s = _
  rw [execTodTick, if_neg (by simp [hv3, hlost]), if_neg (by simp [hv2])]
  rfl

theorem exec_todTick_v3 (hv3 : s.boot.pst = .v3) : exec (.todTick up) s = .next s := congrArg Host.Outcome.next (if_pos (.inl hv3))

/-- At rate 0 with no slew a tick adds 10 ns exactly. -/
theorem todAfter_nominal (hA : s.lko.rateA = 0) (hE : s.lko.rateE = 0) (hslew : s.lko.slewRaw = 0)
    (hlt : s.lko.tod.raw + 10 * 2 ^ 32 < 2 ^ 48 * 1000000000 * 2 ^ 32) : (todAfter s up).raw = s.lko.tod.raw + 10 * 2 ^ 32 := by
  have hpos := raw_nonneg s.lko.tod
  rw [todAfter, slewStep, hA, hE, hslew, tickBase_nominal, tickSlew_done, add_zero, raw_ofRaw (by omega) hlt]

theorem tickedPps_rises (hon : (s.word 0x10050).bit 31 = true) (hsecs : (tickedPps s up).tod.secs ≠ s.lko.tod.secs) :
    (tickedPps s up).ppsOut = true ∧ (tickedPps s up).ppsLeft = (s.word 0x10050).bits 23 16 * 100000 := by
  rw [tickedPps_tod] at hsecs
  rw [tickedPps, hon, bne_iff_ne.2 hsecs, ppsTick_rises]
  exact ⟨rfl, rfl⟩

theorem tickedPps_low (hlow : s.lko.ppsOut = false) (h : (s.word 0x10050).bit 31 = false ∨ (tickedPps s up).tod.secs = s.lko.tod.secs) :
    (tickedPps s up).ppsOut = false := by
  rw [tickedPps_tod] at h
  exact ppsTick_low _ hlow (h.imp id fun hsecs => by simp [hsecs])

end

/-! ## Set, step and snapshot (R404, R405) -/

section

variable {s : State} (edge : Int)

/-- A set that waited has been made and told. -/
def setMade (s : State) : State :=
  ({ s with lko := { s.lko.setSlew 0 with tod := Tod.ofRaw (s.todSetValue.raw - edge), setDue := false, todSet := true } } : State).tellStep
    (s.todSetValue.raw - (s.lko.tod.raw + edge))

/-- A step that waited has been made and told. -/
def stepMade (s : State) : State :=
  let d := fromTwos 32 (s.word 0x10024).toNat * 2 ^ 24
  ({ s with lko := { s.lko with tod := Tod.ofRaw (s.lko.tod.raw + d), stepDue := false } } : State).tellStep d

theorem applyTodSet_idle (h : s.lko.setDue = false) : s.applyTodSet edge = s := if_pos (by simp [h])

theorem applyTodSet_due (h : s.lko.setDue = true) : s.applyTodSet edge = setMade edge s := if_neg (by simp [h])

theorem applyStep_idle (h : s.lko.stepDue = false) : s.applyStep = s := if_pos (by simp [h])

theorem applyStep_due (h : s.lko.stepDue = true) : s.applyStep = stepMade s := if_neg (by simp [h])

/-- A step keeps what its making and telling keep. -/
theorem applyStep_keeps {β : Type} (p : State → β) (s : State) (h : ∀ u, p (stepMade u) = p u := by exact fun _ => rfl) : p s.applyStep = p s := by
  unfold State.applyStep
  split
  · rfl
  · exact h s

theorem applyStep_stepDue (s : State) : s.applyStep.lko.stepDue = false := by
  cases hdue : s.lko.stepDue with
  | false => rwa [applyStep_idle hdue]
  | true => rw [applyStep_due hdue]; rfl

theorem applyTodSet_setDue (s : State) : (s.applyTodSet edge).lko.setDue = false := by
  cases hdue : s.lko.setDue with
  | false => rwa [applyTodSet_idle edge hdue]
  | true => rw [applyTodSet_due edge hdue]; rfl

theorem mem_raised_applyStep {s : State} {e : EventRec} (he : e ∈ s.raised) : e ∈ s.applyStep.raised := by
  unfold State.applyStep
  split
  · exact he
  · exact List.mem_append_left _ he

/-- The time from the last tick to the ridge edge, at the rates of the mark before. -/
def edgeTime (s : State) (ns16 : Nat) : Int := atRate (ns16 * 2 ^ 16) s.lko.rateA s.lko.rateS s.lko.rateE

/-- The state whose time of day a snapshot latches: a set and a step that wait have been made. -/
def adjusted (s : State) (ns16 : Nat) : State := (s.applyTodSet (edgeTime s ns16)).applyStep

/-- The snapshot of mark `m` taken, with `edge` from the last tick to the ridge edge, and sent. -/
def latched (t : State) (m : Mark) (edge : Int) : State :=
  let v := Tod.ofRaw (t.lko.tod.raw + edge)
  (({ t with lko := { t.lko with snap := v, snapMark := m, snapAt := some m } } : State).sampleRates).send (.todSnap v.secs v.ns v.frac (m.toNat % 65536))

theorem exec_todSnapshot {ns16 : Nat} (hmark : s.atMark = true) (hlost : s.lko.lost = false) (hsnap : s.lko.snapAt ≠ some s.mark) :
    exec (.todSnapshot ns16) s = .next (latched (adjusted s ns16) s.mark (edgeTime s ns16)) :=
  congrArg Host.Outcome.next (if_neg (by simp [hmark, hlost, hsnap]))

theorem latched_sends (t : State) (m : Mark) : Message.todSnap (latched t m edge).lko.snap.secs (latched t m edge).lko.snap.ns
    (latched t m edge).lko.snap.frac (m.toNat % 65536) ∈ (latched t m edge).out := List.mem_append_right _ (List.mem_singleton_self _)

variable {edge} {ns16 : Nat}

theorem adjusted_setDue : (adjusted s ns16).lko.setDue = false :=
  (applyStep_keeps (fun u => u.lko.setDue) _).trans (applyTodSet_setDue ..)

theorem adjusted_idle_tod (hset : s.lko.setDue = false) (hstep : s.lko.stepDue = false) : (adjusted s ns16).lko.tod = s.lko.tod := by
  rw [adjusted, applyTodSet_idle _ hset, applyStep_idle hstep]

theorem adjusted_step_tod (hset : s.lko.setDue = false) (hstep : s.lko.stepDue = true) :
    (adjusted s ns16).lko.tod = Tod.ofRaw (s.lko.tod.raw + fromTwos 32 (s.word 0x10024).toNat * 2 ^ 24) := by
  rw [adjusted, applyTodSet_idle _ hset, applyStep_due hstep]
  rfl

theorem adjusted_set (hset : s.lko.setDue = true) : (adjusted s ns16).lko.todSet = true ∧ (adjusted s ns16).lko.slewRaw = 0 := by
  rw [adjusted, applyStep_keeps (fun u => u.lko.todSet), applyStep_keeps (fun u => u.lko.slewRaw), applyTodSet_due _ hset]
  exact ⟨rfl, slewRaw_setSlew s.lko 0⟩

theorem adjusted_set_tod (hset : s.lko.setDue = true) (hstep : s.lko.stepDue = false) :
    (adjusted s ns16).lko.tod = Tod.ofRaw (s.todSetValue.raw - edgeTime s ns16) := by
  rw [adjusted, applyTodSet_due _ hset, applyStep_idle (s := setMade _ s) hstep]
  rfl

theorem adjusted_set_raises (hset : s.lko.setDue = true) : Raises s (latched (adjusted s ns16) s.mark (edgeTime s ns16)) .todStep .info 4 0xFFFF
    (leInt 8 (sat63 ((s.todSetValue.raw - (s.lko.tod.raw + edgeTime s ns16)) / 2 ^ 24))) := by
  refine mem_raised_applyStep ?_
  rw [applyTodSet_due _ hset]
  exact List.mem_append_right _ (List.mem_singleton_self _)

end

/-! ## The code density (R354, R357 to R359) -/

theorem askSave_keeps {β : Type} (p : State → β) (s : State) (h : ∀ u c k, p { u with crn := c, cal := k } = p u := by exact fun _ _ _ => rfl) :
    p s.askSave = p s := by
  unfold State.askSave
  split
  · rfl
  · exact h ..

theorem lookoutDensity_fills {s : State} {ws : List Int} {temp : Int} {b : Nat} (hdens : s.lko.density = true)
    (hgood : itemFault Saddle.reset (.timer 0 ws) = none) (hbin : binOf temp = some b) : Runs (.lookoutDensity ws temp) s fun t =>
      t.lko.density = false ∧ t.lko.bins = setNth s.lko.bins b (some (temp, ws)) ∧ t.lko.rejects = 0 ∧ t.lko.calMark = s.mark := by
  refine ⟨_, congrArg Host.Outcome.next (if_neg (by simp [hdens])), ?_⟩
  simp only [hgood, hbin]
  rw [when_keeps State.lko (fun u => askSave_keeps State.lko u)]
  exact ⟨rfl, rfl, rfl, rfl⟩

theorem lookoutDensity_rejects {s : State} {ws : List Int} {p : Nat × Int} (temp : Int) (hdens : s.lko.density = true)
    (hbad : itemFault Saddle.reset (.timer 0 ws) = some p) : Runs (.lookoutDensity ws temp) s fun t =>
      t.lko.density = false ∧ t.lko.bins = s.lko.bins ∧ t.lko.rejects = min 255 (s.lko.rejects + 1) ∧ t.cal.rejects = s.cal.rejects + 1 := by
  refine ⟨_, congrArg Host.Outcome.next (if_neg (by simp [hdens])), ?_⟩
  simp only [hbad]
  exact ⟨rfl, rfl, rfl, rfl⟩

/-- Settles O44: a tick is `tickedPps`, and a snapshot latches the time of day of `adjusted`. -/
theorem timeOfDayTicksIsSetAndSnapshot : Obligations.TimeOfDayTicksIsSetAndSnapshot := by
  refine ⟨fun s up hv2 hv3 hlost => ?_, fun s up hv3 => exec_todTick_v3 up hv3, fun s hans => ?_, fun s ns16 hmark hlost hsnap => ?_,
    fun s hin => ?_, fun s ppb => ?_, fun s ws temp hdens => ?_, fun s => ?_⟩
  · refine ⟨_, exec_todTick up hv2 hv3 hlost, tickedPps_tod s up, tickedPps_slewRaw s up, fun hleft hsl _ => ?_, fun hA hE hslew hlt => ?_,
      tickedPps_rises up, tickedPps_low up⟩
    · have hstep := tickSlew_up hsl hleft s.lko.rateE
      rw [tickedPps_slewRaw, slewStep]
      omega
    · rw [tickedPps_tod, todAfter_nominal up hA hE hslew hlt]
  · refine ⟨congrArg Host.Outcome.next (take_rw hans ..), congrArg Host.Outcome.next (take_rw hans ..), _, congrArg Host.Outcome.next (take_rw hans ..), ?_, rfl⟩
    exact slewRaw_setSlew ..
  · refine ⟨_, exec_todSnapshot hmark hlost hsnap, rfl, rfl, adjusted_setDue, applyStep_stepDue _, latched_sends .., adjusted_idle_tod, fun hset => ?_,
      adjusted_step_tod⟩
    obtain ⟨hvalid, hslew⟩ := adjusted_set (ns16 := ns16) hset
    exact ⟨hvalid, hslew, adjusted_set_raises hset, adjusted_set_tod hset⟩
  · refine ⟨fun m hfound hat hlong => ⟨_, congrArg Host.Outcome.next (if_pos (by simp [hin, hfound, hat, hlong])), rfl, ?_⟩,
      fun hmissing => congrArg Host.Outcome.next (if_neg (by simp [hmissing]))⟩
    exact List.mem_append_right _ (List.mem_singleton_self _)
  · constructor
    · intro b hsel hlock hqual hlong
      change execLoErrorMeasure ppb s = _
      simp [execLoErrorMeasure, hsel, hlock, hqual, hlong]
    · intro hsel
      change execLoErrorMeasure ppb s = _
      simp [execLoErrorMeasure, hsel]
  · constructor
    · intro b hgood hbin hlt
      obtain ⟨t, hexec, hdone, hbins, hrejects, hmark⟩ := lookoutDensity_fills hdens hgood hbin
      exact ⟨t, hexec, hdone, by simp [hbins, setNth, hlt], hrejects, hmark⟩
    · exact fun p hbad => lookoutDensity_rejects temp hdens hbad
  · exact ⟨fun hlost => congrArg Host.Outcome.next (if_neg (by simp [hlost])), fun hlost => congrArg Host.Outcome.next (if_pos hlost)⟩

end Sys2Proof.Proofs
end

section
/-! Traceability, the settings of native windows, and the sensors (O41). -/

set_option Elab.async false

namespace Sys2Proof.Proofs

open Sys2Proof.Machine Sys2Proof.Safety Sys2Proof.Laws

/-! ## Traceability (R355, R356) -/

section

variable (s : State) (v : Bool)

theorem setTraced_traced : (s.setTraced v).cal.traced = v := by
  unfold State.setTraced
  split
  · assumption
  · rfl

/-- The traced state changes with its event, and nothing else. -/
theorem setTraced_keeps {β : Type} (p : State → β)
    (h : ∀ u r, p { u with cal := { u.cal with traced := v }, raised := r } = p u := by exact fun _ _ => rfl) : p (s.setTraced v) = p s := by
  unfold State.setTraced
  split
  · rfl
  · exact h s _

variable {s}

theorem mem_raised_setTraced {e : EventRec} (he : e ∈ s.raised) : e ∈ (s.setTraced v).raised := by
  unfold State.setTraced
  split
  · exact he
  · exact List.mem_append_left _ he

end

/-- ε kept, with its verdict, and CAL_REF_BAND raised where it lies out of band. -/
def gateKept (s : State) (ppb : Int) : State :=
  ({ s with cal := { s.cal with refErr := some ppb, inBand := s.errInBand ppb, gateMark := some s.mark } } : State).when (!s.errInBand ppb)
    fun u => u.raise .calRefBand 6 0xFFFF (leInt 4 ppb ++ le 2 s.lko.tolerance)

theorem gateKept_cal (s : State) (ppb : Int) :
    (gateKept s ppb).cal = { s.cal with refErr := some ppb, inBand := s.errInBand ppb, gateMark := some s.mark } :=
  when_keeps State.cal (f := fun u => u.raise .calRefBand 6 0xFFFF (leInt 4 ppb ++ le 2 s.lko.tolerance)) (fun _ => rfl) _ _

theorem exec_calrefGate {s : State} (hgate : s.lko.bgRef = true) (ppb : Int) :
    exec (.calrefGate ppb) s = .next ((gateKept s ppb).setTraced (s.errInBand ppb && s.calrefOk)) :=
  congrArg Host.Outcome.next (if_neg (by simp [hgate]))

theorem gateKept_raises {s : State} {ppb : Int} (hout : s.errInBand ppb = false) :
    Raises s (gateKept s ppb) .calRefBand .degraded 6 0xFFFF (le 4 (twos 32 ppb) ++ le 2 s.lko.tolerance) := by
  rw [gateKept, hout]
  exact List.mem_append_right _ (List.mem_singleton_self _)

/-! ## CAL_WINCFG and NATIVE_EN (R342, R368) -/

/-- A field with a defined encoding of its own takes effect, whatever the others do. -/
theorem putFields_filter (ok : Fld → Bool) (v w : Word) (gs : List Fld) : putFields ok v gs w = putFields (fun _ => true) v (gs.filter ok) w := by
  simp [putFields, List.foldl_filter]

theorem wincfgFields_apart : wincfgFields.Pairwise Apart := by decide

/-- An event of a write that waits with others, where one is raised, changes nothing else. -/
theorem when_cfgEvent_keeps {β : Type} (p : State → β) (s : State) (b : Bool) (ev : Ev) (a : Nat) (v : Word)
    (h : ∀ u r f, p { u with raised := r, faults := f } = p u := by exact fun _ _ _ => rfl) : p (s.when b fun u => u.cfgEvent ev a v) = p s :=
  when_keeps p (fun u => h u ..) s b

/-- A field of CAL_WINCFG with a defined encoding takes the value written. -/
theorem bits_putFields_wincfg {ok : Fld → Bool} {g : Fld} (hg : g ∈ wincfgFields) (hok : ok g = true) (v w : Word) :
    (putFields ok v wincfgFields w).bits g.hi g.lo = v.bits g.hi g.lo := by
  have hacc : ∀ k ∈ wincfgFields, k.acc ≠ .w1c := by decide
  rw [putFields_filter]
  refine bits_congr fun i hi => ?_
  rw [bit_putFields_inside (wincfgFields_apart.filter _) (List.mem_filter.2 ⟨hg, hok⟩) hi, if_neg (hacc g hg)]

/-- The fields of a word written to CAL_WINCFG whose encoding is defined. -/
def wincfgOk (v : Word) (g : Fld) : Bool := g.defined (v.bits g.hi g.lo)

/-- CAL_WINCFG after a write. -/
def wincfgAfter (s : State) (v : Word) : Word := putFields (wincfgOk v) v wincfgFields (s.word 0xA0004)

/-- CAL_WINCFG written, its settings in force, and the next window moved to them (R342). -/
def wincfgTaken (s : State) (v : Word) : State :=
  let u := s.setWord 0xA0004 (wincfgAfter s v)
  { u with cal := ({ u.cal with interval := (u.word 0xA0004).bits 31 16, length := (u.word 0xA0004).bits 6 0 }).reschedule s.mark }

theorem exec_calWincfgWrite {s : State} (hans : s.answers 0xA0004 = true) (hoff : s.ringsOn = false) (v : Word) :
    exec (.calWincfgWrite v) s = .next ((wincfgTaken s v).when (!wincfgFields.all (wincfgOk v)) fun u => u.cfgEvent .cfgRange 0xA0004 v) :=
  congrArg Host.Outcome.next ((take_rw hans ..).trans (if_neg (by simp [hoff])))

theorem exec_calWincfgWrite_busy {s : State} (hans : s.answers 0xA0004 = true) (hon : s.ringsOn = true) (v : Word) :
    exec (.calWincfgWrite v) s = .next (s.cfgEvent .cfgBusy 0xA0004 v) :=
  congrArg Host.Outcome.next ((take_rw hans ..).trans (if_pos hon))

theorem word_wincfgTaken {s : State} (h : WordsOk s) (v : Word) : (wincfgTaken s v).word 0xA0004 = wincfgAfter s v :=
  (word_setWord h ..).trans (if_pos rfl)

theorem reschedule_settings (c : CalEng) (m : Mark) : (c.reschedule m).interval = c.interval ∧ (c.reschedule m).length = c.length := by
  unfold CalEng.reschedule
  split
  · exact ⟨rfl, rfl⟩
  · exact ⟨rfl, rfl⟩

theorem wincfgTaken_settings (s : State) (v : Word) : (wincfgTaken s v).cal.interval = ((wincfgTaken s v).word 0xA0004).bits 31 16 ∧
    (wincfgTaken s v).cal.length = ((wincfgTaken s v).word 0xA0004).bits 6 0 := reschedule_settings ..

theorem exec_nativeEnable {s : State} (hans : s.answers 0xA0000 = true) (hopen : s.locked = false) : exec .nativeEnable s =
    .next (if (s.word 0xA0000).bit 0 then s
      else { s.setField 0xA0000 0 0 1 with cal := { s.cal with queued := none } }.startWindows) :=
  congrArg Host.Outcome.next (take_rwl_of_open hans hopen ..)

theorem nativeEnable_sets {s : State} (h : WordsOk s) (hans : s.answers 0xA0000 = true) (hopen : s.locked = false) :
    Runs .nativeEnable s fun t => (t.word 0xA0000).bit 0 = true := by
  refine ⟨_, exec_nativeEnable hans hopen, ?_⟩
  split
  · assumption
  · rw [startWindows_keeps fun t => t.word 0xA0000]
    have hword : (s.setField 0xA0000 0 0 1).word 0xA0000 = (s.word 0xA0000).put 0 0 1 := (word_setField h ..).trans (if_pos rfl)
    exact (congrArg (fun w : Word => w.bit 0) hword).trans (bit_zero_put_one _)

/-! ## Sensors (R352, R446) -/

/-- A conversion of one of a Spur's sensors in mark `m`, kept. -/
def converted (c : Cal) (which : Fin 2) (v : Int) (m : Mark) (bad : Bool) : Cal :=
  if which = 0 then { c with s0 := v, had0 := true, conv0 := m, bad0 := c.bad0 || bad } else { c with s1 := v, had1 := true, conv1 := m, bad1 := c.bad1 || bad }

/-- What a Spur's sensors show: the reading of each, and whether it counts as failed. -/
def sensorsShow (c : Cal) : (Int × Bool) × (Int × Bool) := ((c.s0, c.bad0), (c.s1, c.bad1))

theorem sensorsShow_first (c : Cal) (v : Int) (m : Mark) (bad : Bool) :
    sensorsShow (converted c 0 v m bad) = ((v, c.bad0 || bad), (c.s1, c.bad1)) := rfl

theorem sensorsShow_second (c : Cal) (v : Int) (m : Mark) (bad : Bool) :
    sensorsShow (converted c 1 v m bad) = ((c.s0, c.bad0), (v, c.bad1 || bad)) := rfl

/-- A conversion of a sensor is due (R352): its first one, one in a native window, or 16 marks after the last. -/
def conversionDue (s : State) (n : Nat) (which : Fin 2) : Bool :=
  !(if which = 0 then (s.spur n).cal.had0 else (s.spur n).cal.had1) || s.cal.cur.isSome ||
    decide (16 ≤ s.since (if which = 0 then (s.spur n).cal.conv0 else (s.spur n).cal.conv1))

theorem conversionDue_of {s : State} {n : Nat} {which : Fin 2} {had : Bool} {conv : Mark} (h : had = false ∨ s.cal.cur ≠ none ∨ 16 ≤ s.since conv)
    (hhad : (if which = 0 then (s.spur n).cal.had0 else (s.spur n).cal.had1) = had)
    (hconv : (if which = 0 then (s.spur n).cal.conv0 else (s.spur n).cal.conv1) = conv) : conversionDue s n which = true := by
  rw [conversionDue, hhad, hconv]
  rcases h with h | h | h
  · simp [h]
  · simp [Option.isSome_iff_ne_none.2 h]
  · simp [h]

/-- SENSOR_BAD and its incident leave the Spurs. -/
theorem spur_sensorBad (u : State) (n k : Nat) (d : List Byte) (i : Incident) :
    (((u.tookFree.raise .sensorBad 2 n d).incident i).closeIncident 7 n).spur k = u.spur k := by
  rw [closeIncident_at_spur, incident_at_spur, raise_at_spur]
  rfl

/-- A conversion that is due is kept, corrected, and out of range it marks the sensor failed. -/
theorem sensorConversion_runs {s : State} {n : Fin 425} {which : Fin 2} (hover : s.sensOver n = none) (hdue : conversionDue s n which = true) (raw : Int) :
    Runs (.sensorConversion n which raw) s fun t => ∃ bad : Bool,
      (corrected raw ((s.spur n).cal.trims.sens.getD which 0) < -320 ∨ 2080 < corrected raw ((s.spur n).cal.trims.sens.getD which 0) → bad = true) ∧
        sensorsShow (t.spur n).cal = sensorsShow (converted (s.spur n).cal which (corrected raw ((s.spur n).cal.trims.sens.getD which 0)) s.mark bad) := by
  change ∃ t, execSensorConversion n which raw s = .next t ∧ _
  unfold execSensorConversion
  extract_lets x v old had was due bad t t'
  have hv : v = corrected raw (x.trims.sens.getD which 0) := by simp [v, hover]
  have hgo : due = true := hdue
  refine ⟨_, congrArg Host.Outcome.next (if_neg (by simp [hgo])), bad, fun hout => ?_, ?_⟩
  · rw [← hv] at hout
    rcases hout with h | h <;> simp [bad, h]
  · rw [← hv]
    have ht : (t.spur n).cal = converted x which v s.mark bad := congrArg Spur.cal (spur_modSpur_self ..)
    have ht' : t'.spur n = t.spur n := spur_when _ _ _ _ fun u => spur_sensorBad u ..
    rw [← ht, ← ht']
    split
    · exact modSpur_keeps t' (fun y => sensorsShow y.cal) n n
    · rfl

/-- Settles O41: what the gate keeps is `gateKept`, a write of CAL_WINCFG leaves `wincfgTaken`, and a conversion is `converted`. -/
theorem traceabilityWindowSettingsAndSensors : Obligations.TraceabilityWindowSettingsAndSensors := by
  refine ⟨fun s ppb hgate => ?_, fun s => ?_, fun s => rfl, fun s v hok hans hoff => ?_, fun s v hans hon => exec_calWincfgWrite_busy hans hon v,
    fun s hok hans hopen => nativeEnable_sets hok hans hopen, fun s n raw hover hdue => ?_, fun s n raw hover hdue => ?_⟩
  · have hcal := gateKept_cal s ppb
    refine ⟨_, exec_calrefGate hgate ppb, ?_, ?_, ?_, fun hout => ?_⟩
    · rw [setTraced_keeps _ _ fun t => t.cal.refErr, hcal]
    · rw [setTraced_keeps _ _ fun t => t.cal.inBand, hcal]
      rfl
    · rw [setTraced_traced, Bool.and_assoc]
      rfl
    · exact mem_raised_setTraced _ (gateKept_raises (decide_eq_false (by omega)))
  · exact ⟨_, rfl, setTraced_traced .., setTraced_keeps _ _ fun t => t.lko.calref⟩
  · obtain ⟨hinterval, hlength⟩ := wincfgTaken_settings s v
    have hword := word_wincfgTaken hok v
    rw [hword] at hinterval hlength
    refine ⟨_, exec_calWincfgWrite hans hoff v, ?_⟩
    beta_reduce
    rw [when_cfgEvent_keeps fun t => t.word 0xA0004, when_cfgEvent_keeps State.cal, hword]
    refine ⟨hinterval, hlength, fun hleast hmost => ?_, fun hleast hmost => ?_⟩
    · rw [hinterval]
      exact bits_putFields_wincfg (g := ⟨31, 16, .rw, 500, 60000⟩) (by decide) (by simp [wincfgOk, Fld.defined, hleast, hmost]) ..
    · rw [hlength]
      exact bits_putFields_wincfg (g := ⟨6, 0, .rw, 24, 96⟩) (by decide) (by simp [wincfgOk, Fld.defined, hleast, hmost]) ..
  · obtain ⟨t, hexec, bad, hbad, hshow⟩ := sensorConversion_runs hover (conversionDue_of (which := 0) hdue rfl rfl) raw
    rw [sensorsShow_first] at hshow
    simp only [sensorsShow, Prod.mk.injEq] at hshow
    obtain ⟨⟨h0, hbad0⟩, h1, -⟩ := hshow
    rw [← h0] at hbad
    exact ⟨t, hexec, h0, fun hout => by rw [hbad0, hbad hout, Bool.or_true], h1⟩
  · obtain ⟨t, hexec, bad, hbad, hshow⟩ := sensorConversion_runs hover (conversionDue_of (which := 1) hdue rfl rfl) raw
    rw [sensorsShow_second] at hshow
    simp only [sensorsShow, Prod.mk.injEq] at hshow
    obtain ⟨⟨h0, -⟩, h1, hbad1⟩ := hshow
    rw [← h1] at hbad
    exact ⟨t, hexec, h1, fun hout => by rw [hbad1, hbad hout, Bool.or_true], h0⟩

end Sys2Proof.Proofs
end

section
/-! The register window after reset: CAL_WINCFG (O57). -/

set_option Elab.async false

namespace Sys2Proof.Proofs

open Sys2Proof.Machine Sys2Proof.Safety Sys2Proof.Laws

/-- CAL_WINCFG after reset: INTERVAL 2,000 ms and LENGTH 48 µs, as R368 gives them. -/
theorem calWincfg_reset : State.reset.now 0xA0004 = 0x07D00030#32 := by decide

/-- Refutes O57: the statement gives CAL_WINCFG a LENGTH of 0x40 after reset, where R368, and the model, give it 0x30. -/
theorem not_resetHoldsTheResetColumns : ¬ Obligations.ResetHoldsTheResetColumns := by
  rintro ⟨-, -, -, -, -, -, hcolumns, -⟩
  have hstated : State.reset.now 0xA0004 = 0x07D00040#32 := hcolumns (0xA0004, 0x07D00040#32) (by simp)
  exact absurd (calWincfg_reset.symm.trans hstated) (by decide)

end Sys2Proof.Proofs
end

section
/-! Trims: what a recomputation stages, their mark, and the steps of gap mode (O40). -/

set_option Elab.async false

namespace Sys2Proof.Proofs

open Sys2Proof.Machine Sys2Proof.Safety Sys2Proof.Laws

/-! ## The recomputation (R360, R361) -/

theorem exec_calRecompute_idle {s : State}
    (h : s.atMark = false ∨ s.mark.toNat % 1024 ≠ 0 ∨ (s.word 0xA0000).bit 2 = false ∨ s.cal.recompAt = some s.mark) :
    exec .calRecompute s = .next s :=
  congrArg Host.Outcome.next (if_pos (by rcases h with h | h | h | h <;> simp [h]))

/-- A recomputation noted for its mark, and made for the Spurs. -/
def spursRecomputed (s : State) : State := ({ s with cal := { s.cal with recompAt := some s.mark } } : State).each (List.range 425) State.recomputeSpur

/-- A recomputation of the Spurs, the Saddles and Lookout. -/
def recomputed (s : State) : State := ((spursRecomputed s).each (List.range 760) State.recomputeSaddle).recomputeLookout

theorem exec_calRecompute {s : State} (hmark : s.atMark = true) (hmod : s.mark.toNat % 1024 = 0) (hen : (s.word 0xA0000).bit 2 = true)
    (honce : s.cal.recompAt ≠ some s.mark) : exec .calRecompute s = .next (recomputed s) :=
  congrArg Host.Outcome.next (if_neg (by simp [hmark, hmod, hen, honce]))

/-- CAL_CLAMP changes nothing but the events. -/
theorem clampEvent_keeps {β : Type} (p : State → β) (s : State) (u : CalUnit) (was now : Bool) (t : Int) (bin : Nat)
    (h : ∀ u r f, p { u with raised := r, faults := f } = p u := by exact fun _ _ _ => rfl) : p (s.clampEvent u was now t bin) = p s :=
  when_keeps p (fun u => h u ..) s _

theorem recomputeSaddle_keeps {β : Type} (p : State → β) (s : State) (k : Nat)
    (h : ∀ u sd r f, p { u with saddles := sd, raised := r, faults := f } = p u := by exact fun _ _ _ _ => rfl) : p (s.recomputeSaddle k) = p s := by
  unfold State.recomputeSaddle
  extract_lets x bins
  split
  · rfl
  · exact (clampEvent_keeps p _ _ _ _ _ _ fun u r f => h u u.saddles r f).trans (h s _ s.raised s.faults)

theorem recomputeLookout_keeps {β : Type} (p : State → β) (s : State)
    (h : ∀ u l r f, p { u with lko := l, raised := r, faults := f } = p u := by exact fun _ _ _ _ => rfl) : p s.recomputeLookout = p s := by
  unfold State.recomputeLookout
  extract_lets l own bins
  split
  · rfl
  · exact (clampEvent_keeps p _ _ _ _ _ _ fun u r f => h u u.lko r f).trans (h s _ s.raised s.faults)

/-- Outside ring version 1 no gap items wait for a recomputation. -/
theorem takeGap_idle {s : State} (h : s.hri.agreed ≠ 1) (n : Nat) : s.takeGap n = s := if_pos (.inl h)

/-- A Spur's trims in force have not moved, and those newly staged are for mark `m`. -/
def OnlyStaged (m : Mark) (c d : Cal) : Prop := d.trims = c.trims ∧ (d.staged = c.staged ∨ ∃ x, d.staged = some (m, x))

/-- On the way from `s` to `t` no trims in force have moved, and what has been staged is for the fourth mark ahead. -/
def Recomputing (s t : State) : Prop := t.rdg = s.rdg ∧ t.hri = s.hri ∧ ∀ k : Fin 425, OnlyStaged (s.mark + 4) (s.spur k).cal (t.spur k).cal

theorem recomputing_recomputeSpur {s t : State} (hversion : s.hri.agreed ≠ 1) (h : Recomputing s t) (n : Nat) : Recomputing s (t.recomputeSpur n) := by
  obtain ⟨hrdg, hhri, hspurs⟩ := h
  unfold State.recomputeSpur
  rw [takeGap_idle (hhri ▸ hversion)]
  extract_lets x bins
  split
  · exact ⟨hrdg, hhri, hspurs⟩
  · next b _ =>
    refine ⟨(clampEvent_keeps State.rdg ..).trans hrdg, (clampEvent_keeps State.hri ..).trans hhri, fun k => ?_⟩
    rw [clampEvent_keeps fun u => u.spur k, spur_modSpur]
    obtain ⟨htrims, hstaged⟩ := hspurs k
    split
    · refine ⟨htrims, ?_⟩
      dsimp only
      split
      · exact .inr ⟨_, congrArg (fun r : Ridgeline => some (r.ridge.mark + 4, _)) hrdg⟩
      · exact hstaged
    · exact ⟨htrims, hstaged⟩

theorem recomputing_spursRecomputed {s : State} (hversion : s.hri.agreed ≠ 1) : Recomputing s (spursRecomputed s) := by
  refine each_preserves (Recomputing s) (fun _ n ht => recomputing_recomputeSpur hversion ht n) ?_ _
  exact ⟨rfl, rfl, fun _ => ⟨rfl, .inl rfl⟩⟩

theorem recomputed_spur (s : State) (k : Nat) : (recomputed s).spur k = (spursRecomputed s).spur k :=
  (recomputeLookout_keeps (fun u => u.spur k) _).trans (each_keeps (fun u => u.spur k) (fun u j => recomputeSaddle_keeps (fun u => u.spur k) u j) _ _)

/-! ## Trims applied (R361) -/

section

variable {c : Cal} {d m : Mark} {x : Trims}

theorem applyStaged_due (hstaged : c.staged = some (d, x)) (hwrites : c.writes = []) (hdue : notAfter d m = true) :
    (c.applyStaged m).trims = x ∧ (c.applyStaged m).staged = none := by
  simp [Cal.applyStaged, hstaged, hwrites, hdue]

theorem applyStaged_later (hstaged : c.staged = some (d, x)) (hwrites : c.writes = []) (hlater : notAfter d m = false) :
    (c.applyStaged m).trims = c.trims ∧ (c.applyStaged m).staged = some (d, x) := by
  simp [Cal.applyStaged, hstaged, hwrites, hlater]

theorem exec_trimApply_spur {s : State} {n : Fin 425} (hcycle : s.atCycle0 n = true) :
    exec (.trimApply (.spur n)) s = .next (s.modSpur n fun x => { x with cal := x.cal.applyStaged x.gen.tallyMark }) :=
  congrArg Host.Outcome.next (if_pos hcycle)

end

/-! ## Gap mode (R363, R364) -/

section

variable {s : State} {n : Fin 425}

/-- The time of a gap step kept, and with the first step of a sweep its mark. -/
def stepTimed (s : State) (n : Nat) : State :=
  let begins : Bool := (s.spur n).cal.sweep.isEmpty && (s.spur n).cal.gapSteps.all (· == 0)
  s.modSpur n fun x => { x with cal := { x.cal with stepAt := some s.rdg.ridge, sweepAt := if begins then some s.mark else x.cal.sweepAt } }

theorem stepTimed_keeps {β : Type} (p : Cal → β) (k : Nat) (h : ∀ c a b, p { c with stepAt := a, sweepAt := b } = p c := by exact fun _ _ _ => rfl) :
    p ((stepTimed s n).spur k).cal = p (s.spur k).cal := modSpur_keeps s (fun x => p x.cal) n k fun x => h x.cal ..

/-- A step of timer `k` counted, up to its 16th. -/
def stepCounted (t : State) (n k : Nat) : State :=
  let done := nth (t.spur n).cal.gapSteps k + 1
  t.modSpur n fun x => { x with cal := { x.cal with gapSteps := setNth x.cal.gapSteps k (if done < 16 then done else 0) } }

/-- A step of a timer before its last is no more than counted. -/
theorem exec_gapStepDone_timer {q : Fin 8} (hopen : s.gapOpen n = true) (hfits : s.gapFits n q = true) (hlacks : s.sweepLacks n q = true)
    (hmore : nth (s.spur n).cal.gapSteps q < 15) (ws : List Int) :
    exec (.gapStepDone n (.timer q ws)) s = .next (stepCounted (stepTimed s n) n q) := by
  have hfew : nth ((stepTimed s n).spur n).cal.gapSteps q + 1 < 16 := by
    rw [stepTimed_keeps Cal.gapSteps n]
    omega
  exact congrArg Host.Outcome.next ((if_neg (by simp [hopen, hfits, hlacks])).trans ((if_neg (by omega)).trans (if_pos hfew)))

theorem stepCounted_counts {t : State} {k : Nat} (hlt : k < (t.spur n).cal.gapSteps.length) (hmore : nth (t.spur n).cal.gapSteps k < 15) :
    nth ((stepCounted t n k).spur n).cal.gapSteps k = nth (t.spur n).cal.gapSteps k + 1 := by
  have hspur : ((stepCounted t n k).spur n).cal.gapSteps = setNth (t.spur n).cal.gapSteps k (nth (t.spur n).cal.gapSteps k + 1) := by
    rw [stepCounted, if_pos (by omega)]
    exact congrArg (fun x : Spur => x.cal.gapSteps) (spur_modSpur_self ..)
  rw [hspur, nth_setNth_same hlt]

/-- A step of detector `q` completes its item. -/
theorem exec_gapStepDone_detector {q : Fin 4} (hopen : s.gapOpen n = true) (hfits : s.gapFits n (8 + q) = true) (hlacks : s.sweepLacks n (8 + q) = true)
    (raw dac res : Int) (thr : List Nat) : exec (.gapStepDone n (.detector q raw dac res thr)) s =
      .next ((stepTimed s n).gapItem n (8 + q) (.detector q raw dac res thr)) :=
  congrArg Host.Outcome.next ((if_neg (by simp [hopen, hfits, hlacks])).trans (if_pos (by omega)))

/-- An item inside its limit waits for the next recomputation (R364). -/
theorem gapItem_waits {i : CalItem} (hgood : itemFault Saddle.reset i = none) (k : Nat) :
    ((s.gapItem n k i).spur n).cal.results = (s.spur n).cal.results ++ [i] ∧ ((s.gapItem n k i).spur n).cal.trims = (s.spur n).cal.trims := by
  simp only [State.gapItem, hgood, spur_modSpur_self]
  exact ⟨rfl, rfl⟩

theorem exec_gapStepAbort {r : Nat} (hmode : s.gapMode = true) (hresults : s.noResults n = false) (hregion : s.regionOf n = some r)
    (hcompute : portKind r = 0) : exec (.gapStepAbort n) s =
      .next (({ s with cal := { s.cal with gapAborts := s.cal.gapAborts + 1 } } : State).modSpur r fun x => { x with gates := { x.gates with calHold := false } }) := by
  change execGapStepAbort n s = _
  simp [execGapStepAbort, hregion, hmode, hresults, hcompute]

end

/-- Settles O40: no update of a recomputation but `State.takeGap`, which ring version 1 alone has, reaches the trims in force. -/
theorem trimsMoveOnlyAtTheirMark : Obligations.TrimsMoveOnlyAtTheirMark := by
  refine ⟨fun s h => exec_calRecompute_idle h, fun s hmark hmod hen honce hversion => ?_, fun s n m x hstaged hwrites hcycle => ?_,
    fun s r hcompute hlow => ?_, fun s r hport => ?_, fun s n q ws hopen hfits hlacks hmore hlen => ?_,
    fun s n q raw dac res thr hopen hfits hlacks hleast hmost => ?_, fun s n r hmode hresults hregion hcompute => ?_⟩
  · obtain ⟨-, -, hspurs⟩ := recomputing_spursRecomputed hversion
    refine ⟨_, exec_calRecompute hmark hmod hen honce, fun n => ?_⟩
    rw [recomputed_spur]
    exact hspurs n
  · refine ⟨_, exec_trimApply_spur hcycle, ?_, ?_, fun k hk => spur_modSpur_of_ne s (mt Fin.ext (Ne.symm hk)) _⟩
    · rw [spur_modSpur_self]
      exact applyStaged_due hstaged hwrites
    · rw [spur_modSpur_self]
      exact applyStaged_later hstaged hwrites
  · exact congrArg Host.Outcome.next (if_pos ⟨hcompute, by simp [hlow]⟩)
  · exact congrArg Host.Outcome.next (if_neg fun h => hport h.1)
  · have hsteps : ((stepTimed s n).spur n).cal.gapSteps = (s.spur n).cal.gapSteps := stepTimed_keeps Cal.gapSteps n
    refine ⟨_, exec_gapStepDone_timer hopen hfits hlacks hmore ws, ?_, ?_⟩
    · rw [stepCounted_counts (by rw [hsteps, hlen]; exact q.isLt) (by rwa [hsteps]), hsteps]
    · exact (modSpur_keeps _ (fun x => x.cal.results) n n).trans (stepTimed_keeps Cal.results n)
  · obtain ⟨hwaits, htrims⟩ := gapItem_waits (s := stepTimed s n) (n := n) (i := .detector q raw dac res thr) (if_pos ⟨hleast, hmost⟩) (8 + q)
    exact ⟨_, exec_gapStepDone_detector hopen hfits hlacks raw dac res thr, hwaits.trans (by rw [stepTimed_keeps Cal.results n]),
      htrims.trans (stepTimed_keeps Cal.trims n)⟩
  · exact ⟨_, exec_gapStepAbort hmode hresults hregion hcompute, rfl, fun k => modSpur_keeps _ Spur.cal r k⟩

end Sys2Proof.Proofs
end

section
/-! The results of a native window: the excursions that bring them, the checks that they pass, and their application (O39). -/

set_option Elab.async false

namespace Sys2Proof.Proofs

open Sys2Proof.Machine Sys2Proof.Safety Sys2Proof.Laws

/-! ## Excursions (R347, R348) -/

section

variable {s : State} {n : Fin 425}

/-- A Spur's open-loop excursion made: the ring driven, its result kept, and the slot ended. -/
def excursionMade (s : State) (n : Nat) (r : Excursion) : State := s.modSpur n fun x =>
  { x with
    gen := { x.gen with dcoCode := x.cal.driven x.gen.dcoCode r }
    cal := { x.cal.excursion r with heldCode := some (x.cal.heldCode.getD x.gen.dcoCode), slot := x.cal.slot + 1 } }

theorem exec_calExcursion {r : Excursion} (hfailed : (s.spur n).gates.failed = false) (htest : s.underTest n = false)
    (hends : s.slotEnds (s.spur n).cal.slot = true) (hfits : fitsSlot r (s.spur n).cal.slot = true) :
    exec (.calExcursion n r) s = .next (excursionMade s n r) :=
  congrArg Host.Outcome.next (if_neg (by simp [hfailed, htest, hends, hfits]))

theorem excursionMade_dcoCode (r : Excursion) :
    ((excursionMade s n r).spur n).gen.dcoCode = (s.spur n).cal.driven (s.spur n).gen.dcoCode r :=
  congrArg (fun x : Spur => x.gen.dcoCode) (spur_modSpur_self ..)

theorem excursionMade_results (r : Excursion) : ((excursionMade s n r).spur n).cal.results = ((s.spur n).cal.excursion r).results :=
  congrArg (fun x : Spur => x.cal.results) (spur_modSpur_self ..)

end

theorem excursion_gain (c : Cal) {lo : Nat} (hlo : 0 < lo) (hi : Nat) :
    (c.excursion (.gain lo hi)).results = c.results ++ [.gain (roundDiv (((hi : Int) - lo) * 10000000) (256 * lo)).toNat] := by
  simp [Cal.excursion, Nat.pos_iff_ne_zero.1 hlo]

theorem measured_results (c : Cal) : c.measured.results = c.results := by
  unfold Cal.measured
  split <;> rfl

/-- FINE of an entry corrected by the frequency measured (R348). -/
def correctedFine (c : Cal) (hz : Nat) : Int :=
  codeFine c.due.2 + roundDiv (((c.due.1 * 25000000 : Nat) - (hz : Int)) * 10000000) (hz * c.gainNow)

theorem excursion_entry {c : Cal} {hz : Nat} (hhz : 0 < hz) (hgain : 0 < c.gainNow) (hleast : 102 ≤ correctedFine c hz) (hmost : correctedFine c hz ≤ 921) :
    (c.excursion (.entry hz)).results = c.results ++ [.code c.due.1 (mkCode (codeBand c.due.2) (correctedFine c hz).toNat)] := by
  have hrefine : refine c.due.2 (correctedFine c hz) = some (mkCode (codeBand c.due.2) (correctedFine c hz).toNat) := if_pos ⟨hleast, hmost⟩
  have hfine : codeFine c.due.2 + (if hz = 0 ∨ c.gainNow = 0 then 0 else roundDiv (((c.due.1 * 25000000 : Nat) - (hz : Int)) * 10000000) (hz * c.gainNow)) =
      correctedFine c hz := by rw [if_neg (by omega)]; rfl
  simp only [Cal.excursion, hfine, hrefine, measured_results]

/-! ## An update that reaches one Spur -/

/-- From `s` to `t` no Spur but `n` has changed, no time has passed, and no event has been taken back. -/
structure Reaches (n : Nat) (s t : State) : Prop where
  other : ∀ k, n ≠ k → t.spur k = s.spur k
  time : t.rdg = s.rdg
  events : ∀ e ∈ s.raised, e ∈ t.raised

section

variable {n : Nat} {s t : State}

theorem Reaches.refl (n : Nat) (s : State) : Reaches n s s := ⟨fun _ _ => rfl, rfl, fun _ h => h⟩

theorem reaches_of_same {u : State} (h : Reaches n s t) (hspurs : u.spurs = t.spurs := by exact rfl) (hrdg : u.rdg = t.rdg := by exact rfl)
    (hraised : u.raised = t.raised := by exact rfl) : Reaches n s u :=
  ⟨fun k hk => (spur_of_spurs hspurs k).trans (h.other k hk), hrdg.trans h.time, fun e he => hraised ▸ h.events e he⟩

theorem reaches_modSpur (h : Reaches n s t) (g : Spur → Spur) : Reaches n s (t.modSpur n g) :=
  ⟨fun k hk => (spur_modSpur_of_ne t hk g).trans (h.other k hk), h.time, h.events⟩

theorem reaches_raiseAs (h : Reaches n s t) (ev : Ev) (sev : Sev) (kind idx : Nat) (d : List Byte) : Reaches n s (t.raiseAs ev sev kind idx d) :=
  ⟨h.other, h.time, fun e he => List.mem_append_left _ (h.events e he)⟩

theorem reaches_when {b : Bool} {f : State → State} (hf : ∀ u, Reaches n s u → Reaches n s (f u)) (h : Reaches n s t) : Reaches n s (t.when b f) := by
  unfold State.when
  split
  · exact hf t h
  · exact h

theorem reaches_calReject (h : Reaches n s t) (u : CalUnit) (item : Nat) (v : Int) (count : Nat) : Reaches n s (t.calReject u item v count) :=
  reaches_raiseAs (reaches_of_same h) ..

theorem reaches_askSave (h : Reaches n s t) : Reaches n s t.askSave :=
  reaches_of_same h (askSave_keeps State.spurs t) (askSave_keeps State.rdg t) (askSave_keeps State.raised t)

theorem reaches_calSources (h : Reaches n s t) (rejected retrimmed : Bool) : Reaches n s (t.calSources n rejected retrimmed) := by
  unfold State.calSources
  extract_lets d l l1
  split
  · exact h
  · exact reaches_of_same (reaches_modSpur h fun x => { x with lim := l1 })

theorem reaches_judgeSpur (h : Reaches n s t) (items : List CalItem) : Reaches n s (t.judgeSpur n items) :=
  reaches_modSpur (each_preserves (Reaches n s) (fun _ _ hu => reaches_calReject hu ..) h _) _

theorem reaches_applySpur (h : Reaches n s t) : Reaches n s (t.applySpur n) := by
  unfold State.applySpur
  extract_lets x items f tb old code sameBand ppm t₁ m y old1 rec1 rec2 z u mons
  have h₁ : Reaches n s t₁ := by
    unfold t₁
    split
    · exact h
    · exact reaches_of_same h
  have hu : Reaches n s u := by
    unfold u
    split
    · exact reaches_when (fun _ hv => reaches_raiseAs hv ..) (reaches_modSpur h₁ _)
    · extract_lets held base bin first
      split
      · exact reaches_modSpur h₁ _
      · exact reaches_when (fun _ hv => reaches_askSave hv) (reaches_modSpur h₁ _)
  split
  · exact h
  · exact reaches_calSources hu ..

theorem atOneSpur_of_reaches {f : State → Nat → State} (h : ∀ t i, Reaches i t (f t i)) : AtOneSpur f :=
  ⟨fun t i k hk => (h t i).other k hk, fun t i => (h t i).time, fun t i => (h t i).events⟩

end

/-! ## Plausibility (R357, R358) -/

/-- The results of a Spur that CAL_PLAUSIBILITY judges: those of its loop, of its excursions and of the window. -/
def spurItems (s : State) (rs : List CalResult) (n : Nat) : List CalItem :=
  (s.spur n).loopCode ++ (s.spur n).cal.results ++ (itemsOf rs (.spur (Fin.ofNat 425 n))).filter brought

/-- One Spur's results judged, or dropped where it delivers none. -/
def spurJudged (s : State) (rs : List CalResult) (u : State) (n : Nat) : State :=
  if s.noResults n then u.modSpur n fun x => { x with cal := { x.cal with results := [] } }
  else if (spurItems s rs n).isEmpty then u else u.judgeSpur n (spurItems s rs n)

/-- One Saddle's results judged. -/
def saddleJudged (s : State) (rs : List CalResult) (u : State) (k : Nat) : State :=
  let items := (itemsOf rs (.saddle (Fin.ofNat 760 k))).filter (sadTimed s.cal.odd k)
  if items.isEmpty || (s.sad k).failed then u else u.judgeSaddle k items

/-- Every Spur's results judged. -/
def spursJudged (s : State) (rs : List CalResult) : State :=
  ({ s with cal := { s.cal with phase := 2 } } : State).each (List.range 425) (spurJudged s rs)

theorem exec_calPlausibility {s : State} (hjudges : s.judges = true) (hvoid : s.cal.voided = false) (rs : List CalResult) :
    exec (.calPlausibility rs) s = .next ((spursJudged s rs).each (List.range 760) (saddleJudged s rs)) :=
  congrArg Host.Outcome.next ((if_neg (by simp [hjudges])).trans (if_neg (by simp [hvoid])))

theorem atOneSpur_spurJudged (s : State) (rs : List CalResult) : AtOneSpur (spurJudged s rs) := by
  refine atOneSpur_of_reaches fun t i => ?_
  unfold spurJudged
  split
  · exact reaches_modSpur (.refl i t) _
  · split
    · exact .refl i t
    · exact reaches_judgeSpur (.refl i t) _

/-- From `s` to `t` the Spurs have stayed, and no event has been taken back. -/
def SpursStay (s t : State) : Prop := t.spurs = s.spurs ∧ ∀ e ∈ s.raised, e ∈ t.raised

theorem spursStay_saddleJudged {s t : State} (h : SpursStay s t) (s0 : State) (rs : List CalResult) (k : Nat) : SpursStay s (saddleJudged s0 rs t k) := by
  have hreject : ∀ (u : State) (p : Nat × Int), SpursStay s u → SpursStay s (u.calReject (.saddle (Fin.ofNat 760 k)) p.1 p.2 ((t.sad k).rejects + 1)) :=
    fun u p ⟨hspurs, hkept⟩ => ⟨hspurs, fun e he => List.mem_append_left _ (hkept e he)⟩
  unfold saddleJudged
  extract_lets items
  split
  · exact h
  · obtain ⟨hspurs, hkept⟩ := each_preserves (SpursStay s) hreject h (items.filterMap fun i => itemFault (t.sad k) i)
    exact ⟨hspurs, hkept⟩

/-- Spur `n` after CAL_PLAUSIBILITY is as its own judging leaves it, and the events of that stay. -/
theorem plausibility_at_spur (s : State) (rs : List CalResult) (n : Fin 425) : ∃ u : State, u.spur n = s.spur n ∧ u.rdg = s.rdg ∧
    ((spursJudged s rs).each (List.range 760) (saddleJudged s rs)).spur n = (spurJudged s rs u n).spur n ∧
    ∀ e ∈ (spurJudged s rs u n).raised, e ∈ ((spursJudged s rs).each (List.range 760) (saddleJudged s rs)).raised := by
  obtain ⟨u, hspur, hrdg, hend, hraised⟩ := (atOneSpur_spurJudged s rs).mem { s with cal := { s.cal with phase := 2 } } List.nodup_range
    (List.mem_range.2 n.isLt)
  have hstay : SpursStay (spursJudged s rs) ((spursJudged s rs).each (List.range 760) (saddleJudged s rs)) :=
    each_preserves (SpursStay _) (fun _ k ht => spursStay_saddleJudged ht s rs k) ⟨rfl, fun _ he => he⟩ _
  obtain ⟨hspurs, hkept⟩ := hstay
  exact ⟨u, hspur, hrdg, (spur_of_spurs hspurs n).trans hend, fun e he => hkept e (hraised e he)⟩

/-- No result of a Spur that has been judged is outside its limit. -/
theorem judgeSpur_plausible (u : State) (n : Fin 425) (items : List CalItem) :
    ∀ i ∈ ((u.judgeSpur n items).spur n).cal.results, itemFault Saddle.reset i = none := by
  intro i hi
  rw [State.judgeSpur, spur_modSpur_self] at hi
  obtain ⟨-, hgood⟩ := List.mem_filter.1 hi
  simp only [Bool.and_eq_true, Option.isNone_iff_eq_none] at hgood
  exact hgood.left

/-- A single result outside its limit, neither a code nor a gain, is dropped with its Spur marked (R358). -/
theorem judgeSpur_rejects (u : State) (n : Fin 425) {i : CalItem} {p : Nat × Int} (hbrought : brought i = true) (hbad : itemFault Saddle.reset i = some p) :
    u.judgeSpur n [i] = (u.calReject (.spur n) p.1 p.2 ((u.spur n).cal.record.rejects + 1)).modSpur n fun y =>
      { y with cal := { y.cal with results := [], rejected := true } } := by
  cases i with
  | code => cases hbrought
  | _ => simp [State.judgeSpur, hbad, State.each]

/-! ## Application (R359, R361) -/

section

variable {s : State}

/-- CAL_APPLY begun. -/
def applyBegun (s : State) : State := { s with cal := { s.cal with phase := 3, lateAt := none } }

/-- The results of a voided window are dropped (R365). -/
theorem calApply_voided (hactive : s.role.silent = false) (hphase : s.cal.phase = 2) (hlate : s.cal.lateAt = none) (hleft : s.calLeft 1 = true)
    (hvoid : s.cal.voided = true) : Runs .calApply s fun t => ∀ n : Fin 425,
      (t.spur n).cal = { (s.spur n).cal with results := [], rejected := false } := by
  refine ⟨_, congrArg Host.Outcome.next ((if_neg (by simp [hactive, hphase, hlate, hleft])).trans (if_pos hvoid)), fun n => ?_⟩
  exact congrArg Spur.cal (spur_mapSpurs (applyBegun s) n.isLt _)

theorem applySaddle_spurs (t : State) (k : Nat) : (t.applySaddle k).spurs = t.spurs := by
  unfold State.applySaddle
  extract_lets x tb f y z
  split
  · rfl
  · split
    · rfl
    · split
      · rfl
      · exact when_keeps State.spurs (fun u => askSave_keeps State.spurs u) _ _

/-- A window whose results `t` holds is counted, or asks for a save (R362). -/
def windowCounted (s t : State) (some1 : Bool) : State :=
  if !some1 then t
  else if t.crn.pending ∧ !s.crn.pending then t
  else if 256 ≤ t.cal.sinceSave + 1 then t.askSave
  else { t with cal := { t.cal with sinceSave := t.cal.sinceSave + 1 } }

theorem windowCounted_spurs (s t : State) (some1 : Bool) : (windowCounted s t some1).spurs = t.spurs := by
  unfold windowCounted
  split
  · rfl
  · split
    · rfl
    · split
      · exact askSave_keeps State.spurs t
      · rfl

/-- Some unit has results to apply. -/
def hasResults (s : State) : Bool :=
  (List.range 425).any (fun n => !(s.spur n).cal.results.isEmpty) || (List.range 760).any fun k => !(s.sad k).results.isEmpty

theorem exec_calApply (hactive : s.role.silent = false) (hphase : s.cal.phase = 2) (hlate : s.cal.lateAt = none) (hleft : s.calLeft 1 = true)
    (hvoid : s.cal.voided = false) : exec .calApply s = .next (windowCounted (applyBegun s)
      (((applyBegun s).each (List.range 425) State.applySpur).each (List.range 760) State.applySaddle) (hasResults (applyBegun s))) := by
  change execCalApply s = _
  unfold execCalApply
  extract_lets engine begun some1 t
  have hb : begun = applyBegun s := rfl
  have hs : some1 = hasResults begun := rfl
  have ht : t = (begun.each (List.range 425) State.applySpur).each (List.range 760) State.applySaddle := rfl
  clear_value some1 t
  rw [if_neg (by simp [hactive, hphase, hlate, hleft]), if_neg (by simp [hb, applyBegun, hvoid]), ← hb, ← hs, ← ht]
  rfl

/-- The results of a window that is not voided are applied Spur by Spur; what follows leaves the Spurs. -/
theorem calApply_spurs (hactive : s.role.silent = false) (hphase : s.cal.phase = 2) (hlate : s.cal.lateAt = none) (hleft : s.calLeft 1 = true)
    (hvoid : s.cal.voided = false) : Runs .calApply s fun t => t.spurs = ((applyBegun s).each (List.range 425) State.applySpur).spurs :=
  ⟨_, exec_calApply hactive hphase hlate hleft hvoid, (windowCounted_spurs ..).trans (each_keeps State.spurs applySaddle_spurs _ _)⟩

end

/-- The sources of a Spur's limit leave its calibration. -/
theorem calSources_cal (s : State) (n k : Nat) (rejected retrimmed : Bool) : ((s.calSources n rejected retrimmed).spur k).cal = (s.spur k).cal := by
  unfold State.calSources
  extract_lets d l l1
  split
  · rfl
  · exact modSpur_keeps s Spur.cal n k

/-- Without a reject SRC_CAL is clear (R358). -/
theorem calSources_clear (s : State) (n : Fin 425) (retrimmed : Bool) : ((s.calSources n false retrimmed).spur n).lim.cal = none := by
  unfold State.calSources
  extract_lets d l l1
  split
  · next h => exact (congrArg Limits.cal h).symm
  · rw [baseMoved_at_spur, spur_modSpur_self]
    rfl

/-- The figures take no bin. -/
theorem figures_bins (c : Cal) (items : List CalItem) : (c.figures items).record.bins = c.record.bins := by
  refine List.foldlRecOn items _ (motive := fun d : Cal => d.record.bins = c.record.bins) rfl fun d hd i _ => ?_
  cases i <;> exact hd

/-- The bin that a Spur's results of a window fill, with their temperature. -/
def filledBin (x : Spur) (b : Nat) (tb : Int) : SpurBin := ({ x.cal.binAt b tb with tb := tb } : SpurBin).take x.gen.fcode x.cal.results

/-- What a window in a bin's range leaves of a Spur's calibration `c`: the bin holds its results, and its trims are in force. -/
structure ResultsTaken (x : Spur) (b : Nat) (tb : Int) (c : Cal) : Prop where
  trims : c.trims = (filledBin x b tb).trims c.trims.sens
  results : c.results = []
  rejects : c.record.rejects = 0
  bins : c.record.bins = setNth x.cal.record.bins b (some (filledBin x b tb))

theorem applySpur_takes {s : State} {n : Fin 425} {tb : Int} {b : Nat} (hresults : (s.spur n).cal.results ≠ []) (hgood : (s.spur n).cal.rejected = false)
    (htemp : (s.spur n).cal.winTemp = some tb) (hbin : binOf tb = some b) :
    ResultsTaken (s.spur n) b tb ((s.applySpur n).spur n).cal ∧ ((s.applySpur n).spur n).lim.cal = none := by
  obtain rfl : s.resultTemp n = tb := by simp [State.resultTemp, htemp]
  unfold State.applySpur
  extract_lets x items f tb old code sameBand ppm t₁ m y old1 rec1 rec2 z u mons
  have hsome : ¬ items.isEmpty = true := by simpa [items] using hresults
  obtain ⟨hrejects, hbins⟩ : rec2.rejects = 0 ∧ rec2.bins = x.record.bins := by
    have hone : rec1.rejects = 0 := congrArg (rejectsAfter x.record.rejects) hgood
    unfold rec2
    rw [if_neg hsome]
    exact ⟨hone, figures_bins x items⟩
  have hu : ResultsTaken (s.spur n) b tb (u.spur n).cal := by
    unfold u
    split
    · next hnone => exact absurd (hnone.symm.trans hbin) nofun
    · next b' hsomeBin =>
      obtain rfl : b' = b := Option.some.inj (hsomeBin.symm.trans hbin)
      extract_lets held base bin first
      rw [if_neg hsome, spur_when _ _ _ _ fun v => askSave_keeps (fun w => w.spur n) v, spur_modSpur_self]
      exact ⟨rfl, rfl, hrejects, congrArg (fun l => setNth l b' (some bin)) hbins⟩
  rw [if_neg (by simp [hsome]), hgood, calSources_cal]
  exact ⟨hu, calSources_clear ..⟩

/-- Settles O39: what a window brings a Spur is judged by `State.judgeSpur` and applied by `State.applySpur`, each of which reaches that Spur alone. -/
theorem onlyPlausibleResultsTakeEffect : Obligations.OnlyPlausibleResultsTakeEffect := by
  refine ⟨fun s n lo hi hslot hends hfailed htest hlo => ?_, fun s n hz hslot hends hfailed htest hhz => ?_,
    fun s rs hjudges hvoid => ⟨_, exec_calPlausibility hjudges hvoid rs, fun n hresults => ?_, fun n i p hrs hresults hnone hloop hbrought hbad => ?_⟩,
    fun s hactive hphase hlate hleft hvoid => ?_, fun s n tb b hactive hphase hlate hleft hvoid hresults hgood htemp hbin => ?_⟩
  · refine ⟨_, exec_calExcursion hfailed htest (hslot ▸ hends) (by simp [fitsSlot, hslot]), excursionMade_dcoCode _, ?_⟩
    rw [excursionMade_results, excursion_gain _ hlo]
  · intro c fine hgain hleast hmost
    refine ⟨_, exec_calExcursion hfailed htest hends (by simp [fitsSlot, hslot]), excursionMade_dcoCode _, ?_⟩
    rw [excursionMade_results]
    exact excursion_entry hhz hgain hleast hmost
  · obtain ⟨u, hspur, -, hend, -⟩ := plausibility_at_spur s rs n
    rw [hend, spurJudged, if_neg (by simp [hresults])]
    split
    · next hempty =>
      have hnone : (s.spur n).cal.results = [] := by
        simp only [spurItems, List.isEmpty_iff, List.append_eq_nil_iff] at hempty
        obtain ⟨⟨-, hnone⟩, -⟩ := hempty
        exact hnone
      simp [hspur, hnone]
    · exact judgeSpur_plausible u n _
  · obtain ⟨u, hspur, hrdg, hend, hkept⟩ := plausibility_at_spur s rs n
    have hitems : spurItems s rs n = [i] := by
      simp [spurItems, Spur.loopCode, hloop, hnone, hrs, itemsOf, hbrought]
    have hjudged : spurJudged s rs u n = (u.calReject (.spur n) p.1 p.2 ((s.spur n).cal.record.rejects + 1)).modSpur n fun y =>
        { y with cal := { y.cal with results := [], rejected := true } } := by
      rw [spurJudged, if_neg (by simp [hresults]), hitems, if_neg (by simp), judgeSpur_rejects u n hbrought hbad, hspur]
    rw [hjudged] at hend hkept
    rw [spur_modSpur_self] at hend
    rw [hend]
    refine ⟨rfl, rfl, hkept _ ?_⟩
    rw [← event_congr hrdg]
    exact List.mem_append_right _ (List.mem_singleton_self _)
  · obtain ⟨t, hexec, hcal⟩ := calApply_voided hactive hphase hlate hleft hvoid
    refine ⟨t, hexec, fun n => ?_⟩
    rw [hcal n]
    exact ⟨rfl, rfl⟩
  · obtain ⟨t, hexec, hspurs⟩ := calApply_spurs hactive hphase hlate hleft hvoid
    obtain ⟨u, hspur, -, hend, -⟩ := (atOneSpur_of_reaches fun t i => reaches_applySpur (.refl i t)).mem (applyBegun s) List.nodup_range (List.mem_range.2 n.isLt)
    have hbegun : u.spur n = s.spur n := hspur
    have htaken := applySpur_takes (s := u) (n := n) (by rwa [hbegun]) (by rwa [hbegun]) (by rwa [hbegun]) hbin
    rw [← hend, ← spur_of_spurs hspurs n, hbegun] at htaken
    obtain ⟨⟨htrims, hdropped, hrejects, hbins⟩, hsource⟩ := htaken
    refine ⟨t, hexec, congrArg Trims.codes htrims, congrArg Trims.offs htrims, congrArg Trims.thr htrims, congrArg Trims.mon htrims, hdropped, hrejects,
      hsource, fun hlt => ?_⟩
    rw [hbins]
    simp [setNth, hlt, filledBin]

end Sys2Proof.Proofs
end

section
/-! The Cairn store: a save asked for, begun, taken, committed or failed, and bank F (O42).
The image that a save commits holds the records that its CAIRN_SAVE commands took and, of the units not yet taken, the records at the commit (notes/assumptions/17.md). -/

set_option Elab.async false

namespace Sys2Proof.Proofs

open Sys2Proof.Machine Sys2Proof.Safety Sys2Proof.Laws

/-! ## The banks of the store -/

section

variable (c : Cairn) (b : Nat) (x : BankImg)

theorem img_setImg : (c.setImg b x).img b = x := by
  unfold Cairn.setImg Cairn.img
  split
  · rfl
  · split <;> rfl

theorem img_setImg_ne {k : Nat} (hk : k < 3) (hb : b < 3) (hne : k ≠ b) : (c.setImg b x).img k = c.img k := by
  unfold Cairn.setImg Cairn.img
  grind

/-- A bank written leaves the rest of the store. -/
theorem setImg_keeps {β : Type} (p : Cairn → β) (h : ∀ c a b f, p { c with a := a, b := b, f := f } = p c := by exact fun _ _ _ _ => rfl) :
    p (c.setImg b x) = p c := by
  unfold Cairn.setImg
  split
  · exact h c x c.b c.f
  · split
    · exact h c c.a x c.f
    · exact h c c.a c.b x

end

theorem target_of_saveF {c : Cairn} (h : c.saveF = true) : c.target = 2 := if_pos h

theorem target_of_no_saveF {c : Cairn} (h : c.saveF = false) : c.target ≠ c.bank ∧ c.target < 2 := by
  rw [Cairn.target, h, if_neg (by simp)]
  split <;> omega

/-! ## A save begins (R382, R383) -/

/-- The store with the request that a save answers taken out: SAVE_F, or the pending flag with the spacing begun anew. -/
def saveRequestTaken (s : State) : Cairn :=
  if s.crn.target = 2 then { s.crn with saveF := false } else { s.crn with pending := false, urgent := false, holdUntil := none, lastSave := some s.mark }

theorem saveRequestTaken_of_saveF {s : State} (h : s.crn.saveF = true) : saveRequestTaken s = { s.crn with saveF := false } := if_pos (target_of_saveF h)

theorem saveRequestTaken_of_no_saveF {s : State} (h : s.crn.saveF = false) :
    saveRequestTaken s = { s.crn with pending := false, urgent := false, holdUntil := none, lastSave := some s.mark } :=
  if_neg (by have := (target_of_no_saveF h).2; omega)

/-- The request taken out changes no bank. -/
theorem saveRequestTaken_keeps {β : Type} (p : Cairn → β) (s : State)
    (h : ∀ c sf pd ur ho la, p { c with saveF := sf, pending := pd, urgent := ur, holdUntil := ho, lastSave := la } = p c := by exact fun _ _ _ _ _ _ => rfl) :
    p (saveRequestTaken s) = p s.crn := by
  unfold saveRequestTaken
  split
  · exact h s.crn false _ _ _ _
  · exact h s.crn s.crn.saveF _ _ _ _

/-- The store with a save running of bank `s.crn.target`, no record taken. -/
def saveBegun (s : State) : Cairn :=
  { saveRequestTaken s with saving := true, goal := s.crn.target, began := s.mark, took := s.mark, recSpurs := [], recSaddles := [], recLookout := none }

theorem beginSave_eq {s : State} (hseq : s.crn.nextSeq s.crn.target < 0xFFFFFFFF) : s.beginSave = { s with crn := saveBegun s } :=
  if_neg (Nat.not_le.2 hseq)

theorem exec_cairnSave_started {s : State} (hready : s.saveReady = true) (hseq : s.crn.nextSeq s.crn.target < 0xFFFFFFFF) :
    exec (.cairnSave .started) s = .next { s with crn := saveBegun s } :=
  congrArg Host.Outcome.next ((if_pos hready).trans (beginSave_eq hseq))

theorem exec_cairnSave_waits {s : State} (hready : s.saveReady = false) : exec (.cairnSave .started) s = .next s :=
  congrArg Host.Outcome.next (if_neg (by simp [hready]))

/-! ## Records taken -/

theorem exec_cairnSave_taken {s : State} (hsaving : s.crn.saving = true) (n : Nat) : exec (.cairnSave (.taken n)) s = .next (s.takeRecords n) :=
  congrArg Host.Outcome.next (if_pos hsaving)

/-- Records of Spurs alone, none of them between staging and application, and none taken before (R382 step 5). -/
theorem takeRecords_spurs {s : State} {n : Nat} (hnone : s.crn.recSpurs = []) (hn : n ≤ 425) (hall : s.spurs.toList.all Spur.recordable = true) :
    s.takeRecords n = { s with crn := { s.crn with recSpurs := (s.spurs.toList.take n).map fun x => x.cal.record, took := s.mark } } := by
  have hspurs : (s.spurs.toList.take n).takeWhile Spur.recordable = s.spurs.toList.take n :=
    List.takeWhile_eq_self_iff.2 fun x hx => List.all_eq_true.1 hall x (List.mem_of_mem_take hx)
  have hsaddles : n - 425 = 0 := by omega
  have hlookout : n < 1186 := by omega
  simp [State.takeRecords, hnone, hspurs, hsaddles, hlookout]

/-! ## A save ends (R382, R387) -/

theorem exec_cairnSave_done {s : State} (hsaving : s.crn.saving = true) : exec (.cairnSave .done) s = .next s.endSave :=
  congrArg Host.Outcome.next (if_pos hsaving)

theorem exec_cairnSave_failed {s : State} (hsaving : s.crn.saving = true) (step addr : Nat) (cause : Fin 3) :
    exec (.cairnSave (.failed step addr cause)) s = .next (s.failSave step addr cause) :=
  congrArg Host.Outcome.next (if_pos hsaving)

/-- A commit puts an image in the target, which is the bank in use from then on. -/
theorem endSave_crn (s : State) : ∃ x : BankImg,
    s.endSave.crn = { s.crn.setImg s.crn.goal x with
      bank := s.crn.goal, seq := s.crn.nextSeq s.crn.goal, saving := false, saves := s.crn.saves + 1, fails := 0 } ∧
    x.commit = some (s.crn.nextSeq s.crn.goal) ∧ x.erase = s.crn.nextErase s.crn.goal ∧
    x.spurs = s.crn.recSpurs ++ (s.spurs.toList.drop s.crn.recSpurs.length).map fun y => y.cal.record :=
  ⟨_, rfl, rfl, rfl, rfl⟩

theorem endSave_raises (s : State) :
    Raises s s.endSave .crnSaved .info 7 s.crn.goal (le 4 (s.crn.nextSeq s.crn.goal) ++ le 4 (s.crn.nextErase s.crn.goal)) :=
  List.mem_append_right _ (List.mem_singleton_self _)

/-- A failed step leaves the target with no commit record, and the bank in use as it was. -/
theorem failSave_crn (s : State) (step addr cause : Nat) : ∃ x : BankImg,
    (s.failSave step addr cause).crn = { s.crn.setImg s.crn.goal x with saving := false, fails := min 255 (s.crn.fails + 1) } ∧ x.commit = none := by
  refine ⟨_, rfl, ?_⟩
  split <;> rfl

theorem failSave_raises (s : State) (step addr cause : Nat) :
    Raises s (s.failSave step addr cause) .crnFlashErr .degraded 7 s.crn.goal (le 1 step ++ le 4 addr ++ le 1 cause) :=
  List.mem_append_right _ (List.mem_singleton_self _)

/-! ## SAVE_F (R379) -/

/-- A block whose windows answer is neither parked nor off (R514). -/
theorem awake_of_answers {s : State} {a : Nat} (h : s.answers a = true) : s.boot.pst ≠ .v2 ∧ s.boot.pst ≠ .v3 := by
  unfold State.answers at h
  grind

/-- A save of bank F counts its own erases alone (R375). -/
theorem nextErase_bankF (c : Cairn) : c.nextErase 2 = c.f.erase + 1 := by
  change 1 + (if c.f.erase ≠ 0 then c.f.erase else 0) = _
  split <;> omega

/-- The state with SAVE_F's save of bank F waiting. -/
def askedF (s : State) : State := { s with crn := { s.crn with saveF := true } }

/-- The state with SAVE_F's save of bank F begun. -/
def begunF (s : State) : State := { s with crn := saveBegun (askedF s) }

section

variable {s : State} (hans : s.answers 0xA0800 = true)

include hans

theorem exec_saveF_locked (hlcs : s.lcs.st ≠ .provisioned) (r : FlashResult) :
    exec (.saveF r) s = .next (s.raise .cfgLocked 7 0xFFFF (le 4 0xA0800 ++ le 4 2)) :=
  congrArg Host.Outcome.next ((take_rw hans ..).trans (if_pos hlcs))

variable (hlcs : s.lcs.st = .provisioned) (husable : s.crn.unusable = false)

include hlcs husable

/-- While a save runs SAVE_F waits (R384). -/
theorem exec_saveF_waits (hsaving : s.crn.saving = true) (r : FlashResult) : exec (.saveF r) s = .next (askedF s) :=
  congrArg Host.Outcome.next ((take_rw hans ..).trans
    ((if_neg (not_not.2 hlcs)).trans ((if_neg (by simp [husable])).trans (if_pos hsaving))))

/-- With no save running SAVE_F begins one of bank F, and commits it. -/
theorem exec_saveF_done (hidle : s.crn.saving = false) :
    exec (.saveF .done) s = .next (begunF s).endSave := by
  obtain ⟨hv2, hv3⟩ := awake_of_answers hans
  have hready : (askedF s).saveReady = true := by simp [State.saveReady, askedF, hidle, husable, hv2, hv3]
  have hseq : (askedF s).crn.nextSeq (askedF s).crn.target < 0xFFFFFFFF := by rw [target_of_saveF rfl]; exact (by decide : 1 < 0xFFFFFFFF)
  have hbegun : (askedF s).flashStep .started = begunF s := (if_pos hready).trans (beginSave_eq hseq)
  calc exec (.saveF .done) s = .next (((askedF s).flashStep .started).flashStep .done) :=
        congrArg Host.Outcome.next ((take_rw hans ..).trans
          ((if_neg (not_not.2 hlcs)).trans ((if_neg (by simp [husable])).trans (if_neg (by simp [hidle])))))
    _ = _ := by rw [hbegun]; rfl

end

/-- Settles O42: a save begun is `saveBegun`, its commit and its failure write no bank but the target, and SAVE_F is the save begun from `askedF` and committed. -/
theorem savesGoToTheBankNotInUse : Obligations.SavesGoToTheBankNotInUse := by
  refine ⟨fun s hans husable => ?_, fun s hunusable => ?_, fun s hready hseq => ?_, fun s hready => exec_cairnSave_waits hready,
    fun s n hsaving hnone hn hall => ?_, fun s hsaving => ?_, fun s step addr cause hsaving => ?_, fun s hans hlcs husable => ⟨fun hidle => ?_, ?_⟩,
    fun s r hans hlcs => exec_saveF_locked hans hlcs r⟩
  · exact congrArg Host.Outcome.next ((take_rw hans ..).trans (if_neg (by simp [husable])))
  · change execSave s = _
    simp [execSave, State.take, hunusable]
  · refine ⟨_, exec_cairnSave_started hready hseq, rfl, rfl, saveRequestTaken_keeps Cairn.bank s, saveRequestTaken_keeps Cairn.a s, saveRequestTaken_keeps Cairn.b s,
      saveRequestTaken_keeps Cairn.f s, fun hF => ⟨target_of_saveF hF, ?_⟩, fun hF => ?_, rfl⟩
    · exact (congrArg Cairn.pending (saveRequestTaken_of_saveF hF)).trans rfl
    · obtain ⟨hother, hlt⟩ := target_of_no_saveF hF
      exact ⟨hother, hlt, congrArg Cairn.pending (saveRequestTaken_of_no_saveF hF), congrArg Cairn.lastSave (saveRequestTaken_of_no_saveF hF)⟩
  · rw [exec_cairnSave_taken hsaving, takeRecords_spurs hnone hn hall]
  · obtain ⟨x, hcrn, hcommit, herase, hspurs⟩ := endSave_crn s
    have himg : s.endSave.crn.img s.crn.goal = x := by rw [hcrn]; exact img_setImg ..
    refine ⟨_, exec_cairnSave_done hsaving, rfl, rfl, rfl, rfl, rfl, himg ▸ hcommit, himg ▸ herase, himg ▸ hspurs, fun b hb hgoal hne => ?_, endSave_raises s⟩
    rw [hcrn]
    exact img_setImg_ne _ _ _ hb hgoal hne
  · obtain ⟨x, hcrn, hcommit⟩ := failSave_crn s step addr cause
    refine ⟨_, exec_cairnSave_failed hsaving step addr cause, ?_, ?_, ?_, ?_, ?_, fun b hb hgoal hne => ?_, failSave_raises s step addr cause⟩
    all_goals rw [hcrn]
    · exact setImg_keeps _ _ _ Cairn.bank
    · exact setImg_keeps _ _ _ Cairn.seq
    · exact (congrArg BankImg.commit (img_setImg ..)).trans hcommit
    · exact img_setImg_ne _ _ _ hb hgoal hne
  · obtain ⟨x, hcrn, -⟩ := endSave_crn (begunF s)
    have hother : ∀ b < 2, (begunF s).endSave.crn.img b = s.crn.img b := fun b hb => by
      rw [hcrn]
      exact img_setImg_ne (begunF s).crn 2 x (k := b) (by omega) (by decide) (by omega)
    refine ⟨_, exec_saveF_done hans hlcs husable hidle, rfl, rfl, rfl, rfl, hother 0 (by decide), hother 1 (by decide), ?_⟩
    rw [← nextErase_bankF]
    exact endSave_raises (begunF s)
  · exact exec_saveF_waits hans hlcs husable

end Sys2Proof.Proofs
end

section
/-! What power-up, a block reset and a wake keep, and stages 0 to 3 of a start (O52).
SUP1 below its threshold holds every stage, stage 0 included (notes/assumptions/41.md). -/

set_option Elab.async false

namespace Sys2Proof.Proofs

open Sys2Proof.Machine Sys2Proof.Safety Sys2Proof.Laws

/-! ## The board table that Lookout keeps -/

section

variable (s : State)

/-- The reference section of the board table is applied to register words alone. -/
theorem keepTable_keeps {β : Type} (p : State → β) (h : ∀ u w, p { u with words := w } = p u := by exact fun _ _ => rfl) : p s.keepTable = p s := by
  unfold State.keepTable
  split
  · rfl
  · exact h s _

theorem keepTable_of_none (h : s.lko.tableKept = false) : s.keepTable = s := if_pos (by simp [h])

theorem word_setField_ne {a b : Nat} (h : a ≠ b) (hi lo v : Nat) : (s.setField a hi lo v).word b = s.word b := word_setWord_ne h ..

/-- It lies in Ridgeline's window, above Lookout's. -/
theorem word_keepTable {a : Nat} (h : a < 0x18000) : s.keepTable.word a = s.word a := by
  unfold State.keepTable
  split
  · rfl
  · rw [word_setWord_ne (by omega), word_setWord_ne (by omega), word_setField_ne _ (by omega), word_setField_ne _ (by omega)]

end

/-! ## Power-up and block reset (R480) -/

theorem find_lookoutPart (r : RegFile) (a : Nat) : r.lookoutPart.find a = if 0x10000 ≤ a ∧ a < 0x10500 then r.find a else none := by
  induction r with
  | nil => exact (ite_self none).symm
  | cons p r ih =>
    obtain ⟨k, v⟩ := p
    have hcons : RegFile.lookoutPart ((k, v) :: r) =
        if decide (0x10000 ≤ k) && decide (k < 0x10500) then (k, v) :: RegFile.lookoutPart r else RegFile.lookoutPart r := List.filter_cons
    rw [hcons]
    split
    · simp only [RegFile.find, ih]
      grind
    · simp only [RegFile.find, ih]
      grind

section

variable (s : State) (kind : Nat)

theorem restart_boot : (s.restart kind).boot = { Boot.reset with stage := if s.lko.oscOk then 1 else 0, kind := kind } := keepTable_keeps _ State.boot

theorem restart_rdg : (s.restart kind).rdg = s.rdg.kept := keepTable_keeps _ State.rdg

theorem restart_lko : (s.restart kind).lko = s.lko.kept := keepTable_keeps _ State.lko

/-- A block reset keeps the fatal record of every Col (R533). -/
theorem restart_col (f : Fin 25) : (s.restart 1).col f = (s.col f).keptRecord :=
  (keepTable_keeps _ fun t => t.col f).trans (bget_bmap _ _ _ f.isLt)

theorem word_restart_lookout {a : Nat} (hlo : 0x10000 ≤ a) (hhi : a < 0x10500) : (s.restart kind).word a = s.word a := by
  rw [State.restart, word_keepTable _ (by omega)]
  exact congrArg (·.getD (resetWord a)) ((find_lookoutPart s.words a).trans (if_pos ⟨hlo, hhi⟩))

theorem word_restart_other (htable : s.lko.tableKept = false) {a : Nat} (ha : a < 0x10000 ∨ 0x10500 ≤ a) : (s.restart kind).word a = resetWord a := by
  have hbase : s.restart kind = _ := keepTable_of_none _ htable
  rw [hbase]
  exact congrArg (·.getD (resetWord a)) ((find_lookoutPart s.words a).trans (if_neg (by omega)))

/-- The block held in reset: its units as at the beginning of a start, its pins as they were, a parked block still parked. -/
def heldInReset : State := { s.restart 1 with boot := { (s.restart 1).boot with
  kind := s.boot.kind, pst := if s.boot.pst = .v2 ∨ s.boot.pst = .v3 then s.boot.pst else .v0, reasserted := true
  pinFatal := s.boot.pinFatal, pinPark := s.boot.pinPark, pinWake := s.boot.pinWake } }

/-- The block released after a reset asserted again: a start of kind 1. -/
def released : State := { s.restart 1 with boot := { (s.restart 1).boot with resetN := true } }

variable {s}

theorem exec_blkResetAssert (h : s.boot.resetN = true) : exec .blkResetAssert s = .next (heldInReset s) :=
  congrArg Host.Outcome.next (if_neg (by simp [h]))

theorem exec_blockReset_released (h : s.boot.resetN = true) : exec .blockReset s = .next s := congrArg Host.Outcome.next (if_pos h)

theorem exec_blockReset (hheld : s.boot.resetN = false) (hagain : s.boot.reasserted = true) : exec .blockReset s = .next (released s) :=
  congrArg Host.Outcome.next ((if_neg (by simp [hheld])).trans (if_pos hagain))

end

/-! ## Stages 0 and 1 (R481) -/

/-- Lookout's oscillator runs, and where it has just settled the first gate of each input begins. -/
def oscRunning (s : State) : State :=
  { s with
    lko := { s.lko with oscOk := true }
    rdg := if s.lko.oscOk then s.rdg else { s.rdg with a := s.rdg.a.firstGate, b := s.rdg.b.firstGate } }

theorem exec_oscillatorSettled {s : State} (hpst : s.boot.pst ≠ .v3) :
    exec .oscillatorSettled s = .next (if (oscRunning s).inStage 0 then (oscRunning s).toStage 1 else oscRunning s) :=
  congrArg Host.Outcome.next (if_neg hpst)

theorem exec_stage1Done {s : State} (hstage : s.inStage 1 = true) (hqual : s.rdg.a.qual = true) (hreset : s.boot.resetN = true) :
    exec .stage1Done s = .next (s.toStage 2) :=
  congrArg Host.Outcome.next (if_pos (by simp [hstage, hqual, hreset]))

theorem exec_stage1Done_waits {s : State} (h : s.rdg.a.qual = false ∨ s.boot.resetN = false) : exec .stage1Done s = .next s :=
  congrArg Host.Outcome.next (if_neg (by rcases h with h | h <;> simp [h]))

/-! ## Stage 2 (R481, R484, R485) -/

section

variable (s : State) (src : Nat)

/-- The time base is a part of Lookout; its change is told. -/
theorem timeBase_keeps {β : Type} (p : State → β) (h : ∀ u l r f, p { u with lko := l, raised := r, faults := f } = p u := by exact fun _ _ _ _ => rfl) :
    p (s.timeBase src) = p s := by
  unfold State.timeBase
  split
  · rfl
  · exact h s _ _ _

theorem timeBase_lko : ∃ ch, (s.timeBase src).lko = { s.lko with todSrc := src, ch := ch } := by
  unfold State.timeBase
  split
  · next h =>
    subst h
    exact ⟨s.lko.ch, rfl⟩
  · exact ⟨_, rfl⟩

theorem raise_keeps {β : Type} (p : State → β) (s : State) (ev : Ev) (kind idx : Nat) (d : List Byte)
    (h : ∀ u r f, p { u with raised := r, faults := f } = p u := by exact fun _ _ _ => rfl) : p (s.raise ev kind idx d) = p s := h s _ _

/-- Stage 3 begun, before the time base and the voltages: the root locked on REFCLK_A, the copies of Summit as their self-checks leave them, SERVICE left. -/
def stage3Begun (one two : Bool) (st : LifeCycle) : State :=
  let t := (s.toStage 3).modRdg fun r => { r with lock := true, root := .selA }
  { t with
    lko := { t.lko with timerLock := true }
    role := { t.role with active := !one && two, standbyOk := one && two, silent := !one && !two }
    lcs := { t.lcs with
      st := if st = LifeCycle.service then .deployed else st
      segs := if st = LifeCycle.service ∨ st = LifeCycle.deployed then List.replicate 5 false else t.lcs.segs } }

/-- The standby's failed self-check told. -/
def standbyTold (one two : Bool) (t : State) : State := t.when (one && !two) fun u => u.raise .standbyLost 0 u.summitIdx (le 1 1)

theorem standbyTold_keeps {β : Type} (p : State → β) (one two : Bool) (t : State)
    (h : ∀ u r f, p { u with raised := r, faults := f } = p u := by exact fun _ _ _ => rfl) : p (standbyTold one two t) = p t :=
  when_keeps p (f := fun u => u.raise .standbyLost 0 u.summitIdx (le 1 1)) (fun u => raise_keeps p u _ _ _ _ h) t _

/-- Stage 3 begun, with the time base on REFCLK_A. -/
def stage3Timed (one two : Bool) (st : LifeCycle) : State := standbyTold one two ((stage3Begun s one two st).timeBase 0)

/-- Every field requests the voltage of FCODE 16. -/
def bootVolts (t : State) : State := t.mapCols fun f c => { c with avs := { c.avs with req := t.volt f 16, inForce := t.volt f 16 } }

variable {s}

theorem stage3Timed_keeps {β : Type} (p : State → β) (one two : Bool) (st : LifeCycle)
    (h : ∀ u l r f, p { u with lko := l, raised := r, faults := f } = p u := by exact fun _ _ _ _ => rfl) :
    p (stage3Timed s one two st) = p (stage3Begun s one two st) :=
  (standbyTold_keeps p one two _ fun u r f => h u u.lko r f).trans (timeBase_keeps _ 0 p h)

theorem exec_rootLocked (hstage : s.inStage 2 = true) (husable : s.crn.unusable = false) (one two : Bool) (st : LifeCycle) :
    exec (.rootLocked one two st true) s = .next (bootVolts (stage3Timed s one two st)) := by
  have hflash : (bootVolts (stage3Timed s one two st)).crn.unusable = false :=
    (stage3Timed_keeps (fun t => t.crn.unusable) one two st).trans husable
  exact congrArg Host.Outcome.next ((if_neg (by simp [hstage])).trans (if_pos (by
    change (true && !(bootVolts (stage3Timed s one two st)).crn.unusable) = true
    rw [hflash]
    rfl)))

theorem bootVolts_req (t : State) (f : Fin 25) : ((bootVolts t).col f).avs.req = t.volt f 16 := by rw [bootVolts, col_mapCols _ f.isLt]

end

/-! ## Stage 3 (R381, R482) -/

section

variable {s : State}

theorem bankReason_verified (husable : s.crn.unusable = false) {x : BankImg} (hcommit : x.commit.isSome = true) (r : Nat) : s.bankReason x r = r := by
  rw [State.bankReason, if_neg (by simp [husable]), if_neg (by simpa using Option.isSome_iff_ne_none.1 hcommit)]

theorem bankReason_usable (husable : s.crn.unusable = false) (x : BankImg) (r : Nat) : s.bankReason x r = if x.commit = none then 1 else r := by
  simp [State.bankReason, husable]

variable (s) (r : Nat) (x : Factory)

/-- Bank F judged with reason r, 0 where it verified: the factory section taken, or none of it. -/
def bankFJudged : State :=
  let t := s.toStage 4
  let t := { t with
    crn := { t.crn with
      fOk := r == 0, bootres := setNth t.crn.bootres 2 r
      spurSigs := if r == 0 then x.spurSigs else [], colSigs := if r == 0 then x.colSigs else [] }
    lko := { t.lko with trimLoaded := t.lko.trimLoaded || r == 0, oscTrim := if r == 0 then x.oscTrim else t.lko.oscTrim } }
  t.mapSpurs fun n y => { y with cal := { y.cal with guards := guardsOf (if r == 0 then x.guards.getD n (List.replicate 8 64) else List.replicate 8 64) } }

/-- CRN_BANK_BAD for a bank F rejected outside BLANK. -/
def bankFTold (t : State) : State := t.when (!(r == 0) && t.lcs.st != .blank) fun u => u.bankBad 2 .degraded r

theorem bankFTold_keeps {β : Type} (p : State → β) (t : State) (h : ∀ u r f, p { u with raised := r, faults := f } = p u := by exact fun _ _ _ => rfl) :
    p (bankFTold r t) = p t :=
  when_keeps p (f := fun u => u.bankBad 2 .degraded r) (fun u => h u _ _) t _

theorem exec_bankFVerified (hstage : s.inStage 3 = true) (reason : Fin 8) :
    exec (.bankFVerified reason x) s = .next (bankFTold (s.bankReason s.crn.f reason) (bankFJudged s (s.bankReason s.crn.f reason) x)) :=
  congrArg Host.Outcome.next (if_neg (by simp [hstage]))

theorem bankFJudged_guards (n : Fin 425) : ((bankFJudged s r x).spur n).cal.guards =
    guardsOf (if r == 0 then x.guards.getD n (List.replicate 8 64) else List.replicate 8 64) := by rw [bankFJudged, spur_mapSpurs _ n.isLt]

variable {s r}

/-- A bank F that did not verify is told by its reason and its sequence. -/
theorem bankFTold_raises (hbad : r ≠ 0) (hlcs : s.lcs.st ≠ .blank) :
    Raises s (bankFTold r (bankFJudged s r x)) .crnBankBad .degraded 7 2 (le 1 r ++ le 4 (s.crn.f.commit.getD 0)) := by
  have htell : (!(r == 0) && (bankFJudged s r x).lcs.st != .blank) = true := by
    change (!(r == 0) && s.lcs.st != .blank) = true
    simp [hbad, hlcs]
  rw [bankFTold, when_true htell]
  exact List.mem_append_right _ (List.mem_singleton_self _)

/-- The defaults are above 64, so a Spur without guard-rated ceilings has 64 everywhere. -/
theorem guardsOf_default : guardsOf (List.replicate 8 64) = List.replicate 8 64 := rfl

end

/-- Settles O52: a start is `State.restart` with the board table's words put in, and each stage ends by its own command, whose outcome the equations above give. -/
theorem startsKeepWhatR480SaysAndPassTheirStages : Obligations.StartsKeepWhatR480SaysAndPassTheirStages := by
  refine ⟨fun s => ⟨_, rfl, rfl, rfl, fun _ => rfl, rfl, rfl, rfl, rfl, rfl, rfl, rfl, rfl, rfl⟩, fun s hreset => ?_, fun s hreset => exec_blockReset_released hreset,
    fun s hheld hagain => ?_, fun s hpst hstage => ?_, fun s hstage => ⟨exec_stage1Done hstage, exec_stage1Done_waits⟩,
    fun s one two st hstage husable => ?_, fun s x hstage husable => ⟨fun hcommit => ?_, fun r hbad => ?_⟩⟩
  · refine ⟨_, exec_blkResetAssert hreset, congrArg Boot.resetN (restart_boot s 1), congrArg Ridgeline.started (restart_rdg s 1),
      (congrArg Lookout.tod (restart_lko s 1)).trans rfl, fun a => word_restart_lookout s 1, fun htable a => word_restart_other s 1 htable,
      fun f => ⟨(congrArg Col.recValid (restart_col s f)).trans rfl, (congrArg Col.recCode (restart_col s f)).trans rfl⟩, rfl, rfl, rfl⟩
  · have hboot := restart_boot s 1
    refine ⟨_, exec_blockReset hheld hagain, rfl, congrArg Boot.kind hboot, congrArg Boot.stage hboot, congrArg Boot.pinFatal hboot,
      congrArg Boot.pinPark hboot, congrArg Boot.pinWake hboot, (congrArg Lookout.tod (restart_lko s 1)).trans rfl, (congrArg Ridgeline.a (restart_rdg s 1)).trans rfl,
      congrArg Ridgeline.ridge (restart_rdg s 1)⟩
  · refine ⟨_, exec_oscillatorSettled (by simp [hpst]), ?_⟩
    have hends : (oscRunning s).inStage 0 = s.lko.sup1 := by simp [State.inStage, State.awake, oscRunning, hstage, hpst]
    rw [hends]
    split
    · exact ⟨rfl, rfl⟩
    · exact ⟨rfl, hstage⟩
  · obtain ⟨ch, hlko⟩ := timeBase_lko (stage3Begun s one two st) 0
    replace hlko := (standbyTold_keeps State.lko one two _).trans hlko
    refine ⟨_, exec_rootLocked hstage husable one two st, stage3Timed_keeps (fun t => t.boot.stage) one two st, stage3Timed_keeps (fun t => t.rdg.lock) one two st,
      stage3Timed_keeps (fun t => t.rdg.root) one two st, congrArg Lookout.timerLock hlko, congrArg Lookout.todSrc hlko,
      stage3Timed_keeps (fun t => t.role.active) one two st, stage3Timed_keeps (fun t => t.role.silent) one two st,
      stage3Timed_keeps (fun t => t.lcs.st) one two st, fun f => ?_⟩
    rw [bootVolts_req]
    exact stage3Timed_keeps (fun t => t.volt f 16) one two st
  · refine ⟨_, exec_bankFVerified s x hstage 0, ?_⟩
    rw [bankReason_verified husable hcommit]
    refine ⟨bankFTold_keeps _ (fun t => t.boot.stage) _, bankFTold_keeps _ (fun t => t.crn.fOk) _, bankFTold_keeps _ (fun t => t.crn.spurSigs) _,
      (bankFTold_keeps _ (fun t => t.lko.trimLoaded) _).trans (Bool.or_true _), fun n => ?_⟩
    rw [bankFTold_keeps _ fun t => t.spur n]
    exact bankFJudged_guards ..
  · have hreason : s.bankReason s.crn.f r ≠ 0 := by
      rw [bankReason_usable husable]
      split
      · decide
      · next hcommit => exact fun h => (hbad.resolve_right hcommit) (Fin.ext h)
    have hno : (s.bankReason s.crn.f r == 0) = false := beq_false_of_ne hreason
    refine ⟨_, exec_bankFVerified s x hstage r, bankFTold_keeps _ (fun t => t.boot.stage) _, (bankFTold_keeps _ (fun t => t.crn.fOk) _).trans hno,
      (bankFTold_keeps _ (fun t => t.crn.spurSigs) _).trans (if_neg (by simp [hno])), (bankFTold_keeps _ (fun t => t.crn.colSigs) _).trans (if_neg (by simp [hno])),
      fun n => ?_, fun hlcs => ?_⟩
    · rw [bankFTold_keeps _ fun t => t.spur n, bankFJudged_guards, hno]
      exact guardsOf_default
    · rw [← bankReason_usable husable]
      exact bankFTold_raises x hreason hlcs

end Sys2Proof.Proofs
end

section
/-! Stages 4 to 6 of a start: the bank selected and loaded, the start pulse, and the first mark of service (O53). -/

set_option Elab.async false

namespace Sys2Proof.Proofs

open Sys2Proof.Machine Sys2Proof.Safety Sys2Proof.Laws

/-! ## The bank selected (R385) -/

section

variable (s : State) (a b : Fin 8)

/-- Bank A is in use where it verified and B did not or is no newer: where B is examined first it is newer, so it did not verify. -/
theorem selectBank_A (ha : s.bankReason s.crn.a a = 0) (h : s.bankReason s.crn.b b ≠ 0 ∨ s.crn.b.seqOf ≤ s.crn.a.seqOf) :
    s.selectBank (s.bankResults a b) = 0 := by
  unfold State.bankResults
  extract_lets ra rb aFirst
  replace ha : ra = 0 := ha
  split
  · exact if_pos ha
  · next hfirst =>
    have hb : rb ≠ 0 := by simp [aFirst, ha] at hfirst; omega
    exact if_pos (by simp [ha, hb])

/-- Bank B is in use where it verified and A did not or is older: where A is examined first it is no older, so it did not verify. -/
theorem selectBank_B (hb : s.bankReason s.crn.b b = 0) (h : s.bankReason s.crn.a a ≠ 0 ∨ s.crn.a.seqOf < s.crn.b.seqOf) :
    s.selectBank (s.bankResults a b) = 1 := by
  unfold State.bankResults
  extract_lets ra rb aFirst
  replace hb : rb = 0 := hb
  split
  · next hfirst =>
    have ha : ra ≠ 0 := by simp [aFirst, hb] at hfirst; omega
    simp [State.selectBank, ha, hb]
  · have hskip : (if rb = 0 ∧ ra ≠ 1 then 8 else ra) ≠ 0 := by split <;> omega
    exact (if_neg hskip).trans (if_pos hb)

/-- With neither bank verified the choice is bank F, or the design defaults. -/
theorem selectBank_neither (ha : s.bankReason s.crn.a a ≠ 0) (hb : s.bankReason s.crn.b b ≠ 0) :
    s.selectBank (s.bankResults a b) = if s.lcs.st ≠ .blank ∧ s.crn.fOk then 2 else 3 := by
  have hresults : s.bankResults a b = (s.bankReason s.crn.a a, s.bankReason s.crn.b b) := by
    unfold State.bankResults
    extract_lets ra rb aFirst
    split
    · rw [if_neg fun h => ha h.left]
    · rw [if_neg fun h => hb h.left]
  rw [hresults]
  exact (if_neg ha).trans (if_neg hb)

/-- Stage 5 with bank k selected, the results of the banks kept. -/
def bankSelected (s : State) (r : Nat × Nat) (k : Nat) : State :=
  let t := s.toStage 5
  { t with
    crn := { t.crn with bank := k, seq := if k = 3 then 0 else (t.crn.img k).seqOf, bootres := [r.1, r.2, nth t.crn.bootres 2] }
    faults := { t.faults with prior := flagsNat ((List.range 25).map fun i => (s.col i).recValid) } }

theorem bankSelected_boot (s : State) (r : Nat × Nat) (k : Nat) : (bankSelected s r k).boot = { s.boot with stage := 5 } := rfl

theorem bankSelected_crn (s : State) (r : Nat × Nat) (k : Nat) : (bankSelected s r k).crn =
    { s.crn with bank := k, seq := if k = 3 then 0 else (s.crn.img k).seqOf, bootres := [r.1, r.2, nth s.crn.bootres 2] } := rfl

/-- The selection is kept in the start, the store and the fault records. -/
theorem bankSelected_keeps {β : Type} (p : State → β) (s : State) (r : Nat × Nat) (k : Nat)
    (h : ∀ u b c f, p { u with boot := b, crn := c, faults := f } = p u := by exact fun _ _ _ _ => rfl) : p (bankSelected s r k) = p s := h s _ _ _

end

/-! ## The events of the selection (R388) -/

section

variable (s : State) (a b : Nat)

/-- CRN_BANK_BAD of a bank that was examined and failed. -/
def badTold (t : State) (k r : Nat) : State := t.when (r != 0 && r != 1 && r != 8 && !t.crn.unusable) fun u => u.bankBad k .corrected r

theorem badTold_keeps {β : Type} (p : State → β) (t : State) (k r : Nat) (h : ∀ u ra f, p { u with raised := ra, faults := f } = p u := by exact fun _ _ _ => rfl) :
    p (badTold t k r) = p t :=
  when_keeps p (f := fun u => u.bankBad k .corrected r) (fun u => h u _ _) t _

/-- CRN_BOOT told, after the banks that failed. -/
def bootTold : State := (badTold (badTold s 0 a) 1 b).raise .crnBoot 7 s.crn.bank (le 1 s.crn.bank ++ le 4 s.crn.seq)

theorem bootTold_keeps {β : Type} (p : State → β) (h : ∀ u ra f, p { u with raised := ra, faults := f } = p u := by exact fun _ _ _ => rfl) :
    p (bootTold s a b) = p s :=
  (raise_keeps p _ _ _ _ _ h).trans ((badTold_keeps p _ 1 b h).trans (badTold_keeps p s 0 a h))

theorem tellBoot_eq : s.tellBoot a b = (bootTold s a b).when ((bootTold s a b).crn.bank == 3) fun u =>
    u.raiseAs .crnNone (if s.lcs.st = .blank then .info else .degraded) 7 3 [] := by
  rw [bootTold_keeps s a b State.crn]
  rfl

/-- The events of the selection leave everything else. -/
theorem tellBoot_keeps {β : Type} (p : State → β) (h : ∀ u ra f, p { u with raised := ra, faults := f } = p u := by exact fun _ _ _ => rfl) :
    p (s.tellBoot a b) = p s := by
  rw [tellBoot_eq]
  exact (when_keeps p (f := fun u => u.raiseAs .crnNone (if s.lcs.st = .blank then .info else .degraded) 7 3 []) (fun u => h u _ _) _ _).trans
    (bootTold_keeps s a b p h)

theorem mem_raised_when_raiseAs {t : State} {c : Bool} {ev : Ev} {sev : Sev} {kind idx : Nat} {d : List Byte} {e : EventRec} (he : e ∈ t.raised) :
    e ∈ (t.when c fun u => u.raiseAs ev sev kind idx d).raised := by
  unfold State.when
  split
  · exact List.mem_append_left _ he
  · exact he

theorem tellBoot_raises_boot : Raises s (s.tellBoot a b) .crnBoot .info 7 s.crn.bank (le 1 s.crn.bank ++ le 4 s.crn.seq) := by
  have htime : (badTold (badTold s 0 a) 1 b).rdg = s.rdg := (badTold_keeps State.rdg _ 1 b).trans (badTold_keeps State.rdg s 0 a)
  rw [tellBoot_eq]
  exact raises_of_events (congrArg stamp htime) fun e he => mem_raised_when_raiseAs he

variable {s}

theorem tellBoot_raises_none (hbank : s.crn.bank = 3) :
    Raises s (s.tellBoot a b) .crnNone (if s.lcs.st = .blank then .info else .degraded) 7 3 [] := by
  rw [tellBoot_eq, when_true (by rw [bootTold_keeps s a b State.crn, hbank]; rfl), Raises, raised_raiseAs,
    event_congr (bootTold_keeps s a b State.rdg)]
  exact List.mem_append_right _ (List.mem_singleton_self _)

end

/-! ## The power-on run (R422) -/

section

variable (s : State) (failed : List Nat) (cols : PorCols)

/-- The run ends in the self-test controller, and in the Spurs and Cols that failed. -/
theorem endPor_keeps {β : Type} (p : State → β)
    (h : ∀ u bi sp co ra f, p { u with bist := bi, spurs := sp, cols := co, raised := ra, faults := f } = p u := by exact fun _ _ _ _ _ _ => rfl) :
    p (s.endPor failed cols) = p s := by
  unfold State.endPor
  extract_lets noRef unt spurs prim stby bist t t₁ t₂ t₃ untested
  calc p (t₃.raiseAs ..) = p t₃ := h t₃ t₃.bist t₃.spurs t₃.cols _ _
    _ = p t₂ := each_keeps p (fun u _ => h u u.bist u.spurs _ _ _) t₂ stby
    _ = p t₁ := each_keeps p (fun u _ => h u u.bist u.spurs _ _ _) t₁ prim
    _ = p t := each_keeps p (fun u _ => h u u.bist _ u.cols _ _) t spurs
    _ = p s := h s _ s.spurs s.cols s.raised s.faults

variable {s}

theorem mem_raised_endPor {e : EventRec} (he : e ∈ s.raised) : e ∈ (s.endPor failed cols).raised := by
  unfold State.endPor
  extract_lets noRef unt spurs prim stby bist t t₁ t₂ t₃ untested
  have h₁ : e ∈ t₁.raised := each_preserves (s := t) (fun u => e ∈ u.raised) (fun _ _ hu => List.mem_append_left _ hu) he spurs
  have h₂ : e ∈ t₂.raised := each_preserves (fun u => e ∈ u.raised) (fun _ _ hu => List.mem_append_left _ hu) h₁ prim
  have h₃ : e ∈ t₃.raised := each_preserves (fun u => e ∈ u.raised) (fun _ _ hu => List.mem_append_left _ hu) h₂ stby
  exact List.mem_append_left _ h₃

/-- A Spur that failed the power-on run. -/
def PorFailed (n : Nat) (t : State) : Prop := (t.spur n).gates.failed = true ∧ (t.spur n).gates.cause = 3

theorem porFailed_modSpur {u : State} {k : Nat} {n : Fin 425} (h : k = n ∨ PorFailed n u) :
    PorFailed n (u.modSpur k fun x => { x with gates := { x.gates with failed := true, cause := 3 } }) := by
  rw [PorFailed, spur_modSpur]
  split
  · exact ⟨rfl, rfl⟩
  · next hne => exact h.resolve_left fun hk => hne ⟨hk, n.isLt⟩

/-- With expected signatures a Spur that failed the run, of a field that was tested, counts as failed. -/
theorem endPor_failed {n : Fin 425} (hF : s.crn.fOk = true) (hn : n.val ∈ failed) (htested : fieldOf n ∉ s.untestedFields) :
    PorFailed n (s.endPor failed cols) := by
  unfold State.endPor
  extract_lets noRef unt spurs prim stby bist t t₁ t₂ t₃ untested
  have hmem : n.val ∈ spurs := by
    have hrefs : noRef = false := by simp [noRef, hF]
    unfold spurs
    rw [hrefs, if_neg (by simp), List.mem_filter]
    exact ⟨List.mem_range.2 n.isLt, by simpa [hn] using htested⟩
  have h₁ : PorFailed n t₁ := by
    refine each_establishes (Q := fun _ => True) (fun _ _ _ => trivial) (fun u k hu => ?_) hmem (fun u _ => ?_) trivial
    · exact porFailed_modSpur (.inr hu)
    · exact porFailed_modSpur (.inl rfl)
  have h₂ : PorFailed n t₂ := each_preserves (PorFailed n) (fun _ _ hu => by exact hu) h₁ prim
  have h₃ : PorFailed n t₃ := each_preserves (PorFailed n) (fun _ _ hu => by exact hu) h₂ stby
  exact h₃

end

/-! ## The load (R376, R386) -/

section

variable (s : State) (n : Nat)

/-- What the trims loaded for a Spur's temperature leave of the Spurs. -/
theorem loadTrims_at_spur {β : Type} (p : Spur → β)
    (h : ∀ x tr lo hi cl, p { x with cal := { x.cal with trims := tr, loBin := lo, hiBin := hi, clamped := cl } } = p x := by exact fun _ _ _ _ _ => rfl) (k : Nat) :
    p ((s.loadTrims n).spur k) = p (s.spur k) := by
  unfold State.loadTrims
  extract_lets x bins
  split
  · rfl
  · exact modSpur_keeps s p n k fun y => h y ..

theorem loadTrims_keeps {β : Type} (p : State → β) (h : ∀ u sp, p { u with spurs := sp } = p u := by exact fun _ _ => rfl) :
    p (s.loadTrims n) = p s := by
  unfold State.loadTrims
  extract_lets x bins
  split
  · rfl
  · exact h s _

theorem loadSpur_keeps {β : Type} (p : State → β) (h : ∀ u sp, p { u with spurs := sp } = p u := by exact fun _ _ => rfl) :
    p (s.loadSpur n) = p s := (loadTrims_keeps _ n p h).trans (h s _)

/-- A Spur's load changes its calibration and its limits. -/
theorem loadSpur_at_spur {β : Type} (p : Spur → β) (h : ∀ x c l, p { x with cal := c, lim := l } = p x := by exact fun _ _ _ => rfl) (k : Nat) :
    p ((s.loadSpur n).spur k) = p (s.spur k) := by
  unfold State.loadSpur
  extract_lets d r t
  refine (loadTrims_at_spur t n p (fun x _ _ _ _ => h x _ x.lim) k).trans (modSpur_keeps s p n k fun x => ?_)
  split
  · exact h x ..
  · exact h x _ x.lim

/-- A Spur limited as after a third reject (R386). -/
def AsRejected (x : Spur) : Prop := x.lim.cal.isSome = true ∧ x.cal.record.rejects = 3

/-- Under the design defaults a Spur is loaded as after a third reject, and the load of another leaves it so. -/
theorem loadSpur_asRejected {s : State} (hbank : s.crn.bank = 3) {k : Fin 425} (h : n = k ∨ AsRejected (s.spur k)) : AsRejected ((s.loadSpur n).spur k) := by
  unfold State.loadSpur
  extract_lets d r t
  rw [loadTrims_at_spur t n AsRejected, spur_modSpur]
  split
  · exact ⟨rfl, rfl⟩
  · next hne => exact h.resolve_left fun hk => hne ⟨hk, k.isLt⟩

theorem loadSaddle_keeps {β : Type} (p : State → β) (h : ∀ u sd, p { u with saddles := sd } = p u := by exact fun _ _ => rfl) :
    p (s.loadSaddle n) = p s := by
  unfold State.loadSaddle
  extract_lets r t bins
  split
  · exact h s _
  · exact (h t _).trans (h s _)

theorem loadLookout_keeps {β : Type} (p : State → β) (h : ∀ u l, p { u with lko := l } = p u := by exact fun _ _ => rfl) : p s.loadLookout = p s := by
  unfold State.loadLookout
  split
  · rfl
  · extract_lets r l
    split
    · exact h s _
    · exact h s _

/-- Every unit loaded from the bank in use. -/
def unitsLoaded (t : State) : State := ((t.each (List.range 425) State.loadSpur).each (List.range 760) State.loadSaddle).loadLookout

/-- The load reaches the Spurs, the Saddles and Lookout. -/
theorem unitsLoaded_keeps {β : Type} (p : State → β)
    (h : ∀ u sp sd l, p { u with spurs := sp, saddles := sd, lko := l } = p u := by exact fun _ _ _ _ => rfl) : p (unitsLoaded s) = p s :=
  (loadLookout_keeps _ p fun u l => h u u.spurs u.saddles l).trans ((each_keeps p (fun u k => loadSaddle_keeps u k p fun v sd => h v v.spurs sd v.lko) _ _).trans
    (each_keeps p (fun u k => loadSpur_keeps u k p fun v sp => h v sp v.saddles v.lko) _ _))

/-- After the load of the Spurs nothing reaches them. -/
theorem unitsLoaded_spur : (unitsLoaded s).spur n = (s.each (List.range 425) State.loadSpur).spur n :=
  (loadLookout_keeps _ fun u => u.spur n).trans (each_keeps (fun u => u.spur n) (fun u k => loadSaddle_keeps u k fun v => v.spur n) _ _)

/-- Under the design defaults every Spur is loaded as after a third reject. -/
theorem unitsLoaded_asRejected {s : State} (hbank : s.crn.bank = 3) (n : Fin 425) : AsRejected ((unitsLoaded s).spur n) := by
  have hkept : ∀ (t : State) k, t.crn.bank = 3 → (t.loadSpur k).crn.bank = 3 := fun t k ht => (loadSpur_keeps t k fun u => u.crn.bank).trans ht
  rw [unitsLoaded_spur]
  exact (each_establishes (P := fun t => t.crn.bank = 3 ∧ AsRejected (t.spur n)) hkept
    (fun t k ⟨ht, hn⟩ => ⟨hkept t k ht, loadSpur_asRejected k ht (.inr hn)⟩) (List.mem_range.2 n.isLt)
    (fun t ht => ⟨hkept t n ht, loadSpur_asRejected n ht (.inl rfl)⟩) hbank).2

/-- The load leaves a failed Spur failed. -/
theorem unitsLoaded_gates : ((unitsLoaded s).spur n).gates = (s.spur n).gates := by
  rw [unitsLoaded_spur]
  exact each_keeps (fun u => (u.spur n).gates) (fun u k => loadSpur_at_spur u k Spur.gates (k := n)) s _

end

/-! ## The end of stage 4 (R385, R386, R422) -/

section

variable (s : State) (r : Nat × Nat) (k : Nat) (failed : List Nat) (cols : PorCols)

/-- The selection told. -/
def selectionTold : State := (bankSelected s r k).tellBoot r.1 r.2

/-- The selection told, and the power-on run ended. -/
def runEnded : State := (selectionTold s r k).endPor failed cols

/-- The selection told, the power-on run ended, and every unit loaded. -/
def startLoaded : State := unitsLoaded (runEnded s r k failed cols)

theorem selectionTold_keeps {β : Type} (p : State → β) (h : ∀ u ra f, p { u with raised := ra, faults := f } = p u := by exact fun _ _ _ => rfl) :
    p (selectionTold s r k) = p (bankSelected s r k) := tellBoot_keeps _ _ _ p h

theorem runEnded_keeps {β : Type} (p : State → β)
    (h : ∀ u bi sp co ra f, p { u with bist := bi, spurs := sp, cols := co, raised := ra, faults := f } = p u := by exact fun _ _ _ _ _ _ => rfl) :
    p (runEnded s r k failed cols) = p (bankSelected s r k) :=
  (endPor_keeps _ failed cols p h).trans (selectionTold_keeps s r k p fun u ra f => h u u.bist u.spurs u.cols ra f)

theorem startLoaded_keeps {β : Type} (p : State → β)
    (h : ∀ u sp sd co l bi ra f, p { u with spurs := sp, saddles := sd, cols := co, lko := l, bist := bi, raised := ra, faults := f } = p u := by
      exact fun _ _ _ _ _ _ _ _ => rfl) : p (startLoaded s r k failed cols) = p (bankSelected s r k) :=
  (unitsLoaded_keeps _ p fun u sp sd l => h u sp sd u.cols l u.bist u.raised u.faults).trans
    (runEnded_keeps s r k failed cols p fun u bi sp co ra f => h u sp u.saddles co u.lko bi ra f)

/-- The events of the selection wait with those of the run. -/
theorem startLoaded_raises {ev : Ev} {sev : Sev} {kind idx : Nat} {d : List Byte} (h : Raises (bankSelected s r k) (selectionTold s r k) ev sev kind idx d) :
    Raises s (startLoaded s r k failed cols) ev sev kind idx d := by
  refine raises_of_stamp (congrArg stamp (bankSelected_keeps State.rdg s r k)) ?_
  rw [Raises, startLoaded, unitsLoaded_keeps _ State.raised, runEnded]
  exact mem_raised_endPor (s := selectionTold s r k) failed cols h

theorem startLoaded_asRejected (n : Fin 425) : AsRejected ((startLoaded s r 3 failed cols).spur n) := by
  have hbank : (runEnded s r 3 failed cols).crn.bank = 3 := by
    rw [runEnded_keeps s r 3 failed cols fun t => t.crn.bank]
    rfl
  exact unitsLoaded_asRejected hbank n

theorem startLoaded_failed {failed : List Nat} {n : Fin 425} (hF : s.crn.fOk = true) (hn : n.val ∈ failed) (htested : fieldOf n ∉ s.untestedFields) :
    PorFailed n (startLoaded s r k failed cols) := by
  have hrefs : (selectionTold s r k).crn.fOk = true := by
    rw [selectionTold_keeps s r k State.crn, bankSelected_crn]
    exact hF
  have hbist : (selectionTold s r k).bist = s.bist := (selectionTold_keeps s r k State.bist).trans (bankSelected_keeps State.bist s r k)
  have hnoBist : (selectionTold s r k).boot.noBist = s.boot.noBist := by
    rw [selectionTold_keeps s r k State.boot, bankSelected_boot]
  have hsame : (selectionTold s r k).untestedFields = s.untestedFields := by rw [State.untestedFields, State.untestedFields, hbist, hnoBist]
  have hfailed : PorFailed n (runEnded s r k failed cols) := endPor_failed failed cols hrefs hn (by rwa [hsame])
  rwa [PorFailed, startLoaded, unitsLoaded_gates]

theorem exec_testSelectDone (hstage : s.inStage 4 = true) (hrepeat : s.repeatWaits = false) (a b : Fin 8) :
    exec (.testSelectDone a b failed cols) s = .next (startLoaded s (s.bankResults a b) (s.selectBank (s.bankResults a b)) failed cols) :=
  congrArg Host.Outcome.next (if_neg (by simp [hstage, hrepeat]))

end

/-! ## The start pulse (R486) -/

section

variable {s : State}

/-- Stage 6 begun: the ridge count at 0, every Spur pulsed, every ridge counter of the Cols loaded. -/
def pulsed (s : State) : State :=
  let t := (s.toStage 6).modRdg fun r => { r with started := true, ridge := 0, epoch := 0, tick0 := false }
  let t := t.mapSpurs fun _ x => x.pulse
  t.mapCols fun _ c => { c with aOk := true, bOk := true, aRun := 0, bRun := 0, aHit := false, bHit := false, errA := 0, errB := 0, commander := s.role.active }

theorem exec_startPulse (hstage : s.inStage 5 = true) (hlock : s.rdg.lock = true) : exec .startPulse s = .next (pulsed s) :=
  congrArg Host.Outcome.next (if_neg (by simp [hstage, hlock]))

theorem pulsed_spur (s : State) (n : Fin 425) : (pulsed s).spur n = (s.spur n).pulse := by
  rw [pulsed, mapCols_at_spur, spur_mapSpurs _ n.isLt]
  rfl

end

/-! ## The first mark of service (R487) -/

section

variable {s : State}

theorem exec_firstMarkOfService_early (h : s.mark.toNat < 32) : exec .firstMarkOfService s = .next s :=
  congrArg Host.Outcome.next (if_pos (by simp [h]))

/-- Before mark 64 the block waits for every Spur that is to drive a region. -/
theorem exec_firstMarkOfService_waits {f : Fin 25} {n : Nat} (hmark : s.mark.toNat < 64) (hdrive : n ∈ s.toDrive f) (hfit : s.fit n = false) :
    exec .firstMarkOfService s = .next s := by
  have hnot : ¬ ((List.range 25).all fun f => (s.toDrive f).all s.fit) = true := fun hall => by
    have hn := List.all_eq_true.1 (List.all_eq_true.1 hall f (List.mem_range.2 f.isLt)) n hdrive
    exact absurd (hn.symm.trans hfit) (by decide)
  refine congrArg Host.Outcome.next ?_
  by_cases hearly : (!s.inStage 6 || !s.atMark || decide (s.mark.toNat < 32)) = true
  · exact if_pos hearly
  · exact (if_neg hearly).trans ((if_neg hnot).trans (if_pos hmark))

theorem mem_fieldSpurs_of_toDrive {f n : Nat} (h : n ∈ s.toDrive f) : n ∈ fieldSpurs f := by
  unfold State.toDrive at h
  extract_lets ok at h
  split at h
  · exact (List.mem_append.1 h).elim (fun h => List.mem_append_left _ (List.mem_of_mem_filter h)) (List.mem_append_right _)
  · exact List.mem_append_left _ (List.mem_of_mem_filter h)

theorem exec_firstMarkOfService (hstage : s.inStage 6 = true) (hmark : s.atMark = true) (hlate : 32 ≤ s.mark.toNat)
    (hfit : ∀ n : Fin 425, s.fit n = true) : exec .firstMarkOfService s = .next s.service := by
  have hall : ((List.range 25).all fun f => (s.toDrive f).all s.fit) = true :=
    List.all_eq_true.2 fun f hf => List.all_eq_true.2 fun n hn =>
      hfit ⟨n, lt_of_mem_fieldSpurs (f := ⟨f, List.mem_range.1 hf⟩) (mem_fieldSpurs_of_toDrive hn)⟩
  exact congrArg Host.Outcome.next ((if_neg (by simp [hstage, hmark, hlate])).trans (if_pos hall))

/-- No Spur has failed. -/
def Healthy (s : State) : Prop := ∀ n, (s.spur n).gates.failed = false

theorem healthy_of_fin (h : ∀ n : Fin 425, (s.spur n).gates.failed = false) : Healthy s := fun n => by
  by_cases hn : n < 425
  · exact h ⟨n, hn⟩
  · exact congrArg (fun x : Spur => x.gates.failed) (dif_neg hn)

theorem healthy_of_fit (hfit : ∀ n : Fin 425, s.fit n = true) : Healthy s := healthy_of_fin fun n => by
  have h := hfit n
  simp only [State.fit, Bool.and_eq_true, Bool.not_eq_true'] at h
  exact h.left

theorem each_of_fixed {α : Type} {f : State → α → State} (h : ∀ a, f s a = s) (l : List α) : s.each l f = s :=
  each_preserves (fun t => t = s) (fun _ a ht => ht ▸ h a) rfl l

/-- A field with no failed Spur has nothing to place; a Col with both copies failed is told. -/
theorem placeField_of_healthy (h : Healthy s) (f : Nat) :
    s.placeField f = if (s.col f).pFailed && (s.col f).sFailed then s.raise .colLost 1 f [] else s := by
  have hspare : (if (s.spur (400 + f)).gates.failed then s.tellFailed (400 + f) 0 else s) = s := if_neg (by simp [h (400 + f)])
  have hregions : s.each (fieldRegions f) State.placeRegion = s := each_of_fixed (f := State.placeRegion) (fun r => if_pos (by simp [h r])) _
  rw [State.placeField, hspare, hregions]

/-- From `s` to `t` nothing has changed but what has been raised. -/
def OnlyTells (s t : State) : Prop := ∃ r f, t = { s with raised := r, faults := f }

theorem placeFields_tells (h : Healthy s) : OnlyTells s (s.each (List.range 25) State.placeField) := by
  refine each_preserves (OnlyTells s) (fun t f ht => ?_) ⟨s.raised, s.faults, rfl⟩ _
  obtain ⟨r, fa, rfl⟩ := ht
  have ht : Healthy { s with raised := r, faults := fa } := h
  rw [placeField_of_healthy ht]
  split
  · exact ⟨_, _, rfl⟩
  · exact ⟨r, fa, rfl⟩

/-- Every Spur's gates open with debt 0, and every Saddle neither disabled nor failed usable. -/
def gatesOpened (s : State) : State :=
  (s.mapSpurs fun n x => { x with
    gates := if n < 400 then { x.gates with comp := false, tran := false, leaf := false } else { x.gates with leaf := false }
    str := { x.str with frozen := false, debt := 0, leads := ⟨0, 0, 0, 0⟩ } }).mapSads fun _ x => { x with usable := !x.disable && !x.failed, held := false }

/-- READY, with the mark of service kept, the fields placed as `t` has them. -/
def inService (s t : State) : State :=
  { t with
    boot := { t.boot with stage := 7, ready := true, smark := s.mark.toNat, us := t.free }
    crn := { t.crn with pending := t.crn.pending || s.lko.savePending, holdUntil := if s.lko.savePending then some (s.mark + 1024) else none }
    lko := { t.lko with savePending := false } }

/-- PSTATE 0 told, and a TRIP1 in force answered. -/
def serviceTold (t : State) : State := (t.tookFree.tellState 0).when (t.lko.trips.getD 0 false) State.safeGrants

theorem gatesOpened_spur (s : State) (n : Fin 425) : (gatesOpened s).spur n = { s.spur n with
    gates := if n.val < 400 then { (s.spur n).gates with comp := false, tran := false, leaf := false } else { (s.spur n).gates with leaf := false }
    str := { (s.spur n).str with frozen := false, debt := 0, leads := ⟨0, 0, 0, 0⟩ } } := by
  rw [gatesOpened, mapSads_at_spur, spur_mapSpurs _ n.isLt]

theorem gatesOpened_region (s : State) (r : Fin 400) : (gatesOpened s).spur r = { s.spur r with
    gates := { (s.spur r).gates with comp := false, tran := false, leaf := false }
    str := { (s.spur r).str with frozen := false, debt := 0, leads := ⟨0, 0, 0, 0⟩ } } := by
  have h := gatesOpened_spur s (r.castLE (by decide))
  rwa [Fin.val_castLE, if_pos r.isLt] at h

theorem gatesOpened_sad (s : State) (k : Fin 760) : (gatesOpened s).sad k = { s.sad k with usable := !(s.sad k).disable && !(s.sad k).failed, held := false } := by
  rw [gatesOpened, sad_mapSads _ k.isLt]
  rfl

theorem safeGrants_keeps {β : Type} (p : State → β) (s : State)
    (h : ∀ u g ro r f, p { u with gov := g, role := ro, raised := r, faults := f } = p u := by exact fun _ _ _ _ _ => rfl) : p s.safeGrants = p s := by
  unfold State.safeGrants
  extract_lets gov t
  exact (h _ _ _ _ _).trans ((each_keeps p (fun u _ => h u u.gov u.role _ _) t _).trans (h s _ s.role s.raised s.faults))

theorem mem_raised_safeGrants {e : EventRec} (he : e ∈ s.raised) : e ∈ s.safeGrants.raised := by
  unfold State.safeGrants
  extract_lets gov t
  exact each_preserves (s := t) (fun u => e ∈ u.raised) (fun _ _ hu => List.mem_append_left _ hu) he _

theorem serviceTold_keeps {β : Type} (p : State → β) (t : State)
    (h : ∀ u g ro r f c, p { u with gov := g, role := ro, raised := r, faults := f, freeCtr := c } = p u := by exact fun _ _ _ _ _ _ => rfl) :
    p (serviceTold t) = p t :=
  (when_keeps p (f := State.safeGrants) (fun u => safeGrants_keeps p u fun v g ro r f => h v g ro r f v.freeCtr) _ _).trans (h t t.gov t.role _ _ _)

theorem serviceTold_raises (t : State) : Raises t (serviceTold t) .pstate .info 0 t.summitIdx (le 1 0 ++ le 1 t.boot.wake) := by
  have htold : t.event .pstate .info 0 t.summitIdx (le 1 0 ++ le 1 t.boot.wake) ∈ (t.tookFree.tellState 0).raised :=
    List.mem_append_right _ (List.mem_singleton_self _)
  unfold serviceTold State.when
  split
  · exact mem_raised_safeGrants htold
  · exact htold

/-- The state after the first cycle of service, before TRIP2 is looked at. -/
def serviceBegun (s : State) : State := serviceTold (inService s ((gatesOpened s).each (List.range 25) State.placeField))

theorem service_eq (s : State) : s.service = if (serviceBegun s).lko.trips.getD 1 false then (serviceBegun s).enterHold else serviceBegun s := by
  unfold State.service
  extract_lets gates opened placed lko crn boot entered told
  have hentered : entered = inService s placed := rfl
  have htold : told = serviceBegun s := congrArg serviceTold hentered
  rw [htold]

/-- With no failed Spur and TRIP2 not in force the block is in service, as its opened gates leave it but for what is told. -/
theorem service_of_healthy (h : Healthy s) (htrip : s.lko.trips.getD 1 false = false) :
    ∃ r f, s.service = serviceTold (inService s { gatesOpened s with raised := r, faults := f }) := by
  have hopen : Healthy (gatesOpened s) := healthy_of_fin fun n => by
    rw [gatesOpened_spur]
    dsimp only
    split <;> exact h n
  obtain ⟨r, f, hplaced⟩ := placeFields_tells hopen
  refine ⟨r, f, ?_⟩
  have hbegun : serviceBegun s = serviceTold (inService s { gatesOpened s with raised := r, faults := f }) := congrArg (fun t => serviceTold (inService s t)) hplaced
  have hlko : (serviceBegun s).lko.trips = s.lko.trips := by
    rw [hbegun, serviceTold_keeps State.lko]
    rfl
  rw [service_eq, hlko, htrip, ← hbegun]
  exact if_neg nofun

end

/-- Settles O53: the selection is told, the run ended and every unit loaded by `startLoaded`; the start pulse leaves `pulsed`; and with no failed Spur nothing is placed at the first mark of service. -/
theorem selectionLoadPulseAndFirstMarkOfService : Obligations.SelectionLoadPulseAndFirstMarkOfService := by
  refine ⟨fun s a b failed cols hstage husable hrepeat => ?_, fun s hstage hlock => ⟨_, exec_startPulse hstage hlock, rfl, rfl, rfl, rfl, fun n => ?_⟩,
    fun s hstage => ⟨exec_firstMarkOfService_early, fun f n => exec_firstMarkOfService_waits, fun hmark hlate hfit htrip => ?_⟩⟩
  · refine ⟨_, exec_testSelectDone s failed cols hstage hrepeat a b, ?_⟩
    dsimp only
    rw [← bankReason_usable husable s.crn.a a, ← bankReason_usable husable s.crn.b b]
    generalize hr : s.bankResults a b = r
    generalize hk : s.selectBank r = k
    have hcrn : (startLoaded s r k failed cols).crn = (bankSelected s r k).crn := startLoaded_keeps s r k failed cols State.crn
    have hbank : (startLoaded s r k failed cols).crn.bank = k := congrArg Cairn.bank hcrn
    have hseq : (startLoaded s r k failed cols).crn.seq = if k = 3 then 0 else (s.crn.img k).seqOf := congrArg Cairn.seq hcrn
    rw [hbank, hseq]
    refine ⟨startLoaded_keeps s r k failed cols fun t => t.boot.stage, ?_, fun hA hnew => ?_, fun hB hnew => ?_, fun hA hB hlcs hF => ?_, fun hA hB hno => ?_,
      fun hF n hn htested => startLoaded_failed s r k cols hF hn htested⟩
    · exact startLoaded_raises s r k failed cols (tellBoot_raises_boot (bankSelected s r k) r.1 r.2)
    · obtain rfl : k = 0 := by rw [← hk, ← hr, selectBank_A s a b hA hnew]
      exact ⟨rfl, rfl⟩
    · obtain rfl : k = 1 := by rw [← hk, ← hr, selectBank_B s a b hB hnew]
      exact ⟨rfl, rfl⟩
    · obtain rfl : k = 2 := by rw [← hk, ← hr, selectBank_neither s a b hA hB, if_pos ⟨hlcs, hF⟩]
      exact ⟨rfl, rfl⟩
    · obtain rfl : k = 3 := by
        rw [← hk, ← hr, selectBank_neither s a b hA hB, if_neg (by rcases hno with h | h <;> simp [h])]
      exact ⟨rfl, rfl, fun n => startLoaded_asRejected s r failed cols n,
        startLoaded_raises s r 3 failed cols (tellBoot_raises_none (s := bankSelected s r 3) r.1 r.2 rfl)⟩
  · rw [pulsed_spur]
    exact ⟨rfl, rfl, rfl, rfl, rfl, rfl, rfl, rfl, rfl, rfl⟩
  · obtain ⟨r, f, hservice⟩ := service_of_healthy (healthy_of_fit hfit) htrip
    refine ⟨_, exec_firstMarkOfService hstage hmark hlate hfit, ?_⟩
    rw [hservice]
    refine ⟨serviceTold_keeps (fun t => t.boot.ready) _, serviceTold_keeps (fun t => t.boot.stage) _, serviceTold_keeps (fun t => t.boot.smark) _, serviceTold_raises _,
      fun n => ?_, fun k => ?_⟩
    · rw [serviceTold_keeps fun t => t.spur n]
      have hopen : (inService s { gatesOpened s with raised := r, faults := f }).spur n = _ := gatesOpened_region s n
      rw [hopen]
      exact ⟨rfl, rfl, rfl, rfl, rfl⟩
    · rw [serviceTold_keeps fun t => t.sad k]
      exact congrArg Saddle.usable (gatesOpened_sad s k)

end Sys2Proof.Proofs
end

section
/-! What the life cycle and the start rest on: the life-cycle state with its open segments and waiting changes, how far the start is,
the power state, whether marks run, and the RWL perturbation registers at their reset values. One rule for each way a state is built,
one for each operation that the commands share, and the commands that leave all of it as it was. An operation that touches none of it
needs no rule of its own: `stays_frame` covers it. -/

set_option Elab.async false

namespace Sys2Proof.Proofs

open Sys2Proof.Machine Sys2Proof.Safety Sys2Proof.Laws

/-! ## What stays -/

/-- Where the life cycle and the start stand. -/
structure Standing where
  /-- life-cycle state -/
  st : LifeCycle
  /-- open test segments -/
  segs : List Bool
  /-- reported changes that wait for the mark -/
  due : List LifeCycle
  /-- a relock waits for the mark -/
  relock : Bool
  /-- state of an unlock -/
  ustat : Nat
  /-- stage of the start -/
  stage : Nat
  /-- READY -/
  ready : Bool
  /-- power state -/
  pst : PState
  /-- mark of a park request -/
  parkAt : Option Mark
  /-- marks run -/
  started : Bool

/-- Where a state stands. -/
def standing (s : State) : Standing :=
  ⟨s.lcs.st, s.lcs.segs, s.lcs.due, s.lcs.relock, s.lcs.ustat, s.boot.stage, s.boot.ready, s.boot.pst, s.boot.parkAt, s.rdg.started⟩

/-- What is taken to hold of the register words: that they are in canonical form, and that no RWL perturbation is in force. -/
abbrev Ground := Prop × Prop

/-- A state stands as given, and its register words are in canonical form, with no RWL perturbation in force, where that is taken to hold. -/
def Stays (σ : Standing) (π : Ground) (s : State) : Prop := standing s = σ ∧ (π.1 → WordsOk s) ∧ (π.1 → π.2 → PrtShut s)

/-- A command's outcome stands as given. -/
def StaysNext (σ : Standing) (π : Ground) (r : Result) : Prop := ∀ t, r = .next t → Stays σ π t

theorem stays_refl (s : State) : Stays (standing s) (WordsOk s, PrtShut s) s := ⟨rfl, id, fun _ => id⟩

/-- An offset that is not that of an RWL perturbation register. -/
def prtFree (a : Nat) : Bool := prtLocked.all fun o => a != 0xC0000 + o

section

variable {σ : Standing} {π : Ground} {s : State}

/-- A state that differs in other parts alone stands the same. -/
theorem stays_frame {sh hd la cy sp sd co cm cp rd lk fb pl hi gv f ev r ca cr bi lc bo ra ou fc pe} (h : Stays σ π s)
    (hs : standing ⟨s.words, sh, hd, la, cy, sp, sd, co, cm, cp, rd, lk, fb, pl, hi, gv, f, ev, r, ca, cr, bi, lc, bo, ra, ou, fc, pe⟩ = standing s := by exact rfl) :
    Stays σ π ⟨s.words, sh, hd, la, cy, sp, sd, co, cm, cp, rd, lk, fb, pl, hi, gv, f, ev, r, ca, cr, bi, lc, bo, ra, ou, fc, pe⟩ :=
  ⟨hs.trans h.1, h.2⟩

theorem stays_next (h : Stays σ π s) : StaysNext σ π (.next s) := by
  rintro t ⟨⟩
  exact h

theorem stays_ite {c : Prop} {_ : Decidable c} {a b : State} (ha : Stays σ π a) (hb : Stays σ π b) : Stays σ π (if c then a else b) := by
  split
  · exact ha
  · exact hb

theorem stays_when {b : Bool} {f : State → State} (h : Stays σ π s) (hf : ∀ t, Stays σ π t → Stays σ π (f t)) : Stays σ π (s.when b f) :=
  stays_ite (hf _ h) h

theorem stays_each {α : Type} {l : List α} {f : State → α → State} (h : Stays σ π s) (hf : ∀ t a, Stays σ π t → Stays σ π (f t a)) :
    Stays σ π (s.each l f) :=
  each_preserves (Stays σ π) hf h l

/-- The same for a step that needs to know that its element is in the list. -/
theorem stays_each_mem {α : Type} {l : List α} {f : State → α → State} (h : Stays σ π s) (hf : ∀ t, ∀ a ∈ l, Stays σ π t → Stays σ π (f t a)) :
    Stays σ π (s.each l f) :=
  List.foldlRecOn (motive := Stays σ π) l f h fun t ht a ha => hf t a ha ht

theorem stays_elim {α : Type} {o : Option α} {f : α → State} (h : Stays σ π s) (hf : ∀ a, Stays σ π (f a)) : Stays σ π (o.elim s f) := by
  cases o with
  | none => exact h
  | some a => exact hf a

theorem stays_idleTick (h : Stays σ π s) : Stays σ π s.idleTick := stays_ite (stays_frame h) h

/-! ## Register words -/

theorem prtFree_ne {a o : Nat} (ha : prtFree a = true) (ho : o ∈ prtLocked) : a ≠ 0xC0000 + o := by
  simp only [prtFree, List.all_eq_true, bne_iff_ne] at ha
  exact ha o ho

theorem prtFree_of_ne {a : Nat} (h : ∀ o ∈ prtLocked, a ≠ 0xC0000 + o) : prtFree a = true := by
  simpa only [prtFree, List.all_eq_true, bne_iff_ne] using h

/-- The registers of the Spurs that the block writes lie beside the perturbation registers, whatever the number of the Spur. -/
theorem prtFree_sprAddr {o : Nat} (ho : o ∈ [0, 0x60, 0x64, 0x78, 0x80, 0x90, 0x94, 0xA0, 0xAC]) (n : Nat) : prtFree (sprAddr n o) = true := by
  refine prtFree_of_ne fun q hq => ?_
  simp only [prtLocked, List.mem_cons, List.not_mem_nil, or_false] at ho hq
  unfold sprAddr
  omega

theorem rwsRegs_listed {o : Nat} (ho : o ∈ rwsRegs) : o ∈ [0, 0x60, 0x64, 0x78, 0x80, 0x90, 0x94, 0xA0, 0xAC] := by
  simp only [rwsRegs, List.mem_cons, List.not_mem_nil, or_false] at ho ⊢
  omega

/-- The window of the Spurs lies below the perturbation unit's. -/
theorem spr_window {a n o : Nat} (h : winOf a = .spr n o) : 0x40000 ≤ a ∧ a < 0x75200 ∧ n = (a - 0x40000) / 0x200 ∧ o = (a - 0x40000) % 0x200 := by
  unfold winOf at h
  grind (splits := 25)

theorem prtFree_of_lt {a : Nat} (h : a < 0xC0020) : prtFree a = true :=
  prtFree_of_ne fun o ho => by
    simp only [prtLocked, List.mem_cons, List.not_mem_nil, or_false] at ho
    omega

theorem prtShut_setWord {a : Nat} (h : PrtShut s) (ha : prtFree a = true) (w : Word) : PrtShut (s.setWord a w) :=
  fun o ho => (word_setWord_ne (prtFree_ne ha ho) s w).trans (h o ho)

theorem stays_setWord {a : Nat} {w : Word} (h : Stays σ π s) (ha : prtFree a = true := by rfl) : Stays σ π (s.setWord a w) :=
  have ⟨hσ, hw, hshut⟩ := h
  ⟨hσ, fun h1 => setWord_wordsOk (hw h1) a w, fun h1 h2 => prtShut_setWord (hshut h1 h2) ha w⟩

theorem stays_setField {a hi lo v : Nat} (h : Stays σ π s) (ha : prtFree a = true := by rfl) : Stays σ π (s.setField a hi lo v) := stays_setWord h ha

theorem stays_setBit {a i : Nat} (h : Stays σ π s) (ha : prtFree a = true := by rfl) : Stays σ π (s.setBit a i) := stays_frame (stays_setWord h ha)

theorem stays_strFlag {n i} (h : Stays σ π s) : Stays σ π (s.strFlag n i) := stays_setBit h (prtFree_sprAddr (by decide) n)

theorem stays_wlFlag {n i} (h : Stays σ π s) : Stays σ π (s.wlFlag n i) := stays_setBit h (prtFree_sprAddr (by decide) n)

theorem stays_sadFlag {k i} (h : Stays σ π s) : Stays σ π (s.sadFlag k i) :=
  stays_setBit h (prtFree_of_ne fun o ho => by
    simp only [prtLocked, List.mem_cons, List.not_mem_nil, or_false] at ho
    unfold sadAddr
    omega)

theorem stays_refFlag {i} (h : Stays σ π s) : Stays σ π (s.refFlag i) := stays_setBit h

theorem standing_when (s : State) (b : Bool) {f : State → State} (hf : ∀ t, standing (f t) = standing t) : standing (s.when b f) = standing s :=
  when_keeps standing hf s b

theorem when_preserves (P : State → Prop) {f : State → State} (hf : ∀ t, P t → P (f t)) {t : State} (ht : P t) (b : Bool) : P (t.when b f) := by
  unfold State.when
  split
  · exact hf t ht
  · exact ht

/-- A perturbation of the Spurs ends only where it is in force. -/
theorem stays_endPerturb (h : Stays σ π s) : Stays σ π s.endPerturb := by
  obtain ⟨hσ, hw, hshut⟩ := h
  refine ⟨?_, fun h1 => ?_, fun h1 h2 => ?_⟩
  · unfold State.endPerturb
    exact (standing_when _ _ (f := fun u => u.setField 0xC0024 31 31 0) fun _ => rfl).trans
      ((standing_when s _ (f := fun u => u.setField 0xC0020 31 31 0) fun _ => rfl).trans hσ)
  · exact when_preserves WordsOk (fun _ ht => setWord_wordsOk ht ..) (when_preserves WordsOk (fun _ ht => setWord_wordsOk ht ..) (hw h1) _) _
  · have hinj : (s.word 0xC0020).bit 31 = false := by rw [hshut h1 h2 0x20 (by decide)]; rfl
    have hfd : (s.word 0xC0024).bit 31 = false := by rw [hshut h1 h2 0x24 (by decide)]; rfl
    have hsame : s.endPerturb = s := by simp [State.endPerturb, State.when, hinj, hfd]
    rw [hsame]
    exact hshut h1 h2

/-! ## Messages, events, incidents, completions -/

theorem stays_modSpur {n f} (h : Stays σ π s) : Stays σ π (s.modSpur n f) :=
  stays_frame h

theorem stays_mapSpurs {f} (h : Stays σ π s) : Stays σ π (s.mapSpurs f) :=
  stays_frame h

theorem stays_modSad {k f} (h : Stays σ π s) : Stays σ π (s.modSad k f) :=
  stays_frame h

theorem stays_mapSads {f} (h : Stays σ π s) : Stays σ π (s.mapSads f) :=
  stays_frame h

theorem stays_modCol {f g} (h : Stays σ π s) : Stays σ π (s.modCol f g) :=
  stays_frame h

theorem stays_mapCols {g} (h : Stays σ π s) : Stays σ π (s.mapCols g) :=
  stays_frame h

theorem stays_modChan {c g} (h : Stays σ π s) : Stays σ π (s.modChan c g) :=
  stays_frame h

theorem stays_tookFree (h : Stays σ π s) : Stays σ π s.tookFree :=
  stays_frame h

theorem stays_send {m} (h : Stays σ π s) : Stays σ π (s.send m) :=
  stays_frame h

theorem stays_raiseAs {ev sev kind idx detail} (h : Stays σ π s) : Stays σ π (s.raiseAs ev sev kind idx detail) :=
  stays_frame h

theorem stays_sendLane {c} (h : Stays σ π s) : Stays σ π (s.sendLane c) :=
  stays_ite h (stays_send h)

theorem stays_raise {ev kind idx detail} (h : Stays σ π s) : Stays σ π (s.raise ev kind idx detail) :=
  stays_raiseAs h

theorem stays_incident {i} (h : Stays σ π s) : Stays σ π (s.incident i) :=
  stays_ite (stays_frame h) (stays_ite (stays_frame h) (stays_frame h))

theorem stays_closeIncident {c u} (h : Stays σ π s) : Stays σ π (s.closeIncident c u) := by
  unfold State.closeIncident
  split
  · exact stays_ite (stays_frame h) h
  · exact h

/-! ## Register words -/

theorem stays_setShadow {a w} (h : Stays σ π s) : Stays σ π (s.setShadow a w) :=
  stays_frame h

theorem stays_cfgEvent {ev a v} (h : Stays σ π s) : Stays σ π (s.cfgEvent ev a v) :=
  stays_raise h

theorem stays_take {a v acc} {f : State → State} (h : Stays σ π s) (hf : ∀ t : State, Stays σ π t → Stays σ π (f t)) : Stays σ π (s.take a v acc f) :=
  stays_ite h (stays_ite (stays_cfgEvent h) (stays_ite (stays_cfgEvent h) (hf s h)))

/-! ## What the commands of a Spur share -/

theorem stays_baseMoved (h : Stays σ π s) : Stays σ π s.baseMoved :=
  stays_frame h

theorem stays_sadEvent {k ev detail} (h : Stays σ π s) : Stays σ π (s.sadEvent k ev detail) :=
  stays_ite h (stays_raise (stays_modSad h))

theorem stays_sadFail {k} (h : Stays σ π s) : Stays σ π (s.sadFail k) :=
  stays_ite h (stays_incident (stays_sadFlag (stays_sadEvent (stays_modSad h))))

theorem stays_sadError {k ev flag} (h : Stays σ π s) : Stays σ π (s.sadError k ev flag) :=
  have ht := stays_modSad (stays_sadFlag (stays_sadEvent h))
  stays_ite (stays_sadFail ht) ht

/-! ## Checksum frames -/

theorem stays_examine {n} (h : Stays σ π s) : Stays σ π (s.examine n) :=
  stays_modSpur (by split; exacts [stays_wlFlag (stays_raise h), h])

theorem stays_chkRate {n} (h : Stays σ π s) : Stays σ π (s.chkRate n) :=
  stays_baseMoved (stays_examine (stays_modSpur (stays_wlFlag (stays_raiseAs h))))

theorem stays_endFrame {n bits} (h : Stays σ π s) : Stays σ π (s.endFrame n bits) :=
  stays_when (stays_when (stays_modSpur h) fun _ h => stays_wlFlag (stays_raise h)) fun _ h => stays_chkRate h

theorem stays_sampleFrame {n} (h : Stays σ π s) : Stays σ π (s.sampleFrame n) := by
  unfold State.sampleFrame
  split
  · exact h
  · exact stays_ite (stays_modSpur h) (stays_endFrame h)

theorem stays_bandMark {r} (h : Stays σ π s) : Stays σ π (s.bandMark r) :=
  have ht := stays_modSpur h
  stays_ite (stays_tookFree ht) ht

/-! ## Registers of a Spur -/

theorem stays_applyShadow {n o} (h : Stays σ π s) (ho : o ∈ rwsRegs) : Stays σ π (s.applyShadow n o) := by
  unfold State.applyShadow
  split
  · exact h
  · exact stays_frame (stays_setWord h (prtFree_sprAddr (rwsRegs_listed ho) n))

theorem stays_putSpr {n o v mask} (h : Stays σ π s) (ha : prtFree (sprAddr n o) = true) : Stays σ π (s.putSpr n o v mask) :=
  stays_ite h (stays_ite (stays_setWord h ha) (by split; exacts [stays_setWord h ha, stays_modSpur h]))

/-- What is held for a window lies inside it. -/
theorem prtFree_held {a n o : Nat} (h : winOf a = .spr n o) : prtFree (sprAddr n (a - sprAddr n 0)) = true := by
  have hlt := spr_window h
  exact prtFree_of_lt (by unfold sprAddr at *; omega)

theorem stays_applyHeld {n} (h : Stays σ π s) : Stays σ π (s.applyHeld n) :=
  stays_frame (stays_each_mem h fun t x hx ht => stays_putSpr ht (prtFree_held (by simpa using (List.mem_filter.1 hx).2)))

theorem stays_tellFields {a v es} (h : Stays σ π s) : Stays σ π (s.tellFields a v es) :=
  stays_each h fun _ _ h => stays_when h fun _ h1 => stays_cfgEvent h1

theorem stays_writeSpr {n o v} (h : Stays σ π s) (hw : ∀ m ∈ s.targets n o, prtFree (sprAddr m o) = true) : Stays σ π (s.writeSpr n o v) :=
  have ht := stays_tellFields h
  have hu := stays_ite (stays_frame ht) (stays_each_mem ht fun _ m hm ht => stays_putSpr ht (hw m hm))
  stays_ite hu (stays_each hu fun _ _ ht => stays_setShadow ht)

theorem stays_noteCeil {n} (h : Stays σ π s) : Stays σ π (s.noteCeil n) :=
  stays_ite h (stays_modSpur h)

theorem stays_writeCeil {n hi v} (h : Stays σ π s) : Stays σ π (s.writeCeil n hi v) :=
  stays_when (stays_tellFields h) fun _ h => stays_each h fun _ _ h1 => stays_setShadow (stays_noteCeil h1)

/-! ## The plan, requests for voltage -/

theorem stays_modPlan {f} (h : Stays σ π s) : Stays σ π (s.modPlan f) :=
  stays_frame h

theorem stays_requests {now} (h : Stays σ π s) : Stays σ π (s.requests now) :=
  stays_mapCols h

/-! ## Spur generators, commits, field spares -/

theorem stays_spurFails {n cause ev} (h : Stays σ π s) : Stays σ π (s.spurFails n cause ev) :=
  stays_ite h (stays_modCol (stays_modSpur h))

theorem stays_startReturn {n} (h : Stays σ π s) : Stays σ π (s.startReturn n) := by
  unfold State.startReturn
  extract_lets f t
  have ht : Stays σ π t := stays_frame h
  split
  · exact stays_frame ht
  · exact stays_frame ht

theorem stays_testLocked {n} (h : Stays σ π s) : Stays σ π (s.testLocked n) :=
  have ht := stays_modSpur (stays_frame h)
  stays_ite h (stays_ite (stays_frame h) (stays_ite (stays_startReturn ht) ht))

theorem stays_execLoopCompare {n e ppm} (h : Stays σ π s) : StaysNext σ π (execLoopCompare n e ppm s) :=
  stays_next (stays_ite h (stays_when (stays_when (stays_testLocked (stays_modSpur h)) fun _ h => stays_spurFails (stays_raise h)) fun _ h => stays_modSpur (stays_raise h)))

theorem stays_stageAt {c n} (h : Stays σ π s) : Stays σ π (State.stageAt c s n) := by
  unfold State.stageAt
  split
  · exact stays_modSpur h
  · exact stays_raise h

theorem stays_track {f r} (h : Stays σ π s) : Stays σ π (s.track f r) :=
  stays_modSpur (stays_modCol h)

theorem stays_splitField {f refusers target} (h : Stays σ π s) : Stays σ π (s.splitField f refusers target) :=
  have ht := stays_raise h
  stays_each (by split; exacts [stays_ite (stays_track ht) ht, ht]) fun _ _ h => stays_spurFails (stays_modSpur h)

theorem stays_execArm {d q} (h : Stays σ π s) : StaysNext σ π (execArm d q s) :=
  have ht := stays_each (stays_each h fun _ _ h => stays_modSpur h) fun _ _ h => stays_raise h
  stays_next (stays_ite ht (stays_each ht fun _ _ h => stays_splitField h))

theorem stays_cancelAt {q n} (h : Stays σ π s) : Stays σ π (State.cancelAt q s n) :=
  stays_ite (stays_raise h) (stays_modSpur h)

theorem stays_discardBy {takes p} (h : Stays σ π s) : Stays σ π (s.discardBy takes p) :=
  stays_requests (stays_mapSpurs h)

theorem stays_discardNew (h : Stays σ π s) : Stays σ π s.discardNew :=
  stays_discardBy h

theorem stays_copyFence {src dst} (h : Stays σ π s) : Stays σ π (s.copyFence src dst) :=
  stays_setField h (prtFree_sprAddr (by decide) dst)

theorem stays_takeOver {f r} (h : Stays σ π s) : Stays σ π (s.takeOver f r) :=
  stays_baseMoved (stays_closeIncident (stays_modCol (stays_copyFence (stays_modSpur (stays_modSpur h)))))

theorem stays_takeBack {f r} (h : Stays σ π s) : Stays σ π (s.takeBack f r) :=
  stays_baseMoved (stays_modCol (stays_copyFence (stays_modSpur (stays_modSpur h))))

theorem stays_testTaken {r} (h : Stays σ π s) : Stays σ π (s.testTaken r) :=
  stays_ite (stays_frame h) h

theorem stays_execSpareHandover {f} (h : Stays σ π s) : StaysNext σ π (execSpareHandover f s) := by
  refine stays_next (stays_ite h ?_)
  refine stays_ite h (stays_ite ?_ (stays_ite (stays_when (stays_testTaken (stays_takeOver h)) fun _ h => stays_raise h) h))
  split
  · exact stays_takeBack h
  · exact stays_frame h
  · exact h

theorem stays_forceOver {f} (h : Stays σ π s) : Stays σ π (s.forceOver f) :=
  stays_raise (stays_modCol (stays_testTaken (stays_takeOver h)))

theorem stays_sadMark {r} (h : Stays σ π s) : Stays σ π (s.sadMark r) :=
  stays_each h fun _ _ h => stays_ite (stays_modSad h) (stays_modSad h)

theorem stays_gradeMark {r m} (h : Stays σ π s) : Stays σ π (s.gradeMark r m) := by
  unfold State.gradeMark
  extract_lets due
  split
  · exact h
  · exact stays_frame h

theorem stays_gateMark {n m} (h : Stays σ π s) : Stays σ π (s.gateMark n m) :=
  stays_ite (stays_ite (stays_modSpur h) (stays_modSpur h)) h

theorem stays_fenceMark {n} (h : Stays σ π s) : Stays σ π (s.fenceMark n) :=
  stays_ite (stays_modSpur h) h

theorem stays_endCaps {r} (h : Stays σ π s) : Stays σ π (s.endCaps r) :=
  stays_each h fun _ _ h => stays_modSpur h

theorem stays_cutRegion {r} (h : Stays σ π s) : Stays σ π (s.cutRegion r) :=
  have ht := stays_modCol (stays_each (stays_modSpur (stays_ite (stays_modCol h) (stays_ite (stays_endCaps h) h))) fun _ _ h => stays_modSad h)
  stays_ite ht (stays_send ht)

theorem stays_splitMark {n m} (h : Stays σ π s) : Stays σ π (s.splitMark n m) :=
  have ht := stays_modSpur h
  stays_ite h (stays_ite (stays_ite (stays_raise (stays_takeOver ht)) (stays_forceOver ht)) (by
    split
    · exact ht
    · exact stays_cutRegion ht))

theorem stays_windowMark {n m} (h : Stays σ π s) : Stays σ π (s.windowMark n m) :=
  stays_ite (stays_modSpur h) (stays_ite (stays_modSpur h) h)

theorem stays_execTallyMark {n} (h : Stays σ π s) : StaysNext σ π (execTallyMark n s) := by
  refine stays_next (stays_ite h ?_)
  extract_lets x m late t u v w y z
  have hu : Stays σ π u := stays_modSpur (stays_fenceMark (stays_gateMark h))
  have hv : Stays σ π v := stays_each hu fun _ _ h => stays_raise h
  have hw : Stays σ π w := stays_when hv fun _ h => stays_wlFlag (stays_raise h)
  have hy : Stays σ π y := stays_when hw fun _ h => stays_baseMoved (stays_modSpur h)
  have hz : Stays σ π z := stays_windowMark (stays_splitMark (stays_each hy fun _ _ h => stays_cutRegion h))
  split
  · exact stays_when hz fun _ h => stays_sadMark h
  · next r _ =>
    extract_lets a b c
    have hc : Stays σ π c := stays_sadMark (stays_bandMark (stays_gradeMark (stays_modSpur hz)))
    split
    · exact hc
    · exact stays_sadMark (stays_bandMark hc)

theorem stays_applyFenceOp {n op} (h : Stays σ π s) : Stays σ π (s.applyFenceOp n op) :=
  stays_ite (stays_frame (stays_setField h (prtFree_sprAddr (by decide) n))) h

theorem stays_patchFab {stop g} (h : Stays σ π s) : Stays σ π (s.patchFab stop g) :=
  stays_frame h

theorem stays_applyLadder {laddered d} (h : Stays σ π s) : Stays σ π (State.applyLadder laddered s d) := by
  unfold State.applyLadder
  split
  · exact h
  · exact
      have ht := stays_each h fun _ _ h => stays_frame h
      stays_ite ht (by split; exacts [stays_patchFab ht, stays_cfgEvent ht])

theorem stays_rebind (h : Stays σ π s) : Stays σ π s.rebind :=
  stays_frame h

theorem stays_sideModes {fb r m} (h : Stays σ π s) : Stays σ π (s.sideModes fb r m) :=
  stays_each h fun _ _ h => stays_each h fun _ _ h1 => stays_modSad h1

theorem stays_applySet {c laddered} (h : Stays σ π s) : Stays σ π (s.applySet c laddered) :=
  have ht := stays_each (stays_frame h) fun _ _ h => stays_applyLadder h
  stays_baseMoved (stays_requests (stays_rebind (stays_frame ht)))

theorem stays_execCommit {n} (h : Stays σ π s) : StaysNext σ π (execCommit n s) := by
  refine stays_next ?_
  split
  · exact h
  · next e _ =>
    extract_lets fb r d fOld code t u v w y
    have ht : Stays σ π t := stays_modSpur h
    have hu : Stays σ π u := stays_ite (stays_applyHeld (stays_each_mem ht fun _ _ ho h => stays_applyShadow h ho)) ht
    have hw : Stays σ π w := stays_modSpur (stays_applyFenceOp hu)
    have hy : Stays σ π y := by
      unfold y
      split
      · exact hw
      · exact stays_sideModes hw
    split
    · exact hy
    · exact stays_ite hy (stays_applySet hy)

/-! ## Edges -/

theorem stays_relayStep {n r} (h : Stays σ π s) : Stays σ π (s.relayStep n r) := by
  unfold State.relayStep
  split
  · exact h
  · exact stays_modSpur h

theorem stays_relayOwn {r change} (h : Stays σ π s) : Stays σ π (s.relayOwn r change) := by
  unfold State.relayOwn
  split
  · exact h
  · exact stays_each h fun _ _ h => stays_modSad h

theorem stays_sayAt {n code v} (h : Stays σ π s) : Stays σ π (s.sayAt n code v) :=
  stays_each h fun _ _ h => by split; exacts [h, stays_ite (stays_modSad h) (stays_modSad h)]

theorem stays_hearAt {g change v} (h : Stays σ π s) : Stays σ π (s.hearAt g change v) :=
  stays_each h fun _ _ h => stays_modSad h

theorem stays_wires {n r change} (h : Stays σ π s) : Stays σ π (s.wires n r change) :=
  stays_each (stays_each h fun _ _ h => stays_hearAt h) fun _ _ h => stays_sayAt h

theorem stays_edgeRun {n r slacks} (h : Stays σ π s) : Stays σ π (s.edgeRun n r slacks) :=
  stays_when (stays_sampleFrame (stays_when (stays_when
      (stays_when (stays_when (stays_wires (stays_relayOwn
          (stays_modSpur (stays_relayStep h)))) fun _ h => stays_strFlag h) fun _ h => stays_strFlag h) fun _ h => stays_raise h) fun _ h => stays_modCol
              (stays_raiseAs (stays_strFlag h)))) fun _ h => stays_endPerturb h

theorem stays_edgeIdle {n slacks} (h : Stays σ π s) : Stays σ π (s.edgeIdle n slacks) := by
  unfold State.edgeIdle
  split
  · exact stays_modSpur h
  · exact stays_modCol (stays_modSpur h)

theorem stays_execSpurEdge {n slacks} (h : Stays σ π s) : StaysNext σ π (execSpurEdge n slacks s) := by
  refine stays_next (stays_ite h ?_)
  split
  · exact stays_edgeIdle h
  · exact stays_ite (stays_wires (stays_modSpur h)) (stays_ite (stays_wires (stays_relayOwn (stays_modSpur h))) (stays_edgeRun h))

theorem stays_notice {k toHigher w flip} (h : Stays σ π s) : Stays σ π (s.notice k toHigher w flip) := by
  unfold State.notice
  extract_lets recv send code t p u
  have ht : Stays σ π t := stays_when h fun _ h => stays_strFlag (stays_strFlag (stays_sadEvent h))
  have hu : Stays σ π u := stays_frame ht
  split
  · exact stays_frame hu
  · exact stays_frame hu

/-! ## Saddles -/

theorem stays_ratioDrop {k toHigher} (h : Stays σ π s) : Stays σ π (s.ratioDrop k toHigher) :=
  stays_sadFlag (stays_sadEvent (stays_modSad h))

theorem stays_tagFail {k toHigher ev flag} (h : Stays σ π s) : Stays σ π (s.tagFail k toHigher ev flag) :=
  stays_sadError (stays_modSad h)

theorem stays_captureInner {k toHigher c rc data} (h : Stays σ π s) : Stays σ π (s.captureInner k toHigher c rc data) :=
  have ht := stays_modSad h
  stays_ite (stays_modSad ht) (stays_tagFail ht)

theorem stays_captureSeam {k toHigher c rc data} (h : Stays σ π s) : Stays σ π (s.captureSeam k toHigher c rc data) :=
  have ht := stays_modSad h
  stays_ite (stays_modSad ht) (stays_tagFail ht)

theorem stays_captureRatio {k toHigher c rc data} (h : Stays σ π s) : Stays σ π (s.captureRatio k toHigher c rc data) :=
  stays_ite (stays_ite (stays_captureSeam h) (stays_modSad h)) (stays_ite (stays_captureSeam h) (stays_ratioDrop h))

theorem stays_execBulkWord {k toHigher c rc data} (h : Stays σ π s) : StaysNext σ π (execBulkWord k toHigher c rc data s) :=
  stays_next (stays_ite (stays_modSad h) (stays_ite (stays_captureInner h) (stays_ite (stays_ratioDrop h) (stays_ite (stays_captureSeam h) (stays_captureRatio h)))))

theorem stays_resync {k r v} (h : Stays σ π s) : Stays σ π (s.resync k r v).1 := by
  unfold State.resync
  extract_lets
  split
  · exact h
  · split
    · exact h
    · exact stays_frame h
  · exact stays_frame h

theorem stays_resyncLender {b} (h : Stays σ π s) : Stays σ π (s.resyncLender b) := by
  unfold State.resyncLender
  split
  · exact stays_modSpur h
  · exact h

theorem stays_noticeSlip {k lo hi} (h : Stays σ π s) : Stays σ π (s.noticeSlip k lo hi) :=
  have ht := stays_sadFlag (stays_sadEvent h)
  have hu := stays_ite (stays_strFlag ht) ht
  stays_ite (stays_strFlag hu) hu

theorem stays_skewCheck {k} (h : Stays σ π s) : Stays σ π (s.skewCheck k) :=
  stays_when (stays_when (stays_modSad h) fun _ h => stays_sadFlag (stays_sadEvent h)) fun _ h => stays_sadFail h

theorem stays_resyncAll {k m} (h : Stays σ π s) : Stays σ π (s.resyncAll k m) :=
  have ht := stays_resync (stays_resync (stays_frame h))
  stays_when (stays_skewCheck (stays_when (stays_resyncLender (stays_resyncLender ht)) fun _ h => stays_noticeSlip h)) fun _ h => stays_frame h

theorem stays_execSaddleMeasure {k m0 number interval} (h : Stays σ π s) : StaysNext σ π (execSaddleMeasure k m0 number interval s) := by
  refine stays_next ?_
  split
  · exact h
  · exact
      have ht := stays_when (stays_modSad h) fun _ h => stays_sadError h
      stays_ite h (stays_ite (stays_resyncAll ht) ht)

/-! ## Sets, markers, groups -/

theorem stays_finish {e st m detail domain merged} (h : Stays σ π s) : Stays σ π (s.finish e st m detail domain merged) :=
  stays_modPlan (stays_frame h)

theorem stays_finishAll {es st} (h : Stays σ π s) : Stays σ π (s.finishAll es st) :=
  stays_each h fun _ _ h => stays_finish h

theorem stays_closeMarkers (h : Stays σ π s) : Stays σ π s.closeMarkers :=
  stays_each h fun _ _ h => stays_ite h (by split; exacts [stays_modPlan h, stays_modPlan (stays_finish h)])

theorem stays_closeGroups (h : Stays σ π s) : Stays σ π s.closeGroups :=
  stays_each h fun _ _ h => stays_ite h (by
    split
    · exact h
    · exact stays_modPlan (stays_elim h fun _ => stays_finish h))

theorem stays_closeOut (h : Stays σ π s) : Stays σ π s.closeOut :=
  stays_closeMarkers (stays_closeGroups h)

theorem stays_sendStage {c} (h : Stays σ π s) : Stays σ π (s.sendStage c) :=
  stays_each h fun _ _ h => stays_sendLane h

theorem stays_tellDrop {c} (h : Stays σ π s) : Stays σ π (s.tellDrop c) :=
  stays_ite h (stays_raise h)

theorem stays_setSprint {n} (h : Stays σ π s) : Stays σ π (s.setSprint n) :=
  stays_when (stays_frame h) fun _ h => stays_raise h

theorem stays_followProfile (h : Stays σ π s) : Stays σ π s.followProfile :=
  stays_ite h (stays_setSprint h)

theorem stays_putStage {c r volt} (h : Stays σ π s) : Stays σ π (s.putStage c r volt) :=
  stays_when (stays_when (stays_requests (stays_sendStage (stays_modPlan h))) fun _ h => stays_tellDrop h) fun _ h => stays_followProfile h

theorem stays_retarget {q t} (h : Stays σ π s) : Stays σ π (s.retarget q t) :=
  stays_modPlan h

theorem stays_resend (h : Stays σ π s) : Stays σ π s.resend :=
  stays_each h fun _ _ h => stays_modPlan (stays_sendStage h)

theorem stays_unstage {c} (h : Stays σ π s) : Stays σ π (s.unstage c) :=
  stays_ite (stays_requests (stays_sendLane (stays_modPlan h))) h

theorem stays_withdraw {q} (h : Stays σ π s) : Stays σ π (s.withdraw q) :=
  stays_each h fun _ _ h => stays_modPlan (stays_unstage h)

theorem stays_screen {c bad} (h : Stays σ π s) : Stays σ π (s.screen c bad) :=
  stays_ite h (stays_closeOut (stays_modPlan (stays_each h fun _ _ h => stays_elim h fun _ => stays_finish h)))

theorem stays_buildSeries {c bases} (h : Stays σ π s) : Stays σ π (s.buildSeries c bases) :=
  stays_modPlan (stays_ite h (stays_retarget h))

theorem stays_raiseAfter {c r} (h : Stays σ π s) : Stays σ π (s.raiseAfter c r) :=
  stays_ite (stays_modPlan h) h

/-! ## The life of a change -/

theorem stays_nullify {c r} (h : Stays σ π s) : Stays σ π (s.nullify c r) :=
  have ht := stays_unstage h
  stays_ite (stays_when (stays_modPlan ht) fun _ h => stays_frame h) (stays_modPlan ht)

theorem stays_nullRequests (h : Stays σ π s) : Stays σ π s.nullRequests :=
  stays_each h fun _ _ h => stays_frame h

theorem stays_renew {q last} (h : Stays σ π s) : Stays σ π (s.renew q last) := by
  unfold State.renew
  split
  · exact h
  · extract_lets cap r bad t
    have ht : Stays σ π t := stays_screen h
    split
    · exact ht
    · exact stays_ite (stays_modPlan (stays_unstage ht))
        (stays_ite (stays_nullify ht) (stays_ite (stays_unstage ht) (stays_ite (stays_raiseAfter (stays_putStage ht)) ht)))

theorem stays_stageFormed {q} (h : Stays σ π s) : Stays σ π (s.stageFormed q) := by
  unfold State.stageFormed
  split
  · exact h
  · extract_lets bad t
    have ht : Stays σ π t := stays_screen h
    split
    · exact ht
    · refine stays_ite (stays_modPlan ht) ?_
      extract_lets floor u tgt v c r view isMid w
      have hu : Stays σ π u := stays_ite ht (stays_retarget ht)
      have hv : Stays σ π v := by
        unfold v
        split
        · exact hu
        · exact stays_raise (stays_retarget hu)
      have hw : Stays σ π w := stays_buildSeries hv
      refine stays_ite ?_ (stays_resend (stays_raiseAfter (stays_putStage hv)))
      split
      · exact hw
      · exact stays_putStage hw

theorem stays_setGate {m} (h : Stays σ π s) : Stays σ π (s.setGate m) :=
  stays_ite (stays_frame h) h

theorem stays_dropStep (h : Stays σ π s) : Stays σ π s.dropStep := by
  refine stays_ite (stays_setGate (stays_ite (stays_frame h) (stays_rebind (stays_frame h)))) ?_
  split
  · exact stays_setGate (stays_renew (stays_frame h))
  · exact stays_ite h (stays_setGate (stays_stageFormed (stays_modPlan (stays_frame h))))

theorem stays_stageNext (h : Stays σ π s) : Stays σ π s.stageNext := by
  unfold State.stageNext
  split
  · exact h
  · exact stays_ite (stays_stageFormed h) h

theorem stays_abandon {c st} (h : Stays σ π s) : Stays σ π (s.abandon c st) :=
  stays_withdraw (stays_each h fun _ _ h => stays_finish h)

theorem stays_renewAfter {t} (h : Stays σ π s) : Stays σ π (s.renewAfter t) :=
  stays_each h fun _ _ h => stays_renew h

theorem stays_defer {c} (h : Stays σ π s) : Stays σ π (s.defer c) :=
  stays_renew (stays_resend (stays_retarget (stays_modPlan (stays_when h fun _ h => stays_raise h))))

theorem stays_mirrorArm {c} (h : Stays σ π s) : Stays σ π (s.mirrorArm c) :=
  stays_frame h

theorem stays_execArmDecision (h : Stays σ π s) : StaysNext σ π (execArmDecision s) := by
  refine stays_next ?_
  split
  · exact h
  · refine stays_ite h ?_
    split
    · exact stays_resend (stays_retarget (stays_raise h))
    · split
      · exact stays_sendLane (stays_mirrorArm (stays_modPlan h))
      · exact stays_ite (stays_closeOut (stays_renewAfter (stays_frame (stays_abandon (stays_raise h))))) (stays_defer h)

theorem stays_execArmRefusedAll (h : Stays σ π s) : StaysNext σ π (execArmRefusedAll s) := by
  refine stays_next ?_
  split
  · exact h
  · exact
      have ht := stays_modPlan h
      stays_ite (stays_closeOut (stays_renewAfter (stays_abandon ht))) (stays_renew (stays_resend (stays_retarget ht)))

theorem stays_completeSet {c fb} (h : Stays σ π s) : Stays σ π (s.completeSet c fb) :=
  stays_closeOut (stays_modPlan (stays_each h fun _ _ h => stays_finish h))

/-! ## Windows -/

theorem stays_startWindows (h : Stays σ π s) : Stays σ π s.startWindows :=
  stays_ite (stays_frame h) h

theorem stays_stopWindows (h : Stays σ π s) : Stays σ π s.stopWindows :=
  stays_ite h (stays_frame h)

theorem stays_schedule {w us ms once} (h : Stays σ π s) : Stays σ π (s.schedule w us ms once) :=
  have ht := stays_setField (stays_setField h)
  stays_ite (stays_ite (stays_frame h) h) (stays_ite (stays_frame ht) (stays_ite (stays_frame ht) (stays_frame ht)))

/-! ## Descriptors -/

theorem stays_mergeInto {c e late slot} (h : Stays σ π s) : Stays σ π (s.mergeInto c e late slot) := by
  unfold State.mergeInto
  extract_lets fixed own q p
  split
  · exact stays_frame h
  · exact stays_frame h

theorem stays_formFor {e target late slot} (h : Stays σ π s) : Stays σ π (s.formFor e target late slot) := by
  unfold State.formFor
  extract_lets q p p'
  split
  · exact stays_frame h
  · exact stays_frame h

theorem stays_joinSet {e slot} (h : Stays σ π s) : Stays σ π (s.joinSet e slot) := by
  unfold State.joinSet
  dsimp only
  split
  · exact stays_ite (stays_finish h) (stays_mergeInto h)
  · split
    · exact stays_mergeInto h
    · exact stays_formFor h

theorem stays_takeDomain {e slot} (h : Stays σ π s) : Stays σ π (s.takeDomain e slot) :=
  stays_ite (stays_joinSet h) (stays_ite (stays_finish h) (stays_ite (stays_finish h) (stays_frame h)))

theorem stays_accept {e} {f : State → FbEntry → Option Nat → State} (h : Stays σ π s) (hf : ∀ (t : State) e k, Stays σ π t → Stays σ π (f t e k)) : Stays σ π (s.accept e f) := by
  unfold State.accept
  split
  · exact hf _ _ _ h
  · next k _ =>
    have ht : ∀ g i m, Stays σ π (s.modPlan fun p => (p.modGroup k g).modEntry i m) := fun _ _ _ => stays_modPlan h
    refine stays_ite (hf _ _ _ h) ?_
    dsimp only
    split
    · exact stays_closeOut (stays_finish (ht _ _ _))
    · exact stays_closeOut (stays_finish (ht _ _ _))
    · exact hf _ _ _ (ht _ _ _)
    · exact hf _ _ _ (ht _ _ _)

theorem stays_refuse {e st k} (h : Stays σ π s) : Stays σ π (s.refuse e st k) :=
  stays_closeOut (stays_finish h)

theorem stays_process {ty} {f : State → FbEntry → Option Nat → State} (h : Stays σ π s) (hf : ∀ (t : State) e k, Stays σ π t → Stays σ π (f t e k)) :
    Stays σ π (s.process ty f) := by
  unfold State.process
  split
  · exact h
  · next e _ =>
    have ht : Stays σ π (s.modPlan fun p => p.examined e) := stays_modPlan h
    refine stays_ite h ?_
    dsimp only
    split
    · exact stays_refuse ht
    · exact stays_accept ht hf

theorem stays_joins {e slot} (h : Stays σ π s) : Stays σ π (joins s e slot) :=
  stays_closeOut (stays_joinSet h)

theorem stays_joinsDomain {e slot} (h : Stays σ π s) : Stays σ π (joinsDomain s e slot) :=
  stays_closeOut (stays_takeDomain h)

theorem stays_execCondBegin (h : Stays σ π s) : StaysNext σ π (execCondBegin s) :=
  stays_next (stays_process h fun _ _ _ h => by
    split
    · exact h
    · exact stays_modPlan h)

theorem stays_execCondEnd (h : Stays σ π s) : StaysNext σ π (execCondEnd s) :=
  stays_next (stays_process h fun _ _ _ h => by
    split
    · exact h
    · exact stays_closeOut (stays_modPlan h))

theorem stays_execNop (h : Stays σ π s) : StaysNext σ π (execNop s) :=
  stays_next (stays_process h fun _ _ _ h => by split; exacts [stays_modPlan h, stays_closeOut (stays_finish h)])

/-! ## Lookout channels -/

theorem stays_freeChan {c} (h : Stays σ π s) : Stays σ π (s.freeChan c) :=
  have ht := stays_modChan h
  stays_ite (stays_modChan ht) ht

theorem stays_endMeasure {c timeout closed} (h : Stays σ π s) : Stays σ π (s.endMeasure c timeout closed) :=
  have ht := stays_when (stays_when (stays_modChan (stays_freeChan h)) fun _ h => stays_raise h) fun _ h => stays_raise h
  have hu := stays_send ht
  stays_ite h (by
    split
    · exact stays_closeOut (stays_elim hu fun _ => stays_finish hu)
    · exact stays_raise ht)

theorem stays_calibrated {c freq own stop} (h : Stays σ π s) : Stays σ π (s.calibrated c freq own stop) := by
  unfold State.calibrated
  extract_lets t
  have ht : Stays σ π t := stays_modChan h
  split
  · exact ht
  · exact stays_modChan ht

theorem stays_armChan {c freq owner limit addr own stop u} (h : Stays σ π s) (hu : s.armChan c freq owner limit addr own stop = .ok u) : Stays σ π u := by
  unfold State.armChan at hu
  split at hu
  · cases hu
  · split at hu
    · cases hu
    · cases hu
      split
      · exact stays_frame (stays_calibrated (stays_frame h))
      · exact stays_frame (stays_calibrated (stays_frame h))

theorem stays_execRegisterArm {c own stop} (h : Stays σ π s) : StaysNext σ π (execRegisterArm c own stop s) := by
  refine stays_next (stays_take h fun t h => ?_)
  split
  · next hok => exact stays_armChan h hok
  · exact stays_ite (stays_cfgEvent h) (stays_raise (stays_frame (stays_ite (stays_calibrated h) h)))

theorem stays_freeEdge {c ts} (h : Stays σ π s) : Stays σ π (s.freeEdge c ts) :=
  have ht := stays_modChan h
  stays_ite (stays_endMeasure ht) ht

theorem stays_freqEdge {c ts} (h : Stays σ π s) : Stays σ π (s.freqEdge c ts) :=
  have ht := stays_modChan h
  stays_ite (stays_modChan h) (stays_ite (stays_endMeasure ht) ht)

theorem stays_pair {k start stop iv tie} (h : Stays σ π s) : Stays σ π (s.pair k start stop iv tie) :=
  have ht := stays_modChan h
  stays_ite (stays_endMeasure ht) ht

theorem stays_startEdge {k ts} (h : Stays σ π s) : Stays σ π (s.startEdge k ts) := by
  unfold State.startEdge
  split
  · exact stays_ite (stays_pair (stays_modChan h)) (stays_modChan h)
  · exact stays_modChan h

theorem stays_stopEdge {k ts} (h : Stays σ π s) : Stays σ π (s.stopEdge k ts) := by
  unfold State.stopEdge
  extract_lets stray
  have hstray : Stays σ π stray := stays_modChan h
  split
  · exact hstray
  · exact stays_ite (stays_pair h) (stays_ite (stays_pair h) hstray)

theorem stays_ppsEdge {ts} (h : Stays σ π s) : Stays σ π (s.ppsEdge ts) :=
  stays_ite h (stays_ite (stays_frame h) (stays_modChan (stays_frame h)))

theorem stays_feed {c ts falling} (h : Stays σ π s) : Stays σ π (s.feed c ts falling) := by
  unfold State.feed
  split
  · exact stays_ite (stays_startEdge h) (stays_stopEdge h)
  · exact stays_ite h (stays_ite (stays_freqEdge h) (stays_ite (stays_startEdge h) (stays_freeEdge h)))

theorem stays_execLookoutEdge {c time falling} (h : Stays σ π s) : StaysNext σ π (execLookoutEdge c time falling s) :=
  have ht := stays_ite (stays_ppsEdge h) h
  stays_next (stays_ite h (stays_ite (by split; exacts [stays_modChan h, h]) (stays_ite h (stays_ite (stays_feed (stays_modChan ht)) ht))))

theorem stays_runMeasure {e late} (h : Stays σ π s) : Stays σ π (s.runMeasure e late) := by
  unfold State.runMeasure
  extract_lets done t own u stop v
  have hv : Stays σ π v := stays_tookFree (stays_tookFree (stays_tookFree (stays_tookFree h)))
  refine stays_ite (stays_finish (stays_send h)) ?_
  split
  · next hok => exact stays_armChan hv hok
  · exact stays_finish (stays_ite (stays_calibrated hv) hv)

theorem stays_dropMeasures (h : Stays σ π s) : Stays σ π s.dropMeasures :=
  stays_each h fun _ _ h => by split; exacts [stays_freeChan h, h]

/-! ## References -/

theorem stays_modRdg {f} (h : Stays σ π s) (hf : (f s.rdg).started = s.rdg.started) : Stays σ π (s.modRdg f) := by
  refine stays_frame h ?_
  unfold standing
  rw [hf]

theorem stays_timeBase {src} (h : Stays σ π s) : Stays σ π (s.timeBase src) :=
  stays_ite h (stays_raise (stays_frame h))

theorem stays_lockTo {b} (h : Stays σ π s) : Stays σ π (s.lockTo b) :=
  stays_timeBase (stays_frame h)

theorem stays_switchTo {b} (h : Stays σ π s) : Stays σ π (s.switchTo b) :=
  stays_raise (stays_refFlag (stays_lockTo h))

theorem stays_unstageSets {p} (h : Stays σ π s) : Stays σ π (s.unstageSets p) :=
  stays_each h fun _ _ h => stays_ite (stays_unstage h) (stays_modPlan (stays_unstage h))

theorem stays_holdWindows (h : Stays σ π s) : Stays σ π s.holdWindows := by
  unfold State.holdWindows
  extract_lets fixed _ t u
  have ht : Stays σ π t := stays_frame h
  have hu : Stays σ π u := stays_when ht fun _ h => stays_sendLane h
  split
  · exact stays_raise hu
  · exact hu

theorem stays_enterHoldover (h : Stays σ π s) : Stays σ π s.enterHoldover :=
  stays_baseMoved (stays_holdWindows (stays_unstageSets (stays_raise (stays_refFlag (stays_timeBase (stays_frame h))))))

theorem stays_leaveHoldover {b} (h : Stays σ π s) : Stays σ π (s.leaveHoldover b) :=
  stays_closeIncident (stays_closeIncident (stays_raise (stays_frame (stays_modRdg (stays_lockTo h) rfl))))

theorem stays_execRefEdgeReturn {b} (h : Stays σ π s) : StaysNext σ π (execRefEdgeReturn b s) :=
  have ht := stays_modRdg h (modRef_started ..)
  stays_next (stays_ite (stays_timeBase ht) ht)

theorem stays_qualified {b} (h : Stays σ π s) : Stays σ π (s.qualified b) :=
  have ht := stays_modRdg h (modRef_started ..)
  stays_ite (stays_leaveHoldover ht) (stays_ite (stays_frame ht) ht)

theorem stays_execRevertSwitch (h : Stays σ π s) : StaysNext σ π (execRevertSwitch s) :=
  have ht := stays_modRdg h rfl
  stays_next (stays_ite h (by split; exacts [ht, stays_ite (stays_switchTo h) (stays_ite (stays_enterHoldover (stays_incident ht)) ht)]))

theorem stays_execRequestedSwitch (h : Stays σ π s) : StaysNext σ π (execRequestedSwitch s) :=
  have ht := stays_modRdg h rfl
  stays_next (stays_ite h (by split; exacts [ht, stays_ite (stays_switchTo ht) (stays_raise ht)]))

theorem stays_record {f code ridge summit drove} (h : Stays σ π s) : Stays σ π (s.record f code ridge summit drove) :=
  stays_frame (stays_modCol h)

theorem stays_ridgeLost {f} (h : Stays σ π s) : Stays σ π (s.ridgeLost f) :=
  stays_raise (stays_record (stays_each h fun _ _ h => stays_modSpur h))

theorem stays_spineFails {f b} (h : Stays σ π s) : Stays σ π (s.spineFails f b) :=
  have ht := stays_modCol h
  stays_ite ht (stays_ite (stays_ridgeLost ht) (stays_ite (stays_raise (stays_modCol ht)) ht))

theorem stays_execSpineSwitch {f} (h : Stays σ π s) : StaysNext σ π (execSpineSwitch f s) :=
  have ht := stays_modCol h
  stays_next (stays_ite h (stays_ite (stays_modCol ht) (stays_ite (stays_raise ht) ht)))

theorem stays_execBeaconArrival {f m sender driftA driftB skew} (h : Stays σ π s) : StaysNext σ π (execBeaconArrival f m sender driftA driftB skew s) :=
  have ht := stays_modCol h
  have hu := stays_modCol ht
  stays_next (stays_ite h (stays_ite ht (stays_ite (stays_raiseAs (stays_modCol hu)) (stays_raise (stays_modCol (stays_spineFails hu))))))

/-! ## Synchronisation reads -/

theorem stays_silentWait {w} (h : Stays σ π s) : Stays σ π (s.silentWait w) :=
  stays_when (stays_modPlan h) fun _ h => stays_frame h

theorem stays_silentGroup {k} (h : Stays σ π s) : Stays σ π (s.silentGroup k) :=
  stays_when (stays_modPlan h) fun _ h => stays_frame h

theorem stays_silentMarks (h : Stays σ π s) : Stays σ π s.silentMarks := by
  refine stays_ite h (stays_modPlan (stays_each ?_ fun _ _ h => stays_ite (stays_silentGroup h) h))
  split
  · exact h
  · exact stays_ite (stays_silentWait h) h

theorem stays_resolve {k o last} (h : Stays σ π s) : Stays σ π (s.resolve k o last) :=
  stays_modPlan h

theorem stays_settleGroup {k} (h : Stays σ π s) : Stays σ π (s.settleGroup k) :=
  have ht := stays_elim h fun _ => stays_ite h (stays_finish h)
  stays_closeOut (stays_each (stays_each (stays_modPlan (stays_modPlan ht)) fun _ _ h => stays_finish h) fun _ _ h => stays_finish h)

theorem stays_settleGroups (h : Stays σ π s) : Stays σ π s.settleGroups :=
  stays_each h fun _ _ h => stays_ite (stays_settleGroup h) h

theorem stays_readGroup {obj v k} (h : Stays σ π s) : Stays σ π (s.readGroup obj v k) :=
  stays_ite h (stays_ite (stays_modPlan h) (stays_resolve h))

theorem stays_readWait {obj v} (h : Stays σ π s) : Stays σ π (s.readWait obj v) := by
  unfold State.readWait
  split
  · exact h
  · exact stays_ite h (stays_ite (stays_closeOut (stays_modPlan (stays_elim h fun _ => stays_finish h))) (stays_modPlan h))

theorem stays_execWaitTimeout (h : Stays σ π s) : StaysNext σ π (execWaitTimeout s) := by
  refine stays_next ?_
  split
  · exact h
  · exact stays_ite h (stays_closeOut (stays_raise (stays_modPlan (stays_elim h fun _ => stays_finish h))))

/-! ## Calibration -/

theorem stays_askSave (h : Stays σ π s) : Stays σ π s.askSave :=
  stays_ite h (stays_frame h)

theorem stays_execWindowCommand (h : Stays σ π s) : StaysNext σ π (execWindowCommand s) := by
  refine stays_next ?_
  split
  · exact h
  · exact stays_ite h (stays_ite (stays_frame h) (stays_resend (stays_each (stays_sendLane (stays_frame h)) fun _ _ h =>
      stays_ite (stays_retarget (stays_raise h)) (stays_raise h))))

theorem stays_calReject {u item v count} (h : Stays σ π s) : Stays σ π (s.calReject u item v count) :=
  stays_raiseAs (stays_frame h)

theorem stays_judgeSpur {n items} (h : Stays σ π s) : Stays σ π (s.judgeSpur n items) :=
  stays_modSpur (stays_each h fun _ _ h => stays_calReject h)

theorem stays_judgeSaddle {k items} (h : Stays σ π s) : Stays σ π (s.judgeSaddle k items) :=
  stays_modSad (stays_each h fun _ _ h => stays_calReject h)

theorem stays_execCalPlausibility {rs} (h : Stays σ π s) : StaysNext σ π (execCalPlausibility rs s) :=
  stays_next (stays_ite h (stays_ite (stays_frame h)
      (stays_each (stays_each (stays_frame h) fun _ _ h => stays_ite (stays_modSpur h) (stays_ite h (stays_judgeSpur h))) fun _ _ h => stays_ite h (stays_judgeSaddle h))))

theorem stays_calSources {n rejected retrimmed} (h : Stays σ π s) : Stays σ π (s.calSources n rejected retrimmed) :=
  stays_ite h (stays_baseMoved (stays_modSpur h))

theorem stays_applySpur {n} (h : Stays σ π s) : Stays σ π (s.applySpur n) :=
  have ht := stays_ite h (stays_tookFree h)
  stays_ite h (stays_calSources (by
    split
    · exact stays_when (stays_modSpur ht) fun _ h => stays_frame h
    · exact stays_ite (stays_modSpur ht) (stays_when (stays_modSpur ht) fun _ h => stays_askSave h)))

theorem stays_applySaddle {k} (h : Stays σ π s) : Stays σ π (s.applySaddle k) := by
  refine stays_ite h (stays_ite (stays_modSad h) ?_)
  split
  · exact stays_frame (stays_modSad h)
  · exact stays_when (stays_modSad h) fun _ h => stays_askSave h

/-- What follows the application of a window's results: a save, or one window more without one. -/
theorem stays_countWindow {some1 pending : Bool} (h : Stays σ π s) : Stays σ π (if !some1 then s else if s.crn.pending ∧ !pending then s
    else if 256 ≤ s.cal.sinceSave + 1 then s.askSave else { s with cal := { s.cal with sinceSave := s.cal.sinceSave + 1 } }) :=
  stays_ite h (stays_ite h (stays_ite (stays_askSave h) (stays_frame h)))

theorem stays_execCalApply (h : Stays σ π s) : StaysNext σ π (execCalApply s) :=
  stays_next (stays_ite h (stays_ite (stays_mapSads (stays_mapSpurs (stays_frame h)))
    (stays_countWindow (stays_each (stays_each (stays_frame h) fun _ _ h => stays_applySpur h) fun _ _ h => stays_applySaddle h))))

theorem stays_clampEvent {u was now t bin} (h : Stays σ π s) : Stays σ π (s.clampEvent u was now t bin) :=
  stays_when h fun _ h => stays_raise h

theorem stays_takeGap {n} (h : Stays σ π s) : Stays σ π (s.takeGap n) :=
  have ht := stays_ite (stays_modSpur h) (by
    split
    · exact stays_frame (stays_modSpur h)
    · exact stays_when (stays_modSpur h) fun _ h => stays_askSave h)
  stays_ite h (stays_ite (stays_calSources ht) ht)

theorem stays_recomputeSpur {n} (h : Stays σ π s) : Stays σ π (s.recomputeSpur n) := by
  unfold State.recomputeSpur
  extract_lets t x bins
  have ht : Stays σ π t := stays_takeGap h
  split
  · exact ht
  · exact stays_clampEvent (stays_frame ht)

theorem stays_recomputeSaddle {k} (h : Stays σ π s) : Stays σ π (s.recomputeSaddle k) := by
  unfold State.recomputeSaddle
  extract_lets x bins
  split
  · exact h
  · exact stays_clampEvent (stays_frame h)

theorem stays_recomputeLookout (h : Stays σ π s) : Stays σ π s.recomputeLookout := by
  unfold State.recomputeLookout
  extract_lets l own bins
  split
  · exact h
  · exact stays_clampEvent (stays_frame h)

theorem stays_execCalRecompute (h : Stays σ π s) : StaysNext σ π (execCalRecompute s) :=
  stays_next (stays_ite h (stays_recomputeLookout (stays_each (stays_each (stays_frame h) fun _ _ h => stays_recomputeSpur h) fun _ _ h => stays_recomputeSaddle h)))

theorem stays_execTrimApply {u} (h : Stays σ π s) : StaysNext σ π (execTrimApply u s) := by
  refine stays_next ?_
  split
  · exact stays_ite (stays_modSpur h) h
  · split
    · exact stays_modSad h
    · exact stays_ite (stays_modSad h) h
  · split
    · exact stays_ite (stays_frame h) h
    · exact h

theorem stays_gapItem {n k i} (h : Stays σ π s) : Stays σ π (s.gapItem n k i) := by
  unfold State.gapItem
  extract_lets t
  have ht : Stays σ π t := stays_modSpur h
  split
  · exact stays_modSpur ht
  · exact stays_calReject (stays_modSpur ht)

theorem stays_execGapStepDone {n item} (h : Stays σ π s) : StaysNext σ π (execGapStepDone n item s) := by
  refine stays_next ?_
  split
  · exact h
  · exact
      have ht := stays_modSpur h
      have hu := stays_modSpur ht
      stays_ite h (stays_ite (stays_gapItem ht) (stays_ite hu (stays_gapItem hu)))

theorem stays_setTraced {v} (h : Stays σ π s) : Stays σ π (s.setTraced v) :=
  stays_ite h (stays_raise (stays_frame h))

theorem stays_execCalWincfgWrite {value} (h : Stays σ π s) : StaysNext σ π (execCalWincfgWrite value s) :=
  stays_next (stays_take h fun _ h => stays_ite (stays_cfgEvent h) (stays_when (stays_frame (stays_setWord h)) fun _ h1 => stays_cfgEvent h1))

theorem stays_execSensorConversion {n which raw} (h : Stays σ π s) : StaysNext σ π (execSensorConversion n which raw s) :=
  have ht := stays_when (stays_modSpur h) fun _ h => stays_closeIncident (stays_incident (stays_raise (stays_tookFree h)))
  stays_next (stays_ite h (stays_ite (stays_modSpur ht) ht))

/-! ## Host rings -/

theorem stays_startRead (h : Stays σ π s) : Stays σ π s.startRead :=
  stays_ite h (stays_ite (stays_frame h) (stays_send (stays_frame h)))

theorem stays_execControlBlockRead {prod cmplCons evtCons} (h : Stays σ π s) : StaysNext σ π (execControlBlockRead prod cmplCons evtCons s) :=
  have ht := stays_when (stays_when (stays_when (stays_frame h) fun _ h => stays_frame h) fun _ h => stays_frame h) fun _ h => stays_frame h
  stays_next (stays_ite h (stays_ite (stays_startRead ht) ht))

theorem stays_cancelPlan (h : Stays σ π s) : Stays σ π s.cancelPlan :=
  have ht := stays_each (stays_dropMeasures (stays_sendLane h)) fun _ _ h => stays_finish h
  stays_baseMoved (stays_requests (stays_modPlan ht))

theorem stays_execRingDisable (h : Stays σ π s) : StaysNext σ π (execRingDisable s) :=
  stays_next (stays_take h fun _ h => stays_ite h (stays_stopWindows (stays_cancelPlan (stays_frame (stays_setField h)))))

theorem stays_enableRings (h : Stays σ π s) : Stays σ π s.enableRings := by
  unfold State.enableRings
  extract_lets t _ _ _ u v
  have ht : Stays σ π t := stays_setField (stays_setField h)
  have hu : Stays σ π u := stays_frame ht
  exact stays_stopWindows (stays_when (stays_startRead hu) fun _ h => stays_startWindows h)

theorem stays_execRingEnable (h : Stays σ π s) : StaysNext σ π (execRingEnable s) :=
  stays_next (stays_take h fun _ h => stays_ite h (stays_ite (stays_cfgEvent h) (stays_ite (stays_cfgEvent h) (stays_enableRings h))))

theorem stays_msi {vec} (h : Stays σ π s) : Stays σ π (s.msi vec) :=
  stays_ite h (stays_send (stays_frame h))

theorem stays_execCompletionWrite (h : Stays σ π s) : StaysNext σ π (execCompletionWrite s) := by
  refine stays_next ?_
  split
  · exact h
  · exact stays_ite (stays_frame h) (stays_ite (stays_when (stays_frame h) fun _ h => stays_raise h) (stays_when (stays_send (stays_frame (stays_send h))) fun _ h => stays_msi h))

theorem stays_evtMsi {e} (h : Stays σ π s) : Stays σ π (s.evtMsi e) :=
  stays_when h fun _ h => stays_msi h

theorem stays_writeEvent {e} (h : Stays σ π s) : Stays σ π (s.writeEvent e) :=
  stays_ite h (stays_ite (stays_frame h) (stays_ite (stays_evtMsi (stays_send (stays_frame h))) (stays_evtMsi (stays_send (stays_frame (stays_send h))))))

theorem stays_escalate {e} (h : Stays σ π s) : Stays σ π (s.escalate e) :=
  have ht := stays_raiseAs h
  stays_ite (stays_spurFails ht) (stays_ite (stays_sadFail ht) (stays_closeIncident (stays_incident (stays_modCol (stays_spineFails ht)))))

theorem stays_repeats {e} (h : Stays σ π s) : Stays σ π (s.repeats e) :=
  stays_ite h (stays_when (stays_frame h) fun _ h => stays_escalate h)

theorem stays_takeTable {bs} (h : Stays σ π s) : Stays σ π (s.takeTable bs) := by
  unfold State.takeTable State.newCurve
  extract_lets a b gone t u
  have hu : Stays σ π u := stays_setWord (stays_setWord (stays_setField (stays_setField h)))
  exact stays_requests (stays_mapCols (stays_frame hu))

theorem stays_execProfileWrite {value} (h : Stays σ π s) : StaysNext σ π (execProfileWrite value s) :=
  stays_next (stays_take h fun _ h => stays_ite (stays_cfgEvent h) (stays_when (stays_baseMoved (stays_frame (stays_setWord h))) fun _ h1 => stays_cfgEvent h1))

/-! ## The Cairn store -/

theorem stays_beginSave (h : Stays σ π s) : Stays σ π s.beginSave :=
  stays_ite (stays_frame (stays_tookFree (stays_frame h))) (stays_frame h)

theorem stays_flashStep {r} (h : Stays σ π s) : Stays σ π (s.flashStep r) := by
  unfold State.flashStep
  split
  · exact stays_ite (stays_beginSave h) h
  · exact stays_ite (stays_frame h) h
  · exact stays_ite (stays_frame h) h
  · exact stays_ite (stays_frame h) h

theorem stays_execSaveF {r} (h : Stays σ π s) : StaysNext σ π (execSaveF r s) := by
  refine stays_next (stays_take h fun _ h => stays_ite (stays_cfgEvent h) (stays_ite h (stays_ite (stays_frame h) ?_)))
  split
  · exact stays_flashStep (stays_frame h)
  · exact stays_flashStep (stays_flashStep (stays_frame h))

theorem stays_abandonSave (h : Stays σ π s) : Stays σ π s.abandonSave :=
  stays_ite (stays_frame h) (stays_raise (stays_tookFree (stays_frame h)))

/-! ## Time of day -/

theorem stays_applyTodSet {edge} (h : Stays σ π s) : Stays σ π (s.applyTodSet edge) :=
  stays_ite h (stays_frame h)

theorem stays_applyStep (h : Stays σ π s) : Stays σ π s.applyStep :=
  stays_ite h (stays_frame h)

theorem stays_startDensity (h : Stays σ π s) : Stays σ π s.startDensity :=
  stays_ite h (stays_frame h)

theorem stays_execLookoutDensity {widths temp} (h : Stays σ π s) : StaysNext σ π (execLookoutDensity widths temp s) := by
  refine stays_next (stays_ite h ?_)
  split
  · exact stays_calReject (stays_frame h)
  · split
    · exact stays_frame h
    · exact stays_when (stays_frame h) fun _ h => stays_askSave h

/-! ## Spares and borrows -/

theorem stays_testOver (h : Stays σ π s) : Stays σ π s.testOver :=
  stays_frame h

theorem stays_bistAbort {res src pats sig} (h : Stays σ π s) : Stays σ π (s.bistAbort res src pats sig) :=
  have ht := stays_raise (stays_frame h)
  stays_ite h (stays_ite (stays_testOver ht) (stays_ite (stays_modCol (stays_testOver ht)) (stays_frame ht)))

theorem stays_bistStop {res} (h : Stays σ π s) : Stays σ π (s.bistStop res) :=
  stays_ite h (stays_bistAbort (stays_tookFree (stays_tookFree h)))

theorem stays_modSadsOf {r g} (h : Stays σ π s) : Stays σ π (s.modSadsOf r g) :=
  stays_each h fun _ _ h => stays_modSad h

theorem stays_goDark {r} (h : Stays σ π s) : Stays σ π (s.goDark r) :=
  stays_raise (stays_ite (stays_cutRegion h) (stays_modSpur h))

theorem stays_beginBorrow {r l} (h : Stays σ π s) : Stays σ π (s.beginBorrow r l) :=
  stays_modCol (stays_modSadsOf h)

theorem stays_unborrow {r} (h : Stays σ π s) : Stays σ π (s.unborrow r) :=
  stays_modCol (stays_modSadsOf (stays_modSpur (stays_modSpur (stays_endCaps h))))

theorem stays_regain {r} (h : Stays σ π s) : Stays σ π (s.regain r) := by
  unfold State.regain
  split
  · exact h
  · exact stays_modSpur (stays_takeBack h)
  · exact stays_unborrow h
  · exact stays_frame h

theorem stays_borrowOrDark {n r} (h : Stays σ π s) : Stays σ π (s.borrowOrDark n r) := by
  unfold State.borrowOrDark
  split
  · exact stays_frame (stays_beginBorrow h)
  · exact stays_closeIncident (stays_frame (stays_goDark h))

theorem stays_lenderFails {n r b} (h : Stays σ π s) : Stays σ π (s.lenderFails n r b) :=
  have ht := stays_frame (stays_goDark h)
  stays_closeIncident (by split; exacts [stays_beginBorrow ht, stays_goDark ht])

theorem stays_execSpurFailed {n} (h : Stays σ π s) : StaysNext σ π (execSpurFailed n s) := by
  refine stays_next (stays_ite h ?_)
  extract_lets f serving t
  have ht : Stays σ π t := stays_ite (stays_bistStop h) (stays_ite (stays_testOver h) h)
  refine stays_ite ?_ ?_
  · split
    · exact stays_lenderFails ht
    · exact stays_borrowOrDark ht
  · split
    · exact stays_closeIncident (stays_frame ht)
    · refine stays_ite (stays_frame ht) (stays_ite (stays_frame (stays_track ht)) (stays_ite (stays_frame ht) ?_))
      split
      · exact stays_lenderFails ht
      · exact stays_borrowOrDark ht

theorem stays_execBorrowQuietMark {f} (h : Stays σ π s) : StaysNext σ π (execBorrowQuietMark f s) := by
  refine stays_next ?_
  split
  · exact h
  · exact
      have ht := stays_modCol h
      stays_ite h (stays_ite ht (stays_ite (stays_raise ht) h))

theorem stays_connect {b slip} (h : Stays σ π s) : Stays σ π (s.connect b slip) := by
  refine stays_modCol (stays_each (stays_modSad (stays_modSadsOf (stays_modSpur (stays_ite (stays_modCol h) h)))) fun _ _ h => ?_)
  split
  · exact h
  · exact stays_modSpur h

theorem stays_execBorrowStart {f region} (h : Stays σ π s) : StaysNext σ π (execBorrowStart f region s) :=
  stays_next (by split; exacts [h, stays_ite h (stays_closeIncident (stays_closeIncident (stays_raise (stays_connect h))))])

theorem stays_execBorrowRelease {f} (h : Stays σ π s) : StaysNext σ π (execBorrowRelease f s) := by
  refine stays_next ?_
  split
  · exact h
  · exact stays_ite h (stays_ite (stays_unborrow h) (stays_ite (stays_takeOver (stays_modCol (stays_unborrow h))) h))

theorem stays_execSpur {f pos} (h : Stays σ π s) : StaysNext σ π (execSpur f pos s) :=
  stays_next (stays_take h fun _ h => have hu := stays_modCol h; stays_ite (stays_cfgEvent hu) (have hu' := stays_modSpur hu; stays_ite (stays_startReturn hu') hu'))

theorem stays_suspend {i} (h : Stays σ π s) : Stays σ π (s.suspend i) :=
  stays_ite h (stays_modCol h)

theorem stays_stormTake {i} (h : Stays σ π s) : Stays σ π (s.stormTake i) :=
  stays_ite h (by split; exacts [h, stays_frame (stays_each h fun _ _ h => stays_goDark h)])

theorem stays_execIncidentOpen {c} (h : Stays σ π s) : StaysNext σ π (execIncidentOpen c s) := by
  refine stays_next (stays_ite h (stays_ite ?_ ?_))
  · split
    · exact stays_ite h (stays_stormTake (stays_frame h))
    · exact h
  · split
    · exact h
    · exact stays_frame h
    · exact stays_ite (stays_frame (stays_suspend h)) h

theorem stays_execErrorStorm (h : Stays σ π s) : StaysNext σ π (execErrorStorm s) := by
  refine stays_next ?_
  split
  · exact h
  · exact stays_when (stays_each (stays_frame h) fun _ _ h => stays_stormTake h) fun _ h => stays_raise h

theorem stays_execFatalEvent (h : Stays σ π s) : StaysNext σ π (execFatalEvent s) := by
  refine stays_next ?_
  split
  · exact h
  · exact stays_cancelPlan (stays_frame (stays_baseMoved (stays_unstageSets (stays_each (stays_sendLane (stays_frame h)) fun _ _ h => stays_record h))))

/-! ## Life cycle and perturbations -/

theorem stays_guardShadow {n hi} (h : Stays σ π s) : Stays σ π (State.guardShadow n s hi) :=
  stays_ite h (stays_setShadow h)

theorem stays_dropSaveF (h : Stays σ π s) : Stays σ π s.dropSaveF :=
  stays_ite (stays_raise (stays_tookFree (stays_frame h))) (stays_frame h)

/-! ## Regulators, heat and power states -/

theorem stays_modAvs {f g} (h : Stays σ π s) : Stays σ π (s.modAvs f g) :=
  stays_modCol h

theorem stays_takeLower {f} (h : Stays σ π s) : Stays σ π (s.takeLower f) := by
  unfold State.takeLower
  split
  · exact h
  · exact stays_ite h (stays_modAvs h)

theorem stays_transact {f k} (h : Stays σ π s) : Stays σ π (s.transact f k) := by
  unfold State.transact
  extract_lets a t
  have ht : Stays σ π t := stays_modAvs h
  split
  · exact stays_frame ht
  · exact stays_send ht
  · exact stays_send (stays_modAvs ht)
  · exact stays_send (stays_modAvs ht)

theorem stays_resendTx {f} (h : Stays σ π s) : Stays σ π (s.resendTx f) := by
  unfold State.resendTx
  extract_lets a
  split
  · exact stays_frame h
  · exact stays_frame h
  · exact stays_frame h

theorem stays_execAvsSlot {f} (h : Stays σ π s) : StaysNext σ π (execAvsSlot f s) :=
  have ht := stays_modAvs h
  stays_next (stays_ite h (stays_ite ht (stays_ite (stays_resendTx ht) (stays_ite ht (stays_transact (stays_modAvs (stays_takeLower (stays_ite ht (stays_modAvs ht)))))))))

theorem stays_avsGood {f} (h : Stays σ π s) : Stays σ π (s.avsGood f) :=
  stays_ite (stays_modAvs h) (stays_ite (stays_modAvs h) (stays_baseMoved (stays_raise (stays_modAvs h))))

theorem stays_alerted {f alert} (h : Stays σ π s) : Stays σ π (s.alerted f alert) :=
  stays_when h fun _ h => stays_frame h

theorem stays_railRead {f mv} (h : Stays σ π s) : Stays σ π (s.railRead f mv) :=
  have ht := stays_modAvs h
  have hu := stays_modAvs ht
  have hv := stays_modAvs ht
  stays_ite ht (stays_ite (stays_ite hu (stays_baseMoved (stays_frame (stays_modAvs hu)))) (stays_ite (stays_baseMoved (stays_modAvs hv)) hv))

theorem stays_execAvsReply {f r} (h : Stays σ π s) : StaysNext σ π (execAvsReply f r s) :=
  have ht := stays_avsGood (stays_modAvs h)
  stays_next (stays_ite h (by
    split
    · exact ht
    · exact stays_alerted (stays_ite (stays_frame ht) ht)
    · exact stays_alerted (stays_railRead ht)
    · exact stays_alerted (stays_frame ht)))

theorem stays_envAbort {f src} (h : Stays σ π s) : Stays σ π (s.envAbort f src) :=
  stays_ite h (stays_bistAbort (stays_tookFree (stays_tookFree h)))

theorem stays_execRegLinkFail {f} (h : Stays σ π s) : StaysNext σ π (execRegLinkFail f s) :=
  have ht := stays_closeIncident (stays_incident (stays_raise (stays_modAvs h)))
  stays_next (stays_ite h (stays_baseMoved (stays_envAbort (stays_ite (stays_frame ht) ht))))

theorem stays_setTcap {n} (h : Stays σ π s) : Stays σ π (s.setTcap n) :=
  stays_when (stays_frame h) fun _ h => stays_raise h

theorem stays_takeCaps (h : Stays σ π s) : Stays σ π s.takeCaps :=
  stays_ite h (stays_setTcap (stays_frame h))

theorem stays_execGovernorEval (h : Stays σ π s) : StaysNext σ π (execGovernorEval s) :=
  have ht := stays_takeCaps (stays_frame h)
  have hu := stays_frame ht
  stays_next (stays_ite h (stays_ite (stays_ite (stays_frame hu) (stays_baseMoved (stays_frame hu)))
      (stays_ite (stays_ite (stays_frame ht) (stays_ite (stays_frame ht) (stays_baseMoved (stays_frame ht)))) (stays_frame ht))))

theorem stays_thermalOne {d} (h : Stays σ π s) : Stays σ π (s.thermalOne d) := by
  unfold State.thermalOne
  split
  · exact h
  · exact stays_ite (stays_ite (stays_frame h) (stays_baseMoved (stays_frame h))) (stays_ite (stays_frame h) (stays_ite (stays_ite h (stays_frame h)) h))

theorem stays_startHold (h : Stays σ π s) : Stays σ π s.startHold := by
  unfold State.startHold
  extract_lets gone ms t u _ v w
  have ht : Stays σ π t := stays_each h fun _ _ h => stays_modPlan (stays_unstage h)
  have hu : Stays σ π u := stays_closeOut (stays_finishAll ht)
  clear_value u
  have hv : Stays σ π v := stays_frame hu
  have hw : Stays σ π w := stays_baseMoved (stays_rebind (stays_patchFab hv))
  exact stays_ite (stays_frame hw) hw

theorem stays_enterHold (h : Stays σ π s) : Stays σ π s.enterHold :=
  have ht := stays_bistStop (stays_frame h)
  stays_ite (stays_frame ht) (stays_startHold ht)

theorem stays_takeReq {v} {f : State → State} (h : Stays σ π s) (hf : ∀ t : State, Stays σ π t → Stays σ π (f t)) : Stays σ π (s.takeReq v f) :=
  stays_ite (stays_cfgEvent h) (stays_take h hf)

theorem stays_execHoldExit (h : Stays σ π s) : StaysNext σ π (execHoldExit s) :=
  stays_next (stays_takeReq h fun _ h => stays_ite (stays_cfgEvent h) (stays_ite h (stays_ite (stays_cfgEvent h) (stays_ite (stays_frame h) (stays_frame h)))))

theorem stays_thermTrip {level rel} (h : Stays σ π s) : Stays σ π (s.thermTrip level rel) :=
  stays_when h fun _ h => stays_raise h

theorem stays_safeGrants (h : Stays σ π s) : Stays σ π s.safeGrants :=
  stays_baseMoved (stays_each (stays_frame h) fun _ _ h => stays_frame h)

theorem stays_execTrip1 (h : Stays σ π s) : StaysNext σ π (execTrip1 s) :=
  have ht := stays_frame h
  stays_next (stays_ite h (stays_ite (stays_thermTrip (stays_safeGrants (stays_frame ht))) (stays_frame ht)))

theorem stays_execTrip2 (h : Stays σ π s) : StaysNext σ π (execTrip2 s) :=
  have ht := stays_thermTrip (stays_frame h)
  stays_next (stays_ite h (stays_ite (stays_enterHold ht) ht))

theorem stays_endMeasures (h : Stays σ π s) : Stays σ π s.endMeasures := by
  refine stays_each h fun _ _ h => ?_
  split
  · exact stays_closeOut (stays_elim (stays_freeChan h) fun _ => stays_finish (stays_freeChan h))
  · exact stays_endMeasure h

/-! ## Self-tests -/

theorem stays_copyConfig {n sp} (h : Stays σ π s) : Stays σ π (s.copyConfig n sp) :=
  stays_each_mem h fun _ _ ho ht => stays_setWord ht (prtFree_sprAddr (rwsRegs_listed ho) sp)

theorem stays_refuseTest {ev idx detail} (h : Stays σ π s) : Stays σ π (s.refuseTest ev idx detail) :=
  stays_raise (stays_ite h (stays_frame h))

theorem stays_execStart (h : Stays σ π s) : StaysNext σ π (execStart s) :=
  stays_next (stays_take h fun _ h => stays_ite (stays_refuseTest h)
      (stays_ite (stays_refuseTest h) (stays_ite (stays_refuseTest h)
          (stays_ite (stays_refuseTest h) (stays_ite (stays_frame h) (stays_ite (stays_raise (stays_frame h))
              (stays_ite (stays_track (stays_copyConfig (stays_frame h))) (stays_frame h))))))))

theorem stays_execBistPatternsDone {signature} (h : Stays σ π s) : StaysNext σ π (execBistPatternsDone signature s) :=
  have ht := stays_testOver (stays_frame h)
  have hu := stays_ite (stays_frame h) (stays_ite (stays_modSpur (stays_frame h)) (stays_modCol (stays_frame h)))
  stays_next (stays_ite h (stays_ite (stays_ite (stays_spurFails ht) (stays_modCol ht)) (stays_ite (stays_testOver (stays_frame hu)) (stays_frame hu))))

theorem stays_bistMark (h : Stays σ π s) : Stays σ π s.bistMark :=
  stays_ite (stays_frame h) (stays_ite (stays_frame h) (stays_ite (stays_frame h) h))

theorem stays_settleShadow {n o} (h : Stays σ π s) (ho : o ∈ rwsRegs) : Stays σ π (State.settleShadow n s o) :=
  stays_ite h (stays_applyShadow (stays_setShadow h) ho)

theorem stays_execBistReturn (h : Stays σ π s) : StaysNext σ π (execBistReturn s) :=
  have ht := stays_ite (stays_regain h) h
  have hu := stays_testOver (stays_ite (stays_each_mem ht fun _ _ ho h => stays_settleShadow h ho) ht)
  have hv := stays_ite (stays_frame hu) hu
  stays_next (stays_ite h (stays_ite (stays_startHold hv) hv))

/-! ## The stages of a start -/

theorem stays_loadTrims {n} (h : Stays σ π s) : Stays σ π (s.loadTrims n) := by
  unfold State.loadTrims
  extract_lets x bins
  split
  · exact h
  · exact stays_frame h

theorem stays_loadSpur {n} (h : Stays σ π s) : Stays σ π (s.loadSpur n) :=
  stays_loadTrims (stays_modSpur h)

theorem stays_loadSaddle {k} (h : Stays σ π s) : Stays σ π (s.loadSaddle k) := by
  unfold State.loadSaddle
  extract_lets r t bins
  have ht : Stays σ π t := stays_frame h
  split
  · exact ht
  · exact stays_frame ht

theorem stays_loadLookout (h : Stays σ π s) : Stays σ π s.loadLookout := by
  refine stays_ite h ?_
  extract_lets r l
  split
  · exact stays_frame h
  · exact stays_frame h

theorem stays_tellBoot {a b} (h : Stays σ π s) : Stays σ π (s.tellBoot a b) :=
  stays_when (stays_raise (stays_when (stays_when h fun _ h => stays_frame h) fun _ h => stays_frame h)) fun _ h => stays_raiseAs h

theorem stays_endPor {failed p} (h : Stays σ π s) : Stays σ π (s.endPor failed p) :=
  stays_raiseAs (stays_each (stays_each (stays_each (stays_frame h) fun _ _ h => stays_frame (stays_modSpur h)) fun _ _ h => stays_frame
      (stays_modCol h)) fun _ _ h => stays_frame (stays_modCol h))

theorem stays_timesOut {n} (h : Stays σ π s) : Stays σ π (s.timesOut n) :=
  stays_ite h (stays_raise (stays_modSpur h))

theorem stays_placeRegion {r} (h : Stays σ π s) : Stays σ π (s.placeRegion r) := by
  refine stays_ite h (stays_ite (stays_raise (stays_frame (stays_takeOver h))) ?_)
  split
  · exact stays_raise (stays_frame (stays_connect h))
  · exact stays_frame (stays_goDark h)

theorem stays_placeField {f} (h : Stays σ π s) : Stays σ π (s.placeField f) :=
  have ht := stays_each (stays_ite (stays_frame h) h) fun _ _ h => stays_placeRegion h
  stays_ite (stays_raise ht) ht

theorem stays_execReset (h : Stays σ π s) : StaysNext σ π (execReset s) :=
  stays_next (stays_take h fun _ h => stays_ite (stays_cfgEvent h) (stays_frame h))

/-! ## Summit and the Cols -/

theorem stays_nextMark (h : Stays σ π s) : Stays σ π s.nextMark :=
  stays_ite (stays_frame h) (stays_frame h)

theorem stays_endSwap (h : Stays σ π s) : Stays σ π s.endSwap :=
  stays_ite (stays_frame h) h

theorem stays_beacon (h : Stays σ π s) : Stays σ π s.beacon :=
  stays_frame (stays_sendLane h)

theorem stays_sendMirror (h : Stays σ π s) : Stays σ π s.sendMirror :=
  stays_frame h

theorem stays_sendGrades (h : Stays σ π s) : Stays σ π s.sendGrades :=
  stays_ite h (stays_sendLane (stays_frame (stays_mapSpurs h)))

theorem stays_idleApply {halves e done} (h : Stays σ π s) : Stays σ π (s.idleApply halves e done) :=
  stays_ite (stays_finish h) (stays_finish (stays_ite h (stays_patchFab h)))

theorem stays_runAction {halves a} (h : Stays σ π s) : Stays σ π (State.runAction halves s a) := by
  unfold State.runAction
  split
  · exact h
  · exact stays_ite (stays_finish (stays_setSprint (stays_setTcap (stays_frame h))))
      (stays_ite (stays_runMeasure h) (stays_ite (stays_finish (stays_ite (stays_frame (stays_setField (stays_setField h))) h)) (stays_idleApply h)))

theorem stays_runActions (h : Stays σ π s) : Stays σ π s.runActions :=
  stays_ite h (stays_closeOut (stays_each (stays_modPlan h) fun _ _ h => stays_runAction h))

theorem stays_startGate (h : Stays σ π s) : Stays σ π s.startGate :=
  stays_ite (stays_frame h) h

theorem stays_staleGate (h : Stays σ π s) : Stays σ π s.staleGate :=
  stays_ite (stays_setTraced h) h

theorem stays_closeSaddle (h : Stays σ π s) : Stays σ π s.closeSaddle := by
  unfold State.closeSaddle
  split
  · exact stays_ite h (stays_closeIncident h)
  · exact h

theorem stays_reprocess (h : Stays σ π s) : Stays σ π s.reprocess := by
  unfold State.reprocess
  extract_lets keep es applied p _ t
  have ht : Stays σ π t := stays_frame h
  clear_value es
  cases es with
  | nil => exact stays_closeOut ht
  | cons => exact stays_raise (stays_closeOut (stays_modPlan ht))

theorem stays_summitMark (h : Stays σ π s) : Stays σ π s.summitMark :=
  stays_sendMirror (stays_runActions (stays_nullRequests (stays_settleGroups (stays_silentMarks (stays_when (stays_sendGrades (stays_beacon h)) fun _ h => stays_reprocess h)))))

theorem stays_ceilsMark (h : Stays σ π s) : Stays σ π s.ceilsMark :=
  stays_when h fun _ h => stays_baseMoved h

theorem stays_holdLeftMark (h : Stays σ π s) : Stays σ π s.holdLeftMark :=
  stays_ite (stays_frame h) h

theorem stays_takeInputs {f} (h : Stays σ π s) : Stays σ π (s.takeInputs f) :=
  stays_each h fun _ _ h => stays_modSpur h

theorem stays_takeAlarm {a} (h : Stays σ π s) : Stays σ π (s.takeAlarm a) :=
  stays_ite (stays_frame h) (stays_incident h)

theorem stays_execFieldReport {f} (h : Stays σ π s) : StaysNext σ π (execFieldReport f s) :=
  have ht := stays_takeInputs (stays_modPlan (stays_send (stays_each (stays_modCol h) fun _ _ h => stays_modSpur h)))
  stays_next (stays_ite h (stays_ite ht (stays_each ht fun _ _ h => stays_takeAlarm h)))

theorem stays_execMirrorRecord (h : Stays σ π s) : StaysNext σ π (execMirrorRecord s) := by
  refine stays_next ?_
  split
  · exact h
  · exact stays_ite h (stays_frame h)

theorem stays_execMirrorLate (h : Stays σ π s) : StaysNext σ π (execMirrorLate s) := by
  refine stays_next ?_
  split
  · exact h
  · exact stays_frame h

theorem stays_execStandbyLost {selfCheck} (h : Stays σ π s) : StaysNext σ π (execStandbyLost selfCheck s) :=
  stays_next (stays_ite h (stays_closeIncident (stays_incident (stays_raise (stays_frame h)))))

theorem stays_fromMirror {m} (h : Stays σ π s) : Stays σ π (s.fromMirror m) := by
  unfold State.fromMirror
  extract_lets cs known t _ _ _ u
  have ht : Stays σ π t := stays_setWord h
  have hu : Stays σ π u := stays_frame ht
  refine stays_ite hu ?_
  split
  · exact stays_frame hu
  · exact stays_frame hu

theorem stays_execSummitTakeover (h : Stays σ π s) : StaysNext σ π (execSummitTakeover s) := by
  refine stays_next ?_
  split
  · exact h
  · refine stays_ite h ?_
    extract_lets _ t u v w x _ y
    have ht : Stays σ π t := stays_frame h
    have hu : Stays σ π u := by
      unfold u
      split
      · exact stays_beacon (stays_fromMirror ht)
      · exact stays_beacon ht
    have hw : Stays σ π w := stays_discardNew (stays_modPlan (stays_sendLane (stays_raise hu)))
    have hx : Stays σ π x := stays_closeIncident (stays_incident hw)
    have hy : Stays σ π y := stays_ite (stays_frame hx) hx
    exact stays_frame (stays_baseMoved hy)

theorem stays_execColFailover {f} (h : Stays σ π s) : StaysNext σ π (execColFailover f s) :=
  have ht := stays_modCol (stays_ite (stays_bistStop h) h)
  stays_next (stays_ite h (stays_ite (stays_frame h) (stays_ite (stays_raise ht) (stays_closeIncident (stays_incident (stays_raise (stays_modCol ht)))))))

/-! ## Workload notices -/

theorem stays_execSparingNotice {region array kind spare} (h : Stays σ π s) : StaysNext σ π (execSparingNotice region array kind spare s) :=
  have ht := stays_wlFlag (stays_raise (stays_frame h))
  stays_next (stays_ite h (stays_ite (stays_raise h) (stays_ite ht (stays_baseMoved (stays_modSpur ht)))))

/-! ## Reads -/

theorem stays_execSnapshotFracRead {load} (h : Stays σ π s) : StaysNext σ π (execSnapshotFracRead load s) :=
  stays_next (stays_ite h (stays_ite (stays_each h fun _ _ h => stays_frame h) (stays_each h fun _ _ h => stays_frame h)))

/-! ## Register writes -/

theorem stays_tellWrite {a v gs} (h : Stays σ π s) : Stays σ π (s.tellWrite a v gs) :=
  stays_tellFields h

theorem stays_writeWord {a v} (h : Stays σ π s) (ha : prtFree a = true) : Stays σ π (s.writeWord a v) :=
  stays_setWord (stays_tellWrite h) ha

theorem stays_writeDom {o v} (h : Stays σ π s) : Stays σ π (s.writeDom o v) :=
  stays_when (stays_tellWrite h) fun _ h => stays_setShadow h

theorem stays_writeSad {k o v} (h : Stays σ π s) (ha : prtFree (sadAddr k o) = true) : Stays σ π (s.writeSad k o v) :=
  have ht := stays_tellWrite h
  stays_ite ht (stays_ite (stays_modSad ht) (stays_ite (stays_setWord ht ha) (stays_modSad ht)))

theorem stays_writeCol {f o v} (h : Stays σ π s) : Stays σ π (s.writeCol f o v) :=
  have ht := stays_tellWrite h
  stays_ite ht (stays_ite (stays_modCol ht) (stays_ite (stays_modCol ht) ht))

theorem stays_writeCalCtrl {v} (h : Stays σ π s) : Stays σ π (s.writeCalCtrl v) :=
  stays_ite (stays_cfgEvent h) (stays_setField h)

theorem stays_writeSeed {a v} (h : Stays σ π s) (ha : prtFree a = true) : Stays σ π (s.writeSeed a v) :=
  stays_ite (stays_cfgEvent h) (stays_writeWord h ha)

theorem stays_writeVgl {o v} (h : Stays σ π s) : Stays σ π (s.writeVgl o v) :=
  stays_ite (stays_setField (stays_frame h)) (stays_ite (stays_frame h) h)

theorem stays_writePstate {v} (h : Stays σ π s) : Stays σ π (s.writePstate v) :=
  stays_ite (stays_cfgEvent h) h
end

end Sys2Proof.Proofs
end

section
/-! What each command leaves of where the life cycle and the start stand (O59): the commands that leave all of it, and each of the others. -/

set_option Elab.async false

namespace Sys2Proof.Proofs

open Sys2Proof.Machine Sys2Proof.Safety Sys2Proof.Laws

section

variable {σ : Standing} {π : Ground} {s : State}

/-- A state with the same register words stands where its own fields say. -/
theorem stays_restand {τ : Standing} {t : State} (h : Stays σ π s) (hτ : standing t = τ) (hw : t.words = s.words := by exact rfl) : Stays τ π t := by
  obtain ⟨-, hwords, hshut⟩ := h
  refine ⟨hτ, fun h1 => ?_, fun h1 h2 o ho => ?_⟩
  · rw [WordsOk, hw]
    exact hwords h1
  · rw [State.word, hw]
    exact hshut h1 h2 o ho

/-! ## Register writes -/

theorem sad_window {a k o : Nat} (h : winOf a = .sad k o) : a = sadAddr k o := by
  unfold winOf sadAddr at *
  grind (splits := 25)

theorem prtFree_spr {a n o m : Nat} (h : winOf a = .spr n o) (hm : m ∈ s.targets n o) : prtFree (sprAddr m o) = true := by
  obtain ⟨hlo, hhi, hn, ho⟩ := spr_window h
  have hm' : m < 425 := by
    have hf : fieldOf n < 25 := fieldOf_lt (by omega)
    unfold State.targets State.homeSpur at hm
    grind
  have hlt : sprAddr m o < 0xC0020 := by
    unfold sprAddr
    omega
  exact prtFree_of_lt hlt

/-- A word written back as it stands changes no word. -/
theorem stays_setWord_same {a : Nat} (h : Stays σ π s) : Stays σ π (s.setWord a (s.word a)) := by
  obtain ⟨hσ, hw, hshut⟩ := h
  refine ⟨hσ, fun h1 => setWord_wordsOk (hw h1) a _, fun h1 h2 o ho => ?_⟩
  rw [word_setWord (hw h1)]
  split
  · next ha => rw [ha]; exact hshut h1 h2 o ho
  · exact hshut h1 h2 o ho

/-- REGISTER_WRITE has no field of an RWL perturbation register to write. -/
theorem writeAt_prtLocked {o : Nat} (ho : o ∈ prtLocked) (s : State) (v : Word) :
    s.writeAt (0xC0000 + o) v = (s.tellWrite (0xC0000 + o) v []).setWord (0xC0000 + o) (s.word (0xC0000 + o)) := by
  simp only [prtLocked, List.mem_cons, List.not_mem_nil, or_false] at ho
  rcases ho with rfl | rfl | rfl | rfl | rfl <;> rfl

/-- A register write leaves the RWL perturbation registers: none of their fields is written here. -/
theorem stays_writeAt {a v} (h : Stays σ π s) : Stays σ π (s.writeAt a v) := by
  by_cases hfree : prtFree a = true
  · unfold State.writeAt
    split
    · exact stays_ite (stays_writeDom h) (stays_ite (stays_writePstate h) (stays_writeWord h hfree))
    · next hwin => exact stays_ite h (stays_writeSpr h fun m hm => prtFree_spr hwin hm)
    · next hwin => exact stays_writeSad h (sad_window hwin ▸ hfree)
    · exact stays_writeCol h
    · exact stays_ite (stays_writeCalCtrl h) (stays_writeWord h hfree)
    · exact stays_ite (stays_writeSeed h hfree) (stays_writeWord h hfree)
    · exact stays_writeVgl h
    · exact h
    · exact stays_writeWord h hfree
  · have hprt : ∃ o ∈ prtLocked, a = 0xC0000 + o := by simpa [prtFree] using hfree
    obtain ⟨o, ho, rfl⟩ := hprt
    rw [writeAt_prtLocked ho]
    have hsame : (s.tellWrite (0xC0000 + o) v []).word (0xC0000 + o) = s.word (0xC0000 + o) := rfl
    rw [← hsame]
    exact stays_setWord_same (stays_tellWrite h)

theorem stays_write {a v} (h : Stays σ π s) : Stays σ π (s.write a v) :=
  stays_writeAt (stays_when h fun _ h => stays_sendLane h)

theorem stays_writeUnder {a v} (h : Stays σ π s) : Stays σ π (s.writeUnder a v) := by
  unfold State.writeUnder
  split
  · exact stays_write h
  · exact stays_frame (stays_writeAt (stays_write h))

theorem stays_execRegisterWrite {addr value how} (h : Stays σ π s) : StaysNext σ π (execRegisterWrite addr value how s) :=
  have ht := stays_ite h (stays_frame h)
  stays_next (stays_ite ht (stays_ite (stays_ite (stays_write (stays_frame ht)) ht) (stays_writeUnder ht)))

/-! ## Commands of a mark and of the perturbation unit -/

theorem stays_holdMark (h : Stays σ π s) : ∃ x, Stays { σ with pst := x } π s.holdMark := by
  have hσ : Stays { σ with pst := σ.pst } π s := h
  unfold State.holdMark
  split
  · split
    · split
      · exact ⟨.v1, stays_restand h (by rw [← h.1]; rfl)⟩
      · exact ⟨_, hσ⟩
    · split
      · exact ⟨.v0, stays_restand h (by rw [← h.1]; rfl)⟩
      · exact ⟨_, hσ⟩
  · exact ⟨_, hσ⟩

theorem stays_summitHeard (h : Stays σ π s) : Stays σ π (summitHeard s) :=
  stays_ite (stays_frame h) (stays_summitMark (stays_frame h))

/-- Of all that the life cycle and the start rest on, the work of a mark moves the power state alone, after the changes of the life cycle. -/
theorem stays_afterMark (h : Stays σ π s) : ∃ x, Stays { σ with pst := x } π (afterMark s) := by
  have hheard := stays_summitHeard (stays_holdLeftMark (stays_ceilsMark h))
  obtain ⟨x, hx⟩ := stays_holdMark (stays_bistMark (stays_staleGate (stays_startDensity (stays_startGate hheard))))
  exact ⟨x, stays_closeSaddle hx⟩

theorem stays_perturb {o v} {f : State → State} (h : Stays σ π s) (ho : prtFree (0xC0000 + o) = true) (hf : ∀ t, Stays σ π t → Stays σ π (f t)) :
    Stays σ π (s.perturb o v f) :=
  have ht := stays_setWord (stays_tellFields h) ho
  stays_ite h (stays_ite ht (hf _ (stays_when ht fun _ h => stays_raise h)))

end

end Sys2Proof.Proofs
end

section
/-! Changes of the life cycle: what one does to the state of the life cycle, the test segments and the RWL perturbation registers (O54, O59). -/

set_option Elab.async false

namespace Sys2Proof.Proofs

open Sys2Proof.Machine Sys2Proof.Safety Sys2Proof.Laws

section

variable {σ : Standing} {ω : Prop} {π : Ground} {s : State}

/-! ## The perturbation registers cleared (R497) -/

/-- Every register of a list is cleared, and one that was clear stays so. -/
theorem each_clearPrt_clears (l : List Nat) (hw : WordsOk s) : WordsOk (s.each l State.clearPrt) ∧
    ∀ o, o ∈ l ∨ s.word (0xC0000 + o) = resetWord (0xC0000 + o) → (s.each l State.clearPrt).word (0xC0000 + o) = resetWord (0xC0000 + o) := by
  induction l generalizing s with
  | nil => exact ⟨hw, fun o ho => ho.resolve_left List.not_mem_nil⟩
  | cons q l ih =>
    have hwords : (s.clearPrt q).words = (s.setWord (0xC0000 + q) (resetWord (0xC0000 + q))).words :=
      when_keeps State.words (f := fun t => t.raise .perturbCleared 9 q (le 4 (s.word (0xC0000 + q)).toNat)) (fun _ => rfl) _ _
    have hword : ∀ a, (s.clearPrt q).word a = if 0xC0000 + q = a then resetWord (0xC0000 + q) else s.word a := fun a => by
      rw [← word_setWord hw, State.word, hwords]
      rfl
    obtain ⟨hok, hclear⟩ := ih (s := s.clearPrt q) (by rw [WordsOk, hwords]; exact setWord_wordsOk hw ..)
    refine ⟨hok, fun o ho => hclear o ?_⟩
    rw [hword]
    by_cases hq : q = o
    · exact .inr (by rw [if_pos (by rw [hq]), hq])
    · rw [if_neg (by omega)]
      exact ho.imp_left fun hm => (List.mem_cons.1 hm).resolve_left (Ne.symm hq)

theorem stays_clearPrts (h : Stays σ (ω, False) s) : Stays σ (ω, True) (s.each prtLocked State.clearPrt) := by
  obtain ⟨hσ, hw, -⟩ := h
  refine ⟨(each_keeps standing (fun t o => ?_) _ _).trans hσ, fun h1 => (each_clearPrt_clears _ (hw h1)).1,
    fun h1 _ o ho => (each_clearPrt_clears _ (hw h1)).2 o (.inl ho)⟩
  exact standing_when _ _ fun _ => rfl

/-- DEPLOYED is entered with every test segment closed and no RWL perturbation in force (R497). -/
theorem stays_enterDeployed (h : Stays σ (ω, False) s) : Stays { σ with segs := List.replicate 5 false } (ω, True) s.enterDeployed := by
  unfold State.enterDeployed
  extract_lets _ t u v w x
  have ht : Stays { σ with segs := List.replicate 5 false } (ω, False) t := stays_restand h (by rw [← h.1]; rfl)
  have hv : Stays { σ with segs := List.replicate 5 false } (ω, True) v := stays_clearPrts (stays_when ht fun _ h => stays_bistStop h)
  exact stays_baseMoved (stays_each (stays_frame hv) fun _ _ h => stays_each h fun _ _ h1 => stays_guardShadow h1)

/-! ## A change of state (R495) -/

/-- Where a change of the life-cycle state leaves the block: no unlock is under way, and in DEPLOYED no segment is open. -/
def Standing.changed (σ : Standing) (new : LifeCycle) : Standing :=
  { σ with st := new, relock := false, ustat := 0, segs := if new = .deployed then List.replicate 5 false else σ.segs }

theorem changeLcs_refused {new : LifeCycle} (h : lcsMoves s.lcs.st new = false) : s.changeLcs new = s := if_pos (by simp [h])

theorem stays_unlockOver {new : LifeCycle} (h : Stays σ π s) : Stays { σ with st := new, relock := false, ustat := 0 } π
    { s with lcs := { s.lcs with st := new, relock := false, asked := false, ustat := 0, chal := 0, expired := false } } :=
  stays_restand h (by rw [← h.1]; rfl)

theorem stays_changeLcs {new : LifeCycle} (hmove : lcsMoves s.lcs.st new = true) (h : Stays σ π s) : Stays (σ.changed new) π (s.changeLcs new) := by
  unfold State.changeLcs
  extract_lets old _ t u v
  rw [if_neg (by simp [old, hmove])]
  have hu : Stays { σ with st := new, relock := false, ustat := 0 } π u := stays_raise (stays_unlockOver h)
  have hv : Stays { σ with st := new, relock := false, ustat := 0 } π v := stays_ite (stays_dropSaveF hu) hu
  unfold Standing.changed
  split
  · next hnew =>
    obtain ⟨hσ, hw, -⟩ := hv
    obtain ⟨hτ, hw', hshut⟩ := stays_enterDeployed (ω := π.1) ⟨hσ, hw, fun _ h2 => h2.elim⟩
    exact ⟨hτ, hw', fun h1 _ => hshut h1 trivial⟩
  · exact hv

/-- DEPLOYED is entered with no RWL perturbation in force, whatever was in force before. -/
theorem stays_changeLcs_deployed (hmove : lcsMoves s.lcs.st .deployed = true) (h : Stays σ (ω, False) s) : Stays (σ.changed .deployed) (ω, True) (s.changeLcs .deployed) := by
  unfold State.changeLcs
  extract_lets old _ t u v
  rw [if_neg (by simp [old, hmove]), if_pos rfl]
  have hu : Stays { σ with st := .deployed, relock := false, ustat := 0 } (ω, False) u := stays_raise (stays_unlockOver h)
  have hv : Stays { σ with st := .deployed, relock := false, ustat := 0 } (ω, False) v := stays_ite (stays_dropSaveF hu) hu
  exact stays_enterDeployed hv

end

end Sys2Proof.Proofs
end

section
/-! The changes of the life cycle that wait for the mark, and what MARK_BEACON leaves of them (O54, O59, O60). -/

set_option Elab.async false

namespace Sys2Proof.Proofs

open Sys2Proof.Machine Sys2Proof.Safety Sys2Proof.Laws

section

variable {σ : Standing} {π : Ground} {s : State}

/-- Where a reported change leaves the block: a report that R495's table does not hold changes nothing. -/
def Standing.report (σ : Standing) (new : LifeCycle) : Standing := if lcsMoves σ.st new then σ.changed new else σ

/-- Where the reports and the relock that wait for the mark leave the block (R495, R503). -/
def Standing.relocked (σ : Standing) : Standing :=
  let τ := σ.due.foldl Standing.report { σ with due := [] }
  if σ.relock then τ.report .deployed else τ

theorem stays_report (new : LifeCycle) (h : Stays σ π s) : Stays (σ.report new) π (s.changeLcs new) := by
  have hst : s.lcs.st = σ.st := congrArg Standing.st h.1
  unfold Standing.report
  split
  · next hmove => exact stays_changeLcs (hst ▸ hmove) h
  · next hmove =>
    rw [changeLcs_refused (by rw [hst]; exact Bool.eq_false_iff.2 hmove)]
    exact h

theorem stays_reports (l : List LifeCycle) (h : Stays σ π s) : Stays (l.foldl Standing.report σ) π (s.each l State.changeLcs) := by
  induction l generalizing σ s with
  | nil => exact h
  | cons new l ih => exact ih (stays_report new h)

theorem stays_relockMark (h : Stays σ π s) : Stays σ.relocked π s.relockMark := by
  have hdue : s.lcs.due = σ.due := congrArg Standing.due h.1
  have hlock : s.lcs.relock = σ.relock := congrArg Standing.relock h.1
  have ht := stays_reports σ.due (stays_restand (τ := { σ with due := [] }) (t := { s with lcs := { s.lcs with due := [] } }) h (by rw [← h.1]; rfl))
  unfold State.relockMark Standing.relocked
  rw [hdue, hlock]
  split
  · exact stays_report _ ht
  · exact ht

theorem stays_markBegun (h : Stays σ π s) : Stays σ.relocked π (markBegun s) :=
  have ht := stays_relockMark (stays_frame (s := s.endSwap.nextMark) (stays_nextMark (stays_endSwap h)))
  stays_mapCols (stays_frame ht)

end

end Sys2Proof.Proofs
end

section
/-! A relock that waits in a state other than SERVICE (O60). -/

set_option Elab.async false

namespace Sys2Proof.Proofs

open Sys2Proof.Machine Sys2Proof.Safety Sys2Proof.Laws

/-- BLANK in stage 3 with marks running, a move to PROVISIONED reported, and a relock waiting though the block is not in SERVICE. -/
def relockInBlank : State :=
  { State.reset with
    boot := { State.reset.boot with stage := 3 }
    rdg := { State.reset.rdg with started := true }
    lcs := { State.reset.lcs with due := [.provisioned], relock := true } }

theorem standing_relockInBlank :
    standing relockInBlank = ⟨.blank, List.replicate 5 false, [.provisioned], true, 0, 3, false, .v0, none, true⟩ := rfl

/-- MARK_BEACON before the first tick 0: the changes that wait are made, as they wait. -/
theorem step_markBeacon_standing {s : State} (hrun : s.rdg.started = true) (hfirst : s.rdg.tick0 = false) :
    ∃ t x, step { s with pending := [.markBeacon] } = .next t ∧ standing t = { (standing s).relocked with pst := x } := by
  obtain ⟨x, hσ, -, -⟩ := stays_afterMark (stays_markBegun (stays_refl { s with pending := [] }))
  exact ⟨_, x, (step_cons s .markBeacon []).trans (exec_markBeacon hrun (.inl hfirst)), hσ⟩

/-- The mark makes both moves, BLANK to PROVISIONED and on to DEPLOYED. -/
theorem relockInBlank_mark : ∃ t, step { relockInBlank with pending := [.markBeacon] } = .next t ∧ t.lcs.st = .deployed ∧ t.boot.stage = 3 := by
  obtain ⟨t, x, hstep, hσ⟩ := step_markBeacon_standing (s := relockInBlank) rfl rfl
  rw [standing_relockInBlank] at hσ
  exact ⟨t, hstep, congrArg Standing.st hσ, congrArg Standing.stage hσ⟩

/-- Refutes O60: from `relockInBlank` one MARK_BEACON leads from BLANK to DEPLOYED, which R495's table does not hold; RELOCK itself leaves a relock waiting in SERVICE alone. -/
theorem not_lifeCycleMovesOnlyByItsTable : ¬ Obligations.LifeCycleMovesOnlyByItsTable := by
  intro h
  obtain ⟨t, hstep, hst, hstage⟩ := relockInBlank_mark
  obtain ⟨-, -, -, htable⟩ := h _ t (Nat.le_refl 3) (by omega) hstep
  obtain ⟨hmove, -⟩ := htable (Nat.le_refl 1)
  rw [hst] at hmove
  exact absurd hmove (by decide)

end Sys2Proof.Proofs
end

section
/-! Every command keeps the start's stages consistent and DEPLOYED shut: the commands that move the start or the life cycle (O59). -/

set_option Elab.async false

namespace Sys2Proof.Proofs

open Sys2Proof.Machine Sys2Proof.Safety Sys2Proof.Laws

/-! ## What is kept -/

/-- Register words in canonical form, consistent stages, and a DEPLOYED that is shut. -/
def Lawful (s : State) : Prop := WordsOk s ∧ StartOk s ∧ Shut s

/-- The next state of an outcome is lawful. -/
def LawfulNext (r : Result) : Prop := ∀ t, r = .next t → Lawful t

/-- The part of `Lawful` that speaks of where a state stands. -/
def Standing.Ok (σ : Standing) : Prop :=
  (σ.stage < 7 → σ.ready = false) ∧ (σ.stage = 6 → σ.started = true) ∧ (σ.ready = true → (σ.pst != .v2 && σ.pst != .v3) = true → σ.started = true) ∧
    (σ.parkAt.isSome = true → σ.ready = true) ∧ (σ.st = .deployed → σ.segs = List.replicate 5 false)

/-- The RWL perturbation registers are to hold their reset values: before service, and in DEPLOYED. -/
def Standing.Bound (σ : Standing) : Prop := σ.ready = false ∨ σ.st = .deployed

/-- What a state takes its words to hold. -/
abbrev ground (s : State) : Ground := (WordsOk s, PrtShut s)

section

variable {σ : Standing} {π : Ground} {s t : State}

theorem lawful_iff : Lawful s ↔ WordsOk s ∧ (standing s).Ok ∧ ((standing s).Bound → PrtShut s) := by
  constructor
  · rintro ⟨hw, ⟨h1, h2, h3, h4⟩, hready, hdep⟩
    exact ⟨hw, ⟨h1, h2, h3, h4, fun h => (hdep h).2⟩, fun hb => hb.elim hready fun h => (hdep h).1⟩
  · rintro ⟨hw, ⟨h1, h2, h3, h4, h5⟩, hb⟩
    exact ⟨hw, ⟨h1, h2, h3, h4⟩, fun h => hb (.inl h), fun h => ⟨hb (.inr h), h5 h⟩⟩

theorem Lawful.words (h : Lawful s) : WordsOk s := h.1

theorem Lawful.ok (h : Lawful s) : (standing s).Ok := (lawful_iff.1 h).2.1

theorem Lawful.shut (h : Lawful s) (hb : (standing s).Bound) : PrtShut s := (lawful_iff.1 h).2.2 hb

theorem lawful_of_stays (ht : Stays σ π t) (hw : π.1) (hok : σ.Ok) (hb : σ.Bound → π.2) : Lawful t := by
  obtain ⟨rfl, hwords, hshut⟩ := ht
  exact lawful_iff.2 ⟨hwords hw, hok, fun h => hshut hw (hb h)⟩

/-- An operation after which the state stands the same keeps the state lawful. -/
theorem Lawful.keeps (h : Lawful s) (ht : Stays (standing s) (ground s) t) : Lawful t := lawful_of_stays ht h.words h.ok h.shut

/-- The same for one that moves it where it may. -/
theorem Lawful.moves (h : Lawful s) (ht : Stays σ (ground s) t) (hok : σ.Ok) (hb : σ.Bound → (standing s).Bound) : Lawful t :=
  lawful_of_stays ht h.words hok fun hσ => h.shut (hb hσ)

theorem lawfulNext (h : Lawful s) : LawfulNext (.next s) := by
  rintro t ⟨⟩
  exact h

theorem Lawful.keepsNext (h : Lawful s) {r : Result} (hr : StaysNext (standing s) (ground s) r) : LawfulNext r := fun t ht => h.keeps (hr t ht)

theorem lawful_ite {c : Prop} {_ : Decidable c} (hs : c → Lawful s) (ht : ¬c → Lawful t) : Lawful (if c then s else t) := by
  split
  · next h => exact hs h
  · next h => exact ht h

theorem answers_ready {a : Nat} (h : s.answers a = true) : s.boot.ready = true := by
  unfold State.answers at h
  split at h
  · cases h
  · next hready => simpa using hready

theorem inStage_iff {k : Nat} : s.inStage k = true ↔ s.boot.stage = k ∧ s.lko.sup1 = true ∧ s.awake = true := by
  simp [State.inStage, and_assoc]

/-- Before service the start moves on to a stage before 6. -/
theorem Lawful.toStage {k : Nat} (h : Lawful s) (hbefore : s.boot.stage < 7) (hk : k < 6) : Lawful (s.toStage k) := by
  obtain ⟨h1, h2, h3, h4, h5⟩ := h.ok
  have hready : s.boot.ready = false := h1 hbefore
  refine h.moves (σ := { standing s with stage := k }) (stays_restand (stays_refl s) rfl) ⟨fun _ => hready, fun h6 => ?_, h3, h4, h5⟩ id
  change k = 6 at h6
  omega

/-! ## Starts (R480) -/

/-- The block at the beginning of a block reset or a wake, before the board table that Lookout keeps is applied. -/
def startBegun (s : State) (kind : Nat) : State :=
  { s.powerUp with
    words := s.words.lookoutPart, latches := s.latches.lookoutPart
    cols := if kind = 1 then bmap s.cols fun _ c => c.keptRecord else State.reset.cols
    rdg := s.rdg.kept, lko := s.lko.kept, crn := s.crn.kept false
    lcs := { Lcs.reset with fails := s.lcs.fails, lockout := s.lcs.lockout }
    boot := { Boot.reset with stage := if s.lko.oscOk then 1 else 0, kind := kind } }

theorem standing_startBegun (s : State) (kind : Nat) :
    standing (startBegun s kind) = ⟨.blank, List.replicate 5 false, [], false, 0, if s.lko.oscOk then 1 else 0, false, .v0, none, false⟩ := rfl

/-- Perturbations lie beside Lookout's window, so a start leaves none. -/
theorem prtShut_startBegun (s : State) (kind : Nat) : PrtShut (startBegun s kind) := fun o _ =>
  congrArg (·.getD (resetWord (0xC0000 + o))) ((find_lookoutPart s.words (0xC0000 + o)).trans (if_neg (by omega)))

theorem stays_keepTable (h : Stays σ π s) : Stays σ π s.keepTable :=
  stays_ite h (stays_setWord (stays_setWord (stays_setField (stays_setField h))))

theorem Lawful.startBegun (h : Lawful s) (kind : Nat) : Lawful (startBegun s kind) := by
  refine lawful_iff.2 ⟨fileOk_filter _ h.words, ?_, fun _ => prtShut_startBegun s kind⟩
  rw [standing_startBegun]
  exact ⟨fun _ => rfl, fun h6 => by dsimp only at h6; split at h6 <;> omega, fun hr => (Bool.false_ne_true hr).elim, fun hp => (Bool.false_ne_true hp).elim, fun _ => rfl⟩

theorem Lawful.restart (h : Lawful s) (kind : Nat) : Lawful (s.restart kind) :=
  have hs := h.startBegun kind
  hs.keeps (stays_keepTable (stays_refl _))

theorem standing_restart (s : State) (kind : Nat) : standing (s.restart kind) = standing (Proofs.startBegun s kind) :=
  (stays_keepTable (stays_refl (Proofs.startBegun s kind))).1

end

end Sys2Proof.Proofs
end

section
/-! The commands of a start, of the power states and of the life cycle keep the start's stages consistent and DEPLOYED shut (O59). -/

set_option Elab.async false

namespace Sys2Proof.Proofs

open Sys2Proof.Machine Sys2Proof.Safety Sys2Proof.Laws

section

variable {σ : Standing} {π : Ground} {s t : State}

/-! ## Power-up, resets, wakes and supplies -/

theorem lawful_powerUp (s : State) : Lawful s.powerUp :=
  ⟨reset_wordsOk, ⟨fun _ => rfl, fun h => absurd h (show ¬(0 : Nat) = 6 by decide), fun h => (Bool.false_ne_true h).elim, fun h => (Bool.false_ne_true h).elim⟩,
    fun _ _ _ => rfl, fun h => absurd h (show ¬LifeCycle.blank = .deployed by decide)⟩

/-- A change of the pins, of the cause and of the record of a start alone. -/
theorem Lawful.reboot (h : Lawful s) {b : Boot} (hb : (b.stage, b.ready, b.pst, b.parkAt) = (s.boot.stage, s.boot.ready, s.boot.pst, s.boot.parkAt)) :
    Lawful { s with boot := b } := by
  simp only [Prod.mk.injEq] at hb
  obtain ⟨hstage, hready, hpst, hpark⟩ := hb
  exact h.keeps (stays_restand (stays_refl s) (by simp [standing, hstage, hready, hpst, hpark]))

theorem lawful_execSup0 (s : State) : LawfulNext (execSup0 s) := by
  have h := lawful_powerUp s
  obtain ⟨h1, h2, h3, h4, h5⟩ := h.ok
  refine lawfulNext (h.moves (stays_restand (stays_refl s.powerUp) rfl) ⟨h1, h2, fun hr => (Bool.false_ne_true hr).elim, h4, h5⟩ id)

theorem Lawful.wakeNow (h : Lawful s) (code : Nat) : Lawful (s.wakeNow code) := (h.restart 2).reboot rfl

theorem Lawful.wakeBy (h : Lawful s) (c : WakeCause) : Lawful (s.wakeBy c) :=
  lawful_ite (fun _ => h) fun _ => lawful_ite (fun _ => h.wakeNow _) fun _ => lawful_ite (fun _ => h.reboot rfl) fun _ => h

theorem Lawful.execTripRelease (h : Lawful s) (level : Fin 3) : LawfulNext (execTripRelease level s) :=
  have ht := h.keeps (stays_when (stays_frame (stays_refl s)) (b := level.val != 2) fun _ h => stays_thermTrip (level := level.val + 1) (rel := 1) h)
  lawfulNext (lawful_ite (fun _ => h) fun _ => lawful_ite (fun _ => ht) fun _ => Lawful.wakeBy (ht.keeps (stays_ite (stays_frame (stays_refl _)) (stays_refl _))) .thermal)

/-- SUP1 rising lets a start begin from stage 0, where nothing is READY. -/
theorem Lawful.supplied (h : Lawful s) (hsup : s.boot.stage = 0) : Lawful { s with lko := { s.lko with sup1 := true }, boot := { s.boot with stage := 1 } } :=
  (h.toStage (k := 1) (by omega) (by decide)).keeps (stays_frame (s := s.toStage 1) (stays_refl _))

theorem Lawful.execSup1 (h : Lawful s) (above : Bool) : LawfulNext (execSup1 above s) := by
  have ht : Lawful { s with lko := { s.lko with sup1 := above } } := h.keeps (stays_frame (stays_refl s))
  refine lawfulNext (lawful_ite (fun _ => h) fun _ => lawful_ite (fun ha => ?_) fun _ => lawful_ite (fun _ => ht.keeps (stays_raise (stays_refl _))) fun _ => ht)
  refine Lawful.wakeBy ?_ .rail
  by_cases h0 : s.boot.stage = 0 ∧ s.lko.oscOk = true
  · rw [if_pos h0, ha]
    exact h.supplied h0.1
  · rw [if_neg h0]
    exact ht.reboot rfl

theorem Lawful.execBlkResetAssert (h : Lawful s) : LawfulNext (execBlkResetAssert s) := by
  have ht := h.restart 1
  refine lawfulNext (lawful_ite (fun _ => h) fun _ => ht.moves (stays_restand (stays_refl _) rfl) ?_ id)
  obtain ⟨h1, h2, -, h4, h5⟩ := ht.ok
  have hready : (standing (s.restart 1)).ready = false := by rw [standing_restart]; rfl
  exact ⟨h1, h2, fun hr => (Bool.false_ne_true (hready.symm.trans hr)).elim, h4, h5⟩

theorem Lawful.execBlockReset (h : Lawful s) : LawfulNext (execBlockReset s) :=
  lawfulNext (lawful_ite (fun _ => h) fun _ => lawful_ite (fun _ => (h.restart 1).reboot rfl) fun _ => h.reboot rfl)

/-! ## Park (R472) -/

/-- A block in service asked to park. -/
theorem Lawful.parkAsked (h : Lawful s) (hready : s.boot.ready = true) (ht : Stays (standing s) (ground s) t) (m : Mark) :
    Lawful ({ t with boot := { t.boot with req := 2, state := 2, moving := true, parkAt := some m } }.tellState 2) := by
  obtain ⟨h1, h2, h3, -, h5⟩ := h.ok
  exact h.moves (σ := { standing s with parkAt := some m }) (stays_raise (stays_restand ht (by rw [← ht.1]; rfl))) ⟨h1, h2, h3, fun _ => hready, h5⟩ id

/-- Only a block in service answers a request to park. -/
theorem Lawful.execParkEntry (h : Lawful s) : LawfulNext (execParkEntry s) := by
  have hs := stays_refl s
  refine lawfulNext (lawful_ite (fun _ => h.keeps (stays_cfgEvent hs)) fun _ => lawful_ite (fun _ => h) fun hans => lawful_ite (fun _ => h.keeps (stays_cfgEvent hs)) fun _ =>
    lawful_ite (fun _ => h.keeps (stays_cfgEvent hs)) fun _ => lawful_ite (fun _ => h.keeps (stays_cfgEvent hs)) fun _ => ?_)
  have hready : s.boot.ready = true := answers_ready (by simpa using hans)
  exact h.parkAsked hready (stays_mapCols (stays_endMeasures (stays_abandonSave hs))) s.mark

theorem Lawful.execParkReady (h : Lawful s) : LawfulNext (execParkReady s) := by
  unfold Machine.execParkReady
  refine lawfulNext ?_
  split
  · exact h
  · next m hpark =>
    have hready : s.boot.ready = true := by
      obtain ⟨-, -, -, h4, -⟩ := h.ok
      exact h4 (by simp [standing, hpark])
    have hparked : Lawful { s with
        boot := { s.boot with pst := .v2, moving := false, parkAt := none, pinPark := true }
        rdg := { s.rdg with lock := false, started := false }
        lko := { s.lko with timerLock := false, bgRef := false, density := false } } := by
      obtain ⟨h1, h2, h3, -, h5⟩ := h.ok
      refine h.moves (stays_restand (stays_refl s) rfl) ⟨h1, fun h6 => ?_, fun _ hv2 => (Bool.false_ne_true hv2).elim, fun hp => (Bool.false_ne_true hp).elim, h5⟩ id
      have hstage : s.boot.stage = 6 := h6
      exact absurd ((h1 (by change s.boot.stage < 7; omega)).symm.trans hready) Bool.false_ne_true
    refine lawful_ite (fun _ => h) fun _ => ?_
    split
    · exact hparked
    · exact hparked.wakeNow _

/-! ## The stages (R481 to R487) -/

theorem inStage_lt {k : Nat} (h : s.inStage k = true) (hk : k < 7) : s.boot.stage < 7 := (inStage_iff.1 h).1 ▸ hk

theorem Lawful.execOscillatorSettled (h : Lawful s) : LawfulNext (execOscillatorSettled s) := by
  have ht : Lawful (oscRunning s) := by
    refine h.keeps (stays_restand (stays_refl s) ?_)
    unfold oscRunning standing
    split <;> rfl
  exact lawfulNext (lawful_ite (fun _ => h) fun _ => lawful_ite (fun hin => ht.toStage (inStage_lt hin (by decide)) (by decide)) fun _ => ht)

theorem Lawful.execStage1Done (h : Lawful s) : LawfulNext (execStage1Done s) :=
  lawfulNext (lawful_ite (fun hin => by
    simp only [Bool.and_eq_true] at hin
    exact h.toStage (inStage_lt hin.1.1 (by decide)) (by decide)) fun _ => h)

/-- Stage 3 reads the life cycle before service, where no perturbation is in force; DEPLOYED opens no segment. -/
theorem Lawful.stage3Begun (h : Lawful s) (hbefore : s.boot.stage < 7) (one two : Bool) (st : LifeCycle) : Lawful (stage3Begun s one two st) := by
  have ht := h.toStage hbefore (k := 3) (by decide)
  obtain ⟨h1, h2, h3, h4, h5⟩ := ht.ok
  have hready : s.boot.ready = false := h1 (by change (3 : Nat) < 7; decide)
  refine ht.moves (stays_restand (stays_refl _) rfl) ⟨h1, h2, h3, h4, fun hdep => ?_⟩ fun _ => .inl hready
  refine if_pos ?_
  by_cases hst : st = .service
  · exact .inl hst
  · exact .inr ((if_neg hst).symm.trans hdep)

theorem Lawful.execRootLocked (h : Lawful s) (one two : Bool) (st : LifeCycle) (flashOk : Bool) : LawfulNext (execRootLocked one two st flashOk s) := by
  refine lawfulNext (lawful_ite (fun _ => h) fun hin => ?_)
  have hbefore : s.boot.stage < 7 := inStage_lt (by simpa using hin) (by decide)
  have ht : Lawful (bootVolts (stage3Timed s one two st)) :=
    (h.stage3Begun hbefore one two st).keeps (stays_mapCols (stays_when (stays_timeBase (stays_refl _)) fun _ h => stays_raise h))
  exact lawful_ite (fun _ => ht) fun _ => ht.keeps (stays_raise (stays_frame (stays_tookFree (stays_tookFree (stays_refl _)))))

theorem Lawful.execBankFVerified (h : Lawful s) (reason : Fin 8) (x : Factory) : LawfulNext (execBankFVerified reason x s) := by
  refine lawfulNext (lawful_ite (fun _ => h) fun hin => ?_)
  have hbefore : s.boot.stage < 7 := inStage_lt (by simpa using hin) (by decide)
  exact (h.toStage hbefore (by decide)).keeps (stays_when (stays_mapSpurs (stays_frame (stays_refl (s.toStage 4)))) fun _ h => stays_raiseAs h)

theorem stays_bankSelected (h : Stays σ π s) (r : Nat × Nat) (k : Nat) : Stays { σ with stage := 5 } π (bankSelected s r k) :=
  stays_restand h (by rw [← h.1]; rfl) (bankSelected_keeps State.words s r k)

theorem Lawful.bankSelected (h : Lawful s) (hbefore : s.boot.stage < 7) (r : Nat × Nat) (k : Nat) : Lawful (bankSelected s r k) :=
  (h.toStage hbefore (k := 5) (by decide)).keeps (stays_bankSelected (stays_refl s) r k)

theorem Lawful.execTestSelectDone (h : Lawful s) (a b : Fin 8) (spurs : List Nat) (cols : PorCols) : LawfulNext (execTestSelectDone a b spurs cols s) := by
  refine lawfulNext (lawful_ite (fun _ => h) fun hin => ?_)
  simp only [Bool.or_eq_true, Bool.not_eq_true', not_or, Bool.not_eq_false] at hin
  have hbefore : s.boot.stage < 7 := inStage_lt hin.1 (by decide)
  have ht := h.bankSelected hbefore (s.bankResults a b) (s.selectBank (s.bankResults a b))
  exact ht.keeps (stays_loadLookout (stays_each (stays_each (stays_endPor (stays_tellBoot (stays_refl _))) fun _ _ h => stays_loadSpur h) fun _ _ h => stays_loadSaddle h))

theorem Lawful.execStartPulse (h : Lawful s) : LawfulNext (execStartPulse s) := by
  refine lawfulNext (lawful_ite (fun _ => h) fun hin => ?_)
  simp only [Bool.or_eq_true, Bool.not_eq_true', not_or, Bool.not_eq_false] at hin
  have hbefore : s.boot.stage < 7 := inStage_lt hin.1 (by decide)
  obtain ⟨h1, -, -, h4, h5⟩ := h.ok
  have hready : s.boot.ready = false := h1 hbefore
  have ht : Stays { standing s with stage := 6, started := true } (ground s) ((s.toStage 6).modRdg fun r => { r with started := true, ridge := 0, epoch := 0, tick0 := false }) :=
    stays_restand (stays_refl s) rfl
  exact h.moves (stays_mapCols (stays_mapSpurs ht)) ⟨fun _ => hready, fun _ => rfl, fun _ _ => rfl, h4, h5⟩ id

theorem stays_inService (h : Stays σ π t) : Stays { σ with stage := 7, ready := true } π (inService s t) := stays_restand h (by rw [← h.1]; rfl)

theorem stays_serviceTold (h : Stays σ π s) : Stays σ π (serviceTold s) := stays_when (stays_raise (stays_tookFree h)) fun _ h => stays_safeGrants h

/-- Service begins in stage 6, in which marks run. -/
theorem Lawful.service (h : Lawful s) (hstage : (standing s).stage = 6) : Lawful s.service := by
  obtain ⟨-, h2, -, -, h5⟩ := h.ok
  have hrun : (standing s).started = true := h2 hstage
  have ht : Stays (standing s) (ground s) ((gatesOpened s).each (List.range 25) State.placeField) :=
    stays_each (stays_mapSads (stays_mapSpurs (stays_refl s))) fun _ _ h => stays_placeField h
  have hbegun : Stays { standing s with stage := 7, ready := true } (ground s) (serviceBegun s) :=
    stays_serviceTold (stays_inService ht)
  rw [service_eq]
  exact h.moves (stays_ite (stays_enterHold hbegun) hbegun) ⟨fun h7 => absurd h7 (Nat.lt_irrefl 7), fun _ => hrun, fun _ _ => hrun, fun _ => rfl, h5⟩
    fun hb => .inr (hb.resolve_left Bool.noConfusion)

/-- The Spurs that were to drive a region and are not LOCKED counted as failed. -/
def unlockedFailed (s : State) : State :=
  let t := s.each (List.range 400) State.timesOut
  t.each ((List.range 25).filter fun f => (t.toDrive f).contains (400 + f)) fun u f => u.timesOut (400 + f)

theorem stays_unlockedFailed (h : Stays σ π s) : Stays σ π (unlockedFailed s) := by
  unfold unlockedFailed
  extract_lets t
  have ht : Stays σ π t := stays_each h fun _ _ h => stays_timesOut h
  clear_value t
  exact stays_each ht fun _ _ h => stays_timesOut h

theorem Lawful.execFirstMarkOfService (h : Lawful s) : LawfulNext (execFirstMarkOfService s) := by
  refine lawfulNext (lawful_ite (fun _ => h) fun hin => ?_)
  simp only [Bool.or_eq_true, Bool.not_eq_true', not_or, Bool.not_eq_false] at hin
  have hstage : s.boot.stage = 6 := (inStage_iff.1 hin.1.1).1
  refine lawful_ite (fun _ => h.service hstage) fun _ => lawful_ite (fun _ => h) fun _ => ?_
  have hfail := stays_unlockedFailed (stays_refl s)
  have hserve : Lawful (unlockedFailed s).service := (h.keeps hfail).service (by rw [hfail.1]; exact hstage)
  exact hserve

/-! ## The references (R64 to R72) -/

/-- A start falls back only before marks run, and then it is not READY. -/
theorem Lawful.backToStage1 (h : Lawful s) (hrun : s.rdg.started = false) (hawake : s.awake = true) : Lawful s.backToStage1 := by
  obtain ⟨-, -, h3, h4, h5⟩ := h.ok
  have hready : s.boot.ready = false := Bool.eq_false_iff.2 fun hr => Bool.false_ne_true (hrun.symm.trans (h3 hr hawake))
  exact h.moves (stays_restand (stays_refl s) rfl) ⟨fun _ => hready, fun h1 => absurd h1 (show ¬(1 : Nat) = 6 by decide), h3, h4, h5⟩ id

theorem Lawful.refLose (h : Lawful s) (b : Bool) (cause : Nat) : Lawful (s.refLose b cause) := by
  unfold State.refLose
  extract_lets x t
  have hstays : Stays (standing s) (ground s) t := stays_raise (stays_modRdg (stays_refl s) (modRef_started ..))
  have ht := h.keeps hstays
  refine lawful_ite (fun _ => h) fun _ => lawful_ite (fun _ => ht) fun hpst => lawful_ite (fun hrun => lawful_ite (fun _ => ?_) fun _ => ht) fun _ =>
    lawful_ite (fun _ => h.keeps (stays_closeIncident (stays_switchTo (stays_incident hstays)))) fun _ => h.keeps (stays_enterHoldover (stays_incident hstays))
  have hstart : s.rdg.started = false := by simpa using hrun
  have hawake : s.awake = true := by
    simp only [Bool.or_eq_true, beq_iff_eq, not_or] at hpst
    simp [State.awake, hpst.2, hpst.1.2]
  exact ht.backToStage1 ((congrArg Standing.started hstays.1).trans hstart) hawake

theorem Lawful.execRefEdgeLoss (h : Lawful s) (b : Bool) : LawfulNext (execRefEdgeLoss b s) :=
  have ht := h.keeps (t := (s.modRdg fun r => r.modRef b fun x => { x with present := false, clean := false }).refFlag (refIdx b))
    (stays_refFlag (stays_modRdg (stays_refl s) (modRef_started ..)))
  have hu := ht.refLose b 0
  lawfulNext (lawful_ite (fun _ => hu.keeps (stays_timeBase (stays_refl _))) fun _ => hu)

theorem Lawful.execRootUnlock (h : Lawful s) : LawfulNext (execRootUnlock s) := by
  refine lawfulNext ?_
  split
  · exact h
  · exact lawful_ite (fun _ => h) fun _ => (h.keeps (stays_raise (stays_refFlag (stays_modRdg (stays_refl s) (modRef_started ..))))).refLose _ 2

theorem Lawful.execFreqGate (h : Lawful s) (b : Bool) (count : Nat) : LawfulNext (execFreqGate b count s) := by
  unfold Machine.execFreqGate
  extract_lets x off t u
  have ht : Lawful t := h.keeps (stays_modRdg (stays_refl s) (modRef_started ..))
  have hu : Lawful u := when_preserves Lawful (fun v hv => (hv.keeps (stays_refFlag (stays_refl v))).refLose b 1) ht off
  exact lawfulNext (lawful_ite (fun _ => hu.keeps (stays_when (stays_modRdg (stays_refl u) (modRef_started ..)) fun _ h => stays_raise h)) fun _ =>
    lawful_ite (fun _ => hu.keeps (stays_qualified (stays_refl u))) fun _ => hu)

end

end Sys2Proof.Proofs
end

section
/-! The commands of the life cycle, of test access and of the perturbation unit, and so every command, keep DEPLOYED shut (O59). -/

set_option Elab.async false

namespace Sys2Proof.Proofs

open Sys2Proof.Machine Sys2Proof.Safety Sys2Proof.Laws

section

variable {σ : Standing} {π : Ground} {s t : State}

/-! ## The life cycle (R495 to R503) -/

/-- A change of the life cycle keeps the block shut: into DEPLOYED it clears what may be in force, and before service nothing is. -/
theorem Lawful.changeLcs (h : Lawful s) (new : LifeCycle) : Lawful (s.changeLcs new) := by
  by_cases hmove : lcsMoves s.lcs.st new = true
  · obtain ⟨h1, h2, h3, h4, -⟩ := h.ok
    by_cases hnew : new = .deployed
    · subst hnew
      obtain ⟨hσ, hw, -⟩ := stays_refl s
      have ht := stays_changeLcs_deployed (ω := WordsOk s) hmove ⟨hσ, hw, fun _ => False.elim⟩
      exact lawful_of_stays ht h.words ⟨h1, h2, h3, h4, fun _ => rfl⟩ fun _ => trivial
    · exact h.moves (stays_changeLcs hmove (stays_refl s)) ⟨h1, h2, h3, h4, fun hdep => absurd hdep hnew⟩ fun hb => .inl (hb.resolve_right hnew)
  · rw [changeLcs_refused (Bool.eq_false_iff.2 hmove)]
    exact h

/-- A state that differs in the life cycle, its state and segments aside, and in no register word is as lawful. -/
theorem Lawful.relcs (h : Lawful s) {l : Lcs} (hl : (l.st, l.segs) = (s.lcs.st, s.lcs.segs)) : Lawful { s with lcs := l } := by
  obtain ⟨hst, hsegs⟩ := Prod.mk.inj hl
  obtain ⟨h1, h2, h3, h4, h5⟩ := h.ok
  refine h.moves (stays_restand (stays_refl s) rfl) ⟨h1, h2, h3, h4, ?_⟩ ?_
  · change l.st = .deployed → l.segs = _
    rw [hst, hsegs]
    exact h5
  · exact Or.imp_right fun hdep => hst.symm.trans hdep

theorem Lawful.relockMark (h : Lawful s) : Lawful s.relockMark := by
  have hdue : Lawful { s with lcs := { s.lcs with due := [] } } := h.relcs rfl
  have ht := each_preserves Lawful (fun _ new hu => hu.changeLcs new) hdue s.lcs.due
  exact lawful_ite (fun _ => ht.changeLcs _) fun _ => ht

theorem Lawful.lcsReport (h : Lawful s) (st : LifeCycle) : Lawful (s.lcsReport st) := lawful_ite (fun _ => h.relcs rfl) fun _ => h.changeLcs st

theorem Lawful.unlockFail (h : Lawful s) (reason : Nat) : Lawful (s.unlockFail reason) :=
  (h.relcs (l := { s.lcs with ustat := 0, chal := 0, asked := false, expired := false }) rfl).keeps (stays_raise (stays_refl _))

theorem Lawful.take (h : Lawful s) {a : Nat} {v : Word} {acc : Acc} {f : State → State} (hf : Lawful (f s)) : Lawful (s.take a v acc f) :=
  have hno := stays_cfgEvent (stays_refl s)
  lawful_ite (fun _ => h) fun _ => lawful_ite (fun _ => h.keeps hno) fun _ => lawful_ite (fun _ => h.keeps hno) fun _ => hf

theorem Lawful.execLcsChange (h : Lawful s) (st : LifeCycle) : LawfulNext (execLcsChange st s) :=
  lawfulNext (lawful_ite (fun _ => h) fun _ => h.lcsReport st)

theorem Lawful.execReq (h : Lawful s) : LawfulNext (execReq s) :=
  lawfulNext (h.take (lawful_ite (fun _ => h.unlockFail 3) fun _ => lawful_ite (fun _ => h.unlockFail 4) fun _ =>
    (h.relcs (l := { s.lcs with asked := true }) rfl).keeps (stays_send (stays_refl _))))

theorem Lawful.execChallengeIssued (h : Lawful s) (c : BitVec 64) : LawfulNext (execChallengeIssued c s) :=
  lawfulNext (lawful_ite (fun _ => h.relcs rfl) fun _ => h)

theorem Lawful.execSubmit (h : Lawful s) : LawfulNext (execSubmit s) :=
  lawfulNext (h.take (lawful_ite (fun _ => h.unlockFail 3) fun _ => lawful_ite (fun _ => h.unlockFail 4) fun _ => lawful_ite (fun _ => h.unlockFail 2) fun _ =>
    (h.relcs (l := { s.lcs with ustat := 2 }) rfl).keeps (stays_send (stays_refl _))))

theorem Lawful.execUnlockVerdict (h : Lawful s) (pass : Bool) : LawfulNext (execUnlockVerdict pass s) :=
  have hpass : Lawful { s with lcs := { s.lcs with fails := 0, ustat := 0, chal := 0 } } := h.relcs rfl
  have hfail : Lawful { s with lcs := { s.lcs with fails := min 3 (s.lcs.fails + 1), lockout := s.lcs.lockout || min 3 (s.lcs.fails + 1) == 3 } } := h.relcs rfl
  lawfulNext (lawful_ite (fun _ => h) fun _ => lawful_ite (fun _ => hpass.lcsReport .service) fun _ => hfail.unlockFail 1)

theorem Lawful.execRelock (h : Lawful s) : LawfulNext (execRelock s) :=
  lawfulNext (h.take (lawful_ite (fun _ => h.relcs rfl) fun _ => lawful_ite (fun _ => h.relcs rfl) fun _ => h))

/-- A test segment opens outside DEPLOYED alone (R505). -/
theorem Lawful.execTapSegmentSet (h : Lawful s) (seg : Fin 5) : LawfulNext (execTapSegmentSet seg s) := by
  refine lawfulNext (lawful_ite (fun hopen => ?_) fun _ => lawful_ite (fun _ => h) fun _ =>
    (h.relcs (l := { s.lcs with denied := some s.mark }) rfl).keeps (stays_raise (stays_refl _)))
  have hst : s.lcs.st ≠ .deployed := by simpa [State.locked] using hopen
  obtain ⟨h1, h2, h3, h4, -⟩ := h.ok
  exact h.moves (stays_restand (stays_refl s) rfl) ⟨h1, h2, h3, h4, fun hdep => absurd hdep hst⟩ id

/-! ## The mark -/

theorem Lawful.markBegun (h : Lawful s) : Lawful (markBegun s) :=
  have ht := Lawful.relockMark (h.keeps (stays_frame (s := s.endSwap.nextMark) (stays_nextMark (stays_endSwap (stays_refl s)))))
  ht.keeps (stays_mapCols (stays_frame (stays_refl _)))

theorem started_markBegun (s : State) : (standing (markBegun s)).started = (standing s).started := by
  have hσ := (stays_markBegun (stays_refl s)).1
  have hreport : ∀ (τ : Standing) new, (τ.report new).started = τ.started := fun τ new => by
    unfold Standing.report
    split <;> rfl
  have hfold : ∀ (l : List LifeCycle) (τ : Standing), (l.foldl Standing.report τ).started = τ.started := fun l => by
    induction l with
    | nil => exact fun _ => rfl
    | cons new l ih => exact fun τ => (ih _).trans (hreport τ new)
  rw [hσ]
  unfold Standing.relocked
  extract_lets τ
  have hτ : τ.started = (standing s).started := hfold _ _
  split
  · exact (hreport τ _).trans hτ
  · exact hτ

/-- While marks run the power state bears on nothing. -/
theorem Lawful.afterMark (h : Lawful s) (hrun : (standing s).started = true) : Lawful (afterMark s) := by
  obtain ⟨x, hx⟩ := stays_afterMark (stays_refl s)
  obtain ⟨h1, h2, -, h4, h5⟩ := h.ok
  exact h.moves hx ⟨h1, h2, fun _ _ => hrun, h4, h5⟩ id

theorem Lawful.execMarkBeacon (h : Lawful s) : LawfulNext (execMarkBeacon s) := by
  by_cases hearly : s.rdg.started = false ∨ (s.rdg.tick0 = true ∧ s.tick ≠ 255)
  · intro t ht
    cases (exec_markBeacon_early hearly).symm.trans ht
    exact h
  · obtain ⟨hrun, hlast⟩ := not_or.1 hearly
    have hrun' : s.rdg.started = true := by simpa using hrun
    have hlast' : s.rdg.tick0 = false ∨ s.tick = 255 := by grind
    intro t ht
    cases (exec_markBeacon hrun' hlast').symm.trans ht
    exact h.markBegun.afterMark ((started_markBegun s).trans hrun')

/-! ## The perturbation unit (R507) -/

theorem prtFields_locked {o : Nat} (ho : prtLocked.contains o = true) : (prtFields o).all (fun g => decide (g.acc = .rwl)) = true := by
  simp only [prtLocked, List.contains_eq_mem, decide_eq_true_eq, List.mem_cons, List.not_mem_nil, or_false] at ho
  rcases ho with rfl | rfl | rfl | rfl | rfl <;> rfl

theorem putFields_none (v : Word) (gs : List Fld) (ok : Fld → Bool) (h : ∀ g ∈ gs, ok g = false) (w : Word) : putFields ok v gs w = w := by
  induction gs with
  | nil => rfl
  | cons g gs ih =>
    have hg : ok g = false := h g (by simp)
    have hrest := ih fun g hg => h g (List.mem_cons_of_mem _ hg)
    simpa [putFields, hg] using hrest

/-- In DEPLOYED a write to an RWL register takes no field. -/
theorem perturb_locked {o : Nat} {v : Word} {f : State → State} (ho : prtLocked.contains o = true) (hlock : s.locked = true) :
    s.perturb o v f = if !s.answers (0xC0000 + o) then s else
      (s.tellFields (0xC0000 + o) v ((prtFields o).map fun g => g.check s.locked true v)).setWord (0xC0000 + o) (s.word (0xC0000 + o)) := by
  have hno : ∀ g ∈ prtFields o, g.check s.locked true v = some .cfgLocked := fun g hg => by
    have hacc := List.all_eq_true.1 (prtFields_locked ho) g hg
    simp [Fld.check, hlock, of_decide_eq_true hacc]
  have hall : ((prtFields o).all fun g => (g.check s.locked true v).isSome) = true := List.all_eq_true.2 fun g hg => by rw [hno g hg]; rfl
  have hput : putFields (fun g => (g.check s.locked true v).isNone) v (prtFields o) (s.word (0xC0000 + o)) = s.word (0xC0000 + o) :=
    putFields_none _ _ _ (fun g hg => by simp only [hno g hg]; rfl) _
  simp only [State.perturb, hput, hall, if_true]

theorem tellFields_words (s : State) (a : Nat) (v : Word) (es : List (Option Ev)) : (s.tellFields a v es).words = s.words :=
  each_keeps State.words (fun t _ => when_keeps State.words (f := fun u => u.cfgEvent _ a v) (fun _ => rfl) t _) s _

/-- A register word whose place is open may take any value. -/
theorem stays_setWord_open {ω : Prop} {a : Nat} {w : Word} (h : Stays σ (ω, False) s) : Stays σ (ω, False) (s.setWord a w) :=
  have ⟨hσ, hw, _⟩ := h
  ⟨hσ, fun h1 => setWord_wordsOk (hw h1) a w, fun _ => False.elim⟩

/-- A perturbation that DEPLOYED closes: there nothing is taken, and elsewhere only a block in service answers. -/
theorem Lawful.lockedPerturb (h : Lawful s) {o : Nat} {v : Word} {f : State → State} (ho : prtLocked.contains o = true)
    (hf : ∀ t, Stays (standing s) (WordsOk s, False) t → Stays (standing s) (WordsOk s, False) (f t)) : LawfulNext (.next (s.perturb o v f)) := by
  refine lawfulNext ?_
  by_cases hlock : s.locked = true
  · rw [perturb_locked ho hlock]
    refine lawful_ite (fun _ => h) fun _ => ?_
    have hsame : (s.tellFields (0xC0000 + o) v ((prtFields o).map fun g => g.check s.locked true v)).word (0xC0000 + o) = s.word (0xC0000 + o) :=
      congrArg (fun r : RegFile => (r.find _).getD _) (tellFields_words s _ v _)
    rw [← hsame]
    exact h.keeps (stays_setWord_same (stays_tellFields (stays_refl s)))
  · refine lawful_ite (fun _ => h) fun hans => ?_
    have hready : s.boot.ready = true := answers_ready (by simpa using hans)
    have hst : s.lcs.st ≠ .deployed := by simpa [State.locked] using hlock
    have hs : Stays (standing s) (WordsOk s, False) s := ⟨rfl, id, fun _ => False.elim⟩
    have hfree : ∀ u, Stays (standing s) (WordsOk s, False) u → Lawful u := fun u hu =>
      lawful_of_stays hu h.words h.ok fun hb => hb.elim (fun hr => Bool.false_ne_true (hr.symm.trans hready)) hst
    exact lawful_ite (fun _ => hfree _ (stays_setWord_open (stays_tellFields hs))) fun _ =>
      hfree _ (hf _ (stays_when (stays_setWord_open (stays_tellFields hs)) fun _ h => stays_raise h))

/-! ## Every command -/

theorem stays_relko (h : Stays σ π s) (l : Lookout) : Stays σ π { s with lko := l } := stays_frame h

theorem Lawful.exec (h : Lawful s) (c : Instr) : LawfulNext (exec c s) :=
  have hs : Stays (standing s) (ground s) s := stays_refl s
  match c with
  | .registerWrite .. => h.keepsNext (stays_execRegisterWrite hs)
  | .wideLowWordRead .. => h.keepsNext (stays_next (stays_ite (stays_frame hs) hs))
  | .snapshotFracRead .. => h.keepsNext (stays_execSnapshotFracRead hs)
  | .lastEventRead => h.keepsNext (stays_next (stays_ite hs (stays_each hs fun _ _ h => stays_frame h)))
  | .markBeacon => h.execMarkBeacon
  | .beaconArrival .. => h.keepsNext (stays_execBeaconArrival hs)
  | .ridgeCounterReload .. => h.keepsNext (stays_next (stays_ite hs (stays_modCol hs)))
  | .ridgeCountWrap => h.keepsNext (stays_next (stays_ite (stays_modRdg hs rfl) hs))
  | .commandReceive .. => h.keepsNext (stays_next (stays_ite hs (stays_when (stays_modCol hs) fun _ h => stays_raise h)))
  | .fieldReport .. => h.keepsNext (stays_execFieldReport hs)
  | .mirrorRecord => h.keepsNext (stays_execMirrorRecord hs)
  | .mirrorLate => h.keepsNext (stays_execMirrorLate hs)
  | .selfCheckFailure => h.keepsNext (stays_next (stays_frame hs))
  | .summitTakeover => h.keepsNext (stays_execSummitTakeover hs)
  | .swap => h.keepsNext (stays_next (stays_take hs fun _ h => stays_ite h (stays_frame h)))
  | .standbyLost .. => h.keepsNext (stays_execStandbyLost hs)
  | .summitLost .. => h.keepsNext (stays_next (stays_ite hs (stays_frame (stays_frame (stays_record hs)))))
  | .colFailover .. => h.keepsNext (stays_execColFailover hs)
  | .refEdgeLoss .. => h.execRefEdgeLoss _
  | .freqGate .. => h.execFreqGate _ _
  | .safeCapLift => h.keepsNext (stays_next (stays_ite (stays_modRdg hs rfl) hs))
  | .holdoverExpired => h.keepsNext (stays_next (stays_ite (stays_raise (stays_refFlag (stays_modRdg hs rfl))) hs))
  | .rootUnlock => h.execRootUnlock
  | .revertSwitch => h.keepsNext (stays_execRevertSwitch hs)
  | .refSwitchRequest => h.keepsNext (stays_next (stays_take hs fun _ h => stays_modRdg h rfl))
  | .requestedSwitch => h.keepsNext (stays_execRequestedSwitch hs)
  | .spineFault .. => h.keepsNext (stays_next (stays_spineFails hs))
  | .spineSwitch .. => h.keepsNext (stays_execSpineSwitch hs)
  | .spineRecover .. => h.keepsNext (stays_next (stays_modCol hs))
  | .spineRequest .. => h.keepsNext (stays_next (stays_take hs fun _ h => stays_modCol h))
  | .loopCompare .. => h.keepsNext (stays_execLoopCompare hs)
  | .acqTimeout .. => h.keepsNext (stays_next (stays_ite (stays_spurFails (stays_raise (stays_modSpur hs))) hs))
  | .spurEdge .. => h.keepsNext (stays_execSpurEdge hs)
  | .noticeDelivery .. => h.keepsNext (stays_next (by split; exacts [hs, stays_ite hs (stays_ite (stays_notice hs) (stays_modSad hs))]))
  | .droopCrossing .. => h.keepsNext (stays_next (stays_modSpur hs))
  | .tallyMark .. => h.keepsNext (stays_execTallyMark hs)
  | .commit .. => h.keepsNext (stays_execCommit hs)
  | .stage .. => h.keepsNext (stays_next (stays_each hs fun _ _ h => stays_stageAt h))
  | .arm .. => h.keepsNext (stays_execArm hs)
  | .cancel .. => h.keepsNext (stays_next (stays_requests (stays_each hs fun _ _ h => stays_cancelAt h)))
  | .discard => h.keepsNext (stays_next (stays_frame hs))
  | .discardGroup .. => h.keepsNext (stays_next (stays_frame hs))
  | .stageSet => h.keepsNext (stays_next (stays_ite hs (by split; exacts [stays_renew hs, stays_ite (stays_dropStep hs) (stays_stageNext hs)])))
  | .lastReevaluation => h.keepsNext (stays_next (by split; exacts [hs, stays_renew hs]))
  | .armDecision => h.keepsNext (stays_execArmDecision hs)
  | .armRefusedAll => h.keepsNext (stays_execArmRefusedAll hs)
  | .setAppliedReport => h.keepsNext (stays_next (by split; exacts [hs, stays_completeSet hs]))
  | .bulkWord .. => h.keepsNext (stays_execBulkWord hs)
  | .saddleMeasure .. => h.keepsNext (stays_execSaddleMeasure hs)
  | .saddleDisable .. => h.keepsNext (stays_next (stays_take hs fun _ h => stays_modSad h))
  | .spareTrack .. => h.keepsNext (stays_next (stays_ite hs (stays_ite (stays_ite hs (stays_modSpur (stays_modCol hs))) (stays_ite (stays_track hs) hs))))
  | .spareAligned .. => h.keepsNext (stays_next (stays_ite (stays_modCol hs) hs))
  | .spareHandover .. => h.keepsNext (stays_execSpareHandover hs)
  | .spareForced .. => h.keepsNext (stays_next (stays_ite (stays_forceOver hs) hs))
  | .spurFailed .. => h.keepsNext (stays_execSpurFailed hs)
  | .faultFence .. => h.keepsNext (stays_next (stays_ite hs (stays_modSpur hs)))
  | .borrowQuietMark .. => h.keepsNext (stays_execBorrowQuietMark hs)
  | .borrowStart .. => h.keepsNext (stays_execBorrowStart hs)
  | .borrowRelease .. => h.keepsNext (stays_execBorrowRelease hs)
  | .intentAnnounce .. => h.keepsNext (stays_next (stays_ite hs (stays_modSpur (stays_modSpur hs))))
  | .holdExpiry .. => h.keepsNext (stays_next (stays_ite (stays_modSpur hs) hs))
  | .checksumFrame .. => h.keepsNext (stays_next (stays_ite hs (stays_modSpur hs)))
  | .rateWindowEnd .. => h.keepsNext (stays_next (stays_ite (stays_modSpur (stays_examine hs)) hs))
  | .chkHoldExpiry .. => h.keepsNext (stays_next (stays_ite (stays_baseMoved (stays_modSpur hs)) hs))
  | .sparingNotice .. => h.keepsNext (stays_execSparingNotice hs)
  | .gradeCompute => h.keepsNext (stays_next (stays_ite hs (stays_frame (stays_mapSpurs hs))))
  | .ceilingWrite .. => h.keepsNext (stays_next (stays_ite (stays_writeCeil hs) hs))
  | .nudge => h.keepsNext (stays_next (stays_take hs fun _ h => stays_startRead h))
  | .poll => h.keepsNext (stays_next (stays_ite hs (stays_startRead hs)))
  | .controlBlockRead .. => h.keepsNext (stays_execControlBlockRead hs)
  | .descriptorFetch .. => h.keepsNext (stays_next (stays_ite hs (stays_send (stays_frame (stays_send hs)))))
  | .hostReadErr .. => h.keepsNext (stays_next (stays_cancelPlan (stays_frame (stays_closeIncident (stays_incident (stays_raise hs))))))
  | .completionWrite => h.keepsNext (stays_execCompletionWrite hs)
  | .eventRecord => h.keepsNext (stays_next (by split; exacts [hs, stays_repeats (stays_writeEvent (stays_frame hs))]))
  | .ringEnable => h.keepsNext (stays_execRingEnable hs)
  | .ringDisable => h.keepsNext (stays_execRingDisable hs)
  | .ringDisableDone => h.keepsNext (stays_next (stays_ite hs (stays_send (stays_frame hs))))
  | .bdtLoad => h.keepsNext (stays_next (stays_take hs fun _ h => stays_ite (stays_cfgEvent h) (stays_send (stays_frame h))))
  | .bdtReadDone .. => h.keepsNext (stays_next (stays_ite hs (by split; exacts [stays_raise (stays_frame hs), stays_takeTable hs])))
  | .setStep => h.keepsNext (stays_next (stays_process hs fun _ _ _ h => stays_joinsDomain h))
  | .setLadder => h.keepsNext (stays_next (stays_process hs fun _ _ _ h => stays_joinsDomain h))
  | .formatPhase => h.keepsNext (stays_next (stays_process hs fun _ _ _ h => stays_joinsDomain h))
  | .waitSync => h.keepsNext (stays_next (stays_process hs fun _ _ _ h => stays_modPlan h))
  | .condBegin => h.keepsNext (stays_execCondBegin hs)
  | .condEnd => h.keepsNext (stays_execCondEnd hs)
  | .budget => h.keepsNext (stays_next (stays_process hs fun _ _ _ h => stays_frame h))
  | .calWindow => h.keepsNext (stays_next (stays_process hs fun _ _ _ h => have hu := stays_frame h; stays_ite hu (stays_schedule hu)))
  | .measure => h.keepsNext (stays_next (stays_process hs fun _ _ _ h => stays_frame h))
  | .fence => h.keepsNext (stays_next (stays_process hs fun _ _ _ h => stays_joins h))
  | .unfence => h.keepsNext (stays_next (stays_process hs fun _ _ _ h => stays_ite (stays_closeOut (stays_finish h)) (stays_joins h)))
  | .domainMap => h.keepsNext (stays_next (stays_process hs fun _ _ _ h => stays_joins h))
  | .marker => h.keepsNext (stays_next (stays_process hs fun _ _ _ h => stays_closeOut (stays_modPlan h)))
  | .nop => h.keepsNext (stays_execNop hs)
  | .undefinedDescriptor => h.keepsNext (stays_next (stays_process hs fun _ _ _ h => h))
  | .planIdle => h.keepsNext (stays_next (stays_ite hs (stays_raise (stays_baseMoved (stays_rebind (stays_patchFab hs))))))
  | .profileWrite .. => h.keepsNext (stays_execProfileWrite hs)
  | .basicRaise => h.keepsNext (stays_next (stays_ite hs (stays_ite hs (stays_stageFormed (stays_modPlan hs)))))
  | .syncRead => h.keepsNext (stays_next (stays_ite hs (stays_modPlan (stays_each hs fun _ _ h => stays_send h))))
  | .syncReply .. => h.keepsNext (stays_next (stays_ite hs (stays_each (stays_readWait (stays_modPlan hs)) fun _ _ h => stays_readGroup h)))
  | .waitTimeout => h.keepsNext (stays_execWaitTimeout hs)
  | .groupDeadline .. => h.keepsNext (stays_next (stays_ite hs (stays_raise (stays_settleGroup (stays_resolve hs)))))
  | .windowCommand => h.keepsNext (stays_execWindowCommand hs)
  | .calWindowOpen => h.keepsNext (stays_next (by split; exacts [hs, stays_frame (stays_mapSads (stays_mapSpurs hs))]))
  | .calExcursion .. => h.keepsNext (stays_next (stays_ite hs (stays_modSpur hs)))
  | .calLoopRestore => h.keepsNext (stays_next (stays_ite hs (stays_mapSpurs (stays_frame hs))))
  | .calPlausibility .. => h.keepsNext (stays_execCalPlausibility hs)
  | .calApply => h.keepsNext (stays_execCalApply hs)
  | .calWindowClose => h.keepsNext (stays_next (by split; exacts [hs, stays_ite hs (stays_frame (stays_mapSpurs hs))]))
  | .calRecompute => h.keepsNext (stays_execCalRecompute hs)
  | .trimApply .. => h.keepsNext (stays_execTrimApply hs)
  | .calHoldRise .. => h.keepsNext (stays_next (stays_ite (stays_modSpur hs) hs))
  | .gapStepDone .. => h.keepsNext (stays_execGapStepDone hs)
  | .gapStepAbort .. => h.keepsNext (stays_next (by split; exacts [hs, stays_ite hs (stays_modSpur (stays_frame hs))]))
  | .calrefGate .. => h.keepsNext (stays_next (stays_ite hs (stays_setTraced (stays_when (stays_frame hs) fun _ h => stays_raise h))))
  | .calrefLost => h.keepsNext (stays_next (stays_setTraced (stays_frame hs)))
  | .calWincfgWrite .. => h.keepsNext (stays_execCalWincfgWrite hs)
  | .nativeEnable => h.keepsNext (stays_next (stays_take hs fun _ h => stays_ite h (stays_startWindows (stays_frame (stays_setField h)))))
  | .sensorConversion .. => h.keepsNext (stays_execSensorConversion hs)
  | .save => h.keepsNext (stays_next (stays_take hs fun _ h => stays_ite h (stays_frame h)))
  | .cairnSave .. => h.keepsNext (stays_next (stays_flashStep hs))
  | .saveF .. => h.keepsNext (stays_execSaveF hs)
  | .lookoutEdge .. => h.keepsNext (stays_execLookoutEdge hs)
  | .disarm .. => h.keepsNext (stays_next (stays_take hs fun _ h => stays_ite (stays_endMeasure h) h))
  | .measureTimeout .. => h.keepsNext (stays_next (stays_ite (stays_endMeasure hs) hs))
  | .todTick .. => h.keepsNext (stays_next (stays_ite hs (stays_frame (stays_ite (stays_frame hs) (stays_frame hs)))))
  | .todSnapshot .. => h.keepsNext (stays_next (stays_ite hs (stays_send (stays_frame (stays_frame (stays_applyStep (stays_applyTodSet hs)))))))
  | .set => h.keepsNext (stays_next (stays_take hs fun _ h => stays_frame h))
  | .step => h.keepsNext (stays_next (stays_take hs fun _ h => stays_frame h))
  | .slew => h.keepsNext (stays_next (stays_take hs fun _ h => stays_frame h))
  | .ppsInMissing => h.keepsNext (stays_next (stays_ite (stays_raise (stays_frame hs)) hs))
  | .loErrorMeasure .. => h.keepsNext (stays_next (by split; exacts [stays_ite (stays_frame hs) hs, hs]))
  | .lookoutDensity .. => h.keepsNext (stays_execLookoutDensity hs)
  | .timerUnlock => h.keepsNext (stays_next (stays_ite hs (stays_raise (stays_relko (stays_each hs fun _ _ h => stays_endMeasure h) _))))
  | .lookoutLost => h.keepsNext (stays_next (stays_ite hs (stays_raise (stays_frame hs))))
  | .start => h.keepsNext (stays_execStart hs)
  | .abort => h.keepsNext (stays_next (stays_take hs fun _ h => stays_bistStop h))
  | .bistPatternsDone .. => h.keepsNext (stays_execBistPatternsDone hs)
  | .bistEnvAbort .. => h.keepsNext (stays_next (stays_ite hs (stays_ite (stays_ite hs (stays_frame hs)) (stays_ite (stays_bistAbort hs) hs))))
  | .bistReturn => h.keepsNext (stays_execBistReturn hs)
  | .bistPorRepeat .. => h.keepsNext (stays_next (stays_ite (stays_frame hs) hs))
  | .incidentOpen .. => h.keepsNext (stays_execIncidentOpen hs)
  | .errorStorm => h.keepsNext (stays_execErrorStorm hs)
  | .fatalEvent => h.keepsNext (stays_execFatalEvent hs)
  | .clear => h.keepsNext (stays_next (stays_take hs fun _ h => stays_ite (stays_baseMoved (stays_frame h)) (stays_cfgEvent h)))
  | .spur .. => h.keepsNext (stays_execSpur hs)
  | .inst .. => h.keepsNext (stays_next (stays_take hs fun _ h => stays_ite (stays_modCol h) (stays_cfgEvent h)))
  | .avsSlot .. => h.keepsNext (stays_execAvsSlot hs)
  | .avsReply .. => h.keepsNext (stays_execAvsReply hs)
  | .regLinkFail .. => h.keepsNext (stays_execRegLinkFail hs)
  | .governorEval => h.keepsNext (stays_execGovernorEval hs)
  | .thermalEval => h.keepsNext (stays_next (stays_ite hs (stays_each (stays_frame hs) fun _ _ h => stays_thermalOne h)))
  | .trip1 => h.keepsNext (stays_execTrip1 hs)
  | .trip2 => h.keepsNext (stays_execTrip2 hs)
  | .trip3 => h.keepsNext (stays_next (stays_ite hs (stays_when (stays_frame (stays_frame hs)) fun _ h => stays_raise h)))
  | .tripRelease .. => h.execTripRelease _
  | .governorResume => h.keepsNext (stays_next (by split; exacts [hs, stays_ite (stays_frame hs) hs]))
  | .sup0 => lawful_execSup0 s
  | .sup1 .. => h.execSup1 _
  | .holdEntry => h.keepsNext (stays_next (stays_takeReq hs fun _ h => stays_ite (stays_cfgEvent h) (stays_ite h (stays_enterHold h))))
  | .holdExit => h.keepsNext (stays_execHoldExit hs)
  | .parkEntry => h.execParkEntry
  | .parkReady => h.execParkReady
  | .wake .. => lawfulNext (h.wakeBy _)
  | .powerUp => lawfulNext (lawful_powerUp s)
  | .blockReset => h.execBlockReset
  | .oscillatorSettled => h.execOscillatorSettled
  | .stage1Done => h.execStage1Done
  | .rootLocked .. => h.execRootLocked _ _ _ _
  | .bankFVerified .. => h.execBankFVerified _ _
  | .testSelectDone .. => h.execTestSelectDone _ _ _ _
  | .startPulse => h.execStartPulse
  | .firstMarkOfService => h.execFirstMarkOfService
  | .reset => h.keepsNext (stays_execReset hs)
  | .instanceSelfCheckDone .. => h.keepsNext (stays_next (stays_ite hs (stays_frame hs)))
  | .lcsChange .. => h.execLcsChange _
  | .req => h.execReq
  | .challengeIssued .. => h.execChallengeIssued _
  | .submit => h.execSubmit
  | .unlockVerdict .. => h.execUnlockVerdict _
  | .challengeExpired => h.keepsNext (stays_next (stays_ite (stays_frame hs) hs))
  | .relock => h.execRelock
  | .tapSegmentSet .. => h.execTapSegmentSet _
  | .stretchInjection .. => h.lockedPerturb rfl fun _ ht => stays_frame (stays_mapSpurs ht)
  | .injectionBurst => h.keepsNext (stays_next (by split; exacts [hs, stays_ite hs (stays_frame (stays_frame hs))]))
  | .falseDroop .. => h.lockedPerturb rfl fun _ ht => stays_mapSpurs ht
  | .extraSaddleDelay .. => h.lockedPerturb rfl fun _ ht => ht
  | .temperatureOverride .. => h.lockedPerturb rfl fun _ ht => ht
  | .fieldPowerOverride .. => h.lockedPerturb rfl fun _ ht => ht
  | .ringFlow .. => h.keepsNext (stays_next (stays_perturb hs rfl fun _ ht => ht))
  | .doorbellDelay .. => h.keepsNext (stays_next (stays_perturb hs rfl fun _ ht => ht))
  | .nopath => h.keepsNext (stays_next (stays_ite (stays_frame hs) hs))
  | .refEdgeReturn .. => h.keepsNext (stays_execRefEdgeReturn hs)
  | .calrefReturn => h.keepsNext (stays_next (stays_frame hs))
  | .timerRelock => h.keepsNext (stays_next (stays_frame hs))
  | .registerArm .. => h.keepsNext (stays_execRegisterArm hs)
  | .blkResetAssert => h.execBlkResetAssert

end

/-- Settles O59: the idle tick and every command keep a lawful state lawful, and taking a command off the queue leaves all that `Lawful` speaks of. -/
theorem everyStepKeepsDeployedShut : Obligations.EveryStepKeepsDeployedShut := by
  intro s t hw hstart hshut hstep
  have h : Lawful s := ⟨hw, hstart, hshut⟩
  have ht : Lawful t := by
    unfold step at hstep
    split at hstep
    · exact lawfulNext (h.keeps (stays_idleTick (stays_refl s))) t hstep
    · next c rest _ =>
      have htaken : Lawful { s with pending := rest } := h.keeps (stays_frame (stays_refl s))
      exact htaken.exec c t hstep
  exact ht.2

end Sys2Proof.Proofs
end

section
/-! Changes of the life cycle at the mark and before the start pulse, the unlock, the relock and test access (O54). -/

set_option Elab.async false

namespace Sys2Proof.Proofs

open Sys2Proof.Machine Sys2Proof.Safety Sys2Proof.Laws

/-! ## What a change of the life cycle leaves raised and stored -/

section

variable {e : EventRec} {c : Cairn} {s : State}

/-- An event waits, and the store is as given. -/
def WaitsWith (e : EventRec) (c : Cairn) (s : State) : Prop := e ∈ s.raised ∧ s.crn = c

theorem waitsWith_raise {ev kind idx d} (h : WaitsWith e c s) : WaitsWith e c (s.raise ev kind idx d) := ⟨List.mem_append_left _ h.1, h.2⟩

theorem waitsWith_bistStop {res} (h : WaitsWith e c s) : WaitsWith e c (s.bistStop res) := by
  unfold State.bistStop
  extract_lets lo t
  split
  · exact h
  · unfold State.bistAbort
    extract_lets b u v
    have hv : WaitsWith e c v := waitsWith_raise (s := u) h
    split
    · exact h
    · split
      · exact hv
      · split
        · exact hv
        · exact hv

theorem waitsWith_clearPrt {o : Nat} (h : WaitsWith e c s) : WaitsWith e c (s.clearPrt o) :=
  when_preserves (WaitsWith e c) (fun _ ht => waitsWith_raise ht) (t := s.setWord (0xC0000 + o) (resetWord (0xC0000 + o))) h _

theorem waitsWith_guardShadow {n : Nat} {hi : Bool} (h : WaitsWith e c s) : WaitsWith e c (s.guardShadow n hi) := by
  unfold State.guardShadow
  extract_lets
  split
  · exact h
  · exact h

theorem waitsWith_baseMoved (h : WaitsWith e c s) : WaitsWith e c s.baseMoved := h

theorem waitsWith_enterDeployed (h : WaitsWith e c s) : WaitsWith e c s.enterDeployed := by
  unfold State.enterDeployed
  extract_lets _ t u v w x y
  have hu : WaitsWith e c u := when_preserves (WaitsWith e c) (fun _ ht => waitsWith_bistStop ht) (t := t) h _
  have hv : WaitsWith e c v := each_preserves (WaitsWith e c) (fun _ _ ht => waitsWith_clearPrt ht) hu _
  have hy : WaitsWith e c y := hv
  clear_value y
  exact waitsWith_baseMoved (each_preserves (WaitsWith e c) (fun _ _ ht => each_preserves (WaitsWith e c) (fun _ _ ht => waitsWith_guardShadow ht) ht _) hy _)

end

section

variable {s : State} {new : LifeCycle}

/-- LCS_CHANGE told, with the unlock that was under way over. -/
def lcsTold (s : State) (new : LifeCycle) : State :=
  ({ s with lcs := { s.lcs with st := new, relock := false, asked := false, ustat := 0, chal := 0, expired := false } } : State).raise .lcsChange 0 s.summitIdx
    (le 1 (lcsCode s.lcs.st) ++ le 1 (lcsCode new))

/-- The store after a change that leaves PROVISIONED: a running SAVE_F is dropped (R499). -/
def Cairn.dropF (c : Cairn) : Cairn :=
  if c.saving && c.goal == 2 then { c with saveF := false, saving := false, f := { c.f with commit := none } } else { c with saveF := false }

theorem dropSaveF_crn (s : State) : s.dropSaveF.crn = Cairn.dropF s.crn := by
  by_cases h : (s.crn.saving && s.crn.goal == 2) = true
  · rw [Cairn.dropF, if_pos h]
    exact congrArg State.crn (if_pos h)
  · rw [Cairn.dropF, if_neg h]
    exact congrArg State.crn (if_neg h)

theorem waitsWith_dropSaveF {e : EventRec} {c : Cairn} (h : WaitsWith e c s) : WaitsWith e (Cairn.dropF c) s.dropSaveF := by
  refine ⟨?_, (dropSaveF_crn s).trans (congrArg Cairn.dropF h.2)⟩
  unfold State.dropSaveF
  extract_lets c
  split
  · exact List.mem_append_left _ h.1
  · exact h.1

/-- A move of R495's table raises LCS_CHANGE and, where it leaves PROVISIONED, drops SAVE_F. -/
theorem waitsWith_changeLcs (hmove : lcsMoves s.lcs.st new = true) :
    WaitsWith (s.event .lcsChange .info 0 s.summitIdx (le 1 (lcsCode s.lcs.st) ++ le 1 (lcsCode new))) (if s.lcs.st = .provisioned then Cairn.dropF s.crn else s.crn)
      (s.changeLcs new) := by
  have htold : WaitsWith (s.event .lcsChange .info 0 s.summitIdx (le 1 (lcsCode s.lcs.st) ++ le 1 (lcsCode new))) s.crn (lcsTold s new) :=
    ⟨List.mem_append_right _ (List.mem_singleton_self _), rfl⟩
  have heq : s.changeLcs new = if new = .deployed then (if s.lcs.st = .provisioned then (lcsTold s new).dropSaveF else lcsTold s new).enterDeployed
      else if s.lcs.st = .provisioned then (lcsTold s new).dropSaveF else lcsTold s new := if_neg (by simp [hmove])
  have hdrop : WaitsWith (s.event .lcsChange .info 0 s.summitIdx (le 1 (lcsCode s.lcs.st) ++ le 1 (lcsCode new))) (if s.lcs.st = .provisioned then Cairn.dropF s.crn else s.crn)
      (if s.lcs.st = .provisioned then (lcsTold s new).dropSaveF else lcsTold s new) := by
    split
    · exact waitsWith_dropSaveF htold
    · exact htold
  rw [heq]
  by_cases hnew : new = .deployed
  · rw [if_pos hnew]
    exact waitsWith_enterDeployed hdrop
  · rw [if_neg hnew]
    exact hdrop

/-! ## Changes at the mark and before the start pulse (R495) -/

theorem exec_lcsChange_waits (hstage : 3 ≤ s.boot.stage) (hrun : s.rdg.started = true) :
    exec (.lcsChange new) s = .next { s with lcs := { s.lcs with due := s.lcs.due ++ [new] } } :=
  congrArg Host.Outcome.next ((if_neg (by omega)).trans (if_pos hrun))

theorem exec_lcsChange_now (hstage : 3 ≤ s.boot.stage) (hrun : s.rdg.started = false) : exec (.lcsChange new) s = .next (s.changeLcs new) :=
  congrArg Host.Outcome.next ((if_neg (by omega)).trans (if_neg (by simp [hrun])))

/-- MARK_BEACON makes the changes that wait. -/
theorem exec_markBeacon_standing (hrun : s.rdg.started = true) (hlast : s.tick = 255) :
    Runs .markBeacon s fun t => ∃ x, standing t = { (standing s).relocked with pst := x } := by
  obtain ⟨x, hσ, -⟩ := stays_afterMark (stays_markBegun (stays_refl s))
  exact ⟨_, exec_markBeacon hrun (.inr hlast), x, hσ⟩

theorem Standing.relocked_report {σ : Standing} (hdue : σ.due = [new]) (hmove : lcsMoves σ.st new = true) (hlock : σ.relock = false) :
    σ.relocked = { σ with due := [] }.changed new := by
  simp [Standing.relocked, Standing.report, hdue, hlock, hmove]

theorem Standing.relocked_relock {σ : Standing} (hdue : σ.due = []) (hst : σ.st = .service) (hlock : σ.relock = true) :
    σ.relocked = { σ with due := [] }.changed .deployed := by
  simp [Standing.relocked, Standing.report, hdue, hlock, hst, lcsMoves]

theorem exec_markBeacon_report (hrun : s.rdg.started = true) (hlast : s.tick = 255) (hdue : s.lcs.due = [new]) (hmove : lcsMoves s.lcs.st new = true)
    (hlock : s.lcs.relock = false) : Runs .markBeacon s fun t => t.lcs.st = new ∧ t.lcs.due = [] ∧ t.lcs.ustat = 0 := by
  obtain ⟨t, hexec, x, hσ⟩ := exec_markBeacon_standing hrun hlast
  rw [Standing.relocked_report hdue hmove hlock] at hσ
  exact ⟨t, hexec, congrArg Standing.st hσ, congrArg Standing.due hσ, congrArg Standing.ustat hσ⟩

theorem exec_markBeacon_relock (hrun : s.rdg.started = true) (hlast : s.tick = 255) (hdue : s.lcs.due = []) (hst : s.lcs.st = .service)
    (hlock : s.lcs.relock = true) : Runs .markBeacon s fun t => t.lcs.st = .deployed ∧ t.lcs.relock = false := by
  obtain ⟨t, hexec, x, hσ⟩ := exec_markBeacon_standing hrun hlast
  rw [Standing.relocked_relock hdue hst hlock] at hσ
  exact ⟨t, hexec, congrArg Standing.st hσ, congrArg Standing.relock hσ⟩

theorem runs_lcsChange_now (hstage : 3 ≤ s.boot.stage) (hrun : s.rdg.started = false) (hmove : lcsMoves s.lcs.st new = true) :
    Runs (.lcsChange new) s fun t => t.lcs.st = new ∧ t.lcs.ustat = 0 ∧ t.lcs.relock = false ∧
      Raises s t .lcsChange .info 0 s.summitIdx (le 1 (lcsCode s.lcs.st) ++ le 1 (lcsCode new)) ∧
      (new = .deployed → t.lcs.segs = List.replicate 5 false ∧ (WordsOk s → ∀ o ∈ prtLocked, t.word (0xC0000 + o) = resetWord (0xC0000 + o))) ∧
      (s.lcs.st = .provisioned → s.crn.saving = true → s.crn.goal = 2 → t.crn.saving = false ∧ t.crn.f.commit = none) := by
  obtain ⟨hσ, -⟩ := stays_changeLcs hmove (stays_refl s)
  obtain ⟨htold, hcrn⟩ := waitsWith_changeLcs hmove
  refine ⟨_, exec_lcsChange_now hstage hrun, congrArg Standing.st hσ, congrArg Standing.ustat hσ, congrArg Standing.relock hσ, htold, fun hnew => ?_,
    fun hprov hsaving hgoal => ?_⟩
  · subst hnew
    obtain ⟨hdep, -, hshut⟩ := stays_changeLcs_deployed (ω := WordsOk s) hmove ⟨rfl, id, fun _ => False.elim⟩
    exact ⟨congrArg Standing.segs hdep, fun hw => hshut hw trivial⟩
  · rw [hcrn, if_pos hprov, Cairn.dropF, if_pos (by simp [hsaving, hgoal])]
    exact ⟨rfl, rfl⟩

end

/-! ## Unlock and relock (R501 to R503) -/

section

variable {s : State} (hans : s.answers 0xC0004 = true)

include hans

theorem exec_req : exec .req s = .next (if s.lcs.lockout then s.unlockFail 3 else if s.lcs.st ≠ .deployed then s.unlockFail 4
    else ({ s with lcs := { s.lcs with asked := true } } : State).send .secChallenge) :=
  congrArg Host.Outcome.next (take_rw hans ..)

theorem exec_submit : exec .submit s = .next (if s.lcs.lockout then s.unlockFail 3 else if s.lcs.ustat ≠ 1 then s.unlockFail 4
    else if s.lcs.expired || decide (challengeMarks < s.since s.lcs.issued) then s.unlockFail 2
    else ({ s with lcs := { s.lcs with ustat := 2 } } : State).send (.secVerify (s.word 0xC0014 ++ s.word 0xC0010))) :=
  congrArg Host.Outcome.next (take_rw hans ..)

theorem exec_relock : exec .relock s = .next (if s.lcs.st = .service then { s with lcs := { s.lcs with relock := true } }
    else if s.lcs.st = .deployed ∧ s.lcs.ustat = 2 then { s with lcs := { s.lcs with ustat := 0, chal := 0 } } else s) :=
  congrArg Host.Outcome.next (take_rw hans ..)

end

section

variable {s : State}

theorem unlockFail_raises (s : State) (reason : Nat) :
    Raises s (s.unlockFail reason) .unlockFail .degraded 0 s.summitIdx (le 1 reason ++ le 1 s.lcs.fails) :=
  List.mem_append_right _ (List.mem_singleton_self _)

theorem runs_unlockVerdict_wrong (hustat : s.lcs.ustat = 2) :
    Runs (.unlockVerdict false) s fun t => t.lcs.st = s.lcs.st ∧ t.lcs.ustat = 0 ∧ t.lcs.chal = 0 ∧ t.lcs.fails = min 3 (s.lcs.fails + 1) ∧
      (s.lcs.fails = 2 → t.lcs.lockout = true) ∧ (s.lcs.fails < 2 → t.lcs.lockout = s.lcs.lockout) ∧
      Raises s t .unlockFail .degraded 0 s.summitIdx (le 1 1 ++ le 1 (min 3 (s.lcs.fails + 1))) := by
  let n := min 3 (s.lcs.fails + 1)
  let u : State := { s with lcs := { s.lcs with fails := n, lockout := s.lcs.lockout || n == 3 } }
  have hexec : exec (.unlockVerdict false) s = .next (u.unlockFail 1) := congrArg Host.Outcome.next ((if_neg (by simp [hustat])).trans (if_neg (by decide)))
  refine ⟨_, hexec, rfl, rfl, rfl, rfl, fun hfails => ?_, fun hfails => ?_, unlockFail_raises u 1⟩
  · change (s.lcs.lockout || n == 3) = true
    simp [n, hfails]
  · have hn : (n == 3) = false := beq_false_of_ne (by omega)
    change (s.lcs.lockout || n == 3) = _
    rw [hn, Bool.or_false]

/-! ## Test access (R505) -/

theorem exec_tapSegmentSet_open (h : s.lcs.st ≠ .deployed) (g : Fin 5) :
    exec (.tapSegmentSet g) s = .next { s with lcs := { s.lcs with segs := setNth s.lcs.segs g true } } :=
  congrArg Host.Outcome.next (if_pos (by simp [State.locked, h]))

theorem exec_tapSegmentSet_denied (h : s.lcs.st = .deployed) (g : Fin 5) :
    exec (.tapSegmentSet g) s = .next (if s.lcs.denied = some s.mark then s
      else ({ s with lcs := { s.lcs with denied := some s.mark } } : State).raise .tapDenied 0 s.summitIdx (le 1 g)) :=
  congrArg Host.Outcome.next (if_neg (by simp [State.locked, h]))

end

/-- Settles O54: MARK_BEACON and the commands of the life cycle move `standing` as their lemmas say, and each other command is one update of the life cycle's state. -/
theorem lifeCycleUnlockRelockAndTap : Obligations.LifeCycleUnlockRelockAndTap := by
  refine ⟨fun s new => exec_lcsChange_waits, fun s new hrun _ hlast => exec_markBeacon_report hrun hlast, fun s hrun _ hlast => exec_markBeacon_relock hrun hlast,
    fun s new hstage hrun => ⟨fun hno => ?_, runs_lcsChange_now hstage hrun⟩, fun s hans => ⟨fun hlock hst => ?_, fun hlock => ?_, fun hlock hst => ?_,
      fun hlock hustat hexp hin => ?_, fun hlock hustat hlate => ?_, fun hlock hustat => ?_, fun hst => ?_, fun hst hustat => ?_, fun hst hdep => ?_⟩,
    fun s c hasked => congrArg Host.Outcome.next (if_pos hasked), fun s hustat => ⟨fun hrun => ?_, runs_unlockVerdict_wrong hustat⟩,
    fun s hustat => ⟨fun hlate => congrArg Host.Outcome.next (if_pos ⟨hustat, hlate⟩), fun hin => congrArg Host.Outcome.next (if_neg fun h => Nat.not_lt.2 hin h.2)⟩,
    fun s g => ⟨fun hst => exec_tapSegmentSet_open hst g, fun hst hden => ?_, fun hst hden => ?_⟩⟩
  · rw [exec_lcsChange_now hstage hrun, changeLcs_refused hno]
  · rw [exec_req hans, if_neg (by simp [hlock]), if_neg (by simp [hst])]
  · rw [Runs, exec_req hans, if_pos hlock]
    exact ⟨_, rfl, rfl, rfl, unlockFail_raises s 3⟩
  · rw [Runs, exec_req hans, if_neg (by simp [hlock]), if_pos hst]
    exact ⟨_, rfl, rfl, unlockFail_raises s 4⟩
  · rw [exec_submit hans, if_neg (by simp [hlock]), if_neg (by simp [hustat]), if_neg (by rw [hexp, Bool.false_or, decide_eq_true_eq]; exact Nat.not_lt.2 hin)]
  · rw [Runs, exec_submit hans, if_neg (by simp [hlock]), if_neg (by simp [hustat]), if_pos (by rw [Bool.or_eq_true]; exact hlate.imp_right fun h => decide_eq_true h)]
    exact ⟨_, rfl, rfl, rfl, unlockFail_raises s 2⟩
  · rw [Runs, exec_submit hans, if_neg (by simp [hlock]), if_pos hustat]
    exact ⟨_, rfl, unlockFail_raises s 4⟩
  · rw [exec_relock hans, if_pos hst]
  · rw [exec_relock hans, if_neg (by simp [hst]), if_pos ⟨hst, hustat⟩]
  · rw [exec_relock hans, if_neg hst, if_neg fun h => hdep h.1]
  · exact congrArg Host.Outcome.next ((if_neg (by simp [hustat])).trans ((if_pos rfl).trans (if_pos hrun)))
  · rw [Runs, exec_tapSegmentSet_denied hst, if_neg hden]
    exact ⟨_, rfl, rfl, rfl, List.mem_append_right _ (List.mem_singleton_self _)⟩
  · rw [exec_tapSegmentSet_denied hst, if_pos hden]

end Sys2Proof.Proofs
end

section
/-! Writes to the perturbation registers, what DEPLOYED refuses, and what a perturbation does (O55). -/

set_option Elab.async false

namespace Sys2Proof.Proofs

open Sys2Proof.Machine Sys2Proof.Safety Sys2Proof.Laws

/-! ## A word written back as it stands -/

theorem erase_of_find_none {r : RegFile} {a : Nat} (h : r.find a = none) : r.erase a = r := by
  induction r with
  | nil => rfl
  | cons p r ih =>
    obtain ⟨k, w⟩ := p
    by_cases hk : k = a
    · simp [RegFile.find, hk] at h
    · simp only [RegFile.find, if_neg hk] at h
      simp [RegFile.erase, hk, ih h]

theorem insert_of_find_some {b : Option Nat} {r : RegFile} (hs : RegFile.sortedFrom b r = true) {a : Nat} {w : Word} (h : r.find a = some w) :
    r.insert a w = r := by
  induction r generalizing b with
  | nil => cases h
  | cons p r ih =>
    obtain ⟨k, v⟩ := p
    have hrest : RegFile.sortedFrom (some k) r = true := by
      simp only [RegFile.sortedFrom, Bool.and_eq_true] at hs
      exact hs.2
    by_cases hk : k = a
    · subst hk
      have hw : v = w := by simpa [RegFile.find] using h
      simp [RegFile.insert, hw]
    · simp only [RegFile.find, if_neg hk] at h
      have hlt : ¬a < k := fun hlt => by simp [sortedFrom_find hrest (Nat.le_of_lt hlt)] at h
      simp [RegFile.insert, hlt, Ne.symm hk, ih hrest h]

theorem find_ne_dflt {d : Nat → Word} {r : RegFile} (hd : (r.all fun p => p.2 != d p.1) = true) {a : Nat} {w : Word} (h : r.find a = some w) : w ≠ d a := by
  induction r with
  | nil => cases h
  | cons p r ih =>
    obtain ⟨k, v⟩ := p
    simp only [List.all_cons, Bool.and_eq_true, bne_iff_ne] at hd
    by_cases hk : k = a
    · have hw : v = w := by simpa [RegFile.find, hk] using h
      rw [← hw, ← hk]
      exact hd.1
    · exact ih hd.2 (by simpa [RegFile.find, hk] using h)

theorem set_find_same {d : Nat → Word} {r : RegFile} (h : fileOk d r = true) (a : Nat) : r.set a (d a) ((r.find a).getD (d a)) = r := by
  simp only [fileOk, Bool.and_eq_true] at h
  obtain ⟨hsorted, hd⟩ := h
  cases hfind : r.find a with
  | none => exact (if_pos rfl).trans (erase_of_find_none hfind)
  | some w => exact (if_neg (find_ne_dflt hd hfind)).trans (insert_of_find_some hsorted hfind)

theorem setWord_word_self {s : State} (h : WordsOk s) (a : Nat) : s.setWord a (s.word a) = s :=
  congrArg (fun r : RegFile => { s with words := r }) (set_find_same h a)

/-! ## The registers of the unit (R511) -/

section

variable {s : State} {o : Nat} {v : Word} {f : State → State}

/-- The offsets of the perturbation registers. -/
def prtOffsets : List Nat := [0x20, 0x24, 0x28, 0x2C, 0x30, 0x40, 0x44]

theorem prtFields_apart (ho : o ∈ prtOffsets) : (prtFields o).Pairwise Apart := by
  simp only [prtOffsets, List.mem_cons, List.not_mem_nil, or_false] at ho
  rcases ho with rfl | rfl | rfl | rfl | rfl | rfl | rfl <;> decide

theorem prtFields_acc (ho : o ∈ prtOffsets) : ∀ g ∈ prtFields o, g.acc = .rwl ∧ o < 0x40 ∨ g.acc = .rw ∧ 0x40 ≤ o := by
  simp only [prtOffsets, List.mem_cons, List.not_mem_nil, or_false] at ho
  rcases ho with rfl | rfl | rfl | rfl | rfl | rfl | rfl <;> decide

theorem prtFields_some (ho : o ∈ prtOffsets) : ∃ g, g ∈ prtFields o := by
  simp only [prtOffsets, List.mem_cons, List.not_mem_nil, or_false] at ho
  rcases ho with rfl | rfl | rfl | rfl | rfl | rfl | rfl <;> exact ⟨_, List.mem_cons_self⟩

/-- The word of a register after a write whose fields all take effect. -/
def prtWord (s : State) (o : Nat) (v : Word) : Word := putFields (fun _ => true) v (prtFields o) (s.word (0xC0000 + o))

theorem bit_prtWord (ho : o ∈ prtOffsets) {g : Fld} (hg : g ∈ prtFields o) {i : Nat} (hi : Covers g i) : (prtWord s o v).bit i = v.bit i := by
  have hacc : g.acc ≠ .w1c := by
    intro hw
    rcases prtFields_acc ho g hg with ⟨h, -⟩ | ⟨h, -⟩ <;> exact absurd (h.symm.trans hw) (by decide)
  rw [prtWord, bit_putFields_inside (prtFields_apart ho) hg hi, if_neg hacc]

theorem bits_prtWord (ho : o ∈ prtOffsets) {g : Fld} (hg : g ∈ prtFields o) : (prtWord s o v).bits g.hi g.lo = v.bits g.hi g.lo :=
  bits_congr fun _ hi => bit_prtWord ho hg hi

/-- A write turns the perturbation on: with EN, or in a register without EN from 0. -/
def prtOn (s : State) (o : Nat) (v : Word) : Bool :=
  if o = 0x40 ∨ o = 0x44 then s.word (0xC0000 + o) == 0 && prtWord s o v != 0 else (prtWord s o v).bit 31 && v.bit 31

/-- The register written, and PERTURB_ON told. -/
def prtTaken (s : State) (o : Nat) (v : Word) : State :=
  (s.setWord (0xC0000 + o) (prtWord s o v)).when (prtOn s o v) fun u => u.raise .perturbOn 9 o (le 4 v.toNat)

theorem check_defined (ho : o ∈ prtOffsets) (hopen : s.locked = false ∨ 0x40 ≤ o) {g : Fld} (hg : g ∈ prtFields o)
    (hdef : g.defined (v.bits g.hi g.lo) = true) : g.check s.locked true v = none := by
  rcases prtFields_acc ho g hg with ⟨hacc, hlt⟩ | ⟨hacc, -⟩
  · simp [Fld.check, hacc, hopen.resolve_right (by omega), hdef]
  · simp [Fld.check, hacc, hdef]

/-- A write of defined values outside DEPLOYED, or to a register that DEPLOYED leaves open, takes every field. -/
theorem perturb_taken (ho : o ∈ prtOffsets) (hans : s.answers (0xC0000 + o) = true) (hopen : s.locked = false ∨ 0x40 ≤ o)
    (hdef : ∀ g ∈ prtFields o, g.defined (v.bits g.hi g.lo) = true) : s.perturb o v f = f (prtTaken s o v) := by
  have hcheck : ∀ g ∈ prtFields o, g.check s.locked true v = none := fun g hg => check_defined ho hopen hg (hdef g hg)
  have hput : putFields (fun g => (g.check s.locked true v).isNone) v (prtFields o) (s.word (0xC0000 + o)) = prtWord s o v := by
    rw [putFields_filter, List.filter_eq_self.2 fun g hg => by rw [hcheck g hg]; rfl]
    rfl
  have htell : s.tellFields (0xC0000 + o) v ((prtFields o).map fun g => g.check s.locked true v) = s := by
    have hnone : ∀ e, ((prtFields o).map fun g => g.check s.locked true v).contains (some e) = false := fun e => by
      simp only [List.contains_eq_mem, decide_eq_false_iff_not, List.mem_map, not_exists, not_and]
      exact fun g hg h => by simp [hcheck g hg] at h
    exact each_of_fixed (f := fun t e => t.when _ fun u => u.cfgEvent e (0xC0000 + o) v) (fun e => when_false (hnone e) s _) _
  have hsome : ((prtFields o).all fun g => (g.check s.locked true v).isSome) = false := by
    obtain ⟨g, hg⟩ := prtFields_some ho
    exact List.all_eq_false.2 ⟨g, hg, by simp [hcheck g hg]⟩
  simp only [State.perturb, hput, htell, hsome, hans, Bool.not_true, Bool.false_eq_true, if_false]
  rfl

theorem prtTaken_keeps {β : Type} (p : State → β) (s : State) (o : Nat) (v : Word)
    (h : ∀ u w r fa, p { u with words := w, raised := r, faults := fa } = p u := by exact fun _ _ _ _ => rfl) : p (prtTaken s o v) = p s :=
  (when_keeps p (f := fun u => u.raise .perturbOn 9 o (le 4 v.toNat)) (fun u => h u u.words _ _) _ _).trans (h s _ s.raised s.faults)

/-- Which Spurs a unit names rests on no register. -/
theorem hits_prtTaken (s : State) (o : Nat) (v : Word) (u n : Nat) : (prtTaken s o v).hits u n = s.hits u n := by
  simp only [State.hits, State.regionOf, prtTaken_keeps fun t => t.spur n, prtTaken_keeps fun t => t.col (n - 400)]

theorem prtTaken_words (s : State) (o : Nat) (v : Word) : (prtTaken s o v).words = (s.setWord (0xC0000 + o) (prtWord s o v)).words :=
  when_keeps State.words (f := fun u => u.raise .perturbOn 9 o (le 4 v.toNat)) (fun _ => rfl) _ _

theorem word_prtTaken (hok : WordsOk s) (a : Nat) : (prtTaken s o v).word a = if 0xC0000 + o = a then prtWord s o v else s.word a := by
  rw [← word_setWord hok, State.word, prtTaken_words]
  rfl

theorem prtTaken_raises (hon : prtOn s o v = true) : Raises s (prtTaken s o v) .perturbOn .info 9 o (le 4 v.toNat) := by
  rw [prtTaken, when_true hon]
  exact List.mem_append_right _ (List.mem_singleton_self _)

/-- The bit EN. -/
theorem prtFields_en (ho : o ∈ prtOffsets) (hlt : o < 0x40) : fldAll 31 31 .rwl ∈ prtFields o := by
  simp only [prtOffsets, List.mem_cons, List.not_mem_nil, or_false] at ho
  rcases ho with rfl | rfl | rfl | rfl | rfl | h | h
  iterate 5 decide
  all_goals omega

theorem prtOn_en (ho : o ∈ prtOffsets) (hlt : o < 0x40) (hen : v.bit 31 = true) : prtOn s o v = true := by
  have hbit : (prtWord s o v).bit 31 = true := (bit_prtWord ho (prtFields_en ho hlt) (by decide)).trans hen
  rw [prtOn, if_neg (by omega), hbit, hen]
  rfl

theorem prtOn_turned (ho : o ∈ prtOffsets) (hge : 0x40 ≤ o) (hold : s.word (0xC0000 + o) = 0) (hnew : prtWord s o v ≠ 0) : prtOn s o v = true := by
  have hno : o = 0x40 ∨ o = 0x44 := by
    simp only [prtOffsets, List.mem_cons, List.not_mem_nil, or_false] at ho
    omega
  rw [prtOn, if_pos hno, hold]
  simpa using hnew

/-- What DEPLOYED refuses of a write to an RWL register is told once, and nothing is taken (R496). -/
theorem perturb_refused (ho : o ∈ prtOffsets) (hlt : o < 0x40) (hans : s.answers (0xC0000 + o) = true) (hlock : s.locked = true) (hok : WordsOk s) :
    s.perturb o v f = s.cfgEvent .cfgLocked (0xC0000 + o) v := by
  have hlocked : prtLocked.contains o = true := by
    simp only [prtOffsets, List.mem_cons, List.not_mem_nil, or_false] at ho
    rcases ho with rfl | rfl | rfl | rfl | rfl | h | h
    iterate 5 rfl
    all_goals omega
  have hcheck : ∀ g ∈ prtFields o, g.check s.locked true v = some .cfgLocked := fun g hg => by
    rcases prtFields_acc ho g hg with ⟨hacc, -⟩ | ⟨-, hge⟩
    · simp [Fld.check, hacc, hlock]
    · omega
  have hmem : ∀ e, ((prtFields o).map fun g => g.check s.locked true v).contains (some e) = decide (e = .cfgLocked) := fun e => by
    rw [List.contains_eq_mem, decide_eq_decide, List.mem_map]
    constructor
    · rintro ⟨g, hg, he⟩
      exact (Option.some.inj ((hcheck g hg).symm.trans he)).symm
    · rintro rfl
      obtain ⟨g, hg⟩ := prtFields_some ho
      exact ⟨g, hg, hcheck g hg⟩
  have htell : s.tellFields (0xC0000 + o) v ((prtFields o).map fun g => g.check s.locked true v) = s.cfgEvent .cfgLocked (0xC0000 + o) v := by
    unfold State.tellFields State.each
    simp only [List.foldl_cons, List.foldl_nil, hmem]
    rfl
  have hkept : (s.cfgEvent .cfgLocked (0xC0000 + o) v).word (0xC0000 + o) = s.word (0xC0000 + o) := rfl
  rw [perturb_locked hlocked hlock, if_neg (by simp [hans]), htell, ← hkept]
  exact setWord_word_self (s := s.cfgEvent .cfgLocked (0xC0000 + o) v) hok _

theorem cfgEvent_prt (ho : o ∈ prtOffsets) (s : State) (ev : Ev) : s.cfgEvent ev (0xC0000 + o) v = s.raise ev 9 o (le 4 (0xC0000 + o) ++ le 4 v.toNat) := by
  have howner : s.ownerOf (0xC0000 + o) = (9, o) := by
    simp only [prtOffsets, List.mem_cons, List.not_mem_nil, or_false] at ho
    rcases ho with rfl | rfl | rfl | rfl | rfl | rfl | rfl <;> rfl
  rw [State.cfgEvent, howner]

end

/-! ## The seven commands (R507) -/

section

variable {s : State} {v : Word}

/-- The mark of the next burst, after STRETCH_INJECTION has begun the first. -/
def injectionSet (t : State) : State :=
  let w := t.word 0xC0020
  let u := t.startInjection
  { u with lcs := { u.lcs with injNext := if w.bit 31 && w.bits 11 0 != 0 then some (t.mark + BitVec.ofNat 40 (w.bits 11 0)) else none } }

/-- The detectors that FALSE_DROOP names set. -/
def droopSet (t : State) : State :=
  let w := t.word 0xC0024
  t.mapSpurs fun n x =>
    let hit := t.hits (w.bits 28 20) n
    { x with str := { x.str with
      fdNext := if w.bit 31 && hit then w.bits 9 0 else 0
      fdLevel := if hit then w.bits 30 29 else x.str.fdLevel
      fdQuad := if hit then w.bits 19 16 else x.str.fdQuad } }

/-- Each command writes its register and then does no more to the words and the events. -/
theorem exec_perturbation {o : Nat} {c : Instr} (hc : (o, c) ∈ [(0x20, Instr.stretchInjection v), (0x24, .falseDroop v), (0x28, .extraSaddleDelay v),
    (0x2C, .temperatureOverride v), (0x30, .fieldPowerOverride v), (0x40, .ringFlow v), (0x44, .doorbellDelay v)]) (s : State) :
    o ∈ prtOffsets ∧ ∃ f : State → State, (∀ t, (f t).words = t.words ∧ (f t).raised = t.raised) ∧ exec c s = .next (s.perturb o v f) := by
  simp only [List.mem_cons, List.not_mem_nil, or_false, Prod.mk.injEq] at hc
  rcases hc with ⟨rfl, rfl⟩ | ⟨rfl, rfl⟩ | ⟨rfl, rfl⟩ | ⟨rfl, rfl⟩ | ⟨rfl, rfl⟩ | ⟨rfl, rfl⟩ | ⟨rfl, rfl⟩
  · exact ⟨by decide, injectionSet, fun _ => ⟨rfl, rfl⟩, rfl⟩
  · exact ⟨by decide, droopSet, fun _ => ⟨rfl, rfl⟩, rfl⟩
  all_goals exact ⟨by decide, id, fun _ => ⟨rfl, rfl⟩, rfl⟩

theorem startInjection_at (s : State) (n : Fin 425) : (s.startInjection.spur n).str.injNext =
      (if (s.word 0xC0020).bit 31 && s.hits ((s.word 0xC0020).bits 28 20) n then (s.word 0xC0020).bits 19 12 else 0) ∧
    (s.startInjection.spur n).str.injAmount =
      (if s.hits ((s.word 0xC0020).bits 28 20) n then (s.word 0xC0020).bits 30 29 else (s.spur n).str.injAmount) := by
  rw [State.startInjection, spur_mapSpurs _ n.isLt]
  exact ⟨rfl, rfl⟩

/-- The fields of PRT_INJ as they stand after the write. -/
theorem runs_stretchInjection (hans : s.answers 0xC0020 = true) (hok : WordsOk s) (hopen : s.locked = false)
    (hdef : ∀ g ∈ prtFields 0x20, g.defined (v.bits g.hi g.lo) = true) (hen : v.bit 31 = true) :
    Runs (.stretchInjection v) s fun t => (∀ n : Fin 425, (s.hits (v.bits 28 20) n = true → (t.spur n).str.injNext = v.bits 19 12 ∧ (t.spur n).str.injAmount = v.bits 30 29) ∧
      (s.hits (v.bits 28 20) n = false → (t.spur n).str.injNext = 0)) ∧
      (v.bits 11 0 ≠ 0 → t.lcs.injNext = some (s.mark + BitVec.ofNat 40 (v.bits 11 0))) ∧ (v.bits 11 0 = 0 → t.lcs.injNext = none) := by
  have ho : 0x20 ∈ prtOffsets := by decide
  let t := prtTaken s 0x20 v
  have hword : t.word 0xC0020 = prtWord s 0x20 v := (word_prtTaken hok _).trans (if_pos rfl)
  have hbit : (t.word 0xC0020).bit 31 = true := by rw [hword, bit_prtWord ho (g := fldAll 31 31 .rwl) (by decide) (by decide), hen]
  have hamount : (t.word 0xC0020).bits 30 29 = v.bits 30 29 := by rw [hword]; exact bits_prtWord ho (g := ⟨30, 29, .rwl, 1, 3⟩) (by decide)
  have hunit : (t.word 0xC0020).bits 28 20 = v.bits 28 20 := by rw [hword]; exact bits_prtWord ho (g := unitFld 28 20) (by decide)
  have hedges : (t.word 0xC0020).bits 19 12 = v.bits 19 12 := by rw [hword]; exact bits_prtWord ho (g := ⟨19, 12, .rwl, 1, 255⟩) (by decide)
  have hperiod : (t.word 0xC0020).bits 11 0 = v.bits 11 0 := by rw [hword]; exact bits_prtWord ho (g := fldAll 11 0 .rwl) (by decide)
  have hmark : t.mark = s.mark := prtTaken_keeps State.mark s 0x20 v
  have hexec : exec (.stretchInjection v) s = .next (injectionSet t) :=
    congrArg Host.Outcome.next (perturb_taken (f := injectionSet) ho hans (.inl hopen) hdef)
  have hnext : (injectionSet t).lcs.injNext = if v.bits 11 0 != 0 then some (s.mark + BitVec.ofNat 40 (v.bits 11 0)) else none := by
    rw [injectionSet, hbit, hperiod, hmark, Bool.true_and]
  refine ⟨_, hexec, fun n => ?_, fun hp => by rw [hnext, if_pos (by simpa using hp)], fun hp => by rw [hnext, if_neg (by simp [hp])]⟩
  obtain ⟨hinj, hamt⟩ := startInjection_at t n
  have hhits : t.hits (v.bits 28 20) n = s.hits (v.bits 28 20) n := hits_prtTaken ..
  rw [hbit, hunit, hhits, hedges, Bool.true_and] at hinj
  rw [hunit, hhits, hamount] at hamt
  exact ⟨fun h => ⟨hinj.trans (if_pos h), hamt.trans (if_pos h)⟩, fun h => hinj.trans (if_neg (by simp [h]))⟩

theorem runs_injectionBurst {m : Mark} (hnext : s.lcs.injNext = some m) (hen : (s.word 0xC0020).bit 31 = true) (hm : m = s.mark) :
    Runs .injectionBurst s fun t => t.lcs.injNext = some (m + BitVec.ofNat 40 ((s.word 0xC0020).bits 11 0)) ∧
      ∀ n : Fin 425, s.hits ((s.word 0xC0020).bits 28 20) n = true → (t.spur n).str.injNext = (s.word 0xC0020).bits 19 12 := by
  have hexec : exec .injectionBurst s =
      .next { s.startInjection with lcs := { s.startInjection.lcs with injNext := some (m + BitVec.ofNat 40 ((s.word 0xC0020).bits 11 0)) } } := by
    change execInjectionBurst s = _
    simp only [execInjectionBurst, hnext]
    rw [if_neg (by simp [hen, hm])]
  refine ⟨_, hexec, rfl, fun n hhit => ?_⟩
  exact (startInjection_at s n).1.trans (if_pos (by rw [hen, hhit]; rfl))

theorem exec_injectionBurst_waits {m : Mark} (hnext : s.lcs.injNext = some m) (hm : m ≠ s.mark) : exec .injectionBurst s = .next s := by
  change execInjectionBurst s = _
  simp only [execInjectionBurst, hnext]
  rw [if_pos (by simp [hm])]

theorem runs_falseDroop (hans : s.answers 0xC0024 = true) (hok : WordsOk s) (hopen : s.locked = false)
    (hdef : ∀ g ∈ prtFields 0x24, g.defined (v.bits g.hi g.lo) = true) (hen : v.bit 31 = true) :
    Runs (.falseDroop v) s fun t => ∀ n : Fin 425, s.hits (v.bits 28 20) n = true → (t.spur n).str.fdNext = v.bits 9 0 ∧ (t.spur n).str.fdLevel = v.bits 30 29 ∧
      (t.spur n).str.fdQuad = v.bits 19 16 := by
  have ho : 0x24 ∈ prtOffsets := by decide
  let t := prtTaken s 0x24 v
  have hword : t.word 0xC0024 = prtWord s 0x24 v := (word_prtTaken hok _).trans (if_pos rfl)
  have hbit : (t.word 0xC0024).bit 31 = true := by rw [hword, bit_prtWord ho (g := fldAll 31 31 .rwl) (by decide) (by decide), hen]
  have hlevel : (t.word 0xC0024).bits 30 29 = v.bits 30 29 := by rw [hword]; exact bits_prtWord ho (g := ⟨30, 29, .rwl, 1, 3⟩) (by decide)
  have hunit : (t.word 0xC0024).bits 28 20 = v.bits 28 20 := by rw [hword]; exact bits_prtWord ho (g := unitFld 28 20) (by decide)
  have hquad : (t.word 0xC0024).bits 19 16 = v.bits 19 16 := by rw [hword]; exact bits_prtWord ho (g := fldAll 19 16 .rwl) (by decide)
  have hedges : (t.word 0xC0024).bits 9 0 = v.bits 9 0 := by rw [hword]; exact bits_prtWord ho (g := ⟨9, 0, .rwl, 1, 1023⟩) (by decide)
  refine ⟨droopSet t, congrArg Host.Outcome.next (perturb_taken (f := droopSet) ho hans (.inl hopen) hdef), fun n hhit => ?_⟩
  have hhits : t.hits (v.bits 28 20) n = true := (hits_prtTaken ..).trans hhit
  rw [droopSet, spur_mapSpurs _ n.isLt, hunit]
  exact ⟨(if_pos (by rw [hbit, hhits]; rfl)).trans hedges, (if_pos hhits).trans hlevel, (if_pos hhits).trans hquad⟩

theorem runs_fieldPowerOverride {f : Fin 25} (hans : s.answers 0xC0030 = true) (hok : WordsOk s) (hopen : s.locked = false) (hen : v.bit 31 = true)
    (hfield : v.bits 20 16 = f) : Runs (.fieldPowerOverride v) s fun t => t.power f = 1000000 * v.bits 15 0 ∧ ∀ k : Fin 25, k ≠ f → t.power k = t.railPower k := by
  have ho : 0x30 ∈ prtOffsets := by decide
  let t := prtTaken s 0x30 v
  have hdef : ∀ g ∈ prtFields 0x30, g.defined (v.bits g.hi g.lo) = true := by
    have hf := f.isLt
    have h31 : v.bits 31 31 < 2 := Nat.mod_lt _ (by decide)
    have h15 : v.bits 15 0 < 65536 := Nat.mod_lt _ (by decide)
    simp only [show prtFields 0x30 = [fldAll 31 31 .rwl, ⟨20, 16, .rwl, 0, 24⟩, fldAll 15 0 .rwl] from rfl, List.forall_mem_cons, fldAll, Fld.defined, hfield]
    refine ⟨?_, ?_, ?_, fun _ h => nomatch h⟩ <;> simp <;> omega
  have hword : t.word 0xC0030 = prtWord s 0x30 v := (word_prtTaken hok _).trans (if_pos rfl)
  have hbit : (t.word 0xC0030).bit 31 = true := by rw [hword, bit_prtWord ho (g := fldAll 31 31 .rwl) (by decide) (by decide), hen]
  have hunit : (t.word 0xC0030).bits 20 16 = f := by rw [hword, ← hfield]; exact bits_prtWord ho (g := ⟨20, 16, .rwl, 0, 24⟩) (by decide)
  have hpower : (t.word 0xC0030).bits 15 0 = v.bits 15 0 := by rw [hword]; exact bits_prtWord ho (g := fldAll 15 0 .rwl) (by decide)
  refine ⟨t, congrArg Host.Outcome.next (perturb_taken (f := id) ho hans (.inl hopen) hdef), ?_, fun k hk => ?_⟩
  · rw [State.power, hbit, hunit, hpower]
    exact if_pos (by simp)
  · rw [State.power, hbit, hunit]
    exact if_neg (by simpa using fun h => hk (Fin.ext h.symm))

theorem runs_temperatureOverride {n : Fin 425} (hans : s.answers 0xC002C = true) (hok : WordsOk s) (hopen : s.locked = false) (hen : v.bit 31 = true)
    (hdef : ∀ g ∈ prtFields 0x2C, g.defined (v.bits g.hi g.lo) = true) (hhit : s.hits (v.bits 24 16) n = true) :
    Runs (.temperatureOverride v) s fun t => t.tempOf n = fromTwos 16 (v.bits 15 0) := by
  have ho : 0x2C ∈ prtOffsets := by decide
  let t := prtTaken s 0x2C v
  have hword : t.word 0xC002C = prtWord s 0x2C v := (word_prtTaken hok _).trans (if_pos rfl)
  have hbit : (t.word 0xC002C).bit 31 = true := by rw [hword, bit_prtWord ho (g := fldAll 31 31 .rwl) (by decide) (by decide), hen]
  have hunit : (t.word 0xC002C).bits 24 16 = v.bits 24 16 := by rw [hword]; exact bits_prtWord ho (g := unitFld 24 16) (by decide)
  have htemp : (t.word 0xC002C).bits 15 0 = v.bits 15 0 := by rw [hword]; exact bits_prtWord ho (g := fldAll 15 0 .rwl) (by decide)
  have hhits : t.hits (v.bits 24 16) n = true := (hits_prtTaken ..).trans hhit
  have hover : t.sensOver n = some (fromTwos 16 (v.bits 15 0)) := by
    rw [State.sensOver, hbit, hunit, hhits, htemp]
    rfl
  refine ⟨t, congrArg Host.Outcome.next (perturb_taken (f := id) ho hans (.inl hopen) hdef), ?_⟩
  change t.temp2Of n / 2 = _
  rw [State.temp2Of, hover]
  exact Int.mul_ediv_cancel_left _ (by decide)

end

/-- Settles O55: a write of defined values is `prtTaken` and then what its command starts, and a refused one is the event alone. -/
theorem perturbationsOpenActAndStayShut : Obligations.PerturbationsOpenActAndStayShut := by
  refine ⟨fun s v o c hc hans => ?_, fun s v => runs_stretchInjection, fun s m hnext hen => ⟨runs_injectionBurst hnext hen, exec_injectionBurst_waits hnext⟩,
    fun s v => runs_falseDroop, fun s v f => runs_fieldPowerOverride, fun s v n => runs_temperatureOverride⟩
  obtain ⟨ho, f, hf, hexec⟩ := exec_perturbation hc s
  refine ⟨fun hok hopen hdef => ?_, fun hlock hlt hok _ => ?_⟩
  · rw [perturb_taken ho hans hopen hdef] at hexec
    obtain ⟨hwords, hraised⟩ := hf (prtTaken s o v)
    have hword : ∀ a, (f (prtTaken s o v)).word a = if 0xC0000 + o = a then prtWord s o v else s.word a := fun a => by
      rw [← word_prtTaken hok, State.word, hwords]
      rfl
    have hat : (f (prtTaken s o v)).word (0xC0000 + o) = prtWord s o v := (hword _).trans (if_pos rfl)
    have hraises : prtOn s o v = true → Raises s (f (prtTaken s o v)) .perturbOn .info 9 o (le 4 v.toNat) := fun hon => by
      rw [Raises, hraised]
      exact prtTaken_raises hon
    exact ⟨_, hexec, fun g hg => by rw [hat, bits_prtWord ho hg], fun a ha => (hword a).trans (if_neg ha.symm),
      fun hlt hen => hraises (prtOn_en ho hlt hen), fun hge hold hnew => hraises (prtOn_turned ho hge hold (hat ▸ hnew))⟩
  · rw [hexec, perturb_refused ho hlt hans hlock hok, cfgEvent_prt ho]

end Sys2Proof.Proofs
end

section
/-! The Summit copies: the standby lost, Summit lost at a Col, the reset of the other instance, NOPATH (O6). -/

set_option Elab.async false

namespace Sys2Proof.Proofs

open Sys2Proof.Machine Sys2Proof.Safety Sys2Proof.Laws

section

variable {s : State}

/-- The standby out of the way, and told. -/
def standbyGone (s : State) : State :=
  ({ s with role := { s.role with standbyOk := false, mirrors := [], mirrorNext := [], swap := false } } : State).raise .standbyLost 0 s.summitIdx
    (le 1 (if s.role.active then 0 else 1))

theorem exec_standbyLost {sc : Bool} (hok : s.role.standbyOk = true)
    (h : sc = true ∨ (s.rdg.started = true ∧ s.role.silent = false ∧ 16 ≤ s.since s.role.mirrorAt)) :
    exec (.standbyLost sc) s = .next (((standbyGone s).incident { cls := 1, sev := .degraded, ev := .standbyLost, unit := if s.role.active then 0 else 1 }).closeIncident 1
      (if s.role.active then 0 else 1)) :=
  congrArg Host.Outcome.next (if_neg (by rcases h with h | ⟨hrun, hact, hlate⟩ <;> simp [*]))

/-- The incident of the standby is taken and closed in the fault records alone. -/
theorem runs_standbyLost {sc : Bool} (hok : s.role.standbyOk = true)
    (h : sc = true ∨ (s.rdg.started = true ∧ s.role.silent = false ∧ 16 ≤ s.since s.role.mirrorAt)) :
    Runs (.standbyLost sc) s fun t => t.role.standbyOk = false ∧ t.role.mirrors = [] ∧ t.role.active = s.role.active ∧
      RaisedLast s t .standbyLost .degraded 0 s.summitIdx (le 1 (if s.role.active then 0 else 1)) := by
  have hkeeps : ∀ {β : Type} (p : State → β), (∀ u fl, p { u with faults := fl } = p u) → ∀ i c u, p (((standbyGone s).incident i).closeIncident c u) = p (standbyGone s) :=
    fun p hp i c u => (closeIncident_keeps p hp _ c u).trans (incident_keeps p hp _ i)
  have hrole := fun i c u => hkeeps State.role (fun _ _ => rfl) i c u
  refine ⟨_, exec_standbyLost hok h, congrArg Role.standbyOk (hrole ..), congrArg Role.mirrors (hrole ..), (congrArg Role.active (hrole ..)).trans rfl, ?_⟩
  exact (congrArg List.getLast? (hkeeps State.raised (fun _ _ => rfl) ..)).trans List.getLast?_concat

theorem exec_summitLost {f : Fin 25} (hrun : s.rdg.started = true) (hsilent : s.role.silent = true) (hnone : s.role.standbyOk = false) (hage : 16 ≤ (s.col f).beaconAge) :
    exec (.summitLost f) s = .next { (s.record f Ev.summitLost.code false true true).driveFatal 3 with
      faults := { ((s.record f Ev.summitLost.code false true true).driveFatal 3).faults with noStage := true } } :=
  congrArg Host.Outcome.next (if_neg (by simp [hrun, hsilent, hnone, hage]))

theorem runs_summitLost {f : Fin 25} (hrun : s.rdg.started = true) (hsilent : s.role.silent = true) (hnone : s.role.standbyOk = false) (hage : 16 ≤ (s.col f).beaconAge) :
    Runs (.summitLost f) s fun t => (t.col f).recValid = true ∧ (t.col f).recSummit = true ∧ (t.col f).recDrove = true ∧ t.boot.pinFatal = true := by
  refine ⟨_, exec_summitLost hrun hsilent hnone hage, ?_⟩
  have hcol : (s.record f Ev.summitLost.code false true true).col f = (s.col f).record Ev.summitLost.code false true true := col_modCol_self s f _
  change ((s.record f Ev.summitLost.code false true true).col f).recValid = true ∧ ((s.record f Ev.summitLost.code false true true).col f).recSummit = true ∧
    ((s.record f Ev.summitLost.code false true true).col f).recDrove = true ∧ true = true
  rw [hcol]
  exact ⟨rfl, Bool.or_true _, Bool.or_true _, rfl⟩

theorem exec_reset (hans : s.answers 0x908 = true) (hopen : s.locked = false) (htest : s.testOpen = true) (hidle : s.role.rstResult ≠ 1) :
    exec .reset s = .next { s with role := { s.role with rstResult := 1, rstMark := s.mark, standbyOk := false, mirrors := [], mirrorNext := [] } } :=
  congrArg Host.Outcome.next ((take_rwl_of_open hans hopen ..).trans (if_neg (by simp [htest, hidle])))

theorem exec_reset_locked (hans : s.answers 0x908 = true) (hlock : s.locked = true) : exec .reset s = .next (s.cfgEvent .cfgLocked 0x908 1#32) :=
  congrArg Host.Outcome.next (by simp [State.take, hans, hlock])

end

/-- Settles O6: each command is one update of the role or of a Col's record, as its equation says. -/
theorem summitCopiesFailAndReturn : Obligations.SummitCopiesFailAndReturn := by
  refine ⟨fun s sc => runs_standbyLost, fun s f => runs_summitLost, fun s => exec_reset, fun s hans hlock => ?_, fun s pass hrst hlate => ?_,
    fun s hgone => congrArg Host.Outcome.next (if_pos hgone), fun s hheard => congrArg Host.Outcome.next (if_neg (Nat.not_le.2 hheard))⟩
  · exact ⟨_, exec_reset_locked hans hlock, rfl, List.getLast?_concat⟩
  · exact congrArg Host.Outcome.next (if_neg (by simp [hrst, hlate]))

end Sys2Proof.Proofs
end

section
/-! What completions, the cancelled sets and the end of measurements leave alone: the part of the state that they never reach. -/

set_option Elab.async false

namespace Sys2Proof.Proofs

open Sys2Proof.Machine Sys2Proof.Safety Sys2Proof.Laws

section

variable {β : Type} (p : State → β) (s : State)
  (hcmpl : ∀ u q, p { u with hri := { u.hri with cmplQ := q } } = p u)
  (hplan : ∀ u l, p { u with plan := l } = p u)

include hcmpl hplan

theorem finish_keeps (e : FbEntry) (st : Status) (m : Mark) (k d : Nat) (b : Bool) : p (s.finish e st m k d b) = p s :=
  (hplan (s.complete _) _).trans (hcmpl s _)

theorem finishAll_keeps (es : List FbEntry) (st : Status) : p (s.finishAll es st) = p s := each_keeps p (fun t _ => finish_keeps p t hcmpl hplan ..) s es

theorem elim_finish_keeps (o : Option FbEntry) (st : FbEntry → Status) (m : Mark) (k d : Nat) (b : Bool) :
    p (o.elim s fun e => s.finish e (st e) m k d b) = p s := by
  cases o with
  | none => rfl
  | some e => exact finish_keeps p s hcmpl hplan ..

theorem closeMarkers_keeps : p s.closeMarkers = p s := by
  refine each_keeps p (fun t i => ?_) s _
  split
  · rfl
  · split
    · exact hplan t _
    · exact (hplan _ _).trans (finish_keeps p t hcmpl hplan ..)

theorem closeGroups_keeps : p s.closeGroups = p s := by
  refine each_keeps p (fun t k => ?_) s _
  dsimp only
  split
  · rfl
  · split
    · rfl
    · exact (hplan _ _).trans (elim_finish_keeps p t hcmpl hplan ..)

theorem closeOut_keeps : p s.closeOut = p s := (closeMarkers_keeps p _ hcmpl hplan).trans (closeGroups_keeps p s hcmpl hplan)

end

section

variable {β : Type} (p : State → β) (s : State)

theorem sendLane_keeps (hout : ∀ u o, p { u with out := o } = p u) (c : LaneCmd) : p (s.sendLane c) = p s := by
  unfold State.sendLane
  split
  · rfl
  · exact hout s _

theorem unstage_keeps (hout : ∀ u o, p { u with out := o } = p u) (hcols : ∀ u c, p { u with cols := c } = p u) (hplan : ∀ u l, p { u with plan := l } = p u)
    (c : CommitSet) : p (s.unstage c) = p s := by
  unfold State.unstage
  split
  · exact (hcols _ _).trans ((sendLane_keeps p _ hout _).trans (hplan s _))
  · rfl

end

/-! ## The end of a measurement -/

section

variable {β : Type} (p : State → β) (s : State)

theorem freeChan_keeps (hlko : ∀ u l, p { u with lko := l } = p u) (c : Nat) : p (s.freeChan c) = p s := by
  unfold State.freeChan
  extract_lets x t
  split
  · exact (hlko t _).trans (hlko s _)
  · exact hlko s _

variable (hlko : ∀ u l, p { u with lko := l } = p u) (hraise : ∀ u r f, p { u with raised := r, faults := f } = p u) (hout : ∀ u o, p { u with out := o } = p u)
  (hcmpl : ∀ u q, p { u with hri := { u.hri with cmplQ := q } } = p u) (hplan : ∀ u l, p { u with plan := l } = p u)

include hlko hraise hout hcmpl hplan

/-- The end of a measurement reaches its channels, the events, the messages and what waits for completions. -/
theorem endMeasure_keeps (c : Nat) (timeout closed : Bool) : p (s.endMeasure c timeout closed) = p s := by
  unfold State.endMeasure
  extract_lets x ok res reason t u v
  have ht : p t = p s := (hlko _ _).trans (freeChan_keeps p s hlko c)
  have hu : p u = p s := (when_keeps p (f := fun w => w.raise .strayStop 4 c (le 2 (min 65535 x.strays))) (fun w => hraise w _ _) t _).trans ht
  have hv : p v = p s := (when_keeps p (f := fun w => w.raise .edgeMissed 4 c (le 4 x.missed)) (fun w => hraise w _ _) u _).trans hu
  split
  · rfl
  · split
    · exact (closeOut_keeps p _ hcmpl hplan).trans ((elim_finish_keeps p (v.send _) hcmpl hplan ..).trans ((hout v _).trans hv))
    · exact (hraise v _ _).trans hv

theorem endMeasures_keeps : p s.endMeasures = p s := by
  refine each_keeps p (fun t c => ?_) s _
  split
  · exact (closeOut_keeps p _ hcmpl hplan).trans ((elim_finish_keeps p (t.freeChan c) hcmpl hplan ..).trans (freeChan_keeps p t hlko c))
  · exact endMeasure_keeps p t hlko hraise hout hcmpl hplan c false false

end

/-! ## Channels disarmed -/

section

variable {s : State} {k : Nat}

/-- A measurement is under way on a channel. -/
abbrev armedAt (k : Nat) (s : State) : Bool := (s.chan k).armed

theorem armedAt_modChan (i : Nat) {g : Channel → Channel} (hg : ∀ y, (g y).armed = y.armed) : armedAt k (s.modChan i g) = armedAt k s := by
  unfold armedAt
  rw [chan_modChan]
  split
  · exact hg _
  · rfl

theorem armedAt_freeChan (c : Nat) : armedAt k (s.freeChan c) = if c = k ∧ k < 6 then false else armedAt k s := by
  have hfirst : armedAt k (s.modChan c fun y => { y with armed := false, owner := .none }) = if c = k ∧ k < 6 then false else armedAt k s := by
    unfold armedAt
    rw [chan_modChan]
    split <;> rfl
  unfold State.freeChan
  extract_lets x t
  split
  · refine (armedAt_modChan _ ?_).trans hfirst
    exact fun _ => rfl
  · exact hfirst

theorem armedAt_endMeasure (c : Nat) (timeout closed : Bool) : armedAt k (s.endMeasure c timeout closed) = if c = k ∧ k < 6 then false else armedAt k s := by
  unfold State.endMeasure
  extract_lets x ok res reason t u v
  have ht : armedAt k t = if c = k ∧ k < 6 then false else armedAt k s := by
    refine (armedAt_modChan _ ?_).trans (armedAt_freeChan c)
    exact fun _ => rfl
  have hu : armedAt k u = _ := (when_keeps (armedAt k) (f := fun w => w.raise .strayStop 4 c (le 2 (min 65535 x.strays))) (fun _ => rfl) t _).trans ht
  have hv : armedAt k v = _ := (when_keeps (armedAt k) (f := fun w => w.raise .edgeMissed 4 c (le 4 x.missed)) (fun _ => rfl) u _).trans hu
  split
  · next hidle =>
    split
    · next hck =>
      obtain ⟨rfl, -⟩ := hck
      simpa using hidle
    · rfl
  · split
    · exact (closeOut_keeps (armedAt k) _ (fun _ _ => rfl) (fun _ _ => rfl)).trans ((elim_finish_keeps (armedAt k) (v.send _) (fun _ _ => rfl) (fun _ _ => rfl) ..).trans hv)
    · exact hv

/-- No channel is armed after entry to V2. -/
theorem endMeasures_disarms (s : State) (c : Fin 6) : armedAt c s.endMeasures = false := by
  have hstep : ∀ (t : State) (i k : Nat), armedAt k (match (t.chan i).armed, (t.chan i).owner with
      | true, .descriptor j => ((t.plan.entry j).elim (t.freeChan i) fun e => (t.freeChan i).finish e .cancelled s.mark 0 0 false).closeOut
      | _, _ => t.endMeasure i false false) = if i = k ∧ k < 6 then false else armedAt k t := fun t i k => by
    split
    · exact (closeOut_keeps (armedAt k) _ (fun _ _ => rfl) (fun _ _ => rfl)).trans
        ((elim_finish_keeps (armedAt k) (t.freeChan i) (fun _ _ => rfl) (fun _ _ => rfl) ..).trans (armedAt_freeChan i))
    · exact armedAt_endMeasure i false false
  refine each_establishes (Q := fun _ => True) (P := fun t => armedAt c t = false) (fun _ _ _ => trivial) (fun t i ht => ?_) (List.mem_range.2 c.isLt) (fun t _ => ?_) trivial
  · refine (hstep t i c).trans ?_
    split
    · rfl
    · exact ht
  · exact (hstep t c c).trans (if_pos ⟨rfl, c.isLt⟩)

end

/-! ## Entry to V1 (R470) -/

section

variable {s : State}

theorem startHold_keeps {β : Type} (p : State → β) (s : State) (hout : ∀ u o, p { u with out := o } = p u) (hcols : ∀ u c, p { u with cols := c } = p u)
    (hcmpl : ∀ u q, p { u with hri := { u.hri with cmplQ := q } } = p u) (hplan : ∀ u l, p { u with plan := l } = p u)
    (hbist : ∀ u b, p { u with bist := b } = p u) (hfab : ∀ u f l, p { u with fab := f, plan := l } = p u) (hrole : ∀ u r, p { u with role := r } = p u)
    (hgate : ∀ u g, p { u with boot := { u.boot with gateAt := g } } = p u) : p s.startHold = p s := by
  unfold State.startHold
  extract_lets gone ms t u _ v w
  have ht : p t = p s := each_keeps p (fun x c => (hplan _ _).trans (unstage_keeps p x hout hcols hplan c)) s gone
  have hu : p u = p s := (closeOut_keeps p _ hcmpl hplan).trans ((finishAll_keeps p t hcmpl hplan ms .cancelled).trans ht)
  have hv : p v = p s := (hbist u _).trans hu
  have hw : p w = p s := (hrole _ _).trans ((hrole _ _).trans ((hfab v _ _).trans hv))
  split
  · exact (hgate w _).trans hw
  · exact hw

theorem startHold_baseDue (s : State) : s.startHold.role.baseDue = true := by
  unfold State.startHold
  extract_lets gone ms t u _ v w
  split
  · rfl
  · rfl

theorem bistStop_idle (h : s.testRuns = false) (res : Nat) : s.bistStop res = s := if_pos (.inl (by simpa [State.testRuns] using h))

/-- V1 entry asked for, with a move under way. -/
def holdAsked (s : State) : State := { s with boot := { s.boot with req := 1, moving := true, gateAt := none } }

theorem enterHold_idle (h : s.testRuns = false) : s.enterHold = (holdAsked s).startHold := by
  have hstop : (holdAsked s).bistStop 6 = holdAsked s := bistStop_idle (s := holdAsked s) h 6
  have hruns : (holdAsked s).testRuns = false := h
  change (if ((holdAsked s).bistStop 6).testRuns then _ else ((holdAsked s).bistStop 6).startHold) = _
  rw [hstop, if_neg (by simp [hruns])]

/-- V1 entry with no test to end: the request taken, the base to be computed again, and nothing raised. -/
theorem enterHold_begins (h : s.testRuns = false) :
    s.enterHold.boot.req = 1 ∧ s.enterHold.boot.moving = true ∧ s.enterHold.role.baseDue = true ∧ s.enterHold.raised = s.raised := by
  rw [enterHold_idle h]
  refine ⟨?_, ?_, startHold_baseDue _, ?_⟩
  · exact startHold_keeps (fun t => t.boot.req) _ (fun _ _ => rfl) (fun _ _ => rfl) (fun _ _ => rfl) (fun _ _ => rfl) (fun _ _ => rfl) (fun _ _ _ => rfl) (fun _ _ => rfl) fun _ _ => rfl
  · exact startHold_keeps (fun t => t.boot.moving) _ (fun _ _ => rfl) (fun _ _ => rfl) (fun _ _ => rfl) (fun _ _ => rfl) (fun _ _ => rfl) (fun _ _ _ => rfl) (fun _ _ => rfl) fun _ _ => rfl
  · exact startHold_keeps State.raised _ (fun _ _ => rfl) (fun _ _ => rfl) (fun _ _ => rfl) (fun _ _ => rfl) (fun _ _ => rfl) (fun _ _ _ => rfl) (fun _ _ => rfl) fun _ _ => rfl

end

end Sys2Proof.Proofs
end

section
/-! Trips, supplies, V1, V2 and wake (O51). -/

set_option Elab.async false

namespace Sys2Proof.Proofs

open Sys2Proof.Machine Sys2Proof.Safety Sys2Proof.Laws

section

variable {s : State}

theorem getD_setNth_same {α : Type} {l : List α} {i : Nat} (h : i < l.length) (v d : α) : (setNth l i v).getD i d = v := by simp [setNth, h]

theorem not_parked_of_awake (h : s.awake = true) : s.boot.pst ≠ .v2 ∧ s.boot.pst ≠ .v3 := by simpa [State.awake] using h

/-! ## Trips (R468) -/

theorem thermTrip_awake (h : s.awake = true) (level rel : Nat) : s.thermTrip level rel = s.raise .thermTrip 4 0xFFFF (le 1 level ++ le 1 rel) := when_true h s _

/-- TRIP1 in force. -/
def trip1Set (s : State) : State := { s.setTrip 0 true with lko := { (s.setTrip 0 true).lko with trip1Rel := none } }

theorem exec_trip1 (hoff : s.lko.trips.getD 0 false = false) (hawake : s.awake = true) :
    exec .trip1 s = .next ((trip1Set s).safeGrants.raise .thermTrip 4 0xFFFF (le 1 1 ++ le 1 0)) := by
  obtain ⟨-, hv3⟩ := not_parked_of_awake hawake
  have hawake' : (trip1Set s).safeGrants.awake = true := (safeGrants_keeps State.awake _).trans hawake
  have hexec : exec .trip1 s = .next (if (trip1Set s).awake then (trip1Set s).safeGrants.thermTrip 1 0 else trip1Set s) :=
    congrArg Host.Outcome.next (if_neg (by rw [hoff]; simpa using hv3))
  have hawake₁ : (trip1Set s).awake = true := hawake
  rw [hexec, if_pos hawake₁, thermTrip_awake hawake']

theorem nth_safeGrants (s : State) {d : Nat} (hd : d < 8) :
    nth s.safeGrants.gov.gd d = min (nth s.gov.gd d) ((s.fab.dom d).fcode (s.fab.dom d).safe) := by
  unfold State.safeGrants
  extract_lets gd t
  have hgov : (t.each (s.fab.used.filter fun d => nth t.gov.gd d < nth s.gov.gd d) fun u d => u.govLimit 3 d (nth t.gov.gd d)).gov = t.gov :=
    each_keeps State.gov (f := fun u d => u.govLimit 3 d (nth t.gov.gd d)) (fun _ _ => rfl) t _
  change nth (t.each _ _).gov.gd d = _
  rw [hgov]
  change nth ((List.range 8).map fun d => min (nth s.gov.gd d) ((s.fab.dom d).fcode (s.fab.dom d).safe)) d = _
  simp [nth, hd]

theorem runs_trip1 (hlen : s.lko.trips.length = 3) (hoff : s.lko.trips.getD 0 false = false) (hawake : s.awake = true) : Runs .trip1 s fun t =>
    t.lko.trips.getD 0 false = true ∧ (∀ d < 8, nth t.gov.gd d = min (nth s.gov.gd d) ((s.fab.dom d).fcode (s.fab.dom d).safe)) ∧ t.role.baseDue = true ∧
    Raises s t .thermTrip .degraded 4 0xFFFF (le 1 1 ++ le 1 0) := by
  refine ⟨_, exec_trip1 hoff hawake, ?_, fun d hd => nth_safeGrants (trip1Set s) hd, rfl, ?_⟩
  · have hlko : (trip1Set s).safeGrants.lko = (trip1Set s).lko := safeGrants_keeps State.lko _
    change (trip1Set s).safeGrants.lko.trips.getD 0 false = true
    rw [hlko]
    exact getD_setNth_same (by omega) _ _
  · have hrdg : (trip1Set s).safeGrants.rdg = s.rdg := safeGrants_keeps State.rdg _
    rw [Raises, ← event_congr hrdg]
    exact List.mem_append_right _ (List.mem_singleton_self _)

theorem exec_trip2 (hoff : s.lko.trips.getD 1 false = false) (hready : s.boot.ready = true) (hpst : s.boot.pst = .v0) (hreq : s.boot.req = 0) :
    exec .trip2 s = .next ((s.setTrip 1 true).raise .thermTrip 4 0xFFFF (le 1 2 ++ le 1 0)).enterHold := by
  have hawake : s.awake = true := by simp [State.awake, hpst]
  have htrip : (s.setTrip 1 true).thermTrip 2 0 = (s.setTrip 1 true).raise .thermTrip 4 0xFFFF (le 1 2 ++ le 1 0) := thermTrip_awake (s := s.setTrip 1 true) hawake 2 0
  rw [← htrip]
  exact congrArg Host.Outcome.next ((if_neg (by rw [hoff, hpst]; decide)).trans (if_pos (by simp [hready, hawake, hreq])))

theorem exec_trip3 (hoff : s.lko.trips.getD 2 false = false) (hv3 : s.boot.pst ≠ .v3) :
    exec .trip3 s = .next (((s.setTrip 2 true).driveFatal 2).when s.awake fun t => t.raise .thermCrit 4 0xFFFF []) :=
  congrArg Host.Outcome.next (if_neg (by rw [hoff]; simpa using hv3))

theorem runs_trip3 (hoff : s.lko.trips.getD 2 false = false) (hv3 : s.boot.pst ≠ .v3) : Runs .trip3 s fun t => t.boot.pinFatal = true ∧
    (s.faults.src = 0 → t.faults.src = 2) ∧ (s.awake = true → Raises s t .thermCrit .fatal 4 0xFFFF []) := by
  have hsrc : ∀ u : State, (u.raise .thermCrit 4 0xFFFF []).faults.src = u.faults.src := fun _ => rfl
  refine ⟨_, exec_trip3 hoff hv3, ?_, fun hfirst => ?_, fun hawake => ?_⟩
  · exact when_keeps (fun t => t.boot.pinFatal) (f := fun t => t.raise .thermCrit 4 0xFFFF []) (fun _ => rfl) _ _
  · refine (when_keeps (fun t => t.faults.src) (f := fun t => t.raise .thermCrit 4 0xFFFF []) hsrc _ _).trans ?_
    exact if_pos hfirst
  · rw [Raises, when_true hawake]
    exact List.mem_append_right _ (List.mem_singleton_self _)

/-- Level 1 released, and told. -/
def trip1Released (s : State) : State := (s.setTrip 0 false).raise .thermTrip 4 0xFFFF (le 1 1 ++ le 1 1)

theorem exec_tripRelease (hon : s.lko.trips.getD 0 false = true) (hawake : s.awake = true) (hstate : s.boot.state ≠ 2) :
    exec (.tripRelease 0) s = .next { trip1Released s with lko := { (trip1Released s).lko with trip1Rel := some s.mark } } := by
  obtain ⟨hv2, -⟩ := not_parked_of_awake hawake
  have htrip : (s.setTrip 0 false).thermTrip 1 1 = trip1Released s := thermTrip_awake (s := s.setTrip 0 false) hawake 1 1
  have hwake : ∀ u : State, u.boot = s.boot → u.wakeBy .thermal = u := fun u hu => by
    unfold State.wakeBy
    split
    · rfl
    · rw [if_neg (by rw [hu]; exact hv2), if_neg (by rw [hu]; exact fun h => hstate h.1)]
  have hexec : exec (.tripRelease 0) s = .next ((if s.awake then { (s.setTrip 0 false).thermTrip 1 1 with
      lko := { ((s.setTrip 0 false).thermTrip 1 1).lko with trip1Rel := some s.mark } } else (s.setTrip 0 false).thermTrip 1 1).wakeBy .thermal) :=
    congrArg Host.Outcome.next ((if_neg (by rw [show ((0 : Fin 3) : Nat) = 0 from rfl, hon]; decide)).trans (if_neg (by decide)))
  rw [hexec, if_pos hawake, htrip]
  exact congrArg Host.Outcome.next (hwake _ rfl)

theorem exec_governorResume {m : Mark} (hrel : s.lko.trip1Rel = some m) : exec .governorResume s =
    .next (if s.atMark ∧ 1024 ≤ s.since m then { s with lko := { s.lko with trip1Rel := none } } else s) := by
  change execGovernorResume s = _
  simp only [execGovernorResume, hrel]

/-! ## V1 (R470, R471) -/

/-- A request of a ready block. -/
theorem takeReq_ready (hans : s.answers 0x810 = true) (hready : s.boot.ready = true) (v : Word) (f : State → State) : s.takeReq v f = f s :=
  (if_neg (by simp [hready])).trans (take_rw hans v f)

theorem exec_holdEntry_busy (hans : s.answers 0x810 = true) (hready : s.boot.ready = true) (hmoving : s.boot.moving = true) :
    exec .holdEntry s = .next (s.cfgEvent .cfgBusy 0x810 1#32) :=
  congrArg Host.Outcome.next ((takeReq_ready hans hready ..).trans (if_pos (by simp [hmoving])))

theorem exec_holdEntry (hans : s.answers 0x810 = true) (hready : s.boot.ready = true) (hmoving : s.boot.moving = false)
    (hidle : s.basic = true ∨ s.hri.idle = true) (hpst : s.boot.pst = .v0) : exec .holdEntry s = .next s.enterHold :=
  congrArg Host.Outcome.next ((takeReq_ready hans hready ..).trans ((if_neg (by rcases hidle with h | h <;> simp [hmoving, h])).trans (if_neg (by simp [hpst]))))

/-- The gates are to open in 2 marks. -/
def holdLeft (s : State) : State := { s with boot := { s.boot with req := 0, moving := true, gateAt := some (s.mark + 2) } }

theorem exec_holdExit (hans : s.answers 0x810 = true) (hready : s.boot.ready = true) (hmoving : s.boot.moving = false) (hpst : s.boot.pst = .v1)
    (htrip : s.lko.trips.getD 1 false = false) : exec .holdExit s =
      .next (if (holdLeft s).nativeOk then { holdLeft s with cal := (holdLeft s).cal.after (s.mark + 2) } else holdLeft s) :=
  congrArg Host.Outcome.next ((takeReq_ready hans hready ..).trans ((if_neg (by simp [hmoving])).trans ((if_neg (by simp [hpst])).trans (if_neg (by rw [htrip]; exact Bool.false_ne_true)))))

theorem exec_holdExit_tripped (hans : s.answers 0x810 = true) (hready : s.boot.ready = true) (hpst : s.boot.pst = .v1)
    (htrip : s.lko.trips.getD 1 false = true) : exec .holdExit s = .next (s.cfgEvent .cfgBusy 0x810 0#32) := by
  refine congrArg Host.Outcome.next ((takeReq_ready hans hready ..).trans ?_)
  by_cases hmoving : s.boot.moving = true
  · exact if_pos hmoving
  · exact (if_neg hmoving).trans ((if_neg (by simp [hpst])).trans (if_pos htrip))

/-! ## V2 and wake (R472, R473) -/

/-- A park asked for at a mark, with the park voltage requested. -/
def parkRequested (u : State) (park : Nat) (m : Mark) : State :=
  let t := u.mapCols fun _ c => { c with avs := { c.avs with req := park, lowerDue := none, hold := 0 } }
  { t with boot := { t.boot with req := 2, state := 2, moving := true, parkAt := some m } }

/-- The saves and measurements ended, and the park asked for. -/
def parkAsked (s : State) : State := parkRequested s.abandonSave.endMeasures s.hri.park s.mark

theorem parkRequested_keeps {β : Type} (p : State → β) (u : State) (park : Nat) (m : Mark)
    (h : ∀ u c, p { u with cols := c, boot := { u.boot with req := 2, state := 2, moving := true, parkAt := some m } } = p u := by exact fun _ _ => rfl) :
    p (parkRequested u park m) = p u := h u _

theorem parkRequested_req (u : State) (park : Nat) (m : Mark) (f : Fin 25) : ((parkRequested u park m).col f).avs.req = park := by
  have hcol : (parkRequested u park m).col f = { u.col f with avs := { (u.col f).avs with req := park, lowerDue := none, hold := 0 } } :=
    col_mapCols u f.isLt _
  rw [hcol]

theorem exec_parkEntry (hans : s.answers 0x810 = true) (hready : s.boot.ready = true) (hmoving : s.boot.moving = false) (hpst : s.boot.pst = .v1) :
    exec .parkEntry s = .next ((parkAsked s).tellState 2) :=
  congrArg Host.Outcome.next ((takeReq_ready hans hready ..).trans (if_neg (by simp [hmoving, hpst])))

theorem exec_parkEntry_busy (hans : s.answers 0x810 = true) (hready : s.boot.ready = true) (hpst : s.boot.pst ≠ .v1) :
    exec .parkEntry s = .next (s.cfgEvent .cfgBusy 0x810 2#32) :=
  congrArg Host.Outcome.next ((takeReq_ready hans hready ..).trans (if_pos (by simp [hpst])))

theorem abandonSave_keeps {β : Type} (p : State → β) (s : State)
    (h : ∀ u c l n r f, p { u with crn := c, lko := l, freeCtr := n, raised := r, faults := f } = p u := by exact fun _ _ _ _ _ _ => rfl) : p s.abandonSave = p s := by
  unfold State.abandonSave
  extract_lets c d
  split
  · exact h s s.crn _ s.freeCtr s.raised s.faults
  · exact h s _ _ _ _ _

theorem abandonSave_saving (s : State) : s.abandonSave.crn.saving = false := by
  unfold State.abandonSave
  extract_lets c _ d
  split
  · next h => simpa [c] using h
  · change d.saving = false
    unfold d
    split
    · rfl
    · rfl

/-- What park entry leaves of a part that neither a save nor a measurement reaches. -/
theorem parkAsked_keeps {β : Type} (p : State → β) (s : State)
    (habandon : ∀ u c l n r f, p { u with crn := c, lko := l, freeCtr := n, raised := r, faults := f } = p u := by exact fun _ _ _ _ _ _ => rfl)
    (hout : ∀ u o, p { u with out := o } = p u := by exact fun _ _ => rfl)
    (hcmpl : ∀ u q, p { u with hri := { u.hri with cmplQ := q } } = p u := by exact fun _ _ => rfl)
    (hplan : ∀ u l, p { u with plan := l } = p u := by exact fun _ _ => rfl)
    (hpark : ∀ u c, p { u with cols := c, boot := { u.boot with req := 2, state := 2, moving := true, parkAt := some s.mark } } = p u := by
      exact fun _ _ => rfl) : p (parkAsked s) = p s :=
  (parkRequested_keeps p _ _ _ hpark).trans ((endMeasures_keeps p _ (fun u l => habandon u u.crn l u.freeCtr u.raised u.faults)
    (fun u r f => habandon u u.crn u.lko u.freeCtr r f) hout hcmpl hplan).trans (abandonSave_keeps p s habandon))

theorem parkAsked_saving (s : State) : (parkAsked s).crn.saving = false :=
  (parkRequested_keeps (fun t => t.crn.saving) _ _ _).trans
    ((endMeasures_keeps (fun t => t.crn.saving) s.abandonSave (fun _ _ => rfl) (fun _ _ _ => rfl) (fun _ _ => rfl) (fun _ _ => rfl) fun _ _ => rfl).trans (abandonSave_saving s))

theorem parkAsked_disarms (s : State) (c : Fin 6) : armedAt c (parkAsked s) = false :=
  (parkRequested_keeps (armedAt c) _ _ _).trans (endMeasures_disarms s.abandonSave c)

theorem parkAsked_raises (s : State) : Raises s ((parkAsked s).tellState 2) .pstate .info 0 s.summitIdx (le 1 2 ++ le 1 s.boot.wake) := by
  have hrdg : (parkAsked s).rdg = s.rdg := parkAsked_keeps State.rdg s
  have hidx : (parkAsked s).summitIdx = s.summitIdx := parkAsked_keeps State.summitIdx s
  have hwake : (parkAsked s).boot.wake = s.boot.wake := parkAsked_keeps (fun t => t.boot.wake) s
  rw [Raises, ← hidx, ← hwake, ← event_congr hrdg]
  exact List.mem_append_right _ (List.mem_singleton_self _)

theorem parkAsked_boot (s : State) : (parkAsked s).boot.req = 2 ∧ (parkAsked s).boot.state = 2 ∧ (parkAsked s).boot.parkAt = some s.mark := ⟨rfl, rfl, rfl⟩

theorem runs_parkEntry (hans : s.answers 0x810 = true) (hready : s.boot.ready = true) (hmoving : s.boot.moving = false) (hpst : s.boot.pst = .v1) :
    Runs .parkEntry s fun t => t.boot.req = 2 ∧ t.boot.state = 2 ∧ t.boot.parkAt = some s.mark ∧ t.crn.saving = false ∧
      (∀ c : Fin 6, (t.chan c).armed = false) ∧ (∀ f : Fin 25, (t.col f).avs.req = s.hri.park) ∧ Raises s t .pstate .info 0 s.summitIdx (le 1 2 ++ le 1 s.boot.wake) := by
  have hexec := exec_parkEntry hans hready hmoving hpst
  obtain ⟨hreq, hstate, hat⟩ := parkAsked_boot s
  have hsaving := parkAsked_saving s
  have harmed := parkAsked_disarms s
  have hvolt : ∀ f : Fin 25, ((parkAsked s).col f).avs.req = s.hri.park := parkRequested_req _ _ _
  have htold := parkAsked_raises s
  generalize parkAsked s = u at *
  exact ⟨_, hexec, hreq, hstate, hat, hsaving, harmed, hvolt, htold⟩

/-- The block parked. -/
def parked (s : State) : State := { s with
  boot := { s.boot with pst := .v2, moving := false, parkAt := none, pinPark := true }
  rdg := { s.rdg with lock := false, started := false }
  lko := { s.lko with timerLock := false, bgRef := false, density := false } }

theorem exec_parkReady {m : Mark} (hpark : s.boot.parkAt = some m) (hstate : s.boot.state = 2) (hpst : s.boot.pst = .v1) (hmark : s.atMark = true) :
    exec .parkReady s = .next (if s.since m < 16 then s else match s.boot.wakeDue with | none => parked s | some c => (parked s).wakeNow c) := by
  change execParkReady s = _
  simp only [execParkReady, hpark]
  refine congrArg Host.Outcome.next ?_
  by_cases hearly : s.since m < 16
  · rw [if_pos hearly]
    exact if_pos (by simp [hearly])
  · rw [if_neg hearly]
    refine (if_neg (by simp [hstate, hmark, hpst, hearly])).trans ?_
    rfl

theorem runs_wake {c : WakeCause} (hon : s.wakeOn c = true) (hpst : s.boot.pst = .v2) : Runs (.wake c) s fun t => t.boot.pst = .v0 ∧ t.boot.kind = 2 ∧
    t.boot.wake = wakeCode c ∧ t.boot.pinWake = true ∧ t.boot.ready = false ∧ t.boot.stage = (if s.lko.oscOk then 1 else 0) ∧ t.lko.tod = s.lko.tod ∧ t.rdg.ridge = 0 := by
  have hexec : exec (.wake c) s = .next (s.wakeNow (wakeCode c)) := congrArg Host.Outcome.next ((if_neg (by simp [hon])).trans (if_pos hpst))
  have hboot := restart_boot s 2
  refine ⟨_, hexec, congrArg Boot.pst hboot, congrArg Boot.kind hboot, rfl, rfl, congrArg Boot.ready hboot, congrArg Boot.stage hboot,
    (congrArg Lookout.tod (restart_lko s 2)).trans rfl, (congrArg Ridgeline.ridge (restart_rdg s 2)).trans rfl⟩

end

/-- Settles O51: each command by its equation; V1 entry and park entry by what they leave alone. -/
theorem tripsSuppliesAndPowerStates : Obligations.TripsSuppliesAndPowerStates := by
  refine ⟨fun s => runs_trip1, fun s hoff hready hpst hreq hidle => ?_, fun s => runs_trip3, fun s hlen hon hawake hstate => ?_, fun s m hrel => ⟨fun hmark hlate => ?_, fun hearly => ?_⟩,
    fun s => ⟨_, rfl, rfl, rfl, rfl, rfl⟩, fun s hsup hready hawake => ?_, fun s hans hready => ⟨exec_holdEntry_busy hans hready, fun hmoving hbasic hpst hidle => ?_,
      fun hmoving hpst htrip => ?_, exec_holdExit_tripped hans hready, runs_parkEntry hans hready, exec_parkEntry_busy hans hready⟩,
    fun s m hpark hstate hpst hmark => ⟨fun hearly => ?_, fun hlate hnone => ?_⟩, fun s c => ⟨fun hoff => congrArg Host.Outcome.next (if_pos (by simp [hoff])), runs_wake⟩⟩
  · obtain ⟨hr, hm, hb, hraised⟩ := enterHold_begins (s := (s.setTrip 1 true).raise .thermTrip 4 0xFFFF (le 1 2 ++ le 1 0)) hidle
    refine ⟨_, exec_trip2 hoff hready hpst hreq, hr, hm, hb, ?_⟩
    rw [Raises, hraised]
    exact List.mem_append_right _ (List.mem_singleton_self _)
  · refine ⟨_, exec_tripRelease hon hawake hstate, getD_setNth_same (by omega) _ _, rfl, Bool.or_true _, ?_⟩
    exact List.mem_append_right _ (List.mem_singleton_self _)
  · rw [exec_governorResume hrel, if_pos ⟨hmark, hlate⟩]
  · rw [exec_governorResume hrel, if_neg fun h => absurd h.2 (Nat.not_le.2 hearly)]
  · have hv3 := (not_parked_of_awake hawake).2
    have hexec : exec (.sup1 false) s = .next (({ s with lko := { s.lko with sup1 := false } } : State).raise .supplyLost 4 0xFFFF (le 1 1)) :=
      congrArg Host.Outcome.next ((if_neg (by simp [hv3, hsup])).trans ((if_neg Bool.false_ne_true).trans (if_pos (by simp [hready, hawake]))))
    exact ⟨_, hexec, rfl, List.mem_append_right _ (List.mem_singleton_self _)⟩
  · obtain ⟨hr, hm, hb, -⟩ := enterHold_begins hidle
    exact ⟨_, exec_holdEntry hans hready hmoving hbasic hpst, hr, hm, hb⟩
  · rw [Runs, exec_holdExit hans hready hmoving hpst htrip]
    split
    · exact ⟨_, rfl, rfl, rfl, rfl, rfl⟩
    · exact ⟨_, rfl, rfl, rfl, rfl, rfl⟩
  · rw [exec_parkReady hpark hstate hpst hmark, if_pos hearly]
  · rw [Runs, exec_parkReady hpark hstate hpst hmark, if_neg (Nat.not_lt.2 hlate), hnone]
    exact ⟨_, rfl, rfl, rfl, rfl, rfl, rfl, rfl, rfl⟩

end Sys2Proof.Proofs
end

section
/-! The regulator links: the slots, the replies and the failure of a link (O50). -/

set_option Elab.async false

namespace Sys2Proof.Proofs

open Sys2Proof.Machine Sys2Proof.Safety Sys2Proof.Laws

section

variable {s : State} {f : Fin 25}

/-! ## A link changed -/

theorem avs_modAvs (s : State) (f : Fin 25) (g : Avs → Avs) : ((s.modAvs f g).col f).avs = g (s.col f).avs := by rw [State.modAvs, col_modCol_self]

theorem bmod_congr {α : Type} {n : Nat} (v : Vector α n) (d : α) (i : Nat) {g h : α → α} (hgh : g (bget v d i) = h (bget v d i)) : bmod v i g = bmod v i h := by
  unfold bmod
  split
  · next hi =>
    rw [bget, dif_pos hi] at hgh
    rw [hgh]
  · rfl

/-- Two changes of a link that agree on what it holds are one. -/
theorem modAvs_congr {g h : Avs → Avs} (hgh : g (s.col f).avs = h (s.col f).avs) : s.modAvs f g = s.modAvs f h :=
  congrArg (fun c => { s with cols := c }) (bmod_congr s.cols Col.reset f (by rw [show bget s.cols Col.reset f = s.col f from rfl, hgh]))

theorem modAvs_modAvs (g h : Avs → Avs) : (s.modAvs f g).modAvs f h = s.modAvs f fun x => h (g x) := by
  have hcols : bmod (bmod s.cols f fun c => { c with avs := g c.avs }) f (fun c => { c with avs := h c.avs }) = bmod s.cols f fun c => { c with avs := h (g c.avs) } := by
    simp [bmod]
  exact congrArg (fun c => { s with cols := c }) hcols

/-! ## Slots (R461) -/

/-- A slot begun, a frame waited. -/
def slotBegun (s : State) (f : Fin 25) : State := s.modAvs f fun x => { x with slotAt := some s.rdg.ridge, frames := x.frames + 1 }

/-- A slot free for a transaction. -/
def slotFree (s : State) (f : Fin 25) : State := s.modAvs f fun x => { x with slotAt := some s.rdg.ridge, frames := 0 }

theorem takeLower_none (h : (s.col f).avs.lowerDue = none) : s.takeLower f = s := by simp [State.takeLower, h]

theorem slotChoice_slotBegun : (slotBegun s f).slotChoice f = s.slotChoice f := by
  unfold State.slotChoice
  rw [slotBegun, avs_modAvs]
  rfl

theorem exec_avsSlot_free (hslot : s.slotBegins f = true) (hfree : (s.col f).avs.openTx = 0) (hlower : (s.col f).avs.lowerDue = none) :
    exec (.avsSlot f) s = .next ((slotFree s f).transact f (s.slotChoice f)) := by
  have hkept : (slotBegun s f).takeLower f = slotBegun s f := takeLower_none (by rw [slotBegun, avs_modAvs]; exact hlower)
  have hcleared : (slotBegun s f).modAvs f (fun x => { x with frames := 0 }) = slotFree s f := modAvs_modAvs ..
  rw [← slotChoice_slotBegun, ← hcleared]
  refine congrArg Host.Outcome.next ((if_neg (by simp [hslot])).trans ((if_neg fun h => h.1 hfree).trans ((if_neg fun h => h.1 hfree).trans ((if_neg fun h => h.1 hfree).trans ?_))))
  rw [if_pos hfree]
  change (((slotBegun s f).takeLower f).modAvs f fun x => { x with frames := 0 }).transact f (((slotBegun s f).takeLower f).slotChoice f) = _
  rw [hkept]

theorem exec_avsSlot_waits (hslot : s.slotBegins f = true) (hopen : (s.col f).avs.openTx ≠ 0) (hframes : (s.col f).avs.frames < 7) :
    exec (.avsSlot f) s = .next (slotBegun s f) :=
  congrArg Host.Outcome.next ((if_neg (by simp [hslot])).trans (if_pos ⟨hopen, by omega⟩))

theorem exec_avsSlot_resends (hslot : s.slotBegins f = true) (hopen : (s.col f).avs.openTx ≠ 0) (hframes : (s.col f).avs.frames = 7) :
    exec (.avsSlot f) s = .next ((slotBegun s f).resendTx f) :=
  congrArg Host.Outcome.next ((if_neg (by simp [hslot])).trans ((if_neg fun h => by have := h.2; omega).trans (if_pos ⟨hopen, by omega⟩)))

theorem slotBegun_resendTx (hopen : (s.col f).avs.openTx = 1) (hframes : (s.col f).avs.frames = 7) :
    (slotBegun s f).resendTx f = (s.modAvs f fun x => { x with slotAt := some s.rdg.ridge, frames := 8 }).send (.avsWrite f (s.col f).avs.written) := by
  have ha : ((slotBegun s f).col f).avs = { (s.col f).avs with slotAt := some s.rdg.ridge, frames := (s.col f).avs.frames + 1 } := by rw [slotBegun, avs_modAvs]
  have hbegun : slotBegun s f = s.modAvs f fun x => { x with slotAt := some s.rdg.ridge, frames := 8 } := modAvs_congr (by rw [hframes])
  rw [← hbegun]
  unfold State.resendTx
  rw [ha]
  simp only [hopen]

theorem slotChoice_write (h : (s.col f).avs.req ≠ (s.col f).avs.written) : s.slotChoice f = 1 := if_pos h

theorem slotChoice_status (hreq : (s.col f).avs.req = (s.col f).avs.written) (hwait : (s.col f).avs.waiting = true)
    (hslew : ((s.col f).avs.slewEnd - s.rdg.ridge).toNat < 512) : s.slotChoice f = 2 :=
  (if_neg fun h => h hreq).trans (if_pos (by rw [hwait, decide_eq_true hslew]; simp))

theorem slotChoice_telemetry (hreq : (s.col f).avs.req = (s.col f).avs.written) (hwait : (s.col f).avs.waiting = false) :
    s.slotChoice f = if (s.col f).avs.turn && !s.testIn f then 4 else 3 :=
  (if_neg fun h => h hreq).trans (if_neg (by simp [hwait]))

theorem avs_slotFree (s : State) (f : Fin 25) : ((slotFree s f).col f).avs = { (s.col f).avs with slotAt := some s.rdg.ridge, frames := 0 } := by
  rw [slotFree, avs_modAvs]

/-- A link after a voltage write. -/
def Avs.wrote (a : Avs) (slewEnd : Ridge) : Avs :=
  { a with written := a.req, waiting := decide (a.acked < a.req), acked := min a.acked a.req, slewEnd := slewEnd }

theorem avs_writeVolt (s : State) (f : Fin 25) : ∃ e, ((s.writeVolt f).col f).avs = Avs.wrote (s.col f).avs e := by
  refine ⟨s.rdg.ridge + BitVec.ofNat 48 (512 + s.slewTicks f (max (s.col f).avs.req (s.col f).avs.written - min (s.col f).avs.req (s.col f).avs.written)), ?_⟩
  change ((s.modAvs f fun x => { x with
    written := (s.col f).avs.req, waiting := decide ((s.col f).avs.acked < (s.col f).avs.req), acked := min (s.col f).avs.acked (s.col f).avs.req
    slewEnd := s.rdg.ridge + BitVec.ofNat 48 (512 + s.slewTicks f (max (s.col f).avs.req (s.col f).avs.written - min (s.col f).avs.req (s.col f).avs.written)) }).col f).avs = _
  rw [avs_modAvs]
  rfl

theorem runs_avsSlot_write (hslot : s.slotBegins f = true) (hfree : (s.col f).avs.openTx = 0) (hlower : (s.col f).avs.lowerDue = none)
    (hreq : (s.col f).avs.req ≠ (s.col f).avs.written) : Runs (.avsSlot f) s fun t => Message.avsWrite f (s.col f).avs.req ∈ t.out ∧ (t.col f).avs.written = (s.col f).avs.req ∧
      (t.col f).avs.waiting = decide ((s.col f).avs.acked < (s.col f).avs.req) ∧ (t.col f).avs.acked = min (s.col f).avs.acked (s.col f).avs.req ∧ (t.col f).avs.openTx = 1 := by
  have hexec := exec_avsSlot_free hslot hfree hlower
  rw [slotChoice_write hreq] at hexec
  let u := (slotFree s f).modAvs f fun x => { x with openTx := 1 }
  have hu : (u.col f).avs = { (s.col f).avs with slotAt := some s.rdg.ridge, frames := 0, openTx := 1 } := by rw [avs_modAvs, avs_slotFree]
  obtain ⟨e, hw⟩ := avs_writeVolt u f
  rw [hu] at hw
  have hout : Message.avsWrite f (u.col f).avs.req ∈ (u.writeVolt f).out := List.mem_append_right _ (List.mem_singleton_self _)
  rw [hu] at hout
  exact ⟨u.writeVolt f, hexec, hout, (congrArg Avs.written hw).trans rfl, congrArg Avs.waiting hw, (congrArg Avs.acked hw).trans rfl, (congrArg Avs.openTx hw).trans rfl⟩

theorem runs_avsSlot_status (hslot : s.slotBegins f = true) (hfree : (s.col f).avs.openTx = 0) (hlower : (s.col f).avs.lowerDue = none)
    (hreq : (s.col f).avs.req = (s.col f).avs.written) (hwait : (s.col f).avs.waiting = true) (hslew : ((s.col f).avs.slewEnd - s.rdg.ridge).toNat < 512) :
    Runs (.avsSlot f) s fun t => Message.avsStatus f ∈ t.out ∧ (t.col f).avs.openTx = 2 ∧ (t.col f).avs.written = (s.col f).avs.written := by
  have hexec := exec_avsSlot_free hslot hfree hlower
  rw [slotChoice_status hreq hwait hslew] at hexec
  let u := (slotFree s f).modAvs f fun x => { x with openTx := 2 }
  have hu : (u.col f).avs = { (s.col f).avs with slotAt := some s.rdg.ridge, frames := 0, openTx := 2 } := by rw [avs_modAvs, avs_slotFree]
  have ht : ((u.send (.avsStatus f)).col f).avs = _ := hu
  exact ⟨u.send (.avsStatus f), hexec, List.mem_append_right _ (List.mem_singleton_self _), (congrArg Avs.openTx ht).trans rfl, (congrArg Avs.written ht).trans rfl⟩

/-- A telemetry read of kind k - 3 sent, and whose turn the next one is. -/
def telemetrySent (s : State) (f : Fin 25) (k : Nat) (turn : Bool) : State :=
  (((slotFree s f).modAvs f fun x => { x with openTx := k }).modAvs f fun x => { x with turn := turn }).send (.avsTelem f (k - 3))

theorem avs_telemetrySent (s : State) (f : Fin 25) (k : Nat) (turn : Bool) :
    ((telemetrySent s f k turn).col f).avs = { (s.col f).avs with slotAt := some s.rdg.ridge, frames := 0, openTx := k, turn := turn } := by
  change ((((slotFree s f).modAvs f fun x => { x with openTx := k }).modAvs f fun x => { x with turn := turn }).col f).avs = _
  rw [avs_modAvs, avs_modAvs, avs_slotFree]

theorem runs_avsSlot_telemetry (hslot : s.slotBegins f = true) (hfree : (s.col f).avs.openTx = 0) (hlower : (s.col f).avs.lowerDue = none)
    (hreq : (s.col f).avs.req = (s.col f).avs.written) (hwait : (s.col f).avs.waiting = false) : Runs (.avsSlot f) s fun t =>
      let amps : Bool := (s.col f).avs.turn && !s.testIn f
      Message.avsTelem f (if amps then 1 else 0) ∈ t.out ∧ (t.col f).avs.openTx = (if amps then 4 else 3) ∧ (t.col f).avs.turn = !amps ∧
        (t.col f).avs.written = (s.col f).avs.written := by
  have hexec := exec_avsSlot_free hslot hfree hlower
  rw [slotChoice_telemetry hreq hwait] at hexec
  cases hamps : (s.col f).avs.turn && !s.testIn f with
  | false =>
    rw [hamps, if_neg Bool.false_ne_true] at hexec
    have ht := avs_telemetrySent s f 3 true
    exact ⟨telemetrySent s f 3 true, hexec, List.mem_append_right _ (List.mem_singleton_self _), (congrArg Avs.openTx ht).trans rfl, (congrArg Avs.turn ht).trans rfl, (congrArg Avs.written ht).trans rfl⟩
  | true =>
    have hturn : (s.col f).avs.turn = true := by
      rw [Bool.and_eq_true] at hamps
      exact hamps.1
    have hkept : ((slotFree s f).col f).avs.turn = true := by
      rw [avs_slotFree]
      exact hturn
    rw [hamps, if_pos rfl] at hexec
    have ht := avs_telemetrySent s f 4 (!((slotFree s f).col f).avs.turn)
    rw [hkept] at ht
    refine ⟨telemetrySent s f 4 (!((slotFree s f).col f).avs.turn), hexec, List.mem_append_right _ (List.mem_singleton_self _), ?_⟩
    rw [hkept]
    exact ⟨(congrArg Avs.openTx ht).trans rfl, (congrArg Avs.turn ht).trans rfl, (congrArg Avs.written ht).trans rfl⟩

/-! ## Replies (R445, R462, R463) -/

/-- A reply of the transaction sent, on a good link. -/
def replied (s : State) (f : Fin 25) : State := s.modAvs f fun a => { a with openTx := 0, frames := 0, bad := 0 }

theorem avsGood_replied (hgood : (s.col f).avs.failed = false) : (s.modAvs f fun a => { a with openTx := 0, frames := 0 }).avsGood f = replied s f := by
  have hkept : ((s.modAvs f fun a => { a with openTx := 0, frames := 0 }).col f).avs.failed = false := (congrArg Avs.failed (avs_modAvs s f _)).trans hgood
  exact (if_pos (by simp [hkept])).trans (modAvs_modAvs ..)

theorem avs_replied (s : State) (f : Fin 25) : ((replied s f).col f).avs = { (s.col f).avs with openTx := 0, frames := 0, bad := 0 } := by
  rw [replied, avs_modAvs]

/-- A link whose waiting rise has been acknowledged. -/
def Avs.acknowledge (a : Avs) : Avs := if a.waiting then { a with waiting := false, acked := a.written } else a

theorem exec_avsReply_done (hgood : (s.col f).avs.failed = false) (hopen : (s.col f).avs.openTx = 2) :
    exec (.avsReply f (.status true false)) s = .next ((replied s f).modAvs f Avs.acknowledge) := by
  rw [← avsGood_replied hgood]
  exact congrArg Host.Outcome.next (if_neg fun h => h hopen)

theorem exec_avsReply_current (hgood : (s.col f).avs.failed = false) (hopen : (s.col f).avs.openTx = 4) (lsb : Nat) :
    exec (.avsReply f (.current lsb false)) s = .next ((replied s f).modAvs f fun a => { a with amps := lsb }) := by
  rw [← avsGood_replied hgood]
  exact congrArg Host.Outcome.next (if_neg fun h => h hopen)

theorem exec_avsReply_rail (hgood : (s.col f).avs.failed = false) (hopen : (s.col f).avs.openTx = 3) (mv : Nat) :
    exec (.avsReply f (.rail mv false)) s = .next ((replied s f).railRead f mv) := by
  rw [← avsGood_replied hgood]
  exact congrArg Host.Outcome.next (if_neg fun h => h hopen)

theorem runs_avsReply_done (hgood : (s.col f).avs.failed = false) (hopen : (s.col f).avs.openTx = 2) (hwait : (s.col f).avs.waiting = true) :
    Runs (.avsReply f (.status true false)) s fun t => (t.col f).avs.waiting = false ∧ (t.col f).avs.acked = (s.col f).avs.written ∧ (t.col f).avs.openTx = 0 ∧
      t = { s with cols := t.cols } := by
  have ht : (((replied s f).modAvs f Avs.acknowledge).col f).avs =
      { (s.col f).avs with openTx := 0, frames := 0, bad := 0, waiting := false, acked := (s.col f).avs.written } := by
    rw [avs_modAvs, avs_replied]
    exact if_pos hwait
  exact ⟨_, exec_avsReply_done hgood hopen, congrArg Avs.waiting ht, (congrArg Avs.acked ht).trans rfl, (congrArg Avs.openTx ht).trans rfl, rfl⟩

theorem runs_avsReply_current (hgood : (s.col f).avs.failed = false) (lsb : Nat) (hopen : (s.col f).avs.openTx = 4) :
    Runs (.avsReply f (.current lsb false)) s fun t => (t.col f).avs.amps = lsb ∧ (t.col f).avs.rail = (s.col f).avs.rail ∧ t = { s with cols := t.cols } := by
  have ht : (((replied s f).modAvs f fun a => { a with amps := lsb }).col f).avs = { (s.col f).avs with openTx := 0, frames := 0, bad := 0, amps := lsb } := by
    rw [avs_modAvs, avs_replied]
  exact ⟨_, exec_avsReply_current hgood hopen lsb, (congrArg Avs.amps ht).trans rfl, (congrArg Avs.rail ht).trans rfl, rfl⟩

/-- A link with a rail reading taken, and its counts of readings out of band and in it. -/
def Avs.reading (a : Avs) (mv out inb : Nat) : Avs := { a with rail := mv, outBand := out, inBand := inb }

/-- A reading in its band, or during a slew, with no cap: what is kept is the reading, and the counts of readings. -/
theorem railRead_in_band {mv : Nat} (hcap : (s.col f).avs.capped = false)
    (hin : 20 * (max mv (s.col f).avs.acked - min mv (s.col f).avs.acked) ≤ (s.col f).avs.acked) :
    ∃ out inb, s.railRead f mv = s.modAvs f fun x => Avs.reading x mv out inb := by
  unfold State.railRead
  extract_lets a off left slewing t u v
  split
  · exact ⟨a.outBand, a.inBand, modAvs_congr rfl⟩
  · refine ⟨0, 0, ?_⟩
    rw [if_neg (Nat.not_lt.2 hin), if_neg (by simp [a, hcap])]
    exact (modAvs_modAvs ..).trans (modAvs_congr (by simp [Avs.reading, hcap]))

theorem runs_avsReply_rail (hgood : (s.col f).avs.failed = false) (mv : Nat) (hopen : (s.col f).avs.openTx = 3) (hcap : (s.col f).avs.capped = false)
    (hin : 20 * (max mv (s.col f).avs.acked - min mv (s.col f).avs.acked) ≤ (s.col f).avs.acked) : Runs (.avsReply f (.rail mv false)) s fun t =>
      (t.col f).avs.rail = mv ∧ (t.col f).avs.capped = false ∧ (t.col f).avs.amps = (s.col f).avs.amps ∧ t = { s with cols := t.cols } := by
  have ha := avs_replied s f
  obtain ⟨out, inb, hread⟩ := railRead_in_band (s := replied s f) (f := f) (mv := mv) (by rw [ha]; exact hcap) (by rw [ha]; exact hin)
  have hexec := exec_avsReply_rail hgood hopen mv
  rw [hread] at hexec
  have ht : (((replied s f).modAvs f fun x => Avs.reading x mv out inb).col f).avs =
      Avs.reading { (s.col f).avs with openTx := 0, frames := 0, bad := 0 } mv out inb := by rw [avs_modAvs, avs_replied]
  exact ⟨_, hexec, (congrArg Avs.rail ht).trans rfl, (congrArg Avs.capped ht).trans hcap, (congrArg Avs.amps ht).trans rfl, rfl⟩

/-- A good link whose rail has left its band, with the cap at the FCODE given. -/
def Avs.cappedAt (a : Avs) (mv fc : Nat) : Avs :=
  { a with rail := mv, outBand := min 4 (a.outBand + 1), inBand := 0, capped := true, capFcode := if a.failed then a.capFcode else fc }

/-- The fourth reading out of band, with the slew at its end. -/
theorem railRead_capped {mv : Nat} (hout : (s.col f).avs.outBand = 3) (hslew : (s.col f).avs.slewEnd = s.rdg.ridge)
    (hoff : (s.col f).avs.acked < 20 * (max mv (s.col f).avs.acked - min mv (s.col f).avs.acked)) :
    s.railRead f mv = ((s.modAvs f fun x => Avs.cappedAt x mv (s.fieldFcode f)).railBand f 0).baseMoved := by
  unfold State.railRead
  extract_lets a off left slewing t u v
  have hleft : left = 0 := by
    unfold left a
    rw [hslew, BitVec.sub_self]
    rfl
  have hcapped : (u.modAvs f fun x => { x with capped := true, capFcode := if x.failed then x.capFcode else s.fieldFcode f }) =
      s.modAvs f fun x => Avs.cappedAt x mv (s.fieldFcode f) := by
    unfold u t
    rw [modAvs_modAvs, modAvs_modAvs]
    rfl
  rw [if_neg (by simp [slewing, hleft]), if_pos hoff, if_neg (by simp [a, hout]), hcapped]

theorem runs_avsReply_out (hgood : (s.col f).avs.failed = false) (mv : Nat) (hopen : (s.col f).avs.openTx = 3) (hout : (s.col f).avs.outBand = 3)
    (hslew : (s.col f).avs.slewEnd = s.rdg.ridge) (hoff : (s.col f).avs.acked < 20 * (max mv (s.col f).avs.acked - min mv (s.col f).avs.acked)) :
    Runs (.avsReply f (.rail mv false)) s fun t => (t.col f).avs.capped = true ∧ (t.col f).avs.capFcode = s.fieldFcode f ∧ t.role.baseDue = true ∧
      Raises s t .railBand .degraded 11 f (le 2 mv ++ le 2 (s.col f).avs.acked ++ le 1 0) := by
  have ha := avs_replied s f
  have hread := railRead_capped (s := replied s f) (f := f) (mv := mv) (by rw [ha]; exact hout) (by rw [ha]; exact hslew) (by rw [ha]; exact hoff)
  have hexec := exec_avsReply_rail hgood hopen mv
  rw [hread] at hexec
  let u := (replied s f).modAvs f fun x => Avs.cappedAt x mv ((replied s f).fieldFcode f)
  have hu : (u.col f).avs = Avs.cappedAt { (s.col f).avs with openTx := 0, frames := 0, bad := 0 } mv (s.fieldFcode f) := by
    rw [avs_modAvs, avs_replied]
    rfl
  have htold : u.event .railBand .degraded 11 f (le 2 (u.col f).avs.rail ++ le 2 (u.col f).avs.acked ++ le 1 0) ∈ (u.railBand f 0).raised :=
    List.mem_append_right _ (List.mem_singleton_self _)
  rw [hu] at htold
  exact ⟨(u.railBand f 0).baseMoved, hexec, congrArg Avs.capped hu, (congrArg Avs.capFcode hu).trans (if_neg (by simp [hgood])), rfl, htold⟩

theorem runs_avsReply_recovers (hopen : (s.col f).avs.openTx = 1) (hfailed : (s.col f).avs.failed = true) (hgood : (s.col f).avs.good = 63) :
    Runs (.avsReply f .written) s fun t => (t.col f).avs.failed = false ∧ Raises s t .regLinkFail .degraded 11 f (le 1 1) := by
  let u := s.modAvs f fun a => { a with openTx := 0, frames := 0 }
  have hu : (u.col f).avs = { (s.col f).avs with openTx := 0, frames := 0 } := by rw [avs_modAvs]
  have hrecovers : u.avsGood f = ((u.modAvs f fun x => { x with bad := 0, good := 0, failed := false }).raise .regLinkFail 11 f (le 1 1)).baseMoved := by
    unfold State.avsGood
    extract_lets a
    have hafter : a = { (s.col f).avs with openTx := 0, frames := 0 } := hu
    rw [if_neg (by simp [hafter, hfailed]), if_neg (by simp [hafter, hgood])]
  have hexec : exec (.avsReply f .written) s = .next (u.avsGood f) := congrArg Host.Outcome.next (if_neg fun h => h hopen)
  rw [hrecovers] at hexec
  have hafter := avs_modAvs u f fun x => { x with bad := 0, good := 0, failed := false }
  exact ⟨_, hexec, congrArg Avs.failed hafter, List.mem_append_right _ (List.mem_singleton_self _)⟩

/-! ## A failed link (R445) -/

/-- A link that has failed, its grant capped at the FCODE given. -/
def Avs.broken (a : Avs) (fc : Nat) : Avs := { a with failed := true, good := 0, reported := 0, capFcode := if a.capped then a.capFcode else fc }

/-- The link failed and told. -/
def linkFailed (s : State) (f : Fin 25) : State := (s.modAvs f fun a => Avs.broken a (s.fieldFcode f)).raise .regLinkFail 11 f (le 1 0)

/-- Its incident closed. -/
def linkClosed (s : State) (f : Fin 25) : State := ((linkFailed s f).incident { cls := 5, sev := .degraded, ev := .regLinkFail, unit := f }).closeIncident 5 f

/-- In stage 3, no power-on test of the field. -/
def linkNoted (s : State) (f : Fin 25) (t : State) : State := if s.boot.stage = 3 then { t with boot := { t.boot with noBist := t.boot.noBist ++ [f.val] } } else t

/-- What holds of a link that has just failed: its state, and that its event waits. -/
def LinkTold (a : Avs) (e : EventRec) (f : Fin 25) (t : State) : Prop := (t.col f).avs = a ∧ e ∈ t.raised

section

variable {a : Avs} {e : EventRec} {t : State}

theorem LinkTold.incident (h : LinkTold a e f t) (i : Incident) (c u : Nat) : LinkTold a e f ((t.incident i).closeIncident c u) := by
  have hkeeps : ∀ {β : Type} (p : State → β), (∀ u fl, p { u with faults := fl } = p u) → p ((t.incident i).closeIncident c u) = p t := fun p hp =>
    (closeIncident_keeps p hp _ c u).trans (incident_keeps p hp _ i)
  obtain ⟨ha, he⟩ := h
  exact ⟨(hkeeps (fun u => (u.col f).avs) fun _ _ => rfl).trans ha, (hkeeps State.raised fun _ _ => rfl).symm ▸ he⟩

theorem LinkTold.noted (h : LinkTold a e f t) (s : State) : LinkTold a e f (linkNoted s f t) := by
  unfold linkNoted
  split
  · exact h
  · exact h

theorem LinkTold.bistAbort (h : LinkTold a e f t) (res src pats : Nat) (sig : BitVec 64) : LinkTold a e f (t.bistAbort res src pats sig) := by
  unfold State.bistAbort
  extract_lets b u v
  obtain ⟨ha, he⟩ := h
  have hv : LinkTold a e f v := ⟨ha, List.mem_append_left _ he⟩
  split
  · exact ⟨ha, he⟩
  · split
    · exact hv
    · split
      · refine ⟨?_, hv.2⟩
        have hcol : ((v.testOver.modCol (fieldOf b.unit) fun c => { c with spare := c.spare.over }).col f).avs = (v.testOver.col f).avs := by
          rw [col_modCol]
          split <;> rfl
        exact hcol.trans hv.1
      · exact hv

theorem LinkTold.envAbort (h : LinkTold a e f t) (src : Nat) : LinkTold a e f (t.envAbort f src) := by
  unfold State.envAbort
  split
  · exact h
  · exact LinkTold.bistAbort (t := t.tookFree.tookFree) h ..

end

theorem exec_regLinkFail_again (hfailed : (s.col f).avs.failed = true) : exec (.regLinkFail f) s = .next s := congrArg Host.Outcome.next (if_pos (by simp [hfailed]))

theorem runs_regLinkFail (hgood : (s.col f).avs.failed = false) (hbad : 3 ≤ (s.col f).avs.bad) : Runs (.regLinkFail f) s fun t =>
    (t.col f).avs.failed = true ∧ t.role.baseDue = true ∧ ((s.col f).avs.capped = false → (t.col f).avs.capFcode = s.fieldFcode f) ∧
      Raises s t .regLinkFail .degraded 11 f (le 1 0) := by
  have hexec : exec (.regLinkFail f) s = .next ((linkNoted s f (linkClosed s f)).envAbort f 3).baseMoved := by
    refine congrArg Host.Outcome.next (if_neg ?_)
    rw [hgood, decide_eq_true hbad]
    exact Bool.false_ne_true
  have hfailed : LinkTold (Avs.broken (s.col f).avs (s.fieldFcode f)) (s.event .regLinkFail .degraded 11 f (le 1 0)) f (linkFailed s f) :=
    ⟨avs_modAvs s f fun a => Avs.broken a (s.fieldFcode f), List.mem_append_right _ (List.mem_singleton_self _)⟩
  have hnoted := LinkTold.noted (hfailed.incident { cls := 5, sev := .degraded, ev := .regLinkFail, unit := f } 5 f) s
  obtain ⟨havs, hraised⟩ := hnoted.envAbort 3
  exact ⟨_, hexec, congrArg Avs.failed havs, rfl, fun hcap => (congrArg Avs.capFcode havs).trans (if_neg (by simp [hcap])), hraised⟩

end

end Sys2Proof.Proofs
end

section
/-! The governor and the thermal grants, and the statement on links and governor (O50). -/

set_option Elab.async false

namespace Sys2Proof.Proofs

open Sys2Proof.Machine Sys2Proof.Safety Sys2Proof.Laws

section

variable {s : State}

/-! ## The governor (R466) -/

/-- The power of 16 marks is above the envelope, or that of the window above the cap. -/
@[reducible] def OverBudget (s : State) : Prop := 24000 * (1000000 * countOf 16 s.gov.hist) < sumOf 16 s.gov.hist ∨
  s.gov.cap * (1000000 * countOf (16 * 4 ^ s.gov.sprint) s.gov.hist) < sumOf (16 * 4 ^ s.gov.sprint) s.gov.hist

/-- Both are below 90 %. -/
@[reducible] def UnderBudget (s : State) : Prop := sumOf 16 s.gov.hist < 21600 * (1000000 * countOf 16 s.gov.hist) ∧
  10 * sumOf (16 * 4 ^ s.gov.sprint) s.gov.hist < 9 * (s.gov.cap * (1000000 * countOf (16 * 4 ^ s.gov.sprint) s.gov.hist))

theorem not_overBudget (h : UnderBudget s) : ¬ OverBudget s := by
  obtain ⟨h16, hw⟩ := h
  rintro (ho | ho) <;> omega

/-- The evaluation noted, and the means kept. -/
def govNoted (s : State) : State :=
  { s with gov := { s.gov with
      evalAt := some s.mark
      p16 := min 0xFFFF (sumOf 16 s.gov.hist / (1000000 * countOf 16 s.gov.hist))
      pw := min 0xFFFF (sumOf (16 * 4 ^ s.gov.sprint) s.gov.hist / (1000000 * countOf (16 * 4 ^ s.gov.sprint) s.gov.hist)) } }

/-- The reason of a lower G: 2 for the envelope, 1 for the cap. -/
def cutReason (s : State) : Nat := if 24000 * (1000000 * countOf 16 s.gov.hist) < sumOf 16 s.gov.hist then 2 else 1

/-- G lowered to an entry, HOLD at 4. -/
def govCut (s : State) (n : Nat) : State := { govNoted s with gov := { (govNoted s).gov with g := n, hold := 4, reason := cutReason s } }

/-- What an evaluation makes of the state. -/
def governed (s : State) : State :=
  let lower := (s.fab.dom s.fab.govDom).entryUnder s.gov.g
  let higher := min 96 ((s.fab.dom s.fab.govDom).entryOver s.gov.g)
  if OverBudget s then (if lower = s.gov.g then govCut s lower else ((govCut s lower).govLimit (cutReason s) s.fab.govDom lower).baseMoved)
  else if UnderBudget s then
    (if 0 < s.gov.hold then { govNoted s with gov := { (govNoted s).gov with hold := s.gov.hold - 1 } }
     else if higher = s.gov.g then govNoted s else ({ govNoted s with gov := { (govNoted s).gov with g := higher } }).baseMoved)
  else govNoted s

theorem exec_governorEval_elsewhere (h : s.mark.toNat % 16 ≠ 0) : exec .governorEval s = .next s := congrArg Host.Outcome.next (if_pos (by simp [h]))

theorem takeCaps_none (h : s.gov.capDue = false) : s.takeCaps = s := if_pos (by simp [h])

theorem exec_governorEval_due (hat : s.atMark = true) (hspeaks : s.role.silent = false) (hmark : s.mark.toNat % 16 = 0) (honce : s.gov.evalAt ≠ some s.mark)
    (hfree : s.govHeld = false) (hcaps : s.gov.capDue = false) : exec .governorEval s = .next (governed s) := by
  have hkept : ({ s with gov := { s.gov with evalAt := some s.mark } } : State).takeCaps = { s with gov := { s.gov with evalAt := some s.mark } } := takeCaps_none hcaps
  refine congrArg Host.Outcome.next ((if_neg (by simp [hat, hspeaks, hmark, honce, hfree])).trans ?_)
  rw [hkept]
  rfl

theorem governed_gd : (governed s).gov.gd = s.gov.gd := by
  unfold governed
  extract_lets lower higher
  split
  · split <;> rfl
  · split
    · split
      · rfl
      · split <;> rfl
    · rfl

theorem governed_cut (h : OverBudget s) : (governed s).gov.g = (s.fab.dom s.fab.govDom).entryUnder s.gov.g ∧ (governed s).gov.hold = 4 ∧ (governed s).gov.reason = cutReason s ∧
    ((governed s).gov.g ≠ s.gov.g →
      Raises s (governed s) .govLimit .info 0 s.summitIdx (le 1 (governed s).gov.reason ++ le 1 s.fab.govDom ++ le 1 (governed s).gov.g)) := by
  unfold governed
  extract_lets lower higher
  rw [if_pos h]
  split
  · next hsame => exact ⟨rfl, rfl, rfl, fun hne => absurd hsame hne⟩
  · exact ⟨rfl, rfl, rfl, fun _ => List.mem_append_right _ (List.mem_singleton_self _)⟩

theorem governed_holds (h : UnderBudget s) (hhold : 0 < s.gov.hold) : (governed s).gov.g = s.gov.g ∧ (governed s).gov.hold = s.gov.hold - 1 := by
  unfold governed
  rw [if_neg (not_overBudget h), if_pos h, if_pos hhold]
  exact ⟨rfl, rfl⟩

theorem governed_raises (h : UnderBudget s) (hhold : s.gov.hold = 0) :
    (governed s).gov.g = min 96 ((s.fab.dom s.fab.govDom).entryOver s.gov.g) ∧ (governed s).gov.hold = 0 := by
  unfold governed
  extract_lets lower higher
  rw [if_neg (not_overBudget h), if_pos h, if_neg (by omega)]
  split
  · next hsame => exact ⟨hsame.symm, hhold⟩
  · exact ⟨rfl, hhold⟩

end

/-! ## The thermal grants (R466) -/

section

variable {s t : State} {d : Nat} {c : Int}

theorem getD_setNth_ne {α : Type} {l : List α} {i j : Nat} (h : i ≠ j) (v e : α) : (setNth l i v).getD j e = l.getD j e := by simp [setNth, h]

/-- What the evaluation of one domain leaves as it was. -/
theorem thermalOne_keeps {β : Type} (p : State → β) (a : Nat) (hhot : ∀ u : State, p { u with gov := { u.gov with hot := setNth u.gov.hot a u.mark } } = p u)
    (hput : ∀ (u : State) v, p { u with gov := { u.gov with gd := setNth u.gov.gd a v, changed := setNth u.gov.changed a u.mark } } = p u)
    (hlimit : ∀ (u : State) v, p (u.govLimit 3 a v) = p u) (hbase : ∀ u : State, p u.baseMoved = p u) (s : State) : p (s.thermalOne a) = p s := by
  unfold State.thermalOne
  split
  · rfl
  · extract_lets g cap gd put lower higher
    split
    · next hcap =>
      split
      · exact hhot s
      · have hboth : put lower = { ({ s with gov := { s.gov with gd := setNth s.gov.gd a lower, changed := setNth s.gov.changed a s.mark } } : State) with
            gov := { s.gov with gd := setNth s.gov.gd a lower, changed := setNth s.gov.changed a s.mark, hot := setNth s.gov.hot a s.mark } } := by
          unfold put
          rw [if_pos hcap]
        rw [hbase, hlimit, hboth]
        exact (hhot { s with gov := { s.gov with gd := setNth s.gov.gd a lower, changed := setNth s.gov.changed a s.mark } }).trans (hput s lower)
    · next hcap =>
      split
      · exact hhot s
      · split
        · split
          · rfl
          · have hone : put higher = { s with gov := { s.gov with gd := setNth s.gov.gd a higher, changed := setNth s.gov.changed a s.mark } } := by
              unfold put
              rw [if_neg hcap]
            rw [hbase, hone]
            exact hput s higher
        · rfl

/-- A domain's hottest reading is of the Spurs' calibration, the field map and the word that stands in for the readings. -/
theorem tmax_congr (hfab : t.fab = s.fab) (hspurs : t.spurs = s.spurs) (hcols : t.cols = s.cols) (hwords : t.words = s.words) (d : Nat) : t.tmax d = s.tmax d := by
  have hhot : t.hottest = s.hottest := by
    funext n
    unfold State.hottest State.sensOver State.hits State.regionOf State.spur State.col State.word
    rw [hwords, hspurs, hcols]
  unfold State.tmax
  rw [hfab, hhot]

/-- The grant of a domain, the marks kept of it, and what its evaluation reads, are those of `s`. -/
structure ThermalSame (s : State) (d : Nat) (t : State) : Prop where
  g : t.gov.g = s.gov.g
  tcap : t.gov.tcap = s.gov.tcap
  fab : t.fab = s.fab
  mark : t.mark = s.mark
  tmax : t.tmax d = s.tmax d
  length : t.gov.gd.length = s.gov.gd.length
  gd : nth t.gov.gd d = nth s.gov.gd d
  hot : t.gov.hot.getD d 0 = s.gov.hot.getD d 0
  changed : t.gov.changed.getD d 0 = s.gov.changed.getD d 0

theorem thermalOne_g (a : Nat) (t : State) : (t.thermalOne a).gov.g = t.gov.g :=
  thermalOne_keeps (fun u => u.gov.g) a (fun _ => rfl) (fun _ _ => rfl) (fun _ _ => rfl) (fun _ => rfl) t

theorem thermalOne_gd_other {a : Nat} (h : a ≠ d) (t : State) : nth (t.thermalOne a).gov.gd d = nth t.gov.gd d :=
  thermalOne_keeps (fun u => nth u.gov.gd d) a (fun _ => rfl) (fun _ _ => nth_setNth_ne h _) (fun _ _ => rfl) (fun _ => rfl) t

theorem ThermalSame.thermalOne {a : Nat} (ha : a ≠ d) (h : ThermalSame s d t) : ThermalSame s d (t.thermalOne a) where
  g := (thermalOne_g a t).trans h.g
  tcap := (thermalOne_keeps (fun u => u.gov.tcap) a (fun _ => rfl) (fun _ _ => rfl) (fun _ _ => rfl) (fun _ => rfl) t).trans h.tcap
  fab := (thermalOne_keeps State.fab a (fun _ => rfl) (fun _ _ => rfl) (fun _ _ => rfl) (fun _ => rfl) t).trans h.fab
  mark := (thermalOne_keeps State.mark a (fun _ => rfl) (fun _ _ => rfl) (fun _ _ => rfl) (fun _ => rfl) t).trans h.mark
  tmax := (tmax_congr (thermalOne_keeps State.fab a (fun _ => rfl) (fun _ _ => rfl) (fun _ _ => rfl) (fun _ => rfl) t)
    (thermalOne_keeps State.spurs a (fun _ => rfl) (fun _ _ => rfl) (fun _ _ => rfl) (fun _ => rfl) t)
    (thermalOne_keeps State.cols a (fun _ => rfl) (fun _ _ => rfl) (fun _ _ => rfl) (fun _ => rfl) t)
    (thermalOne_keeps State.words a (fun _ => rfl) (fun _ _ => rfl) (fun _ _ => rfl) (fun _ => rfl) t) d).trans h.tmax
  length := (thermalOne_keeps (fun u => u.gov.gd.length) a (fun _ => rfl) (fun _ _ => length_setNth ..) (fun _ _ => rfl) (fun _ => rfl) t).trans h.length
  gd := (thermalOne_gd_other ha t).trans h.gd
  hot := (thermalOne_keeps (fun u => u.gov.hot.getD d 0) a (fun _ => getD_setNth_ne ha ..) (fun _ _ => rfl) (fun _ _ => rfl) (fun _ => rfl) t).trans h.hot
  changed := (thermalOne_keeps (fun u => u.gov.changed.getD d 0) a (fun _ => rfl) (fun _ _ => getD_setNth_ne ha ..) (fun _ _ => rfl) (fun _ => rfl) t).trans h.changed

/-- The grant that an evaluation at `c` gives the domain. -/
def grantAt (s : State) (d : Nat) (c : Int) : Nat :=
  if 16 * (s.gov.tcap : Int) ≤ c then (s.fab.dom d).entryUnder (nth s.gov.gd d)
  else if 16 * (s.gov.tcap : Int) - 80 < c then nth s.gov.gd d
  else if 256 ≤ s.since (s.gov.hot.getD d 0) ∧ 256 ≤ s.since (s.gov.changed.getD d 0) then (s.fab.dom d).entryOver (nth s.gov.gd d)
  else nth s.gov.gd d

theorem thermalOne_grant (hc : s.tmax d = some c) (hd : d < s.gov.gd.length) : nth (s.thermalOne d).gov.gd d = grantAt s d c := by
  unfold State.thermalOne grantAt
  rw [hc]
  dsimp only
  split
  · split
    · next hsame => exact hsame.symm
    · exact nth_setNth_same hd _
  · split
    · rfl
    · split
      · split
        · next hsame => exact hsame.symm
        · exact nth_setNth_same hd _
      · rfl

theorem ThermalSame.grantAt_eq (h : ThermalSame s d t) : grantAt t d c = grantAt s d c := by
  obtain ⟨-, htcap, hfab, hmark, -, -, hgd, hhot, hchanged⟩ := h
  unfold grantAt State.since
  rw [htcap, hfab, hmark, hgd, hhot, hchanged]

/-- An update in a list without repetition, of what the others keep, establishes what the others keep after it. -/
theorem each_once {α : Type} {P Q : State → Prop} {f : State → α → State} {a : α} (hQ : ∀ t b, b ≠ a → Q t → Q (f t b)) (hP : ∀ t b, b ≠ a → P t → P (f t b))
    (hfa : ∀ t, Q t → P (f t a)) {l : List α} (hl : l.Nodup) (ha : a ∈ l) {s : State} (hs : Q s) : P (s.each l f) := by
  induction l generalizing s with
  | nil => cases ha
  | cons b l ih =>
    rw [each_cons]
    obtain ⟨hb, hl⟩ := List.nodup_cons.1 hl
    rcases List.mem_cons.1 ha with rfl | ha
    · have hrest : ∀ m : List α, a ∉ m → ∀ u, P u → P (u.each m f) := by
        intro m
        induction m with
        | nil => exact fun _ _ hu => hu
        | cons x m ihm =>
          intro hm u hu
          exact ihm (List.not_mem_of_not_mem_cons hm) _ (hP u x (List.ne_of_not_mem_cons hm).symm hu)
      exact hrest l hb _ (hfa s hs)
    · exact ih hl ha (hQ s b (fun h => hb (h ▸ ha)) hs)

theorem used_nodup (fb : Fabric) : fb.used.Nodup := List.nodup_range.filter _

theorem runs_thermalEval (hat : s.atMark = true) (hspeaks : s.role.silent = false) (hmark : s.mark.toNat % 64 = 0) (honce : s.gov.thermAt ≠ some s.mark)
    (hfree : s.govHeld = false) (hd : d ∈ s.fab.used) (hlt : d < s.gov.gd.length) (hc : s.tmax d = some c) :
    Runs .thermalEval s fun t => t.gov.g = s.gov.g ∧ nth t.gov.gd d = grantAt s d c := by
  have htmax : ({ s with gov := { s.gov with thermAt := some s.mark } } : State).tmax d = s.tmax d :=
    tmax_congr (s := s) (t := { s with gov := { s.gov with thermAt := some s.mark } }) rfl rfl rfl rfl d
  have hsame : ThermalSame s d { s with gov := { s.gov with thermAt := some s.mark } } := ⟨rfl, rfl, rfl, rfl, htmax, rfl, rfl, rfl, rfl⟩
  refine ⟨_, congrArg Host.Outcome.next (if_neg (by simp [hat, hspeaks, hmark, honce, hfree])), ?_⟩
  refine each_once (P := fun t => t.gov.g = s.gov.g ∧ nth t.gov.gd d = grantAt s d c) (fun t b hb ht => ht.thermalOne hb) ?_ ?_ (used_nodup s.fab) hd hsame
  · rintro t b hb ⟨hg, hgd⟩
    exact ⟨(thermalOne_g b t).trans hg, (thermalOne_gd_other hb t).trans hgd⟩
  · intro t ht
    exact ⟨(thermalOne_g d t).trans ht.g, (thermalOne_grant (ht.tmax.trans hc) (by rw [ht.length]; exact hlt)).trans ht.grantAt_eq⟩

end

/-! ## The statement -/

/-- Settles O50: the cases of a slot, of a reply, of a failed link and of the two evaluations. -/
theorem regulatorLinksAndGovernor : Obligations.RegulatorLinksAndGovernor := by
  unfold Obligations.RegulatorLinksAndGovernor
  refine ⟨?_, ?_, ?_, ?_, ?_, ?_, ?_⟩
  · intro s f hslot a
    refine ⟨runs_avsSlot_write hslot, runs_avsSlot_status hslot, runs_avsSlot_telemetry hslot, ?_, ?_⟩
    · intro hopen hframes
      exact (exec_avsSlot_waits hslot hopen hframes).trans (congrArg Host.Outcome.next (modAvs_congr rfl))
    · intro hopen hframes
      rw [exec_avsSlot_resends hslot (by rw [hopen]; decide) hframes]
      exact congrArg Host.Outcome.next (slotBegun_resendTx hopen hframes)
  · intro s f hgood a
    exact ⟨runs_avsReply_done hgood, runs_avsReply_current hgood, runs_avsReply_rail hgood, runs_avsReply_out hgood⟩
  · intro s f
    exact runs_avsReply_recovers
  · intro s f
    exact ⟨exec_regLinkFail_again, runs_regLinkFail⟩
  · intro s
    exact exec_governorEval_elsewhere
  · intro s hat hspeaks hmark honce hfree hcaps x k n16 nw p16 pw
    exact ⟨governed s, exec_governorEval_due hat hspeaks hmark honce hfree hcaps, governed_gd, governed_cut, fun h16 hw => governed_holds ⟨h16, hw⟩,
      fun h16 hw => governed_raises ⟨h16, hw⟩⟩
  · intro s d c hat hspeaks hmark honce hfree hd hlt hlen hc
    obtain ⟨t, hexec, hg, hgd⟩ := runs_thermalEval hat hspeaks hmark honce hfree hd (by omega) hc
    refine ⟨t, hexec, hg, ?_, ?_, ?_, ?_⟩
    · intro hhot
      rw [hgd, grantAt, if_pos hhot]
    · intro hnear hbelow
      rw [hgd, grantAt, if_neg (by omega), if_pos hnear]
    · intro hcool hhot hchanged
      rw [hgd, grantAt, if_neg (by omega), if_neg (by omega), if_pos ⟨hhot, hchanged⟩]
    · intro hcool hchanged
      rw [hgd, grantAt, if_neg (by omega), if_neg (by omega), if_neg (by omega)]

end Sys2Proof.Proofs
end

section
/-! Incidents, the error storm, the FATAL state and releases (O49). -/

set_option Elab.async false

namespace Sys2Proof.Proofs

open Sys2Proof.Machine Sys2Proof.Safety Sys2Proof.Laws

section

variable {s : State}

/-! ## What a region that goes dark leaves alone -/

section

variable {β : Type} (p : State → β) (hspurs : ∀ u x, p { u with spurs := x } = p u) (hsads : ∀ u x, p { u with saddles := x } = p u)
  (hcols : ∀ u x, p { u with cols := x } = p u) (hout : ∀ u x, p { u with out := x } = p u)

include hspurs hsads hcols hout

theorem cutRegion_rest (s : State) (r : Nat) : p (s.cutRegion r) = p s := by
  unfold State.cutRegion
  extract_lets f t t' t''
  have ht : p t = p s := by
    unfold t
    split
    · exact hcols s _
    · split
      · refine each_keeps p (fun u n => ?_) s _
        exact hspurs u _
      · rfl
  have hsad : p (t'.each (sadsOf r) fun u k => u.modSad k fun x => { x with held := true, borrow := 0, active := false }) = p t' := by
    refine each_keeps p (fun u k => ?_) t' _
    exact hsads u _
  have ht'' : p t'' = p s := (hcols _ _).trans (hsad.trans ((hspurs t _).trans ht))
  split
  · exact ht''
  · exact (hout t'' _).trans ht''

theorem goDark_rest (hraised : ∀ u x, p { u with raised := x } = p u) (s : State) (r : Nat) : p (s.goDark r) = p s := by
  unfold State.goDark
  extract_lets now t
  have ht : p t = p s := by
    unfold t
    split
    · exact cutRegion_rest p hspurs hsads hcols hout s r
    · exact hspurs s _
  exact (hraised t _).trans ht

/-- An incident taken in a storm changes of the incidents no more than the regions made dark. -/
theorem stormTake_rest (hraised : ∀ u x, p { u with raised := x } = p u) (hdark : ∀ u x, p { u with faults := { u.faults with stormDark := x } } = p u) (s : State) (i : Incident) :
    p (s.stormTake i) = p s := by
  unfold State.stormTake
  split
  · rfl
  · split
    · rfl
    · exact (hdark _ _).trans (each_keeps p (goDark_rest p hspurs hsads hcols hout hraised) s _)

end

theorem cutRegion_gates_other {r k : Nat} (h : r ≠ k) : ((s.cutRegion r).spur k).gates = (s.spur k).gates := by
  unfold State.cutRegion
  extract_lets f t t' t''
  have ht : (t.spur k).gates = (s.spur k).gates := by
    unfold t
    split
    · rfl
    · split
      · exact endCaps_keeps s r k Spur.gates fun _ _ => rfl
      · rfl
  have hsad : (t'.each (sadsOf r) fun u j => u.modSad j fun x => { x with held := true, borrow := 0, active := false }).spur k = t'.spur k := by
    refine each_keeps (fun u => u.spur k) (fun u j => ?_) _ _
    exact modSad_at_spur ..
  have ht'' : (t''.spur k).gates = (s.spur k).gates := by
    rw [show t''.spur k = t'.spur k from hsad, show t'.spur k = t.spur k from spur_modSpur_of_ne t h _, ht]
  split
  · exact ht''
  · exact ht''

theorem goDark_gates_other {r k : Nat} (h : r ≠ k) : ((s.goDark r).spur k).gates = (s.spur k).gates := by
  unfold State.goDark
  extract_lets now t
  change (t.spur k).gates = _
  unfold t
  split
  · exact cutRegion_gates_other h
  · rw [spur_modSpur_of_ne s h]

end

/-! ## A region dark in the storm (R451) -/

section

variable {s : State} {r n : Nat}

theorem regionOf_of_parts {t : State} (hspurs : t.spurs = s.spurs) (hcols : t.cols = s.cols) (n : Nat) : t.regionOf n = s.regionOf n := by
  unfold State.regionOf State.spur State.col
  rw [hspurs, hcols]

theorem driverSpur_of_drivers {t : State} (h : ∀ k, (t.spur k).gates.driver = (s.spur k).gates.driver) (k : Nat) : t.driverSpur k = s.driverSpur k := by
  rw [State.driverSpur, State.driverSpur, h]

theorem clockedBy_of_drivers {t : State} (h : ∀ k, (t.spur k).gates.driver = (s.spur k).gates.driver) (r : Nat) : t.clockedBy r = s.clockedBy r := by
  simp only [State.clockedBy, h, driverSpur_of_drivers h]

/-- A region that has gone dark stays so when a region goes dark. -/
theorem goDark_keeps_dark (hr : r < 425) (h : GatesDark (s.spur r).gates) (b : Nat) : GatesDark ((s.goDark b).spur r).gates := by
  by_cases hb : b = r
  · subst hb
    obtain ⟨hdriver, -⟩ := h
    have hclock : s.clockedBy b = none := by rw [State.clockedBy, hdriver]
    unfold State.goDark
    rw [hclock]
    exact cutRegion_gates s hr
  · rw [goDark_gates_other hb]
    exact h

/-- A region that is to go dark at its next mark still is when one other, or it once more, goes dark. -/
theorem goDark_twice_darkDue (hr : r < 425) (h : s.clockedBy r = some n) (hat : s.atCycle0 n = false) (b : Nat) : (((s.goDark r).goDark b).spur r).gates.darkDue = true := by
  by_cases hb : b = r
  · subst hb
    have hspurs : (s.goDark b).spurs = (darkened s b false).spurs := hat ▸ goDark_spurs h
    have hdrivers : ∀ k, ((s.goDark b).spur k).gates.driver = (s.spur k).gates.driver := fun k => by
      rw [spur_of_spurs hspurs]
      exact modSpur_keeps s (fun x => x.gates.driver) b k
    have hgen : ((s.goDark b).spur n).gen = (s.spur n).gen := by
      rw [spur_of_spurs hspurs]
      exact modSpur_keeps s Spur.gen b n
    have hlate : (s.goDark b).atCycle0 n = false := by rw [State.atCycle0, hgen]; exact hat
    exact goDark_darkDue ((clockedBy_of_drivers hdrivers b).trans h) hr hlate
  · rw [goDark_gates_other hb]
    exact goDark_darkDue h hr hat

/-- The state once the next incident of a storm has been taken off its place and the queue. -/
def stormPicked (s : State) (i : Incident) (c : Nat) : State :=
  { s with faults := { s.faults with
      takenAt := some s.mark, opened := if s.faults.opened.getD c none = some i then setNth s.faults.opened c none else s.faults.opened
      queue := removeOne i s.faults.queue } }

/-- The storm takes the incident that arrived first: of class `c`, once per mark. -/
structure StormTakes (s : State) (i : Incident) (c : Fin 8) : Prop where
  speaks : s.role.silent = false
  atMark : s.atMark = true
  storm : s.faults.storm = true
  next : s.faults.stormNext = some i
  cls : i.cls = c
  once : s.faults.takenAt ≠ some s.mark

theorem exec_incidentOpen_storm {i : Incident} {c : Fin 8} (h : StormTakes s i c) : exec (.incidentOpen c) s = .next ((stormPicked s i c).stormTake i) := by
  obtain ⟨hspeaks, hat, hstorm, hnext, hcls, honce⟩ := h
  refine congrArg Host.Outcome.next ((if_neg (by simp [hspeaks, hat])).trans ((if_pos hstorm).trans ?_))
  rw [hnext]
  exact if_neg (by simp [hcls, honce])

theorem stormTake_eq {i : Incident} (hcls : i.cls = 3) (hregion : s.regionOf i.unit = some r) : s.stormTake i =
    { s.each (r :: (s.lentTo r).toList) State.goDark with
      faults := { (s.each (r :: (s.lentTo r).toList) State.goDark).faults with
        stormDark := (s.each (r :: (s.lentTo r).toList) State.goDark).faults.stormDark ++ r :: (s.lentTo r).toList } } := by
  unfold State.stormTake
  rw [if_neg (by simp [hcls]), hregion]

theorem stormTake_gates {i : Incident} (hr : r < 425) (hcls : i.cls = 3) (hregion : s.regionOf i.unit = some r) (hclock : s.clockedBy r = some n) :
    (s.atCycle0 n = true → GatesDark ((s.stormTake i).spur r).gates) ∧ (s.atCycle0 n = false → ((s.stormTake i).spur r).gates.darkDue = true) := by
  rw [stormTake_eq hcls hregion]
  change (_ → GatesDark ((s.each (r :: (s.lentTo r).toList) State.goDark).spur r).gates) ∧ (_ → ((s.each (r :: (s.lentTo r).toList) State.goDark).spur r).gates.darkDue = true)
  rw [each_cons]
  constructor
  · intro hat
    exact each_preserves (fun t => GatesDark (t.spur r).gates) (fun _ b h => goDark_keeps_dark hr h b) (goDark_gates hclock hr hat) _
  · intro hat
    cases s.lentTo r with
    | none => exact goDark_darkDue hclock hr hat
    | some b => exact goDark_twice_darkDue hr hclock hat b

theorem runs_incidentOpen_storm {i : Incident} {r : Fin 400} (h : StormTakes s i 3) (hregion : s.regionOf i.unit = some r.val) (hclock : s.clockedBy r = some i.unit) :
    Runs (.incidentOpen 3) s fun t => (s.faults.opened.getD 3 none = some i → t.faults.opened.getD 3 none = none) ∧
      (s.atCycle0 i.unit = true → (t.spur r).gates.driver = .dark ∧ (t.spur r).gates.comp = true ∧ (t.spur r).gates.tran = true) ∧
      (s.atCycle0 i.unit = false → (t.spur r).gates.darkDue = true) ∧
      r.val ∈ t.faults.stormDark ∧ t.faults.queue = removeOne i s.faults.queue ∧ t.faults.takenAt = some s.mark := by
  have hkept : ∀ {β : Type} (p : Faults → β), (∀ fl x, p { fl with stormDark := x } = p fl) → p ((stormPicked s i 3).stormTake i).faults = p (stormPicked s i 3).faults := fun p hp =>
    stormTake_rest (fun t => p t.faults) (fun _ _ => rfl) (fun _ _ => rfl) (fun _ _ => rfl) (fun _ _ => rfl) (fun _ _ => rfl) (fun u x => hp u.faults x) _ i
  have hpicked : (stormPicked s i 3).regionOf i.unit = some r.val := (regionOf_of_parts (s := s) (t := stormPicked s i 3) rfl rfl i.unit).trans hregion
  have hexec : exec (.incidentOpen 3) s = .next ((stormPicked s i 3).stormTake i) := exec_incidentOpen_storm h
  obtain ⟨hdark, hdue⟩ := stormTake_gates (s := stormPicked s i 3) (i := i) (r := r) (n := i.unit) (by omega) h.cls hpicked ((clockedBy_of_drivers (s := s) (t := stormPicked s i 3) (fun _ => rfl) r).trans hclock)
  refine ⟨_, hexec, fun hopen => ?_, fun hat => ?_, hdue, ?_, (hkept Faults.queue fun _ _ => rfl).trans rfl,
    (hkept Faults.takenAt fun _ _ => rfl).trans rfl⟩
  · have hopened : (stormPicked s i 3).faults.opened = setNth s.faults.opened 3 none := if_pos hopen
    have hlen : 3 < s.faults.opened.length := by
      by_contra hshort
      rw [List.getD_eq_default _ _ (by omega)] at hopen
      cases hopen
    rw [hkept Faults.opened fun _ _ => rfl, hopened, getD_setNth_same hlen]
  · obtain ⟨hdriver, hcomp, htran, -⟩ := hdark hat
    exact ⟨hdriver, hcomp, htran⟩
  · rw [stormTake_eq h.cls hpicked]
    exact List.mem_append_right _ (List.mem_cons_self ..)

end

/-! ## Incidents outside a storm (R449) -/

section

variable {s : State} {c : Fin 8} {i j : Incident}

/-- Incidents open: at ridge tick 0, outside a storm. -/
structure IncidentsOpen (s : State) : Prop where
  speaks : s.role.silent = false
  atMark : s.atMark = true
  calm : s.faults.storm = false

/-- The first queued incident of a class opened. -/
def incidentOpened (s : State) (c : Nat) (i : Incident) : State :=
  { s with faults := { s.faults with opened := setNth s.faults.opened c (some i), queue := removeOne i s.faults.queue } }

theorem suspend_keeps {β : Type} (p : State → β) (hcols : ∀ u x, p { u with cols := x } = p u) (s : State) (j : Incident) : p (s.suspend j) = p s := by
  unfold State.suspend
  split
  · rfl
  · exact hcols s _

section

variable (h : IncidentsOpen s)

include h

theorem exec_incidentOpen_none (hqueue : s.faults.queuedOf c = none) : exec (.incidentOpen c) s = .next s := by
  obtain ⟨hspeaks, hat, hcalm⟩ := h
  refine congrArg Host.Outcome.next ((if_neg (by simp [hspeaks, hat])).trans ((if_neg (by simp [hcalm])).trans ?_))
  rw [hqueue]

theorem exec_incidentOpen_free (hqueue : s.faults.queuedOf c = some i) (hfree : s.faults.opened.getD c none = none) :
    exec (.incidentOpen c) s = .next (incidentOpened s c i) := by
  obtain ⟨hspeaks, hat, hcalm⟩ := h
  refine congrArg Host.Outcome.next ((if_neg (by simp [hspeaks, hat])).trans ((if_neg (by simp [hcalm])).trans ?_))
  dsimp only
  rw [hqueue, hfree]
  rfl

/-- The state once an open incident has given way. -/
def preempted (s : State) (j : Incident) : State := (s.suspend j).raise .incidentPreempted 0 s.summitIdx (le 2 j.ev.code)

theorem runs_incidentOpen_preempts (hqueue : s.faults.queuedOf c = some i) (hopen : s.faults.opened.getD c none = some j) (hlen : s.faults.opened.length = 8)
    (hsev : sevRank j.sev < sevRank i.sev) (hcan : s.canSuspend j = true) : Runs (.incidentOpen c) s fun t =>
      t.faults.opened.getD c none = some i ∧ t.faults.queue = j :: removeOne i s.faults.queue ∧ Raises s t .incidentPreempted .info 0 s.summitIdx (le 2 j.ev.code) := by
  obtain ⟨hspeaks, hat, hcalm⟩ := h
  let t := incidentOpened (preempted s j) c i
  have hexec : exec (.incidentOpen c) s = .next { t with faults := { t.faults with queue := j :: t.faults.queue } } := by
    refine congrArg Host.Outcome.next ((if_neg (by simp [hspeaks, hat])).trans ((if_neg (by simp [hcalm])).trans ?_))
    dsimp only
    rw [hqueue, hopen]
    exact if_pos (by simp [hsev, hcan])
  have hfaults : (preempted s j).faults = s.faults := suspend_keeps State.faults (fun _ _ => rfl) s j
  have hrdg : (s.suspend j).rdg = s.rdg := suspend_keeps State.rdg (fun _ _ => rfl) s j
  refine ⟨_, hexec, ?_, ?_, raises_of_events (t := s.suspend j) (congrArg stamp hrdg) fun _ he => he⟩
  · change (setNth (preempted s j).faults.opened c (some i)).getD c none = some i
    rw [hfaults, getD_setNth_same (by omega)]
  · change j :: removeOne i (preempted s j).faults.queue = _
    rw [hfaults]

end

end

/-! ## The storm (R451) -/

section

variable {s : State}

theorem exec_errorStorm_none (h : s.faults.overflow = []) : exec .errorStorm s = .next s := by
  change Host.Outcome.next (match s.faults.overflow with | [] => s | is => _) = _
  rw [h]

/-- The storm begun, with the incidents that found the queue full taken from their place. -/
def stormBegun (s : State) : State := { s with faults := { s.faults with overflow := [], storm := true } }

theorem exec_errorStorm_some (h : s.faults.overflow ≠ []) (hcalm : s.faults.storm = false) :
    exec .errorStorm s = .next (((stormBegun s).each s.faults.overflow State.stormTake).raise .errorStorm 0 s.summitIdx []) := by
  obtain ⟨i, is, hoverflow⟩ := List.exists_cons_of_ne_nil h
  refine congrArg Host.Outcome.next ?_
  rw [hoverflow]
  exact when_true (by simp [hcalm]) _ _

theorem runs_errorStorm (h : s.faults.overflow ≠ []) (hcalm : s.faults.storm = false) : Runs .errorStorm s fun t => t.faults.storm = true ∧ t.faults.overflow = [] ∧
    Raises s t .errorStorm .fatal 0 s.summitIdx [] ∧ s.event .errorStorm .fatal 0 s.summitIdx [] ∈ t.faults.pending := by
  have hexec := exec_errorStorm_some h hcalm
  have hkept : ∀ {β : Type} (p : State → β), (∀ u x, p { u with spurs := x } = p u) → (∀ u x, p { u with saddles := x } = p u) → (∀ u x, p { u with cols := x } = p u) →
      (∀ u x, p { u with out := x } = p u) → (∀ u x, p { u with raised := x } = p u) → (∀ u x, p { u with faults := { u.faults with stormDark := x } } = p u) →
      p ((stormBegun s).each s.faults.overflow State.stormTake) = p (stormBegun s) := fun p h1 h2 h3 h4 h5 h6 =>
    each_keeps p (fun t i => stormTake_rest p h1 h2 h3 h4 h5 h6 t i) _ _
  have hstorm := hkept (fun t => t.faults.storm) (fun _ _ => rfl) (fun _ _ => rfl) (fun _ _ => rfl) (fun _ _ => rfl) (fun _ _ => rfl) fun _ _ => rfl
  have hoverflow := hkept (fun t => t.faults.overflow) (fun _ _ => rfl) (fun _ _ => rfl) (fun _ _ => rfl) (fun _ _ => rfl) (fun _ _ => rfl) fun _ _ => rfl
  have hrdg := hkept State.rdg (fun _ _ => rfl) (fun _ _ => rfl) (fun _ _ => rfl) (fun _ _ => rfl) (fun _ _ => rfl) fun _ _ => rfl
  have hevent := event_of_stamp (congrArg stamp hrdg) .errorStorm .fatal 0 s.summitIdx []
  refine ⟨_, hexec, hstorm, hoverflow, raises_of_events (congrArg stamp hrdg) fun _ he => he, ?_⟩
  generalize (stormBegun s).each s.faults.overflow State.stormTake = u at *
  rw [show s.event .errorStorm .fatal 0 s.summitIdx [] = u.event .errorStorm .fatal 0 s.summitIdx [] from hevent.symm]
  exact List.mem_append_right _ (List.mem_singleton_self _)

end

end Sys2Proof.Proofs
end

section
/-! The FATAL state, its clearing, and releases (O49). -/

set_option Elab.async false

namespace Sys2Proof.Proofs

open Sys2Proof.Machine Sys2Proof.Safety Sys2Proof.Laws

/-! ## The plan cancelled and the sets unstaged -/

section

theorem unstageSets_keeps {β : Type} (p : State → β) (s : State) (hout : ∀ u o, p { u with out := o } = p u) (hcols : ∀ u c, p { u with cols := c } = p u)
    (hplan : ∀ u l, p { u with plan := l } = p u) (q : CommitSet → Bool) : p (s.unstageSets q) = p s := by
  refine each_keeps p (fun t c => ?_) s _
  split
  · exact unstage_keeps p t hout hcols hplan c
  · exact (hplan _ _).trans (unstage_keeps p t hout hcols hplan c)

variable {m : Message} {s : State}

theorem out_sendLane (h : m ∈ s.out) (c : LaneCmd) : m ∈ (s.sendLane c).out := by
  unfold State.sendLane
  split
  · exact h
  · exact List.mem_append_left _ h

theorem out_unstage (h : m ∈ s.out) (c : CommitSet) : m ∈ (s.unstage c).out := by
  unfold State.unstage
  split
  · exact out_sendLane (s := (s.modPlan fun p => (p.modSet c.seq fun x => { x with staged := false, restage := false, volt := [] }).setStage c.members .formed)) h _
  · exact h

theorem out_unstageSets (h : m ∈ s.out) (q : CommitSet → Bool) : m ∈ (s.unstageSets q).out := by
  refine each_preserves (fun t => m ∈ t.out) (fun t c ht => ?_) h _
  split
  · exact out_unstage ht c
  · exact out_unstage ht c

theorem out_cancelPlan (h : m ∈ s.out) : m ∈ s.cancelPlan.out := by
  have hdropped : (s.sendLane .discard).dropMeasures.out = (s.sendLane .discard).out := dropMeasures_keeps State.out _
  have hend : ∀ (t : State) (g : Plan → Plan), ((t.modPlan g).requests true).baseMoved.out = t.out := fun _ _ => rfl
  have hfinish : ∀ (t : State) (e : FbEntry) (st : Status) (m : Mark) (k d : Nat) (b : Bool), (t.finish e st m k d b).out = t.out := fun _ _ _ _ _ _ _ => rfl
  rw [State.cancelPlan, hend, each_keeps State.out fun _ _ => hfinish .., hdropped]
  exact out_sendLane h _

end

/-! ## A FATAL event acted on (R452) -/

section

variable {s : State} {e : EventRec} {rest : List EventRec}

/-- The FATAL state entered, the signal to the die driven. -/
def fatalNoted (s : State) (e : EventRec) (rest : List EventRec) : State :=
  ({ s with faults := { s.faults with
      pending := rest, code := if s.faults.fatal then s.faults.code else e.ev.code, fatal := true, forceSafe := true
      vglCode := if s.faults.vglCode = 0 then e.ev.code else s.faults.vglCode
      noStage := s.faults.noStage || strands e.ev, otherFatal := s.faults.otherFatal || e.ev != Ev.errorStorm } }).driveFatal 1

/-- The code on the command lane, and in every Col's record. -/
def fatalTold (s : State) (e : EventRec) (rest : List EventRec) : State :=
  ((fatalNoted s e rest).sendLane (.fatal e.ev.code)).each (List.range 25) fun u f => u.record f e.ev.code false false false

/-- Nothing staged, and the descriptor list read no further. -/
def planHalted (s : State) : State :=
  { (s.unstageSets fun _ => true).baseMoved with hri := { (s.unstageSets fun _ => true).baseMoved.hri with stopped := true, reading := false, readAgain := false } }

theorem out_planHalted {m : Message} (h : m ∈ s.out) : m ∈ (planHalted s).out := out_unstageSets h _

theorem exec_fatalEvent_none (h : s.faults.pending = []) : exec .fatalEvent s = .next s := by
  change Host.Outcome.next (match s.faults.pending with | [] => s | e :: rest => _) = _
  rw [h]

theorem exec_fatalEvent_some (h : s.faults.pending = e :: rest) : exec .fatalEvent s = .next (planHalted (fatalTold s e rest)).cancelPlan := by
  refine congrArg Host.Outcome.next ?_
  rw [h]
  rfl

theorem fatalTold_keeps {β : Type} (p : State → β) (hout : ∀ u o, p { u with out := o } = p u) (hcols : ∀ u c, p { u with cols := c } = p u)
    (hcyc : ∀ u c, p { u with cyc := c } = p u) : p (fatalTold s e rest) = p (fatalNoted s e rest) := by
  have hrecord : ∀ (t : State) (f : Nat), p (t.record f e.ev.code false false false) = p t := fun t f => (hcyc _ _).trans (hcols t _)
  exact (each_keeps p hrecord _ _).trans (sendLane_keeps p _ hout _)

theorem fatalAnswered_keeps {β : Type} (p : State → β) (hout : ∀ u o, p { u with out := o } = p u) (hcols : ∀ u c, p { u with cols := c } = p u)
    (hcyc : ∀ u c, p { u with cyc := c } = p u) (hplan : ∀ u l, p { u with plan := l } = p u) (hrole : ∀ u r, p { u with role := r } = p u)
    (hlko : ∀ u l, p { u with lko := l } = p u) (hhri : ∀ u h, p { u with hri := h } = p u) : p (planHalted (fatalTold s e rest)).cancelPlan = p (fatalNoted s e rest) := by
  have hunstaged := unstageSets_keeps p (fatalTold s e rest) hout hcols hplan fun _ => true
  have hhalted : p (planHalted (fatalTold s e rest)) = p (fatalTold s e rest) := (hhri _ _).trans ((hrole _ _).trans hunstaged)
  exact (cancelPlan_keeps p _ hout hlko (fun u _ => hhri u _) hplan hcols hrole).trans (hhalted.trans (fatalTold_keeps p hout hcols hcyc))

theorem fatalAnswered_out (hspeaks : s.role.silent = false) : Message.lane (.fatal e.ev.code) ∈ (planHalted (fatalTold s e rest)).cancelPlan.out := by
  have hsent : Message.lane (.fatal e.ev.code) ∈ ((fatalNoted s e rest).sendLane (.fatal e.ev.code)).out := by
    rw [sendLane_of_active (s := fatalNoted s e rest) hspeaks]
    exact List.mem_append_right _ (List.mem_singleton_self _)
  have htold : (fatalTold s e rest).out = ((fatalNoted s e rest).sendLane (.fatal e.ev.code)).out := by
    refine each_keeps State.out (fun t f => ?_) _ _
    rfl
  rw [← htold] at hsent
  exact out_cancelPlan (out_planHalted hsent)

theorem runs_fatalEvent (h : s.faults.pending = e :: rest) : Runs .fatalEvent s fun t => t.boot.pinFatal = true ∧ t.faults.fatal = true ∧ t.faults.forceSafe = true ∧
    t.faults.code = (if s.faults.fatal then s.faults.code else e.ev.code) ∧ t.faults.pending = rest ∧ t.hri.stopped = true ∧
    (strands e.ev = true → t.faults.noStage = true) ∧ (s.role.silent = false → Message.lane (.fatal e.ev.code) ∈ t.out) ∧ ∀ x ∈ t.plan.sets, x.armed = true ∨ x.applied = true := by
  have hfaults : (planHalted (fatalTold s e rest)).cancelPlan.faults = (fatalNoted s e rest).faults :=
    fatalAnswered_keeps State.faults (fun _ _ => rfl) (fun _ _ => rfl) (fun _ _ => rfl) (fun _ _ => rfl) (fun _ _ => rfl) (fun _ _ => rfl) fun _ _ => rfl
  have hboot : (planHalted (fatalTold s e rest)).cancelPlan.boot = (fatalNoted s e rest).boot :=
    fatalAnswered_keeps State.boot (fun _ _ => rfl) (fun _ _ => rfl) (fun _ _ => rfl) (fun _ _ => rfl) (fun _ _ => rfl) (fun _ _ => rfl) fun _ _ => rfl
  have hstopped : (planHalted (fatalTold s e rest)).cancelPlan.hri.stopped = true := cancelPlan_keeps (fun t => t.hri.stopped) _
  refine ⟨_, exec_fatalEvent_some h, ?_, ?_, ?_, ?_, ?_, hstopped, fun hstrands => ?_, fatalAnswered_out, fun x => final_of_mem_cancelPlan⟩
  · rw [hboot]
    rfl
  · rw [hfaults]
    rfl
  · rw [hfaults]
    rfl
  · rw [hfaults]
    rfl
  · rw [hfaults]
    rfl
  · rw [hfaults]
    exact (congrArg (s.faults.noStage || ·) hstrands).trans (Bool.or_true _)

end

/-! ## CLEAR (R452, R455) -/

section

variable {s : State}

/-- A storm alone has forced SAFE, and nothing is queued. -/
structure StormAlone (s : State) : Prop where
  storm : s.faults.storm = true
  queue : s.faults.queue = []
  overflow : s.faults.overflow = []
  other : s.faults.otherFatal = false
  forced : s.faults.forceSafe = true

/-- The storm over, the forced SAFE lifted. -/
def stormCleared (s : State) : State := { s with faults := { s.faults with storm := false, forceSafe := false } }

theorem exec_clear_storm (hans : s.answers 0x704 = true) (h : StormAlone s) : exec .clear s = .next (stormCleared s).baseMoved := by
  obtain ⟨hstorm, hqueue, hoverflow, hother, hforced⟩ := h
  exact congrArg Host.Outcome.next ((take_rw hans _ _).trans (if_pos (by simp [hstorm, hqueue, hoverflow, hother, hforced])))

theorem exec_clear_busy (hans : s.answers 0x704 = true) (h : s.faults.storm = false ∨ s.faults.queue ≠ []) :
    exec .clear s = .next (s.raise .cfgBusy 0 s.summitIdx (le 4 0x704 ++ le 4 0x10000)) := by
  have hblocked : (s.faults.storm && s.faults.queue.isEmpty) = false := by
    rcases h with hstorm | hqueue
    · rw [hstorm, Bool.false_and]
    · rw [List.isEmpty_eq_false_iff.2 hqueue, Bool.and_false]
  exact congrArg Host.Outcome.next ((take_rw hans _ _).trans (if_neg (by simp [hblocked])))

end

/-! ## Releases (R453, R458) -/

section

variable {s : State} {f : Fin 25} {p : Fin 17}

theorem open_of_testOpen (h : s.testOpen = true) : s.locked = false := by
  unfold State.locked
  cases hst : s.lcs.st <;> simp [State.testOpen, hst] at h ⊢

theorem fieldOf_spurAt (f : Fin 25) (p : Fin 17) : fieldOf (spurAt f p) = f := by
  unfold spurAt
  split
  · unfold fieldOf regX regY
    rw [if_pos (by omega)]
    omega
  · unfold fieldOf
    rw [if_neg (by omega)]
    omega

theorem spurAt_lt (f : Fin 25) (p : Fin 17) : spurAt f p < 425 := by
  unfold spurAt
  split <;> omega

theorem ownerOf_release (s : State) (f : Fin 25) : s.ownerOf (colAddr f 0x48) = (1, f.val) := by
  have hwin : winOf (colAddr f 0x48) = .col f 0x48 := by
    have hf := f.isLt
    unfold winOf colAddr
    rw [if_neg (by omega), if_neg (by omega), if_neg (by omega), if_neg (by omega), if_neg (by omega), if_neg (by omega), if_neg (by omega), if_pos (by omega)]
    exact congrArg₂ Win.col (by omega) (by omega)
  rw [State.ownerOf, hwin]

/-- A failed Spur that has passed its test since, its position kept. -/
def spurReleased (s : State) (f : Fin 25) (p : Fin 17) : State :=
  (s.modCol f fun c => { c with relPos := p }).modSpur (spurAt f p) fun y => { y with gates := { y.gates with failed := false, testPassed := false } }

section

variable (hans : s.answers (colAddr f 0x48) = true) (hopen : s.testOpen = true)

include hans hopen

theorem exec_spur_released (hfailed : (s.spur (spurAt f p)).gates.failed = true) (hpassed : (s.spur (spurAt f p)).gates.testPassed = true) (hdark : spurAt f p ∉ s.faults.stormDark) :
    exec (.spur f p) s = .next (if spurAt f p < 400 ∧ (s.spur (spurAt f p)).gates.driver ≠ .own then (spurReleased s f p).startReturn (spurAt f p) else spurReleased s f p) :=
  congrArg Host.Outcome.next ((take_rwl_of_open hans (open_of_testOpen hopen) _ _).trans (if_neg (by simp [hopen, hfailed, hpassed, hdark])))

theorem exec_spur_untested (hfresh : (s.spur (spurAt f p)).gates.testPassed = false) : exec (.spur f p) s =
    .next ((s.modCol f fun c => { c with relPos := p }).raise .cfgBusy 1 f (le 4 (colAddr f 0x48) ++ le 4 (0x10000 + p))) := by
  have htold : (s.modCol f fun c => { c with relPos := p }).cfgEvent .cfgBusy (colAddr f 0x48) (BitVec.ofNat 32 (0x10000 + p)) =
      (s.modCol f fun c => { c with relPos := p }).raise .cfgBusy 1 f (le 4 (colAddr f 0x48) ++ le 4 (0x10000 + p)) := by
    rw [State.cfgEvent, ownerOf_release, BitVec.toNat_ofNat, Nat.mod_eq_of_lt (by omega)]
  rw [← htold]
  exact congrArg Host.Outcome.next ((take_rwl_of_open hans (open_of_testOpen hopen) _ _).trans (if_pos (by simp [hfresh])))

theorem exec_inst_released (hpassed : (s.col f).testPassed = true) (hfailed : (s.col f).pFailed = true ∨ (s.col f).sFailed = true) :
    exec (.inst f) s = .next (s.modCol f fun c => { c with pFailed := false, sFailed := false, testPassed := false }) :=
  congrArg Host.Outcome.next ((take_rwl_of_open hans (open_of_testOpen hopen) _ _).trans (if_pos (by simpa [hopen, hpassed] using hfailed)))

end

/-- A return begun tells the Col so, and changes no Spur but the one that returns, and not its gates. -/
theorem startReturn_parts {n : Nat} (hf : fieldOf n = f) (s : State) : ((s.startReturn n).col f).spare.returning = true ∧ ((s.startReturn n).col f).spare.target = n ∧
    ((s.startReturn n).col f).relPos = (s.col f).relPos ∧ ((s.startReturn n).spur n).gates = (s.spur n).gates ∧ ∀ k, k ≠ n → (s.startReturn n).spur k = s.spur k := by
  unfold State.startReturn
  rw [hf]
  extract_lets g t
  have ht : t.col f = { s.col f with spare := { (s.col f).spare.begin n s.mark with returning := true } } := col_modCol_self ..
  split
  · refine ⟨?_, ?_, ?_, rfl, fun _ _ => rfl⟩
    · rw [col_modCol_self, ht]
    · rw [col_modCol_self, ht]
      rfl
    · rw [col_modCol_self, ht]
  · next d _ =>
    have hcol : (t.modSpur n fun x => x.follow (s.spur d)).col f = t.col f := modSpur_at_col ..
    refine ⟨?_, ?_, ?_, modSpur_keeps t Spur.gates n n, fun k hk => spur_modSpur_of_ne t hk.symm _⟩
    · rw [hcol, ht]
    · rw [hcol, ht]
      rfl
    · rw [hcol, ht]

theorem runs_spur_released (hans : s.answers (colAddr f 0x48) = true) (hopen : s.testOpen = true) (hfailed : (s.spur (spurAt f p)).gates.failed = true)
    (hpassed : (s.spur (spurAt f p)).gates.testPassed = true) (hdark : spurAt f p ∉ s.faults.stormDark) : Runs (.spur f p) s fun t =>
      (t.spur (spurAt f p)).gates.failed = false ∧ (t.col f).relPos = p ∧
      (spurAt f p < 400 → (s.spur (spurAt f p)).gates.driver ≠ .own → (t.col f).spare.returning = true ∧ (t.col f).spare.target = spurAt f p) ∧
      ∀ k : Fin 425, k.val ≠ spurAt f p → t.spur k = s.spur k := by
  have hspur : ((spurReleased s f p).spur (spurAt f p)).gates.failed = false := by rw [spurReleased, spur_modSpur_of_lt _ (spurAt_lt f p)]
  have hpos : ((spurReleased s f p).col f).relPos = p := by rw [spurReleased, modSpur_at_col, col_modCol_self]
  have hothers : ∀ k : Fin 425, k.val ≠ spurAt f p → (spurReleased s f p).spur k = s.spur k := fun k hk => spur_modSpur_of_ne _ hk.symm _
  refine ⟨_, exec_spur_released hans hopen hfailed hpassed hdark, ?_⟩
  split
  · obtain ⟨hreturning, htarget, hrel, hgates, hrest⟩ := startReturn_parts (fieldOf_spurAt f p) (spurReleased s f p)
    exact ⟨hgates ▸ hspur, hrel.trans hpos, fun _ _ => ⟨hreturning, htarget⟩, fun k hk => (hrest k hk).trans (hothers k hk)⟩
  · next hstays => exact ⟨hspur, hpos, fun hlt hdriver => absurd ⟨hlt, hdriver⟩ hstays, hothers⟩

end

/-! ## The statement -/

/-- Settles O49: incidents outside a storm and in one, the storm's begin, a FATAL event, CLEAR, and the two releases. -/
theorem incidentsStormFatalStateAndRelease : Obligations.IncidentsStormFatalStateAndRelease := by
  unfold Obligations.IncidentsStormFatalStateAndRelease
  refine ⟨?_, ?_, ?_, ?_, ?_, ?_, ?_⟩
  · intro s c hspeaks hat hcalm
    have hopens : IncidentsOpen s := ⟨hspeaks, hat, hcalm⟩
    exact ⟨exec_incidentOpen_none hopens, fun i => exec_incidentOpen_free hopens, fun i j => runs_incidentOpen_preempts hopens⟩
  · intro s i r hspeaks hat hstorm hnext hcls honce
    exact runs_incidentOpen_storm ⟨hspeaks, hat, hstorm, hnext, hcls, honce⟩
  · intro s
    exact ⟨exec_errorStorm_none, runs_errorStorm⟩
  · intro s
    exact ⟨exec_fatalEvent_none, fun e rest => runs_fatalEvent⟩
  · intro s hans
    refine ⟨?_, exec_clear_busy hans⟩
    intro hstorm hqueue hoverflow hother hforced
    exact ⟨_, exec_clear_storm hans ⟨hstorm, hqueue, hoverflow, hother, hforced⟩, rfl, rfl, rfl, rfl, rfl⟩
  · intro s f p hans hopen n
    exact ⟨runs_spur_released hans hopen, exec_spur_untested hans hopen⟩
  · intro s f
    exact exec_inst_released

end Sys2Proof.Proofs
end

section
/-! On-demand self-tests: the request, the abort, the judgement and the return (O45). -/

set_option Elab.async false

namespace Sys2Proof.Proofs

open Sys2Proof.Machine Sys2Proof.Safety Sys2Proof.Laws

/-! ## A request (R423) -/

section

variable {s : State}

/-- KIND, UNIT and INST of the request. -/
def reqKind (s : State) : Nat := s.bstReq.bits 31 30

def reqUnit (s : State) : Nat := s.bstReq.bits 8 0

def reqCopy (s : State) : Nat := s.bstReq.bits 14 14

/-- The index of the requested unit as event source. -/
def reqIdx (s : State) : Nat := bistIdx (reqKind s) (reqUnit s) (reqCopy s)

/-- The requested unit is a Spur that drives its own region. -/
def reqOwn (s : State) : Bool := reqKind s == 0 && decide (reqUnit s < 400) && (s.spur (reqUnit s)).gates.driver == .own

/-- The test asks for a field spare that is not free. -/
def reqSpareBusy (s : State) : Bool :=
  (reqOwn s || (reqKind s == 0 && decide (400 ≤ reqUnit s))) && !s.spareFree (if reqKind s = 0 then fieldOf (reqUnit s) else reqUnit s)

/-- What an accepted request makes of the state. -/
def testAccepted (s : State) : State :=
  if reqKind s = 1 then s.beginTest (if (s.col (reqUnit s)).active == (reqCopy s == 1) then 1 else 3) false 0
  else if reqOwn s && (s.spur (400 + if reqKind s = 0 then fieldOf (reqUnit s) else reqUnit s)).gates.failed then
    let u := s.beginTest 0 false (s.bstFcap (reqUnit s))
    ({ u with bist := { u.bist with result := 5, done := true } }).raise .bistAborted 8 (reqIdx s) (le 1 5)
  else if reqOwn s then
    ((s.beginTest 1 true (s.bstFcap (reqUnit s))).copyConfig (reqUnit s) (400 + if reqKind s = 0 then fieldOf (reqUnit s) else reqUnit s)).track
      (if reqKind s = 0 then fieldOf (reqUnit s) else reqUnit s) (reqUnit s)
  else (s.beginTest 2 false (s.bstFcap (reqUnit s))).beginScan

theorem opens_of_testOpen (h : s.testOpen = true) : ¬ (s.lcs.st = .blank ∨ s.lcs.st = .deployed) := by
  rintro (hst | hst) <;> simp [State.testOpen, hst] at h

theorem exec_start_shut (hans : s.answers 0xB0000 = true) (hst : s.lcs.st = .blank ∨ s.lcs.st = .deployed) (hidle : s.testRuns = false) : exec .start s =
    .next (({ s with bist := { s.bist with result := 7, done := false } } : State).raise .bistRefused 8 (reqIdx s) (le 1 1 ++ le 2 (reqIdx s))) := by
  refine congrArg Host.Outcome.next ((take_rw hans _ _).trans ((if_pos hst).trans ?_))
  unfold State.refuseTest
  rw [if_neg (by simp [hidle])]
  rfl

theorem exec_start_busy (hans : s.answers 0xB0000 = true) (hopen : s.testOpen = true) (hruns : s.testRuns = true) :
    exec .start s = .next (s.raise .bistBusy 8 (reqIdx s) (le 2 (reqIdx s))) := by
  refine congrArg Host.Outcome.next ((take_rw hans _ _).trans ((if_neg (opens_of_testOpen hopen)).trans ((if_pos (by simp [hruns])).trans ?_)))
  unfold State.refuseTest
  rw [if_pos hruns]
  rfl

/-- A request for a test is open: the window answers, the state has tests open, none runs. -/
structure TestAsked (s : State) : Prop where
  answers : s.answers 0xB0000 = true
  opens : s.testOpen = true
  idle : s.testRuns = false

theorem exec_start_accepted (h : TestAsked s) (hfree : reqSpareBusy s = false) (hcap : reqKind s = 0 → 16 ≤ s.bstFcap (reqUnit s))
    (hother : reqKind s = 1 → s.otherHealthy (reqUnit s) (reqCopy s) = true) : exec .start s = .next (testAccepted s) := by
  obtain ⟨hans, hopen, hidle⟩ := h
  refine congrArg Host.Outcome.next ((take_rw hans _ _).trans ((if_neg (opens_of_testOpen hopen)).trans ((if_neg ?_).trans ((if_neg ?_).trans ((if_neg ?_).trans rfl)))))
  · change ¬ (s.testRuns || reqSpareBusy s) = true
    simp [hidle, hfree]
  · rintro ⟨hkind, hlow⟩
    have := hcap hkind
    exact absurd hlow (by change ¬ s.bstFcap (reqUnit s) < 16; omega)
  · rintro ⟨hkind, hill⟩
    have := hother hkind
    change (!s.otherHealthy (reqUnit s) (reqCopy s)) = true at hill
    simp [this] at hill

/-! ## A Spur's test (R424, R427) -/

section

variable {n : Nat} (hkind : reqKind s = 0) (hunit : reqUnit s = n)

include hkind hunit

theorem reqOwn_eq : reqOwn s = (decide (n < 400) && (s.spur n).gates.driver == .own) := by simp [reqOwn, hkind, hunit]

theorem reqSpareBusy_eq : reqSpareBusy s = ((reqOwn s || decide (400 ≤ n)) && !s.spareFree (fieldOf n)) := by simp [reqSpareBusy, hkind, hunit]

theorem reqIdx_spur : reqIdx s = n := by simp [reqIdx, bistIdx, hkind, hunit]

theorem testAccepted_handover (hown : reqOwn s = true) (hfit : (s.spur (400 + fieldOf n)).gates.failed = false) :
    testAccepted s = ((s.beginTest 1 true (s.bstFcap n)).copyConfig n (400 + fieldOf n)).track (fieldOf n) n := by
  simp [testAccepted, hkind, hunit, hown, hfit]

theorem testAccepted_unfit (hown : reqOwn s = true) (hill : (s.spur (400 + fieldOf n)).gates.failed = true) : testAccepted s =
    ({ s.beginTest 0 false (s.bstFcap n) with bist := { (s.beginTest 0 false (s.bstFcap n)).bist with result := 5, done := true } } : State).raise .bistAborted 8 n (le 1 5) := by
  simp [testAccepted, hkind, hunit, hown, hill, reqIdx_spur hkind hunit]

theorem testAccepted_scan (hown : reqOwn s = false) : testAccepted s = (s.beginTest 2 false (s.bstFcap n)).beginScan := by
  simp [testAccepted, hkind, hunit, hown]

end

/-- The configuration copied reads in the field spare's window as in the tested Spur's. -/
theorem word_copyConfig (h : WordsOk s) (n sp : Nat) {o : Nat} (ho : o ∈ [0, 0x60, 0x64, 0x80, 0x90, 0x94, 0xA0]) :
    (s.copyConfig n sp).word (sprAddr sp o) = s.word (sprAddr n o) := by
  have hset : ∀ (t : State) (o' : Nat), WordsOk t → WordsOk (t.setWord (sprAddr sp o') (s.word (sprAddr n o'))) := fun t o' ht => setWord_wordsOk ht _ _
  refine (each_establishes (Q := WordsOk) (P := fun t => WordsOk t ∧ t.word (sprAddr sp o) = s.word (sprAddr n o)) hset ?_ ho ?_ h).2
  · rintro t o' ⟨hok, hword⟩
    refine ⟨hset t o' hok, ?_⟩
    rw [word_setWord hok]
    split
    · next hsame => rw [Nat.add_left_cancel hsame]
    · exact hword
  · intro t ht
    exact ⟨hset t o ht, by rw [word_setWord ht, if_pos rfl]⟩

theorem word_of_words {t : State} (h : t.words = s.words) (a : Nat) : t.word a = s.word a := by rw [State.word, h, State.word]

theorem wordsOk_of_words {t : State} (h : t.words = s.words) (hs : WordsOk s) : WordsOk t := by
  rw [WordsOk, h]
  exact hs

theorem beginTest_words (s : State) (phase : Nat) (handover : Bool) (fcap : Nat) : (s.beginTest phase handover fcap).words = s.words := rfl

/-- Copying a configuration changes words alone. -/
theorem copyConfig_keeps {β : Type} (p : State → β) (h : ∀ u w, p { u with words := w } = p u) (s : State) (n sp : Nat) : p (s.copyConfig n sp) = p s :=
  each_keeps p (fun t _ => h t _) s _

theorem spareFree_of_idle {f : Nat} (h : s.spareIdle f = true) : s.spareFree f = true ∧ (s.spur (400 + f)).gates.failed = false := by
  simp only [State.spareIdle, Bool.and_eq_true, Bool.not_eq_true'] at h
  exact h.1

theorem runs_start_handover {n : Fin 400} (h : TestAsked s) (hok : WordsOk s) (hkind : reqKind s = 0) (hunit : reqUnit s = n) (hdriver : (s.spur n).gates.driver = .own)
    (hspare : s.spareIdle (fieldOf n) = true) (hcap : 16 ≤ s.bstFcap n) :
    Runs .start s fun t => t.bist.phase = 1 ∧ t.bist.unit = n ∧ t.bist.pow = s.bstReq.bits 19 15 ∧ t.bist.fcap = s.bstFcap n ∧ t.bist.result = 0 ∧
      t.bist.handover = true ∧ (t.col (fieldOf n)).spare.track = true ∧ (t.col (fieldOf n)).spare.target = n ∧
      ∀ o ∈ [0, 0x60, 0x64, 0x80, 0x90, 0x94, 0xA0], t.word (sprAddr (400 + fieldOf n) o) = s.word (sprAddr n o) := by
  obtain ⟨hfree, hfit⟩ := spareFree_of_idle hspare
  have hown : reqOwn s = true := by simp [reqOwn_eq hkind hunit, hdriver]
  have hbusy : reqSpareBusy s = false := by simp [reqSpareBusy_eq hkind hunit, hfree]
  have hexec := exec_start_accepted h hbusy (fun _ => by rw [hunit]; exact hcap) (fun hone => by omega)
  rw [testAccepted_handover hkind hunit hown hfit] at hexec
  have hbist : ((s.beginTest 1 true (s.bstFcap n)).copyConfig n (400 + fieldOf n)).bist = (s.beginTest 1 true (s.bstFcap n)).bist := copyConfig_keeps State.bist (fun _ _ => rfl) ..
  have hwords : ∀ o ∈ [0, 0x60, 0x64, 0x80, 0x90, 0x94, 0xA0], ((s.beginTest 1 true (s.bstFcap n)).copyConfig n (400 + fieldOf n)).word (sprAddr (400 + fieldOf n) o) =
      s.word (sprAddr n o) := fun o ho =>
    (word_copyConfig (wordsOk_of_words (beginTest_words ..) hok) n (400 + fieldOf n) ho).trans (word_of_words (beginTest_words ..) _)
  generalize (s.beginTest 1 true (s.bstFcap n)).copyConfig n (400 + fieldOf n) = u at hexec hbist hwords
  have htracks := track_col u ⟨fieldOf n, fieldOf_lt (by omega)⟩ n
  have hkept : (u.track (fieldOf n) n).bist = (s.beginTest 1 true (s.bstFcap n)).bist := by
    rw [State.track, modSpur_bist, modCol_bist, hbist]
  refine ⟨_, hexec, congrArg Bist.phase hkept, (congrArg Bist.unit hkept).trans hunit, congrArg Bist.pow hkept, congrArg Bist.fcap hkept, congrArg Bist.result hkept,
    congrArg Bist.handover hkept, congrArg Spare.track htracks, congrArg Spare.target htracks, fun o ho => ?_⟩
  rw [State.track, modSpur_at_word, modCol_at_word]
  exact hwords o ho

theorem runs_start_scan {n : Fin 425} (h : TestAsked s) (hkind : reqKind s = 0) (hunit : reqUnit s = n)
    (hidle : (400 ≤ n.val ∧ s.spareFree (fieldOf n) = true) ∨ (n.val < 400 ∧ (s.spur n).gates.driver ≠ .own)) (hcap : 16 ≤ s.bstFcap n) :
    Runs .start s fun t => t.bist.phase = 2 ∧ t.bist.unit = n ∧ t.bist.fcap = s.bstFcap n ∧ t.bist.handover = false ∧
      t = ({ s with bist := t.bist } : State).modSpur n fun x => { x with gen := { x.gen with dcoCode := entryOf x.cal.trims.codes (s.bstFcap n) } } := by
  have hown : reqOwn s = false := by
    rw [reqOwn_eq hkind hunit]
    rcases hidle with ⟨hspare, -⟩ | ⟨-, hdriver⟩
    · rw [decide_eq_false (by omega), Bool.false_and]
    · simp [hdriver]
  have hbusy : reqSpareBusy s = false := by
    rw [reqSpareBusy_eq hkind hunit, hown]
    rcases hidle with ⟨-, hfree⟩ | ⟨hregion, -⟩
    · simp [hfree]
    · rw [decide_eq_false (by omega), Bool.false_or, Bool.false_and]
  have hexec := exec_start_accepted h hbusy (fun _ => by rw [hunit]; exact hcap) (fun hone => by omega)
  rw [testAccepted_scan hkind hunit hown] at hexec
  refine ⟨_, hexec, rfl, hunit, rfl, rfl, ?_⟩
  have hscan : (s.beginTest 2 false (s.bstFcap n)).beginScan = ({ s with bist := (s.beginTest 2 false (s.bstFcap n)).beginScan.bist } : State).modSpur (reqUnit s)
      fun x => { x with gen := { x.gen with dcoCode := entryOf x.cal.trims.codes (s.bstFcap n) } } := rfl
  rw [hunit] at hscan
  exact hscan

theorem runs_start_unfit {n : Fin 400} (h : TestAsked s) (hkind : reqKind s = 0) (hunit : reqUnit s = n) (hdriver : (s.spur n).gates.driver = .own)
    (hfree : s.spareFree (fieldOf n) = true) (hcap : 16 ≤ s.bstFcap n) (hill : (s.spur (400 + fieldOf n)).gates.failed = true) :
    Runs .start s fun t => t.bist.phase = 0 ∧ t.bist.result = 5 ∧ t.bist.done = true ∧ Raises s t .bistAborted .info 8 n (le 1 5) ∧ t.spurs = s.spurs ∧ t.cols = s.cols := by
  have hown : reqOwn s = true := by simp [reqOwn_eq hkind hunit, hdriver]
  have hbusy : reqSpareBusy s = false := by simp [reqSpareBusy_eq hkind hunit, hfree]
  have hexec := exec_start_accepted h hbusy (fun _ => by rw [hunit]; exact hcap) (fun hone => by omega)
  rw [testAccepted_unfit hkind hunit hown hill] at hexec
  exact ⟨_, hexec, rfl, rfl, rfl, List.mem_append_right _ (List.mem_singleton_self _), rfl, rfl⟩

/-! ## A Col instance's test (R428) -/

theorem runs_start_col {f : Fin 25} (h : TestAsked s) (hkind : reqKind s = 1) (hunit : reqUnit s = f) (hother : s.otherHealthy f (reqCopy s) = true) :
    Runs .start s fun t => t.bist.phase = (if (s.col f).active = (reqCopy s == 1) then 1 else 3) ∧ t.bist.unit = f ∧ t.bist.copy = reqCopy s ∧ t = { s with bist := t.bist } := by
  have hown : reqOwn s = false := by simp [reqOwn, hkind]
  have hbusy : reqSpareBusy s = false := by simp [reqSpareBusy, hown, hkind]
  have hexec := exec_start_accepted h hbusy (fun hzero => by omega) (fun _ => by rw [hunit]; exact hother)
  rw [testAccepted, if_pos hkind, hunit] at hexec
  refine ⟨_, hexec, ?_, hunit, if_pos hkind, rfl⟩
  change (if ((s.col f).active == (reqCopy s == 1)) = true then 1 else 3) = _
  simp only [beq_iff_eq]

end

end Sys2Proof.Proofs
end

section
/-! Self-tests ended: abort, judgement, return and repeat, and the statement on them (O45). -/

set_option Elab.async false

namespace Sys2Proof.Proofs

open Sys2Proof.Machine Sys2Proof.Safety Sys2Proof.Laws

section

variable {s : State}

/-! ## A test aborted (R417, R420, R429) -/

/-- The test of a Spur that has saved state runs. -/
structure SpurTested (s : State) : Prop where
  kind : s.bist.kind = 0
  saved : 2 ≤ s.bist.phase
  applied : s.bist.phase ≤ 4

/-- What ABORTED_ENV, with its source, or another abort keeps of the test. -/
def abortedWith (b : Bist) (res src pats : Nat) (sig : BitVec 64) : Bist :=
  { b with result := res, patterns := pats, misr := sig, src := if res = 4 then src else b.src }

/-- The detail of BIST_ABORTED. -/
def abortDetail (res src pats : Nat) : List Byte := le 1 res ++ le 1 (if res = 4 then src else 0) ++ le 2 0 ++ le 4 pats

theorem bistAbort_spur (h : SpurTested s) (res src pats : Nat) (sig : BitVec 64) : s.bistAbort res src pats sig =
    { ({ s with bist := abortedWith s.bist res src pats sig } : State).raise .bistAborted 8 s.bist.unit (abortDetail res src pats) with
      bist := { abortedWith s.bist res src pats sig with phase := 5, since := s.mark + 1 } } := by
  obtain ⟨hkind, hsaved, happlied⟩ := h
  have hidx : bistIdx s.bist.kind s.bist.unit s.bist.copy = s.bist.unit := if_pos hkind
  unfold State.bistAbort
  extract_lets b t u
  have hruns : ¬ (b.phase = 0 ∨ 5 ≤ b.phase) := by
    change ¬ (s.bist.phase = 0 ∨ 5 ≤ s.bist.phase)
    omega
  have hspur : ¬ b.kind = 1 := fun hcol => absurd (hkind.symm.trans hcol) (by decide)
  have hsaves : ¬ b.phase = 1 := fun hwaits => by
    change s.bist.phase = 1 at hwaits
    omega
  rw [if_neg hruns, if_neg hspur, if_neg hsaves]
  unfold u
  rw [hidx]
  rfl

/-- ABORT takes two free values for the signature so far. -/
theorem exec_abort_spur (hans : s.answers 0xB0000 = true) (h : SpurTested s) : ∃ sig, exec .abort s = .next (s.tookFree.tookFree.bistAbort 6 0 s.patternsNow sig) := by
  obtain ⟨hkind, hsaved, happlied⟩ := h
  exact ⟨_, congrArg Host.Outcome.next ((take_rw hans _ _).trans (if_neg (by omega)))⟩

theorem runs_abort (hans : s.answers 0xB0000 = true) (h : SpurTested s) : Runs .abort s fun t => t.bist.result = 6 ∧ t.bist.phase = 5 ∧ t.bist.patterns = s.patternsNow ∧
    t.spurs = s.spurs ∧ t.cols = s.cols ∧ Raises s t .bistAborted .info 8 s.bist.unit (le 1 6 ++ le 1 0 ++ le 2 0 ++ le 4 s.patternsNow) := by
  obtain ⟨sig, hexec⟩ := exec_abort_spur hans h
  obtain ⟨hkind, hsaved, happlied⟩ := h
  rw [bistAbort_spur (s := s.tookFree.tookFree) ⟨hkind, hsaved, happlied⟩] at hexec
  exact ⟨_, hexec, rfl, rfl, rfl, rfl, rfl, List.mem_append_right _ (List.mem_singleton_self _)⟩

theorem runs_bistEnvAbort {f : Fin 25} {src : Fin 5} {lo hi : Word} (hstarted : s.rdg.started = true) (h : SpurTested s) (hfield : fieldOf s.bist.unit = f)
    (hsrc : s.envSource f src = true) : Runs (.bistEnvAbort f src lo hi) s fun t => t.bist.result = 4 ∧ t.bist.src = src ∧ t.bist.patterns = s.patternsNow ∧
      t.bist.misr = hi ++ lo ∧ t.bist.phase = 5 ∧ Raises s t .bistAborted .info 8 s.bist.unit (le 1 4 ++ le 1 src ++ le 2 0 ++ le 4 s.patternsNow) := by
  have hfields : (if s.bist.kind = 0 then fieldOf s.bist.unit else s.bist.unit) = f := (if_pos h.kind).trans hfield
  have hexec : exec (.bistEnvAbort f src lo hi) s = .next (s.bistAbort 4 src s.patternsNow (hi ++ lo)) :=
    congrArg Host.Outcome.next ((if_neg (by simp [hsrc])).trans ((if_neg (by simp [hstarted])).trans (if_pos hfields)))
  rw [bistAbort_spur h] at hexec
  exact ⟨_, hexec, rfl, rfl, rfl, rfl, rfl, List.mem_append_right _ (List.mem_singleton_self _)⟩

/-! ## A test judged (R416, R417, R424, R428) -/

/-- RESULT by the expected signature: 3 without one, 1 where it is the one found, 2 where not. -/
def judged (expected : Option (BitVec 64)) (sig : BitVec 64) : Nat :=
  match expected with
  | none => 3
  | some e => if sig = e then 1 else 2

/-- The test with its result and its signature. -/
def testJudged (s : State) (sig : BitVec 64) : State :=
  { s with bist := { s.bist with result := judged s.expected sig, patterns := 2 ^ s.bist.pow, misr := sig, exp := s.expected.getD 0 } }

/-- The test judged, and a unit without fault that may be released where it had failed. -/
def testReleased (s : State) (sig : BitVec 64) : State :=
  if judged s.expected sig ≠ 1 then testJudged s sig
  else if s.bist.kind = 0 then (testJudged s sig).modSpur s.bist.unit fun x => { x with gates := { x.gates with testPassed := x.gates.failed } }
  else (testJudged s sig).modCol s.bist.unit fun c => { c with testPassed := if s.bist.copy = 0 then c.pFailed else c.sFailed }

theorem testReleased_rest {β : Type} (p : State → β) (hspurs : ∀ u x, p { u with spurs := x } = p u) (hcols : ∀ u x, p { u with cols := x } = p u) (sig : BitVec 64) :
    p (testReleased s sig) = p (testJudged s sig) := by
  unfold testReleased
  split
  · rfl
  · split
    · exact hspurs _ _
    · exact hcols _ _

/-- What a judgement keeps of the test. -/
theorem testReleased_bist (sig : BitVec 64) : (testReleased s sig).bist = (testJudged s sig).bist := testReleased_rest State.bist (fun _ _ => rfl) (fun _ _ => rfl) sig

theorem spurFails_bist (s : State) (n cause : Nat) (ev : Ev) : (s.spurFails n cause ev).bist = s.bist := by
  unfold State.spurFails
  split
  · rfl
  · exact (modCol_bist ..).trans (modSpur_bist ..)

section

variable (hphase : s.bist.phase = 4) (hage : 6 ≤ s.bistAge)

include hphase hage

theorem exec_bistPatternsDone_fail {sig : BitVec 64} (hjudged : judged s.expected sig = 2) (hkind : s.bist.kind = 0) : exec (.bistPatternsDone sig) s =
    .next (((testJudged s sig).tellTest .bistFail (s.expected.getD 0)).testOver.spurFails s.bist.unit 3 .bistFail) :=
  congrArg Host.Outcome.next ((if_neg (by omega)).trans ((if_pos hjudged).trans (if_pos hkind)))

theorem exec_bistPatternsDone_kept {sig : BitVec 64} (hjudged : judged s.expected sig ≠ 2) : exec (.bistPatternsDone sig) s =
    .next (if s.bist.kind = 1 then ((testReleased s sig).tellTest .bistDone sig).testOver
      else { testReleased s sig with bist := { (testReleased s sig).bist with phase := 5, since := s.mark } }) :=
  congrArg Host.Outcome.next ((if_neg (by omega)).trans ((if_neg hjudged).trans rfl))

/-- PASS and NO_REF of a Spur: its state is restored. -/
theorem runs_bistPatternsDone_kept {sig : BitVec 64} (hjudged : judged s.expected sig ≠ 2) (hkind : s.bist.kind = 0) : Runs (.bistPatternsDone sig) s fun t =>
    t.bist = { s.bist with result := judged s.expected sig, patterns := 2 ^ s.bist.pow, misr := sig, exp := s.expected.getD 0, phase := 5, since := s.mark } := by
  have hexec := exec_bistPatternsDone_kept hphase hage hjudged
  rw [if_neg (by omega), testReleased_bist] at hexec
  exact ⟨_, hexec, rfl⟩

/-- FAIL of a Spur: it has failed, and the test is over. -/
theorem runs_bistPatternsDone_fail {sig : BitVec 64} (hjudged : judged s.expected sig = 2) (hkind : s.bist.kind = 0) (hunit : s.bist.unit < 425) :
    Runs (.bistPatternsDone sig) s fun t => t.bist = { s.bist with
        result := judged s.expected sig, patterns := 2 ^ s.bist.pow, misr := sig, exp := s.expected.getD 0, phase := 0, done := true, handover := false, locked := false } ∧
      (t.spur s.bist.unit).gates.failed = true ∧
      Raises s t .bistFail .degraded 8 s.bist.unit (le 1 (judged s.expected sig) ++ le 1 s.bist.pow ++ le 2 0 ++ le 4 (2 ^ s.bist.pow) ++ le 8 (s.expected.getD 0).toNat) := by
  have hidx : bistIdx s.bist.kind s.bist.unit s.bist.copy = s.bist.unit := if_pos hkind
  have htold : s.event .bistFail .degraded 8 s.bist.unit (le 1 (judged s.expected sig) ++ le 1 s.bist.pow ++ le 2 0 ++ le 4 (2 ^ s.bist.pow) ++ le 8 (s.expected.getD 0).toNat) ∈
      ((testJudged s sig).tellTest .bistFail (s.expected.getD 0)).testOver.raised := by
    rw [← hidx]
    exact List.mem_append_right _ (List.mem_singleton_self _)
  refine ⟨_, exec_bistPatternsDone_fail hphase hage hjudged hkind, spurFails_bist .., spurFails_failed _ 3 .bistFail ⟨s.bist.unit, hunit⟩, ?_⟩
  rw [Raises, spurFails_raised]
  exact htold

/-- A Spur's test is judged by the expected signature: NO_REF without one, PASS where it is the one found, else FAIL. -/
theorem runs_bistPatternsDone_spur {sig : BitVec 64} (hkind : s.bist.kind = 0) (hunit : s.bist.unit < 425) : Runs (.bistPatternsDone sig) s fun t =>
    t.bist.misr = sig ∧ t.bist.patterns = 2 ^ s.bist.pow ∧
    (s.expected = none → t.bist.result = 3 ∧ t.bist.phase = 5) ∧ (s.expected = some sig → t.bist.result = 1 ∧ t.bist.phase = 5) ∧
    (∀ e, s.expected = some e → e ≠ sig → t.bist.result = 2 ∧ t.bist.phase = 0 ∧ (t.spur s.bist.unit).gates.failed = true ∧
      Raises s t .bistFail .degraded 8 s.bist.unit (le 1 2 ++ le 1 s.bist.pow ++ le 2 0 ++ le 4 (2 ^ s.bist.pow) ++ le 8 e.toNat)) := by
  cases hexpected : s.expected with
  | none =>
    have hjudged : judged s.expected sig = 3 := by rw [hexpected]; rfl
    obtain ⟨t, hexec, hbist⟩ := runs_bistPatternsDone_kept hphase hage (sig := sig) (by omega) hkind
    refine ⟨t, hexec, ?_⟩
    beta_reduce
    rw [hbist, hjudged]
    exact ⟨rfl, rfl, fun _ => ⟨rfl, rfl⟩, nofun, nofun⟩
  | some e =>
    by_cases hsig : sig = e
    · have hjudged : judged s.expected sig = 1 := by rw [hexpected]; exact if_pos hsig
      obtain ⟨t, hexec, hbist⟩ := runs_bistPatternsDone_kept hphase hage (sig := sig) (by omega) hkind
      refine ⟨t, hexec, ?_⟩
      beta_reduce
      rw [hbist, hjudged]
      exact ⟨rfl, rfl, nofun, fun _ => ⟨rfl, rfl⟩, fun e' h hne => absurd (hsig.trans (Option.some.inj h)).symm hne⟩
    · have hjudged : judged s.expected sig = 2 := by rw [hexpected]; exact if_neg hsig
      obtain ⟨t, hexec, hbist, hfailed, hraises⟩ := runs_bistPatternsDone_fail hphase hage hjudged hkind hunit
      rw [hjudged, hexpected] at hraises
      rw [hjudged] at hbist
      refine ⟨t, hexec, ?_⟩
      beta_reduce
      rw [hbist]
      refine ⟨rfl, rfl, nofun, fun h => absurd (Option.some.inj h).symm hsig, fun e' h _ => ⟨rfl, rfl, hfailed, ?_⟩⟩
      rw [← Option.some.inj h]
      exact hraises

/-- PASS of a Col instance: the test is over. -/
theorem runs_bistPatternsDone_col {sig : BitVec 64} (hjudged : judged s.expected sig = 1) (hkind : s.bist.kind = 1) : Runs (.bistPatternsDone sig) s fun t =>
    t.bist.phase = 0 ∧ t.bist.result = 1 ∧ t.bist.done = true ∧ t.spurs = s.spurs ∧
    Raises s t .bistDone .info 8 (0x200 + 2 * s.bist.unit + s.bist.copy) (le 1 1 ++ le 1 s.bist.pow ++ le 2 0 ++ le 4 (2 ^ s.bist.pow) ++ le 8 sig.toNat) := by
  have hidx : bistIdx s.bist.kind s.bist.unit s.bist.copy = 0x200 + 2 * s.bist.unit + s.bist.copy := if_neg (by omega)
  have hexec := exec_bistPatternsDone_kept hphase hage (sig := sig) (by omega)
  rw [if_pos hkind, testReleased, if_neg (by omega), if_neg (by omega)] at hexec
  have htold : s.event .bistDone .info 8 (bistIdx s.bist.kind s.bist.unit s.bist.copy)
      (le 1 (judged s.expected sig) ++ le 1 s.bist.pow ++ le 2 0 ++ le 4 (2 ^ s.bist.pow) ++ le 8 sig.toNat) ∈ ((testJudged s sig).tellTest .bistDone sig).raised :=
    List.mem_append_right _ (List.mem_singleton_self _)
  rw [hidx, hjudged] at htold
  exact ⟨_, hexec, rfl, hjudged, rfl, rfl, htold⟩

end

/-! ## The return (R424, R427, R429) -/

theorem settleShadow_keeps {β : Type} (p : State → β) (hwords : ∀ u w, p { u with words := w } = p u) (hshadows : ∀ u x, p { u with shadows := x } = p u) (n : Nat) (s : State) (o : Nat) :
    p (State.settleShadow n s o) = p s := by
  unfold State.settleShadow
  split
  · rfl
  · unfold State.applyShadow
    split
    · exact hshadows s _
    · exact (hshadows _ _).trans ((hwords _ _).trans (hshadows s _))

/-- The Spur under test back with its region, and what was written during the test. -/
def testedBack (s : State) : State := (s.regain s.bist.unit).each rwsRegs (State.settleShadow s.bist.unit)

/-- The test over, BIST_DONE told for PASS and NO_REF. -/
def returnTold (s t : State) : State := if s.bist.result = 1 ∨ s.bist.result = 3 then t.testOver.tellTest .bistDone s.bist.misr else t.testOver

theorem exec_bistReturn_handover (hreturns : s.returns = true) (hhandover : s.bist.handover = true) (hnow : s.bist.holdWaits = false) :
    exec .bistReturn s = .next (returnTold s (testedBack s)) := by
  refine congrArg Host.Outcome.next ((if_neg (by simp [hreturns])).trans ?_)
  rw [hhandover, hnow]
  rfl

theorem returnTold_rest {β : Type} (p : State → β) (hraised : ∀ u x, p { u with raised := x } = p u) (t : State) : p (returnTold s t) = p t.testOver := by
  unfold returnTold
  split
  · exact hraised _ _
  · rfl

theorem testedBack_rest {β : Type} (p : State → β) (hwords : ∀ u w, p { u with words := w } = p u) (hshadows : ∀ u x, p { u with shadows := x } = p u) :
    p (testedBack s) = p (s.regain s.bist.unit) := each_keeps p (settleShadow_keeps p hwords hshadows s.bist.unit) _ _

theorem regain_of_spare {f : Fin 25} {r : Fin 400} (hf : fieldOf r = f) (hdriver : (s.spur r).gates.driver = .spare) :
    s.regain r = (s.takeBack f r).modSpur r fun x => { x with gates := { x.gates with faultFence := false } } := by
  unfold State.regain
  rw [hdriver, hf]

theorem takeBack_rest {β : Type} (p : State → β) (hspurs : ∀ u x, p { u with spurs := x } = p u) (hwords : ∀ u w, p { u with words := w } = p u)
    (hcols : ∀ u x, p { u with cols := x } = p u) (hrole : ∀ u x, p { u with role := x } = p u) (s : State) (f r : Nat) : p (s.takeBack f r) = p s :=
  (hrole _ _).trans ((hcols _ _).trans ((hwords _ _).trans ((hspurs _ _).trans (hspurs s _))))

section

variable (hunit : s.bist.unit < 400) (hdriver : (s.spur s.bist.unit).gates.driver = .spare)

include hunit hdriver

theorem regain_tested : s.regain s.bist.unit = (s.takeBack (fieldOf s.bist.unit) s.bist.unit).modSpur s.bist.unit fun x => { x with gates := { x.gates with faultFence := false } } :=
  regain_of_spare (f := ⟨fieldOf s.bist.unit, fieldOf_lt (by omega)⟩) (r := ⟨s.bist.unit, hunit⟩) rfl hdriver

theorem testedBack_driver : ((testedBack s).spur s.bist.unit).gates.driver = .own := by
  rw [testedBack_rest (fun t => (t.spur s.bist.unit).gates.driver) (fun _ _ => rfl) (fun _ _ => rfl), regain_tested hunit hdriver, spur_modSpur_of_lt _ (by omega),
    takeBack_region s ⟨fieldOf s.bist.unit, fieldOf_lt (by omega)⟩ ⟨s.bist.unit, hunit⟩]

theorem testedBack_bist : (testedBack s).bist = s.bist := by
  rw [testedBack_rest State.bist (fun _ _ => rfl) (fun _ _ => rfl), regain_tested hunit hdriver, modSpur_bist]
  exact takeBack_rest State.bist (fun _ _ => rfl) (fun _ _ => rfl) (fun _ _ => rfl) (fun _ _ => rfl) s _ _

theorem testedBack_rdg : (testedBack s).rdg = s.rdg := by
  rw [testedBack_rest State.rdg (fun _ _ => rfl) (fun _ _ => rfl), regain_tested hunit hdriver, modSpur_rdg]
  exact takeBack_rest State.rdg (fun _ _ => rfl) (fun _ _ => rfl) (fun _ _ => rfl) (fun _ _ => rfl) s _ _

theorem runs_bistReturn (hreturns : s.returns = true) (hhandover : s.bist.handover = true) (hkind : s.bist.kind = 0) (hnow : s.bist.holdWaits = false) :
    Runs .bistReturn s fun t => t.bist.phase = 0 ∧ t.bist.done = true ∧ (t.spur s.bist.unit).gates.driver = .own ∧
      (s.bist.result = 1 ∨ s.bist.result = 3 → Raises s t .bistDone .info 8 s.bist.unit
        (le 1 s.bist.result ++ le 1 s.bist.pow ++ le 2 0 ++ le 4 s.bist.patterns ++ le 8 s.bist.misr.toNat)) := by
  have hexec := exec_bistReturn_handover hreturns hhandover hnow
  have hback := testedBack_driver hunit hdriver
  have hbist := testedBack_bist hunit hdriver
  have hrdg := testedBack_rdg hunit hdriver
  generalize testedBack s = u at hexec hback hbist hrdg
  have hover := returnTold_rest (s := s) State.bist (fun _ _ => rfl) u
  have hspur := returnTold_rest (s := s) (fun t => (t.spur s.bist.unit).gates.driver) (fun _ _ => rfl) u
  refine ⟨_, hexec, congrArg Bist.phase hover, congrArg Bist.done hover, hspur.trans hback, fun hpassed => ?_⟩
  have hidx : bistIdx u.bist.kind u.bist.unit u.bist.copy = s.bist.unit := by
    rw [hbist]
    exact if_pos hkind
  have htold : returnTold s u = u.testOver.raise .bistDone 8 (bistIdx u.bist.kind u.bist.unit u.bist.copy)
      (le 1 u.bist.result ++ le 1 u.bist.pow ++ le 2 0 ++ le 4 u.bist.patterns ++ le 8 s.bist.misr.toNat) := if_pos hpassed
  rw [hidx, hbist] at htold
  rw [htold]
  exact raises_of_events (t := u.testOver) (congrArg stamp hrdg) fun _ he => he

end

/-! ## The repeat of the power-on run (R422) -/

theorem exec_bistPorRepeat {f : Fin 25} (haborted : f.val ∈ s.bist.aborted) (hfresh : f.val ∉ s.bist.repeated) : exec (.bistPorRepeat f) s =
    .next { s with bist := { s.bist with aborted := s.bist.aborted.filter (· != f.val), repeated := s.bist.repeated ++ [f.val] } } :=
  congrArg Host.Outcome.next (if_pos (by simp [haborted, hfresh]))

end

/-! ## The statement -/

/-- Settles O45: the request by unit and by ground, the two aborts, the judgement, the return and the repeat. -/
theorem onDemandTestsRunJudgeAndReturn : Obligations.OnDemandTestsRunJudgeAndReturn := by
  unfold Obligations.OnDemandTestsRunJudgeAndReturn
  refine ⟨?_, ?_, ?_, ?_, ?_, ?_, ?_, ?_, ?_, ?_, ?_⟩
  · intro s hans w idx
    exact ⟨exec_start_shut hans, exec_start_busy hans⟩
  · intro s n hans hok hopen hidle hkind hunit
    exact runs_start_handover ⟨hans, hopen, hidle⟩ hok hkind hunit
  · intro s n hans hopen hidle hkind hunit
    exact runs_start_scan ⟨hans, hopen, hidle⟩ hkind hunit
  · intro s n hans hopen hidle hkind hunit
    exact runs_start_unfit ⟨hans, hopen, hidle⟩ hkind hunit
  · intro s f hans hopen hidle hkind hunit
    exact runs_start_col ⟨hans, hopen, hidle⟩ hkind hunit
  · intro s hans hkind hsaved happlied
    exact runs_abort hans ⟨hkind, hsaved, happlied⟩
  · intro s sig hkind hunit hphase hage
    exact runs_bistPatternsDone_spur hphase hage hkind hunit
  · intro s sig hkind hphase hage hexpected
    exact runs_bistPatternsDone_col hphase hage (by rw [hexpected]; exact if_pos rfl) hkind
  · intro s f src lo hi hstarted hkind hfield hsaved happlied
    exact runs_bistEnvAbort hstarted ⟨hkind, hsaved, happlied⟩ hfield
  · intro s hreturns hhandover hkind hunit hdriver
    exact runs_bistReturn hunit hdriver hreturns hhandover hkind
  · intro s f
    exact exec_bistPorRepeat

end Sys2Proof.Proofs
end

section
/-! Measurements: the arm by register, the end, and an edge on its way to the measurement that takes it (O43). -/

set_option Elab.async false

namespace Sys2Proof.Proofs

open Sys2Proof.Machine Sys2Proof.Safety Sys2Proof.Laws

/-! ## Channels changed -/

section

variable {s : State} {c k : Fin 6}

theorem chan_modChan_ne (h : k ≠ c) (g : Channel → Channel) : (s.modChan c g).chan k = s.chan k := by
  rw [chan_modChan, if_neg fun hsame => h (Fin.ext hsame.1.symm)]

theorem chan_modChan_of_ne {i : Nat} (h : i ≠ k) (g : Channel → Channel) : (s.modChan i g).chan k = s.chan k := by
  rw [chan_modChan, if_neg fun hsame => h hsame.1]

/-- What a channel gives to the claims on stop channels. -/
def claims (x : Channel) : Bool × Bool × Nat := (x.armed, x.paired, x.stopCh)

/-- The claim on a channel is of what the channels say of theirs. -/
theorem claimer_of_claims {t : State} (h : ∀ k, claims (t.chan k) = claims (s.chan k)) (c : Nat) : t.claimer c = s.claimer c := by
  unfold State.claimer
  congr 1
  funext k
  obtain ⟨harmed, hrest⟩ := Prod.mk.inj (h k)
  obtain ⟨hpaired, hstop⟩ := Prod.mk.inj hrest
  rw [harmed, hpaired, hstop]

end

/-! ## The end of a measurement (R398, R400) -/

section

variable {s : State} {c : Fin 6}

/-- A channel that a register has armed, for edges. -/
structure RegisterArmed (s : State) (c : Fin 6) : Prop where
  armed : (s.chan c).armed = true
  owner : (s.chan c).owner = .register
  edges : (s.chan c).freq = false

/-- A measurement has ended with the reason that what it took gives, and MEASURE_DONE tells it. -/
def MeasureEnded (s : State) (c : Fin 6) (t : State) : Prop :=
  (t.chan c).armed = false ∧ (t.chan c).done = true ∧ (t.chan c).reason = (if (s.chan c).taken = 0 then 1 else 0) ∧
    Raises s t .measureDone .info 4 c (le 1 (if (s.chan c).taken = 0 then 1 else 0) ++ le 4 (s.chan c).taken)

theorem reason_of_taken (n : Nat) : (if decide (0 < n) = true then 0 else 1) = if n = 0 then 1 else 0 := by
  cases n <;> rfl

theorem endMeasure_ends (h : RegisterArmed s c) (timeout closed : Bool) : MeasureEnded s c (s.endMeasure c timeout closed) := by
  have harmed := armedAt_endMeasure (s := s) (k := c) c timeout closed
  rw [if_pos ⟨rfl, c.isLt⟩] at harmed
  obtain ⟨hon, howner, hedges⟩ := h
  refine ⟨harmed, ?_⟩
  unfold State.endMeasure
  extract_lets x ok res reason t u v
  have hreason : reason = if (s.chan c).taken = 0 then 1 else 0 := by
    have hok : ok = decide (0 < (s.chan c).taken) := if_neg (by simp [x, hedges])
    unfold reason
    rw [hok]
    exact reason_of_taken _
  have ht : (t.chan c).done = true ∧ (t.chan c).reason = reason := by
    rw [show t.chan c = _ from chan_modChan_self _ c _]
    exact ⟨rfl, rfl⟩
  have hv : v.chan c = t.chan c := (when_keeps (fun w => w.chan c) (f := fun w => w.raise .edgeMissed 4 c (le 4 x.missed)) (fun _ => rfl) u _).trans
    (when_keeps (fun w => w.chan c) (f := fun w => w.raise .strayStop 4 c (le 2 (min 65535 x.strays))) (fun _ => rfl) t _)
  have hrdg : v.rdg = s.rdg := (when_keeps State.rdg (f := fun w => w.raise .edgeMissed 4 c (le 4 x.missed)) (fun _ => rfl) u _).trans
    ((when_keeps State.rdg (f := fun w => w.raise .strayStop 4 c (le 2 (min 65535 x.strays))) (fun _ => rfl) t _).trans (freeChan_keeps State.rdg s (fun _ _ => rfl) c))
  rw [if_neg (by simp [x, hon]), show x.owner = .register from howner]
  refine ⟨(congrArg Channel.done hv).trans ht.1, (congrArg Channel.reason hv).trans (ht.2.trans hreason), ?_⟩
  rw [← hreason]
  exact raises_of_events (t := v) (congrArg stamp hrdg) fun _ he => he

theorem ownerOf_chanCtrl (s : State) (c : Fin 6) : s.ownerOf (chanAddr c 0xC) = (4, c.val) := by
  have hwin : winOf (chanAddr c 0xC) = .chan c 0xC := by
    have hc := c.isLt
    unfold winOf chanAddr
    rw [if_neg (by omega), if_neg (by omega), if_neg (by omega), if_pos (by omega)]
    exact congrArg₂ Win.chan (by omega) (by omega)
  rw [State.ownerOf, hwin]

theorem runs_disarm (h : RegisterArmed s c) (hans : s.answers (chanAddr c 0xC) = true) : Runs (.disarm c) s (MeasureEnded s c) :=
  ⟨_, congrArg Host.Outcome.next ((take_rw hans _ _).trans (if_pos h.owner)), endMeasure_ends h false false⟩

theorem overtime_edges (h : (s.chan c).freq = false) : s.overtime (s.chan c) = decide ((s.chan c).limit ≤ s.since (s.chan c).armMark) := by
  unfold State.overtime
  rw [if_neg (by simp [h])]

theorem runs_measureTimeout (h : RegisterArmed s c) (hat : s.atMark = true) (hover : (s.chan c).limit ≤ s.since (s.chan c).armMark) :
    Runs (.measureTimeout c) s (MeasureEnded s c) :=
  ⟨_, congrArg Host.Outcome.next (if_pos (by simp [hat, h.armed, overtime_edges h.edges, hover])), endMeasure_ends h true false⟩

theorem exec_measureTimeout_early (h : RegisterArmed s c) (hearly : s.since (s.chan c).armMark < (s.chan c).limit) : exec (.measureTimeout c) s = .next s :=
  congrArg Host.Outcome.next (if_neg (by simp [overtime_edges h.edges, hearly]))

/-! ## The timer's lock (R407, R408) -/

/-- The measurements of all channels ended. -/
def allEnded (s : State) : State := s.each (List.range 6) fun u c => u.endMeasure c false false

theorem allEnded_disarmed (s : State) (c : Fin 6) : armedAt c (allEnded s) = false := by
  refine each_establishes (Q := fun _ => True) (P := fun t => armedAt c t = false) (fun _ _ _ => trivial) (fun t i ht => ?_) (List.mem_range.2 c.isLt) (fun t _ => ?_) trivial
  · rw [armedAt_endMeasure]
    split
    · rfl
    · exact ht
  · rw [armedAt_endMeasure, if_pos ⟨rfl, c.isLt⟩]

theorem allEnded_rdg (s : State) : (allEnded s).rdg = s.rdg :=
  each_keeps State.rdg (fun t i => endMeasure_keeps State.rdg t (fun _ _ => rfl) (fun _ _ _ => rfl) (fun _ _ => rfl) (fun _ _ => rfl) (fun _ _ => rfl) i false false) s _

theorem runs_timerUnlock (hlock : s.lko.timerLock = true) : Runs .timerUnlock s fun t =>
    t.lko.timerLock = false ∧ Raises s t .timerUnlock .degraded 4 0xFFFF [] ∧ ∀ c : Fin 6, (t.chan c).armed = false := by
  have hexec : exec .timerUnlock s = .next (({ allEnded s with lko := { (allEnded s).lko with timerLock := false } } : State).raise .timerUnlock 4 0xFFFF []) := by
    change execTimerUnlock s = _
    rw [execTimerUnlock, if_neg (by simp [hlock]), allEnded]
  have hoff := allEnded_disarmed s
  have hrdg := allEnded_rdg s
  generalize allEnded s = u at hexec hoff hrdg
  exact ⟨_, hexec, rfl, raises_of_events (t := u) (congrArg stamp hrdg) fun _ he => he, hoff⟩

end

/-! ## The arm by register (R393, R394, R398, R399) -/

section

variable {s : State} {c : Fin 6} {own stop : Readings}

theorem stopOf_ne {j : Nat} (h : s.stopOf c false = some j) : j ≠ c := by
  unfold State.stopOf at h
  extract_lets w at h
  split at h
  · next hpaired =>
    simp only [Bool.and_eq_true, bne_iff_ne] at hpaired
    exact Option.some.inj h ▸ hpaired.2
  · cases h

/-- The calibration of an arm leaves its channel with its own figures, and its stop channel with those. -/
theorem chan_calibrated_self : (s.calibrated c false own stop).chan c = (s.chan c).calibrate own := by
  unfold State.calibrated
  extract_lets t
  have ht : t.chan c = (s.chan c).calibrate own := chan_modChan_self s c _
  split
  · exact ht
  · next k hk => rw [chan_modChan_of_ne (stopOf_ne hk), ht]

theorem chan_calibrated_other {j : Fin 6} (h : j ≠ c) : (s.calibrated c false own stop).chan j = if s.stopOf c false = some j.val then (s.chan j).calibrate stop else s.chan j := by
  unfold State.calibrated
  extract_lets t
  have ht : t.chan j = s.chan j := chan_modChan_ne h _
  cases hk : s.stopOf c false with
  | none => exact ht
  | some k =>
    change (t.modChan k fun x => x.calibrate stop).chan j = _
    rw [chan_modChan, ht]
    by_cases hkj : k = j
    · rw [if_pos ⟨hkj, j.isLt⟩, if_pos (by rw [hkj])]
    · rw [if_neg fun hsame => hkj hsame.1, if_neg fun hsome => hkj (Option.some.inj hsome)]

theorem calScale_of_passes (h : calPasses own = true) : twos 16 (calScale own) = (calScale own).toNat := by
  simp only [calPasses, Bool.and_eq_true, decide_eq_true_eq] at h
  obtain ⟨⟨⟨hlo, hhi⟩, -⟩, -⟩ := h
  unfold twos
  omega

/-- A channel armed for edges: what its configuration asks for, and nothing taken. -/
def channelArmed (s : State) (c : Nat) (x : Channel) : Channel :=
  { x with
    armed := true, owner := .register, freq := false, done := false, reason := 0, paired := (s.chCfg c).bit 8 && !false, stopCh := (s.chCfg c).bits 14 12
    readyAt := 2560 * s.rdg.ridge.toNat + 16 * 256, strayTs := none, count := (s.chCfg c).bits 31 16, armMark := s.mark, limit := (s.word (chanAddr c 8)).bits 24 0, edges := 0
    taken := 0, openTs := none, firstTs := 0, lastResTs := 0, firstTod := ⟨0, 0, 0⟩, minIv := 0, maxIv := 0, sumIv := 0, ties := 0
    strays := 0, missed := 0, heldSeen := s.todHeld, untraced := false, addr := 0 }

/-- The channels of an arm set up: its own armed, its stop channel claimed. -/
def armedBy (s : State) (c : Nat) (own stop : Readings) : State :=
  match s.stopOf c false with
  | none => ((s.displace c false).calibrated c false own stop).modChan c (channelArmed s c)
  | some k => (((s.displace c false).calibrated c false own stop).modChan c (channelArmed s c)).modChan k fun x => { x with owner := .claimed }

theorem exec_registerArm_armed (hans : s.answers (chanAddr c 0xC) = true) (hfree : s.armRefusal c false = none) (hpass : s.armPasses c false own stop = true) :
    exec (.registerArm c own stop) s = .next (armedBy s c own stop) := by
  refine congrArg Host.Outcome.next ((take_rw hans _ _).trans ?_)
  have harm : s.armChan c false .register ((s.word (chanAddr c 8)).bits 24 0) 0 own stop = .ok (armedBy s c own stop) := by
    unfold State.armChan
    rw [hfree]
    exact if_neg (by simp [hpass])
  rw [harm]

theorem armChan_refused {r : Nat} (h : s.armRefusal c false = some r) (o : Owner) (limit addr : Nat) : s.armChan c false o limit addr own stop = .error r := by
  unfold State.armChan
  rw [h]

theorem armChan_failed (hfree : s.armRefusal c false = none) (hfail : s.armPasses c false own stop = false) (o : Owner) (limit addr : Nat) :
    s.armChan c false o limit addr own stop = .error 3 := by
  unfold State.armChan
  rw [hfree]
  exact if_pos (by simp [hfail])

/-- An arm that ends at once: its reason, and MEASURE_DONE with nothing taken. -/
def armEnded (s : State) (c : Nat) (own stop : Readings) (r : Nat) : State :=
  ((if r = 3 then s.calibrated c false own stop else s).modChan c fun x => { x with done := true, reason := r, freq := false }).raise .measureDone 4 c (le 1 r ++ le 4 0)

theorem exec_registerArm_error {r : Nat} (hans : s.answers (chanAddr c 0xC) = true)
    (herr : s.armChan c false .register ((s.word (chanAddr c 8)).bits 24 0) 0 own stop = .error r) :
    exec (.registerArm c own stop) s = .next (if r = 2 then s.cfgEvent .cfgBusy (chanAddr c 0xC) 1#32 else armEnded s c own stop r) := by
  refine congrArg Host.Outcome.next ((take_rw hans _ _).trans ?_)
  rw [herr]
  rfl

theorem exec_registerArm_busy (hans : s.answers (chanAddr c 0xC) = true) (h : s.armRefusal c false = some 2) :
    exec (.registerArm c own stop) s = .next (s.raise .cfgBusy 4 c (le 4 (chanAddr c 0xC) ++ le 4 1)) := by
  rw [exec_registerArm_error hans (armChan_refused h ..), if_pos rfl, State.cfgEvent, ownerOf_chanCtrl]
  rfl

/-- An arm that ends at once leaves its channel as it was, but for what it tells. -/
theorem armEnded_parts (s : State) (c : Fin 6) (own stop : Readings) (r : Nat) : ((armEnded s c own stop r).chan c).armed = (s.chan c).armed ∧
    ((armEnded s c own stop r).chan c).done = true ∧ ((armEnded s c own stop r).chan c).reason = r ∧ Raises s (armEnded s c own stop r) .measureDone .info 4 c (le 1 r ++ le 4 0) := by
  unfold armEnded
  split
  · refine ⟨?_, ?_, ?_, ?_⟩
    · rw [raise_at_chan, chan_modChan_self, chan_calibrated_self]
      rfl
    · rw [raise_at_chan, chan_modChan_self]
    · rw [raise_at_chan, chan_modChan_self]
    · have hrdg : (s.calibrated c false own stop).rdg = s.rdg := by
        unfold State.calibrated
        extract_lets t
        split <;> rfl
      exact raises_of_events (t := s.calibrated c false own stop) (congrArg stamp hrdg) fun _ he => he
  · refine ⟨?_, ?_, ?_, List.mem_append_right _ (List.mem_singleton_self _)⟩
    all_goals rw [raise_at_chan, chan_modChan_self]

theorem runs_registerArm_ended {r : Nat} (hans : s.answers (chanAddr c 0xC) = true) (hr : r ≠ 2)
    (herr : s.armChan c false .register ((s.word (chanAddr c 8)).bits 24 0) 0 own stop = .error r) : Runs (.registerArm c own stop) s fun t =>
      (t.chan c).armed = (s.chan c).armed ∧ (t.chan c).done = true ∧ (t.chan c).reason = r ∧ Raises s t .measureDone .info 4 c (le 1 r ++ le 4 0) := by
  have hexec := exec_registerArm_error hans herr
  rw [if_neg hr] at hexec
  exact ⟨_, hexec, armEnded_parts s c own stop r⟩

theorem chan_armedBy_self : (armedBy s c own stop).chan c = channelArmed s c ((s.chan c).calibrate own) := by
  have hchan : ((s.displace c false).calibrated c false own stop).chan c = (s.chan c).calibrate own := chan_calibrated_self (s := s.displace c false)
  unfold armedBy
  split
  · rw [chan_modChan_self, hchan]
  · next k hk => rw [chan_modChan_of_ne (stopOf_ne hk), chan_modChan_self, hchan]

theorem chan_armedBy_other {j : Fin 6} (h : j ≠ c) :
    (armedBy s c own stop).chan j = if s.stopOf c false = some j.val then { (s.chan j).calibrate stop with owner := .claimed } else s.chan j := by
  have hchan : ((s.displace c false).calibrated c false own stop).chan j = if s.stopOf c false = some j.val then (s.chan j).calibrate stop else s.chan j :=
    chan_calibrated_other (s := s.displace c false) h
  unfold armedBy
  cases hk : s.stopOf c false with
  | none =>
    rw [hk] at hchan
    exact (chan_modChan_ne h _).trans hchan
  | some k =>
    rw [hk] at hchan
    change ((((s.displace c false).calibrated c false own stop).modChan c (channelArmed s c)).modChan k fun x => { x with owner := .claimed }).chan j = _
    rw [chan_modChan, chan_modChan_ne h, hchan]
    by_cases hkj : k = j
    · rw [if_pos ⟨hkj, j.isLt⟩, if_pos (by rw [hkj]), if_pos (by rw [hkj])]
    · rw [if_neg fun hsame => hkj hsame.1, if_neg fun hsome => hkj (Option.some.inj hsome), if_neg fun hsome => hkj (Option.some.inj hsome)]

theorem runs_registerArm_armed (hans : s.answers (chanAddr c 0xC) = true) (hfree : s.armRefusal c false = none) (hpass : s.armPasses c false own stop = true) :
    Runs (.registerArm c own stop) s fun t =>
      (t.chan c).armed = true ∧ (t.chan c).owner = .register ∧ (t.chan c).freq = false ∧ (t.chan c).taken = 0 ∧ (t.chan c).armMark = s.mark ∧
      (t.chan c).scale = (calScale own).toNat ∧ (t.chan c).offset = calOffset own ∧ (t.chan c).count = (s.word (chanAddr c 0)).bits 31 16 ∧
      (t.chan c).limit = (s.word (chanAddr c 8)).bits 24 0 ∧
      ∀ j : Fin 6, j ≠ c → t.chan j = if s.stopOf c false = some j.val then { (s.chan j).calibrate stop with owner := .claimed } else s.chan j := by
  have hown : calPasses own = true := by
    rw [State.armPasses, Bool.and_eq_true] at hpass
    exact hpass.1
  refine ⟨_, exec_registerArm_armed hans hfree hpass, ?_⟩
  beta_reduce
  rw [chan_armedBy_self]
  exact ⟨rfl, rfl, rfl, rfl, rfl, calScale_of_passes hown, rfl, rfl, rfl, fun j => chan_armedBy_other⟩

end

end Sys2Proof.Proofs
end

section
/-! Edges: the dead time, free measurements, pairs and ties, and the statement on measurements (O43). -/

set_option Elab.async false

namespace Sys2Proof.Proofs

open Sys2Proof.Machine Sys2Proof.Safety Sys2Proof.Laws

/-! ## An edge on its way (R391, R394, R398, R406, R407) -/

section

variable {s : State} {c : Fin 6} {root : Fin 10} {code : Nat} {fl : Bool}

theorem exec_lookoutEdge_unlocked (h : s.lko.timerLock = false) : exec (.lookoutEdge c ⟨root, code⟩ fl) s = .next s := congrArg Host.Outcome.next (if_pos (by simp [h]))

/-- An edge comes within the dead time of its channel, or while the channel is being armed. -/
def edgeDead (s : State) (c : Nat) (ts : BitVec 64) : Bool :=
  ((s.chan c).lastTs != 0 && decide (fineOf ts < fineOf (s.chan c).lastTs + s.deadTime c)) || s.stillArming c ts

theorem edgeDead_of_fresh {ts : BitVec 64} (hfresh : (s.chan c).lastTs = 0) (hready : s.stillArming c ts = false) : edgeDead s c ts = false := by
  simp [edgeDead, hfresh, hready]

/-- The state with an edge of a channel seen: in the background, and as the channel's last timestamp. -/
def edgeSeen (s : State) (c : Nat) (ts : BitVec 64) (fl : Bool) : State :=
  (if c = 4 ∧ !fl then s.ppsEdge ts else s).modChan c fun y => { y with lastTs := ts }

theorem exec_lookoutEdge_missed {k : Nat} (hlock : s.lko.timerLock = true) (htaker : s.taker c = some k) (hdead : edgeDead s c (s.stamp c root code) = true) :
    exec (.lookoutEdge c ⟨root, code⟩ fl) s = .next (s.modChan k fun y => { y with missed := y.missed + 1 }) := by
  refine congrArg Host.Outcome.next ((if_neg (by simp [hlock])).trans ((if_pos hdead).trans ?_))
  rw [htaker]

theorem exec_lookoutEdge_fed {k : Nat} (hlock : s.lko.timerLock = true) (htaker : s.taker c = some k) (hlive : edgeDead s c (s.stamp c root code) = false)
    (hintime : s.overtime (s.chan k) = false) (hselected : s.selects c fl = true) :
    exec (.lookoutEdge c ⟨root, code⟩ fl) s = .next ((edgeSeen s c (s.stamp c root code) fl).feed c (s.stamp c root code) fl) := by
  have hover : ¬ ((s.taker c).any fun k => s.overtime (s.chan k)) = true := by simp [htaker, hintime]
  have hnotdead : ¬ edgeDead s c (s.stamp c root code) = true := by simp [hlive]
  exact congrArg Host.Outcome.next ((if_neg (by simp [hlock])).trans ((if_neg hnotdead).trans ((if_neg hover).trans (if_pos hselected))))

section

variable {ts : BitVec 64}

/-- A background edge changes of the channels no more than the last timestamp of the fourth. -/
theorem chan_ppsEdge (ts : BitVec 64) (j : Fin 6) : ∃ l, (s.ppsEdge ts).chan j = { s.chan j with lastTs := l } ∧ (j ≠ 4 → l = (s.chan j).lastTs) := by
  have hsame : ∃ l, s.chan j = { s.chan j with lastTs := l } ∧ (j ≠ 4 → l = (s.chan j).lastTs) := ⟨_, rfl, fun _ => rfl⟩
  unfold State.ppsEdge
  split
  · exact hsame
  · split
    · exact hsame
    · extract_lets l t
      by_cases hj : j = 4
      · subst hj
        exact ⟨ts, chan_modChan_self t 4 _, fun h => absurd rfl h⟩
      · exact ⟨_, chan_modChan_ne (c := 4) hj _, fun _ => rfl⟩

theorem chan_edgeSeen_self (s : State) (c : Fin 6) (ts : BitVec 64) (fl : Bool) : (edgeSeen s c ts fl).chan c = { s.chan c with lastTs := ts } := by
  unfold edgeSeen
  rw [chan_modChan_self]
  split
  · obtain ⟨l, hl, -⟩ := chan_ppsEdge (s := s) ts c
    rw [hl]
  · rfl

theorem chan_edgeSeen_other {j : Fin 6} (h : j ≠ c) (s : State) (ts : BitVec 64) (fl : Bool) : (edgeSeen s c ts fl).chan j = s.chan j := by
  unfold edgeSeen
  rw [chan_modChan_ne h]
  split
  · next hpps =>
    obtain ⟨l, hl, hlast⟩ := chan_ppsEdge (s := s) ts j
    have hj : j ≠ 4 := fun hj => h (hj.trans (Fin.ext hpps.1.symm))
    rw [hl, hlast hj]
  · rfl

/-- What an edge seen leaves alone: all but Lookout. -/
theorem edgeSeen_keeps {β : Type} (p : State → β) (h : ∀ u l, p { u with lko := l } = p u) (s : State) (c : Nat) (ts : BitVec 64) (fl : Bool) : p (edgeSeen s c ts fl) = p s := by
  refine (h _ _).trans ?_
  split
  · unfold State.ppsEdge
    split
    · rfl
    · split
      · exact h s _
      · exact (h _ _).trans (h s _)
  · rfl

theorem claimer_edgeSeen (s : State) (c : Fin 6) (ts : BitVec 64) (fl : Bool) (i : Nat) : (edgeSeen s c ts fl).claimer i = s.claimer i := by
  refine claimer_of_claims (fun k => ?_) i
  by_cases hk : k < 6
  · by_cases hkc : (⟨k, hk⟩ : Fin 6) = c
    · have hsame := congrArg claims (chan_edgeSeen_self s c ts fl)
      rw [← hkc] at hsame ⊢
      exact hsame
    · exact congrArg claims (chan_edgeSeen_other (j := ⟨k, hk⟩) hkc s ts fl)
  · have hout : ∀ t : State, t.chan k = Channel.reset := fun t => dif_neg hk
    rw [hout, hout]

theorem taker_of_armed (h : (s.chan c).armed = true) : s.taker c = some c.val := if_pos h

theorem taker_of_claimed {k : Nat} (h : (s.chan c).armed = false) (hclaimer : s.claimer c = some k) : s.taker c = some k := (if_neg (by simp [h])).trans hclaimer

theorem selects_of_armed (h : (s.chan c).armed = true) (hpol : polOk ((s.chCfg c).bits 1 0) fl = true) : s.selects c fl = true := by simp [State.selects, h, hpol]

theorem selects_of_claimed {k : Nat} (hclaimer : s.claimer c = some k) (hpol : (s.chCfg k).bit 10 = fl) : s.selects c fl = true := by simp [State.selects, hclaimer, hpol]

end

/-! ## A free measurement (R395) -/

/-- A channel that takes edges for itself: armed for edges, unpaired, claimed by no other, the timer locked and the edge of its polarity. -/
structure TakesFree (s : State) (c : Fin 6) (fl : Bool) : Prop where
  lock : s.lko.timerLock = true
  armed : (s.chan c).armed = true
  edges : (s.chan c).freq = false
  single : (s.chan c).paired = false
  unclaimed : s.claimer c = none
  polarity : polOk ((s.chCfg c).bits 1 0) fl = true

/-- A channel after a free edge: the first timestamp, or one more interval. -/
def freeTaken (s : State) (ts : BitVec 64) (y : Channel) : Channel :=
  if y.taken = 0 then { y with edges := y.edges + 1, taken := y.taken + 1, lastResTs := ts, firstTs := ts, firstTod := s.todAt ts }
  else Channel.interval { y with edges := y.edges + 1, taken := y.taken + 1, lastResTs := ts } ((fineOf ts : Int) - fineOf y.lastResTs) (y.taken == 1)

theorem freeEdge_eq (s : State) (c : Nat) (ts : BitVec 64) : s.freeEdge c ts =
    if (s.chan c).count ≤ (s.chan c).taken + 1 then (s.modChan c (freeTaken s ts)).endMeasure c false false else s.modChan c (freeTaken s ts) := rfl

theorem freeTaken_same (s : State) (ts : BitVec 64) (y : Channel) :
    (freeTaken s ts y).armed = y.armed ∧ (freeTaken s ts y).owner = y.owner ∧ (freeTaken s ts y).freq = y.freq ∧ (freeTaken s ts y).taken = y.taken + 1 ∧
      (freeTaken s ts y).lastTs = y.lastTs ∧ (freeTaken s ts y).lastResTs = ts := by
  unfold freeTaken
  split <;> exact ⟨rfl, rfl, rfl, rfl, rfl, rfl⟩

theorem freeTaken_first {ts : BitVec 64} {y : Channel} (h : y.taken = 0) : (freeTaken s ts y).firstTs = ts := by rw [freeTaken, if_pos h]

theorem freeTaken_next {ts : BitVec 64} {y : Channel} (h : 0 < y.taken) :
    (freeTaken s ts y).firstTs = y.firstTs ∧ (freeTaken s ts y).sumIv = y.sumIv + ((fineOf ts : Int) - fineOf y.lastResTs) := by
  rw [freeTaken, if_neg (by omega)]
  exact ⟨rfl, rfl⟩

section

variable (h : TakesFree s c fl)

include h

theorem exec_lookoutEdge_dead (hdead : edgeDead s c (s.stamp c root code) = true) :
    exec (.lookoutEdge c ⟨root, code⟩ fl) s = .next (s.modChan c fun y => { y with missed := y.missed + 1 }) := exec_lookoutEdge_missed h.lock (taker_of_armed h.armed) hdead

theorem exec_lookoutEdge_free (hlive : edgeDead s c (s.stamp c root code) = false) (hintime : s.overtime (s.chan c) = false) : exec (.lookoutEdge c ⟨root, code⟩ fl) s =
    .next ((edgeSeen s c (s.stamp c root code) fl).freeEdge c (s.stamp c root code)) := by
  obtain ⟨hlock, harmed, hedges, hsingle, hunclaimed, hpolarity⟩ := h
  rw [exec_lookoutEdge_fed hlock (taker_of_armed harmed) hlive hintime (selects_of_armed harmed hpolarity)]
  generalize s.stamp c root code = ts
  have hchan := chan_edgeSeen_self s c ts fl
  have hclaimer := (claimer_edgeSeen s c ts fl c).trans hunclaimed
  unfold State.feed
  rw [hclaimer]
  dsimp only
  rw [hchan]
  exact congrArg Host.Outcome.next ((if_neg (by simp [harmed])).trans ((if_neg (by simp [hedges])).trans (if_neg (by simp [hsingle]))))

theorem runs_lookoutEdge_taken (hlive : edgeDead s c (s.stamp c root code) = false) (hintime : s.overtime (s.chan c) = false) (hshort : (s.chan c).taken + 1 < (s.chan c).count) :
    Runs (.lookoutEdge c ⟨root, code⟩ fl) s fun t =>
      (t.chan c).armed = true ∧ (t.chan c).taken = (s.chan c).taken + 1 ∧ (t.chan c).lastTs = s.stamp c root code ∧ (t.chan c).lastResTs = s.stamp c root code ∧
      ((s.chan c).taken = 0 → (t.chan c).firstTs = s.stamp c root code) ∧
      (0 < (s.chan c).taken → (t.chan c).firstTs = (s.chan c).firstTs ∧
        (t.chan c).sumIv = (s.chan c).sumIv + ((fineOf (s.stamp c root code) : Int) - fineOf (s.chan c).lastResTs)) ∧
      ∀ j : Fin 6, j ≠ c → t.chan j = s.chan j := by
  have hexec := exec_lookoutEdge_free h hlive hintime
  generalize s.stamp c root code = ts at hexec ⊢
  have hchan := chan_edgeSeen_self s c ts fl
  have hothers := fun (j : Fin 6) (hj : j ≠ c) => chan_edgeSeen_other hj s ts fl
  generalize edgeSeen s c ts fl = u at hexec hchan hothers
  rw [freeEdge_eq, if_neg (by rw [hchan]; exact Nat.not_le.2 hshort)] at hexec
  refine ⟨_, hexec, ?_⟩
  beta_reduce
  rw [chan_modChan_self, hchan]
  obtain ⟨harmed, -, -, htaken, hlast, hres⟩ := freeTaken_same u ts { s.chan c with lastTs := ts }
  exact ⟨harmed.trans h.armed, htaken, hlast, hres, fun hfirst => freeTaken_first hfirst, fun hnext => freeTaken_next hnext, fun j hj => (chan_modChan_ne hj _).trans (hothers j hj)⟩

theorem runs_lookoutEdge_counted (hlive : edgeDead s c (s.stamp c root code) = false) (hintime : s.overtime (s.chan c) = false) (howner : (s.chan c).owner = .register)
    (hcount : (s.chan c).count = (s.chan c).taken + 1) : Runs (.lookoutEdge c ⟨root, code⟩ fl) s fun t =>
      (t.chan c).armed = false ∧ (t.chan c).done = true ∧ (t.chan c).reason = 0 ∧ Raises s t .measureDone .info 4 c (le 1 0 ++ le 4 ((s.chan c).taken + 1)) := by
  have hexec := exec_lookoutEdge_free h hlive hintime
  generalize s.stamp c root code = ts at hexec
  have hchan := chan_edgeSeen_self s c ts fl
  have hrdg : (edgeSeen s c ts fl).rdg = s.rdg := edgeSeen_keeps State.rdg (fun _ _ => rfl) s c ts fl
  generalize edgeSeen s c ts fl = u at hexec hchan hrdg
  rw [freeEdge_eq, if_pos (by rw [hchan]; exact hcount.le)] at hexec
  obtain ⟨harmed, hown, hfreq, htaken, -, -⟩ := freeTaken_same u ts { s.chan c with lastTs := ts }
  have hself : (u.modChan c (freeTaken u ts)).chan c = freeTaken u ts { s.chan c with lastTs := ts } := by rw [chan_modChan_self, hchan]
  have hregister : RegisterArmed (u.modChan c (freeTaken u ts)) c := by
    constructor
    · rw [hself]; exact harmed.trans h.armed
    · rw [hself]; exact hown.trans howner
    · rw [hself]; exact hfreq.trans h.edges
  obtain ⟨hoff, hdone, hreason, hraises⟩ := endMeasure_ends hregister false false
  rw [hself, htaken, if_neg (Nat.succ_ne_zero _)] at hreason hraises
  refine ⟨_, hexec, hoff, hdone, hreason, ?_⟩
  have hevent : (u.modChan c (freeTaken u ts)).event .measureDone .info 4 c (le 1 0 ++ le 4 ((s.chan c).taken + 1)) =
      s.event .measureDone .info 4 c (le 1 0 ++ le 4 ((s.chan c).taken + 1)) := event_of_stamp (congrArg stamp hrdg) ..
  rw [Raises, ← hevent]
  exact hraises

end

/-! ## Pairs and ties (R396) -/

/-- A channel after a pair. -/
def paired (s : State) (start stop : BitVec 64) (iv : Int) (tie : Bool) (y : Channel) : Channel :=
  Channel.interval (if y.taken = 0 then
      { y with
        edges := y.edges + 1, taken := y.taken + 1, openTs := none, lastResTs := stop, ties := if tie then y.ties + 1 else y.ties
        firstTs := start, firstTod := s.todAt start }
    else { y with edges := y.edges + 1, taken := y.taken + 1, openTs := none, lastResTs := stop, ties := if tie then y.ties + 1 else y.ties }) iv (y.taken == 0)

theorem pair_eq (s : State) (k : Nat) (start stop : BitVec 64) (iv : Int) (tie : Bool) : s.pair k start stop iv tie =
    if (s.chan k).count ≤ (s.chan k).taken + 1 then (s.modChan k (paired s start stop iv tie)).endMeasure k false false else s.modChan k (paired s start stop iv tie) := rfl

theorem paired_parts (s : State) (start stop : BitVec 64) (iv : Int) (tie : Bool) (y : Channel) :
    (paired s start stop iv tie y).openTs = none ∧ (paired s start stop iv tie y).taken = y.taken + 1 ∧ (paired s start stop iv tie y).sumIv = y.sumIv + iv ∧
      (paired s start stop iv tie y).ties = (if tie then y.ties + 1 else y.ties) ∧ (paired s start stop iv tie y).strays = y.strays := by
  unfold paired
  split <;> exact ⟨rfl, rfl, rfl, rfl, rfl⟩

/-- A pair short of COUNT goes on. -/
theorem chan_pair {k : Fin 6} (hshort : (s.chan k).taken + 1 < (s.chan k).count) (start stop : BitVec 64) (iv : Int) (tie : Bool) :
    (s.pair k start stop iv tie).chan k = paired s start stop iv tie (s.chan k) := by
  rw [pair_eq, if_neg (Nat.not_le.2 hshort), chan_modChan_self]

theorem stopEdge_stray {k : Fin 6} {ts : BitVec 64} (h : (s.chan k).openTs = none) : (s.stopEdge k ts).chan k =
    { s.chan k with edges := (s.chan k).edges + 1, strays := (s.chan k).strays + 1, strayTs := some ts } := by
  unfold State.stopEdge
  extract_lets stray
  rw [h]
  change stray.chan k = _
  rw [show stray.chan k = _ from chan_modChan_self s k _, h]
  rfl

section

variable {k : Fin 6} {ts o : BitVec 64} (hopen : (s.chan k).openTs = some o)

include hopen

theorem stopEdge_early (h : fineOf ts + 8 ≤ fineOf o) : ((s.stopEdge k ts).chan k).strays = (s.chan k).strays + 1 ∧ ((s.stopEdge k ts).chan k).taken = (s.chan k).taken := by
  unfold State.stopEdge
  extract_lets stray
  have hstray : stray.chan k = _ := chan_modChan_self s k _
  rw [hopen]
  dsimp only
  rw [if_neg (by omega), if_neg (by omega), hstray]
  exact ⟨rfl, rfl⟩

theorem stopEdge_pair (h : fineOf o + 8 ≤ fineOf ts) : s.stopEdge k ts = s.pair k o ts ((fineOf ts : Int) - fineOf o) false := by
  unfold State.stopEdge
  rw [hopen]
  exact if_pos (by omega)

theorem stopEdge_tie (hlate : fineOf ts < fineOf o + 8) (hearly : fineOf o < fineOf ts + 8) : s.stopEdge k ts = s.pair k o ts 0 true := by
  unfold State.stopEdge
  rw [hopen]
  exact (if_neg (by omega)).trans (if_pos (by omega))

end

/-- A channel whose edges are stops of another channel's measurement, in its time and short of COUNT. -/
structure StopsFor (s : State) (c k : Fin 6) (fl : Bool) (ts : BitVec 64) : Prop where
  lock : s.lko.timerLock = true
  other : k ≠ c
  claims : s.claimer c = some k.val
  unarmed : (s.chan c).armed = false
  polarity : (s.chCfg k).bit 10 = fl
  fresh : (s.chan c).lastTs = 0
  ready : s.stillArming c ts = false
  intime : s.overtime (s.chan k) = false
  short : (s.chan k).taken + 1 < (s.chan k).count

theorem exec_lookoutEdge_stop {k : Fin 6} (h : StopsFor s c k fl (s.stamp c root code)) : exec (.lookoutEdge c ⟨root, code⟩ fl) s =
    .next ((edgeSeen s c (s.stamp c root code) fl).stopEdge k (s.stamp c root code)) := by
  obtain ⟨hlock, hother, hclaims, hunarmed, hpolarity, hfresh, hready, hintime, -⟩ := h
  rw [exec_lookoutEdge_fed hlock (taker_of_claimed hunarmed hclaims) (edgeDead_of_fresh hfresh hready) hintime (selects_of_claimed hclaims hpolarity)]
  have hclaimer := (claimer_edgeSeen s c (s.stamp c root code) fl c).trans hclaims
  unfold State.feed
  rw [hclaimer]
  exact congrArg Host.Outcome.next (if_neg fun hsame => hother (Fin.ext hsame.1))

theorem runs_lookoutEdge_stop {k : Fin 6} (h : StopsFor s c k fl (s.stamp c root code)) : Runs (.lookoutEdge c ⟨root, code⟩ fl) s fun t =>
    ((s.chan k).openTs = none → (t.chan k).strays = (s.chan k).strays + 1 ∧ (t.chan k).taken = (s.chan k).taken ∧ (t.chan k).strayTs = some (s.stamp c root code)) ∧
    (∀ o, (s.chan k).openTs = some o →
      (fineOf o + 8 ≤ fineOf (s.stamp c root code) → (t.chan k).openTs = none ∧ (t.chan k).taken = (s.chan k).taken + 1 ∧
        (t.chan k).sumIv = (s.chan k).sumIv + ((fineOf (s.stamp c root code) : Int) - fineOf o) ∧ (t.chan k).ties = (s.chan k).ties) ∧
      (fineOf (s.stamp c root code) < fineOf o + 8 → fineOf o < fineOf (s.stamp c root code) + 8 → (t.chan k).openTs = none ∧ (t.chan k).taken = (s.chan k).taken + 1 ∧
        (t.chan k).sumIv = (s.chan k).sumIv ∧ (t.chan k).ties = (s.chan k).ties + 1) ∧
      (fineOf (s.stamp c root code) + 8 ≤ fineOf o → (t.chan k).strays = (s.chan k).strays + 1 ∧ (t.chan k).taken = (s.chan k).taken)) := by
  have hexec := exec_lookoutEdge_stop h
  have hshort := h.short
  generalize s.stamp c root code = ts at hexec h ⊢
  have hchan := chan_edgeSeen_other h.other s ts fl
  generalize edgeSeen s c ts fl = u at hexec hchan
  rw [← hchan] at hshort ⊢
  refine ⟨_, hexec, fun hnone => ?_, fun o hopen => ⟨fun hpair => ?_, fun hlate hearly => ?_, stopEdge_early hopen⟩⟩
  · rw [stopEdge_stray hnone]
    exact ⟨rfl, rfl, rfl⟩
  · rw [stopEdge_pair hopen hpair, chan_pair hshort]
    obtain ⟨hclosed, htaken, hsum, hties, -⟩ := paired_parts u o ts ((fineOf ts : Int) - fineOf o) false (u.chan k)
    exact ⟨hclosed, htaken, hsum, hties⟩
  · rw [stopEdge_tie hopen hlate hearly, chan_pair hshort]
    obtain ⟨hclosed, htaken, hsum, hties, -⟩ := paired_parts u o ts 0 true (u.chan k)
    exact ⟨hclosed, htaken, hsum.trans (add_zero _), hties⟩

theorem startEdge_opens {ts : BitVec 64} (h : (s.chan c).strayTs = none) : (s.startEdge c ts).chan c =
    { s.chan c with edges := (s.chan c).edges + 1, openTs := some ts, missed := if (s.chan c).openTs.isSome then (s.chan c).missed + 1 else (s.chan c).missed } := by
  unfold State.startEdge
  rw [h]
  exact chan_modChan_self s c _

/-- A start within 8 fine units after a stop with none open makes a tie with it, which then is no stray. -/
theorem startEdge_tie {ts o : BitVec 64} (hstray : (s.chan c).strayTs = some o) (hnear : fineOf ts < fineOf o + 8) (hshort : (s.chan c).taken + 1 < (s.chan c).count) :
    ((s.startEdge c ts).chan c).taken = (s.chan c).taken + 1 ∧ ((s.startEdge c ts).chan c).ties = (s.chan c).ties + 1 ∧
      ((s.startEdge c ts).chan c).strays = (s.chan c).strays - 1 := by
  let u := s.modChan c fun y => { y with strays := y.strays - 1, strayTs := none }
  have hu : u.chan c = { s.chan c with strays := (s.chan c).strays - 1, strayTs := none } := chan_modChan_self s c _
  have htie : s.startEdge c ts = u.pair c ts o 0 true := by
    unfold State.startEdge
    rw [hstray]
    exact if_pos hnear
  rw [htie, chan_pair (by rw [hu]; exact hshort), hu]
  obtain ⟨-, htaken, -, hties, hstrays⟩ := paired_parts u ts o 0 true { s.chan c with strays := (s.chan c).strays - 1, strayTs := none }
  exact ⟨htaken, hties, hstrays⟩

/-- A paired channel whose edges are starts of its own measurement, in its time. -/
structure StartsPair (s : State) (c : Fin 6) (fl : Bool) (ts : BitVec 64) : Prop where
  lock : s.lko.timerLock = true
  armed : (s.chan c).armed = true
  edges : (s.chan c).freq = false
  double : (s.chan c).paired = true
  unclaimed : s.claimer c = none
  polarity : polOk ((s.chCfg c).bits 1 0) fl = true
  fresh : (s.chan c).lastTs = 0
  ready : s.stillArming c ts = false
  intime : s.overtime (s.chan c) = false

theorem exec_lookoutEdge_start (h : StartsPair s c fl (s.stamp c root code)) : exec (.lookoutEdge c ⟨root, code⟩ fl) s =
    .next ((edgeSeen s c (s.stamp c root code) fl).startEdge c (s.stamp c root code)) := by
  obtain ⟨hlock, harmed, hedges, hdouble, hunclaimed, hpolarity, hfresh, hready, hintime⟩ := h
  rw [exec_lookoutEdge_fed hlock (taker_of_armed harmed) (edgeDead_of_fresh hfresh hready) hintime (selects_of_armed harmed hpolarity)]
  generalize s.stamp c root code = ts
  have hchan := chan_edgeSeen_self s c ts fl
  have hclaimer := (claimer_edgeSeen s c ts fl c).trans hunclaimed
  unfold State.feed
  rw [hclaimer]
  dsimp only
  rw [hchan]
  exact congrArg Host.Outcome.next ((if_neg (by simp [harmed])).trans ((if_neg (by simp [hedges])).trans (if_pos hdouble)))

theorem runs_lookoutEdge_start (h : StartsPair s c fl (s.stamp c root code)) : Runs (.lookoutEdge c ⟨root, code⟩ fl) s fun t =>
    ((s.chan c).strayTs = none → (t.chan c).openTs = some (s.stamp c root code) ∧ (t.chan c).taken = (s.chan c).taken ∧
      (t.chan c).missed = (s.chan c).missed + (if (s.chan c).openTs = none then 0 else 1)) ∧
    (∀ o, (s.chan c).strayTs = some o → fineOf (s.stamp c root code) < fineOf o + 8 → (s.chan c).taken + 1 < (s.chan c).count →
      (t.chan c).taken = (s.chan c).taken + 1 ∧ (t.chan c).ties = (s.chan c).ties + 1 ∧ (t.chan c).strays = (s.chan c).strays - 1) := by
  have hexec := exec_lookoutEdge_start h
  generalize s.stamp c root code = ts at hexec ⊢
  have hchan := chan_edgeSeen_self s c ts fl
  generalize edgeSeen s c ts fl = u at hexec hchan
  refine ⟨_, hexec, fun hnone => ?_, fun o hstray hnear hshort => ?_⟩
  · rw [startEdge_opens (by rw [hchan]; exact hnone), hchan]
    refine ⟨rfl, rfl, ?_⟩
    cases hopen : (s.chan c).openTs <;> rfl
  · have htie := startEdge_tie (s := u) (c := c) (ts := ts) (o := o) (by rw [hchan]; exact hstray) hnear (by rw [hchan]; exact hshort)
    rw [hchan] at htie
    exact htie

end

/-! ## The statement -/

/-- Settles O43: the arm, the edges of a free and of a paired measurement, the ends, and the timer's lock. -/
theorem measurementsArmTakeEdgesAndEnd : Obligations.MeasurementsArmTakeEdgesAndEnd := by
  unfold Obligations.MeasurementsArmTakeEdgesAndEnd
  refine ⟨?_, ?_, ?_, ?_, ?_, ?_, ?_, ?_⟩
  · intro s c own stop hans
    exact ⟨runs_registerArm_armed hans, exec_registerArm_busy hans, fun r hr hne => runs_registerArm_ended hans hne (armChan_refused hr ..),
      fun hfree hfail => runs_registerArm_ended hans (by decide) (armChan_failed hfree hfail ..)⟩
  · intro s c root code fl hlock harmed hedges hsingle hunclaimed hpolarity ts dead
    have htakes : TakesFree s c fl := ⟨hlock, harmed, hedges, hsingle, hunclaimed, hpolarity⟩
    exact ⟨exec_lookoutEdge_dead htakes, runs_lookoutEdge_taken htakes, runs_lookoutEdge_counted htakes⟩
  · intro s c k root code fl ts hlock hother hclaims hunarmed hpolarity hfresh hready hintime hshort
    exact runs_lookoutEdge_stop ⟨hlock, hother, hclaims, hunarmed, hpolarity, hfresh, hready, hintime, hshort⟩
  · intro s c root code fl ts hlock harmed hedges hdouble hunclaimed hpolarity hfresh hready hintime
    exact runs_lookoutEdge_start ⟨hlock, harmed, hedges, hdouble, hunclaimed, hpolarity, hfresh, hready, hintime⟩
  · intro s c root code fl
    exact exec_lookoutEdge_unlocked
  · intro s c harmed howner hedges done
    have hregister : RegisterArmed s c := ⟨harmed, howner, hedges⟩
    exact ⟨runs_disarm hregister, runs_measureTimeout hregister, exec_measureTimeout_early hregister⟩
  · intro s
    exact runs_timerUnlock
  · intro s
    rfl

end Sys2Proof.Proofs
end
